-- ==== Sys2Proof/Word.lean ====
section
/-! DEFINITION. The widths of the ZP192 module and the ranges of the numbers that name its parts
(Table SCO-2): what the manual treats as bits is a bit vector, what merely names a part is a `Fin`. -/

namespace Sys2Proof

/-- One byte. -/
abbrev Byte := BitVec 8
/-- A 64-bit register or general register. -/
abbrev Word := BitVec 64
/-- An instruction word (R64). -/
abbrev IWord := BitVec 32
/-- A vector register (R62). -/
abbrev VWord := BitVec 256
/-- A 512-bit digest (launch measurements, Merkle roots). -/
abbrev Digest := BitVec 512

/-- A tile, and the core, L2 bank and L3 slice on it: 4 dies × 48 (Table SCO-1). -/
abbrev Tile := Fin 192
/-- A hardware thread: core × 2 + thread index. -/
abbrev Thr := Fin 384
/-- A hardware thread, or the Thimble core (R339) as number 384. -/
abbrev AnyThr := Fin 385
/-- A panel (Table SCO-2). -/
abbrev Panel := Fin 512
/-- A seat number of a panel (Table ISA-12, SEAT is 8 bits). -/
abbrev Seat := Fin 256
/-- A GDDR7 channel. -/
abbrev Chan := Fin 24
/-- A bolt (at most four, R153). -/
abbrev Bolt := Fin 4
/-- A network port. -/
abbrev Port := Fin 8
/-- An uplink: port × 4 + lane group. -/
abbrev Uplink := Fin 32
/-- A host root port. -/
abbrev RootPort := Fin 16
/-- A bobbin (queue context). -/
abbrev Bobbin := Fin 16384
/-- A virtual network port. -/
abbrev VPort := Fin 4096
/-- An interrupt vector of a panel. -/
abbrev Vec := Fin 2048
/-- A 64 KiB granule number. -/
abbrev Granule := Nat
/-- A general register number (Table ISA-1). -/
abbrev GIdx := Fin 32
/-- A vector register number. -/
abbrev VIdx := Fin 32
/-- A mask register number. -/
abbrev KIdx := Fin 8

/-- The core of a thread. -/
def Thr.core (t : Thr) : Nat := t.val / 2
/-- The thread index within its core (Table ISA-12, T). -/
def Thr.idx (t : Thr) : Nat := t.val % 2

/-- The element formats of VFP (R78): W = 01, 10, 11. -/
inductive FpWidth where
  | half | single | double
  deriving DecidableEq, Repr

/-- The width code of a floating-point width (R78). -/
def FpWidth.code : FpWidth → Nat
  | .half => 1
  | .single => 2
  | .double => 3

/-- The shift of an SHI instruction (Table ISA-4): 64-bit with a count below 64, or W = 1 with a count below 32. -/
inductive ShiftAmount where
  | full (n : Fin 64)
  | word (n : Fin 32)
  deriving DecidableEq, Repr

def ShiftAmount.w : ShiftAmount → Bool
  | .full _ => false
  | .word _ => true

def ShiftAmount.count : ShiftAmount → Word
  | .full n => BitVec.ofNat 64 n.val
  | .word n => BitVec.ofNat 64 n.val

end Sys2Proof
end

