-- ==== Sys2Proof/Config.lean ====
section
/-! DEFINITION. What an implementation fixes and the manual leaves open. Each `opaque` has no body, so no
proof can see its value: a statement holds whatever it is. -/

namespace Sys2Proof

/-- A free value of `n` bits, one for each reading of the counter `State.fresh`. (DESIGN CHOICE, log entry 3.) -/
opaque Config.freeBits : (n : Nat) → Nat → BitVec n
/-- A free natural number for a choice the manual leaves open, one for each counter reading.
(DESIGN CHOICE, log entry 3; DESIGN CHOICE, log entry 38.) -/
opaque Config.freeNat : Nat → Nat

/-- Whether underflow is detected after rounding (IEEE 754-2019 leaves it to the implementation).
(DESIGN CHOICE, log entry 17.) -/
opaque Config.tininessAfterRounding : Bool
/-- Whether (0 × ∞) + NaN sets IV (IEEE 754-2019 leaves it to the implementation). (DESIGN CHOICE, log entry 17.) -/
opaque Config.fmaInfZeroNaNInvalid : Bool

/-- An element of a vector shift (0 left, 1 logical right, 2 arithmetic right) by its width or more, of which the manual gives
no result: width, element and count. (DESIGN CHOICE, log entry 14.) -/
opaque Config.overShift : Nat → Nat → Nat → Nat → Nat

/-- The check bits of a directory entry over its other bits (R160, Table COH-5). (DESIGN CHOICE, log entry 128.) -/
opaque Config.dirCheck : Nat → Nat

/-- Facts of a PCIe device that no register of the module holds, by root port and requester ID: whether the function
has a type 1 header, and the offsets of its SR-IOV and ACS capabilities (0: none). (DESIGN CHOICE, log entry 68.) -/
opaque Config.bridgeFn : Nat → Nat → Bool
/-- (DESIGN CHOICE, log entry 68.) -/
opaque Config.sriovAt : Nat → Nat → Nat
/-- (DESIGN CHOICE, log entry 68.) -/
opaque Config.acsAt : Nat → Nat → Nat

/-- The unique device secret of the fuses, which only the ladder reads (R357). (DESIGN CHOICE, log entry 102.) -/
opaque Config.deviceSecret : List Byte
/-- Muindok's provisioning root key and its four firmware keys, held in the boot ROM (R366, R373).
(DESIGN CHOICE, log entry 102.) -/
opaque Config.rootKey : List Byte
/-- (DESIGN CHOICE, log entry 102.) -/
opaque Config.fwKeys : Nat → List Byte
/-- The boot ROM's measurement (Table ATT-3). (DESIGN CHOICE, log entry 102.) -/
opaque Config.mrom : List Byte
/-- The boot ROM's bytes (Table THM-2). (DESIGN CHOICE, log entry 69; DESIGN CHOICE, log entry 102.) -/
opaque Config.romByte : Nat → BitVec 8
/-- The GOOD image that bank A holds as shipped, by byte offset (R491). (DESIGN CHOICE, log entry 102.) -/
opaque Config.shippedImage : Nat → BitVec 8
/-- Muindok's IANA enterprise number (R390). (DESIGN CHOICE, log entry 84.) -/
opaque Config.enterprise : BitVec 32
/-- The slot-ID straps of the module's place (Table MOD-3, R481). (DESIGN CHOICE, log entry 13.) -/
opaque Config.slotid : BitVec 12
/-- RAS.TMO0–5 as the default configuration record of an image gives them, by its header (R414, section TYPE 0x06).
(DESIGN CHOICE, log entry 102.) -/
opaque Config.imageTmo : List Byte → Nat → Nat
/-- Muindok's MIPI manufacturer ID and the device characteristics register of the I3C target (R482).
(DESIGN CHOICE, log entry 84.) -/
opaque Config.mipiId : BitVec 15
/-- (DESIGN CHOICE, log entry 84.) -/
opaque Config.i3cDcr : BitVec 8
/-- The fuse value at issue and the root's signature in the DeviceID certificate, written at manufacture (R366).
(DESIGN CHOICE, log entry 102.) -/
opaque Config.devidLife : BitVec 8
/-- (DESIGN CHOICE, log entry 102.) -/
opaque Config.devidSig : List Byte
/-- All 300 signing attempts are rejected (R369), with probability below 2^-90. (DESIGN CHOICE, log entry 99.) -/
opaque Config.signAborts : Nat → Bool
/-- SHAKE256 (FIPS 202): message and output length in bytes. (DESIGN CHOICE, log entry 50.) -/
opaque Config.shake256 : List Byte → Nat → List Byte
/-- ML-DSA-65 signing (FIPS 204): secret seed, message and counter; a 3,309-byte signature.
(DESIGN CHOICE, log entry 50.) -/
opaque Config.mlDsaSign : List Byte → List Byte → Nat → List Byte
/-- ML-DSA-65 public key from a seed. (DESIGN CHOICE, log entry 50.) -/
opaque Config.mlDsaPub : List Byte → List Byte
/-- ML-DSA-65 verification: public key, message, signature. (DESIGN CHOICE, log entry 50.) -/
opaque Config.mlDsaVerify : List Byte → List Byte → List Byte → Bool
/-- ML-KEM-768 encapsulation key from a decapsulation seed (FIPS 203). (DESIGN CHOICE, log entry 50.) -/
opaque Config.mlKemPub : List Byte → List Byte
/-- ML-KEM-768 encapsulation: key and randomness give ciphertext and shared secret. (DESIGN CHOICE, log entry 50.) -/
opaque Config.mlKemEncaps : List Byte → Nat → List Byte × List Byte
/-- ML-KEM-768 decapsulation: seed and ciphertext give the shared secret. (DESIGN CHOICE, log entry 50.) -/
opaque Config.mlKemDecaps : List Byte → List Byte → List Byte
/-- AES-256 in the mode the manual names for the purpose: key, nonce, text (and the inverse).
(DESIGN CHOICE, log entry 50.) -/
opaque Config.aesSeal : List Byte → List Byte → List Byte → List Byte
/-- (DESIGN CHOICE, log entry 50.) -/
opaque Config.aesOpen : List Byte → List Byte → List Byte → Option (List Byte)

/-- The module's PTP clock identity (R37). (PRESUMED, log entry 104.) -/
opaque Config.clockIdentity : BitVec 64

end Sys2Proof
end

