-- ==== Sys2Proof/Args.lean ====
section
/-! DEFINITION. What the operands of commands are made of: the kinds of message ends, and the physical outcomes
that a command brings with it because no register decides them. -/

namespace Sys2Proof

/-- What a read of a stored line finds (Table MEM-4): clean; a word corrected; a word uncorrectable, by its address bits or its
data; or the channel never answers. A `word` of 16 + g is check group g of the row's trailer (R207, R209). `hard`: the error is still
there when the slot is read again after its rewrite (R226). -/
inductive ReadOut where
  | clean
  | corrected (word bits syndrome : Nat) (hard : Bool)
  | bad (word syndrome : Nat) (addr hard : Bool)
  | wedged
  deriving DecidableEq, Repr

/-- A 64-byte line of the 52-bit physical space, as its address divided by 64. -/
abbrev Line := Fin (2 ^ 46)
/-- A transaction-table entry of a home (HTID). -/
abbrev Htid := Fin 64
/-- An agent of the coherence protocol: an L2 (0–191) or an I/O agent (192–199). -/
abbrev Agent := Fin 200
/-- A memory channel (0–23) or a CXL root port (24 + r). -/
abbrev MemDest := Fin 32

/-- Who sent a Sync message: its domain and its clock identity and port number (R28). -/
structure PtpSender where
  domain : Byte
  id     : BitVec 80
  deriving DecidableEq, Repr

/-- The correction that a BOUNDARY flit carries, and the waiting time that the router adds to it (R198). -/
structure FlitCorr where
  corr : BitVec 32
  wait : BitVec 32
  deriving DecidableEq, Repr

/-- An I/O agent's write: the transfer it belongs to, and the 64 bytes that WRD will carry (R175, R176). -/
structure IoWrite where
  ctx  : Fin 16384
  data : List Byte
  deriving DecidableEq, Repr

/-- What of a core hang's aftermath fails: the save of the seat, the writeback of the L2 (R417, R150). -/
structure HangFails where
  save  : Bool
  flush : Bool
  deriving DecidableEq, Repr

/-- Who receives an answer of a memory controller: a home's transaction, a home that wrote without one (HTID 0xFF: a
writeback, a victim of the slice), or the primary of a mirrored line. -/
inductive MemEnd where
  | home (t : Tile) (htid : Htid)
  | alone (t : Tile) (line : Line)
  | primary (c : Chan) (line : Line)
  deriving DecidableEq, Repr

/-- Who sends a memory controller a request: a home's transaction, a home without one, or the primary of a mirrored line. -/
inductive MemSrc where
  | home (t : Tile) (htid : Htid)
  | alone (t : Tile)
  | primary
  deriving DecidableEq, Repr

/-- The two kinds of credit (R159): writeback credits of a home for an L2, memory credits of a channel for a home. -/
inductive Credit where
  | writeback (l2 home : Tile)
  | memory (home : Tile) (c : Chan) (write : Bool)
  deriving DecidableEq, Repr

/-- An array error the scrubber or an access finds (Table CCH-3): array code as in Table ERR-3a, whether it lies in
the tag or state, the number of bits, and the line, way and set. (DESIGN CHOICE, log entry 126.) -/
structure ArrayErr where
  array : Fin 6
  tag   : Bool
  bits  : Fin 4
  line  : Line
  way   : Fin 16
  set   : Fin 2048
  deriving DecidableEq, Repr

/-- A Warp flit (R189): its 64-bit header (Table WRP-3) and its 64 payload bytes. -/
structure Flit where
  head : BitVec 64
  data : BitVec 512
  deriving DecidableEq, Repr

/-- A router or switch of the Warp (R187). -/
inductive WarpNode where
  | tile (t : Tile)
  | bridge (d : Fin 4)
  | hub
  deriving DecidableEq, Repr

/-- A network interface with a pattern table (R196): a tile, a hub agent at hub switch port 4 + its number (Table WRP-2), a memory
controller. -/
inductive Ni where
  | tile (t : Tile)
  | hub (agent : Fin 10)
  | mc (c : Chan)
  deriving DecidableEq, Repr

/-- The flit a router or switch handles next: one that waits at an input port, or one that the interface behind a
port sends to an endpoint. -/
inductive FlitFrom where
  | link (port : Fin 32) (cls : Fin 7) (ph dl : Bool)
  | agent (ni : Ni) (dst : Fin 256) (f : Flit)
  deriving DecidableEq, Repr

/-- A Weft cell (R242): its 128-bit header (Table WFT-5) and its 128 payload bytes, byte 0 in bits [7:0]. -/
structure Cell where
  head : BitVec 128
  data : BitVec 1024
  deriving DecidableEq, Repr

/-- A Weft frame (R239): the link header (Table WFT-3), the cell, the CRC-32C, and whether every FEC codeword of it
could be corrected. (DESIGN CHOICE, log entry 58.) -/
structure WFrame where
  hdr   : BitVec 56
  cell  : Cell
  crc   : BitVec 32
  fecOk : Bool
  deriving DecidableEq, Repr

/-- Where a cell stands that is handled next (R247): an input channel of a port, or the queue of the module's own
cells. -/
inductive CellFrom where
  | link (p : Port) (cls : Fin 7) (dl : Bool)
  | own (n : Fin 64)
  deriving DecidableEq, Repr

/-- Status of a PCIe completion (R296). -/
inductive CplStatus where
  | success | unsupported | abort | retry
  deriving DecidableEq, Repr

/-- What happens to a root port's link (R293): up with a width (×1 … ×16), a speed (2.5 … 64 GT/s) and as CXL or not;
held because the device does not negotiate FLIT mode; down. -/
inductive LinkChange where
  | up (width : Fin 5) (speed : Fin 6) (cxl : Bool)
  | noflit
  | down
  deriving DecidableEq, Repr

/-- A device's memory request (R299, R301): a read of len + 1 bytes with a tag, a write with its poisoned bit, and
what the root ports do not support (ATS, PRI, PASID, AtomicOp, peer-to-peer). `ro`: the relaxed-ordering attribute. -/
inductive DmaReq where
  | read (addr : BitVec 64) (len : Fin 4096) (tag : Fin 16384) (ro : Bool)
  | write (addr : BitVec 64) (data : List Byte) (ep ro : Bool)
  | unsupported (tag : Fin 16384)
  deriving DecidableEq, Repr

/-- A timer of the Weft engine (R258, R394): of an outbound entry, or of a forwarded packet. -/
inductive WftTimer where
  | entry (k : Fin 1024)
  | forward (tag : BitVec 16)
  deriving DecidableEq, Repr

/-- The arrays of a tile that an invalidation engine clears (Table CCH-5). -/
inductive CacheArray where
  | dir | l3 | l2 | l1
  deriving DecidableEq, Repr

/-- A wake source of a thread in WAIT (R454). -/
inductive WakeSource where
  | irq | stitch | port | secure
  deriving DecidableEq, Repr

/-- A power domain (Table PWR-1). -/
abbrev Domain := Fin 427
/-- A die with junction sensors: the four core dies and the hub die. -/
abbrev Die := Fin 5

/-- How a transfer descriptor's requests end (R344): answered, ERRCMP, or timed out. -/
inductive XferEnd where
  | ok | errcmp | timeout
  deriving DecidableEq, Repr

/-- An operation of the NTT engine (Table THM-3, Table THM-4). -/
inductive NttOp where
  | verify | sign | encaps | decaps
  deriving DecidableEq, Repr

/-- A PTP client or service port: a virtual port or an uplink. -/
inductive PtpPort where
  | vp (v : VPort)
  | uplink (u : Uplink)
  deriving DecidableEq, Repr

/-- The data set of an Announce message that the best master clock algorithm of IEEE 1588-2019 compares, in its
order, with stepsRemoved and the sender's port identity. -/
structure Announce where
  prio1    : Byte
  cls      : Byte
  accuracy : Byte
  variance : BitVec 16
  prio2    : Byte
  gm       : BitVec 64
  steps    : BitVec 16
  sender   : BitVec 80
  deriving DecidableEq, Repr

/-- What a state report shows (Table OCK-22): CFGD matches its record; differs from it; a health bit reports a failure;
state that the unit changes by its own rules. -/
inductive Report where
  | matching | differs | unhealthy | changed
  deriving DecidableEq, Repr

/-- What a debugger does to a thread through the debug port (R360, R438). (DESIGN CHOICE, log entry 96.) -/
inductive DbgOp where
  | select
  | halt
  | resume
  | step
  | gpr (r : Fin 32) (v : Word)
  | pc (v : Word)
  | cr (n : BitVec 12) (v : Word)
  | mem (addr : Fin (2 ^ 46)) (v : Word)
  deriving DecidableEq, Repr

/-- Who accesses a register (R13): Thimble, or a core's thread, on whose panel and level the access is judged. -/
inductive RegWho where
  | thimble
  | core (th : Thr)
  deriving DecidableEq, Repr

/-- A failing location that training or basting reports (Table BOO-5): unit ID with MODULE zero, array, pattern, address,
bit and count. (DESIGN CHOICE, log entry 89.) -/
structure Failure where
  unit    : BitVec 32
  array   : Fin 19
  pattern : Byte
  addr    : BitVec 64
  bitNo   : BitVec 16
  count   : BitVec 16
  deriving DecidableEq, Repr

/-- What is measured outside the model and acts at a stitch boundary: the average 48 V input power of the stitch that ends
in 0.1 W and the hottest junction in °C (R458), its input energy in µJ (R329), cores whose hem fails to save or to restore
(R52), whether the module reference is more than 500 ppm off or missing (R460), and whether the SYNC cell of the stitch that
begins is dropped (task 7). (DESIGN CHOICE, log entry 28.) -/
structure Reading where
  pin      : BitVec 16
  tmax     : Byte
  energy   : BitVec 32
  saveFails    : List Tile
  restoreFails : List Tile
  refFault : Bool
  noSync   : Bool
  deriving DecidableEq, Repr

end Sys2Proof
end

