-- ==== Sys2Proof/Machine/RegTable.lean ====
section
/-! DEFINITION. The memory-mapped registers: every register the manual's tables give, where it lies, and the
access each owner has to each of its fields (R13, R14). The docstring of a register names its table. -/

namespace Sys2Proof.Machine

/-- An access code (Table SCO-7); `no` where the access column lists no code for the owner. -/
inductive Acc where
  | no | ro | rw | wo | w1c | w1s | rc
  deriving DecidableEq, Repr

/-- A field's place: bits hi..lo. -/
structure Fld where
  hi : Nat
  lo : Nat
  deriving DecidableEq, Repr

/-- One row of a register's field table: place, the codes of Thimble, the host manager and panel software. -/
structure FldRow where
  hi : Nat
  lo : Nat
  t  : Acc
  h  : Acc
  p  : Acc
  deriving DecidableEq, Repr

/-- Where a register array lies: `n1` × `n2` copies at `base + s1·i + s2·j`, and its width in bits. -/
structure Place where
  base  : Nat
  n1    : Nat
  s1    : Nat
  n2    : Nat
  s2    : Nat
  width : Nat
  deriving DecidableEq, Repr

/-- The register arrays of the module. -/
inductive RegKind where
  /-- Table COH-2. -/
  | hubBoltcfg
  /-- Table COH-3. -/
  | hubBoltstat
  /-- Table BOO-6. -/
  | hubBoot
  /-- Table PNL-10. -/
  | hubPstate
  /-- Table PNL-11. -/
  | hubPwdog
  /-- Table PNL-12. -/
  | hubPwkick
  /-- Table PNL-13. -/
  | hubPfault
  /-- Table MEM-12. -/
  | mcCtrl
  /-- Table MEM-13. -/
  | mcStatus
  /-- Table MEM-14. -/
  | mcScrub
  /-- Table MEM-15. -/
  | mcCecnt
  /-- Table MEM-17. -/
  | mcPool
  /-- Table MEM-6. -/
  | mcRegion
  /-- Table MEM-11. -/
  | mcKvalid
  /-- Table MEM-16. -/
  | mcSpare
  /-- Table MEM-17. -/
  | mcTok
  /-- Table MEM-11. -/
  | mcMirmap
  /-- Table WRP-8. -/
  | wrpRstat
  /-- Table WRP-9. -/
  | wrpTdly
  /-- Table WRP-6. -/
  | tilePri
  /-- Table WRP-6. -/
  | tileAlt
  /-- Table WRP-6. -/
  | tileSel
  /-- Table CCH-5. -/
  | wrpCctl
  /-- Table CCH-4. -/
  | wrpCerrcnt
  /-- Table COH-13. -/
  | wrpCohcnt
  /-- Table CCH-2. -/
  | wrpL3way
  /-- Table TWN-1. -/
  | wrpTwpair
  /-- Table TWN-2. -/
  | wrpTwcnt
  /-- Table WRP-10. -/
  | wrpBctl
  /-- Table WRP-6. -/
  | hubPri
  /-- Table WRP-6. -/
  | hubAlt
  /-- Table WRP-6. -/
  | hubSel
  /-- Table WRP-6. -/
  | mcPri
  /-- Table WRP-6. -/
  | mcAlt
  /-- Table WRP-6. -/
  | mcSel
  /-- Table WFT-14. -/
  | wpPctl
  /-- Table WFT-15. -/
  | wpPstat
  /-- Table WFT-16. -/
  | wpLcnt
  /-- Table WFT-17. -/
  | wpLdly
  /-- Table NET-2. -/
  | wpEctl
  /-- Table WFT-18. -/
  | wpFcfg
  /-- Table WFT-18. -/
  | wpFname
  /-- Table WFT-19. -/
  | wpFstat
  /-- Table WFT-7. -/
  | wpRoute
  /-- Table WFT-20. -/
  | wpPsel
  /-- Table WFT-21. -/
  | wpBar
  /-- Table WFT-21. -/
  | wpBarcnt
  /-- Table NET-5. -/
  | neUpcfg
  /-- Table NET-13. -/
  | nePtok
  /-- Table NET-4. -/
  | neVpctl
  /-- Table NET-3. -/
  | neVpbob
  /-- Table NET-3. -/
  | neVpmac
  /-- Table NET-3. -/
  | neVpvlan
  /-- Table NET-3. -/
  | neVpdrop
  /-- Table NET-9. -/
  | neBctl
  /-- Table NET-8. -/
  | neSqbase
  /-- Table NET-8. -/
  | neRqbase
  /-- Table NET-8. -/
  | neCqbase
  /-- Table NET-8. -/
  | neBstat
  /-- Table NET-8. -/
  | neBdrop
  /-- R282. -/
  | dbSqtail
  /-- R282. -/
  | dbRqtail
  /-- R282. -/
  | dbCqhead
  /-- R282. -/
  | dbArm
  /-- Table HIO-2. -/
  | hpCfg
  /-- Table HIO-7. -/
  | hpRpctl
  /-- Table HIO-7. -/
  | hpRpstat
  /-- Table HIO-4. -/
  | hpFunc0
  /-- Table HIO-4. -/
  | hpFunc1
  /-- Table HIO-5. -/
  | hpHdm
  /-- Table HIO-6. -/
  | hpCtok
  /-- Table HIO-6. -/
  | hpCpool
  /-- Table CUT-4. -/
  | cutCtrl
  /-- Table CUT-5. -/
  | cutCore
  /-- Table CUT-6. -/
  | cutOvr
  /-- Table CUT-1. -/
  | cutContract
  /-- Table CUT-7. -/
  | cutPstat
  /-- Table CUT-9. -/
  | tapeStat
  /-- Table CUT-11. -/
  | tapeLive
  /-- Table TIM-4. -/
  | tuCtrl
  /-- Table TIM-5. -/
  | tuStatus
  /-- Table TIM-3. -/
  | tuTodS
  /-- Table TIM-3. -/
  | tuTodNs
  /-- Table TIM-3. -/
  | tuStitch
  /-- Table TIM-3. -/
  | tuFreqadj
  /-- Table TIM-3. -/
  | tuOffset
  /-- Table TIM-3. -/
  | tuPpsdly
  /-- Table TIM-3. -/
  | tuUtcofs
  /-- Table TIM-3. -/
  | tuDrop
  /-- Table THM-7. -/
  | mbxPage
  /-- Table THM-8. -/
  | mbxDb
  /-- Table THM-8. -/
  | mbxSlot
  /-- Table PWR-6. -/
  | pwrStat
  /-- Table PWR-7. -/
  | pwrPortdet
  /-- Table THM-11. -/
  | pwrClaim
  /-- Table PWR-8. -/
  | pwrDstat
  /-- Table ERR-6. -/
  | rasStat
  /-- Table ERR-7. -/
  | rasSeq
  /-- Table ERR-8. -/
  | rasNote
  /-- Table ERR-5. -/
  | rasTmo
  /-- Table ERR-9. -/
  | rasMwdog
  /-- Table ISA-24. -/
  | icVec
  deriving DecidableEq, Repr

/-- The addresses and widths the chapters give. -/
def RegKind.place : RegKind → Place
  | .hubBoltcfg => Place.mk 0x7F0000000200 1 0x0 1 0 32
  | .hubBoltstat => Place.mk 0x7F0000000208 1 0x0 1 0 32
  | .hubBoot => Place.mk 0x7F0000000300 1 0x0 1 0 32
  | .hubPstate => Place.mk 0x7F0000100000 512 0x1000 1 0 32
  | .hubPwdog => Place.mk 0x7F0000100008 512 0x1000 1 0 32
  | .hubPwkick => Place.mk 0x7F0000100010 512 0x1000 1 0 32
  | .hubPfault => Place.mk 0x7F0000100018 512 0x1000 1 0 32
  | .mcCtrl => Place.mk 0x7F0010000000 24 0x100000 1 0 32
  | .mcStatus => Place.mk 0x7F0010000008 24 0x100000 1 0 32
  | .mcScrub => Place.mk 0x7F0010000010 24 0x100000 1 0 32
  | .mcCecnt => Place.mk 0x7F0010000018 24 0x100000 1 0 32
  | .mcPool => Place.mk 0x7F0010000020 24 0x100000 1 0 32
  | .mcRegion => Place.mk 0x7F0010000100 24 0x100000 16 8 64
  | .mcKvalid => Place.mk 0x7F0010000800 24 0x100000 16 4 32
  | .mcSpare => Place.mk 0x7F0010001000 24 0x100000 256 4 32
  | .mcTok => Place.mk 0x7F0010004000 24 0x100000 512 4 32
  | .mcMirmap => Place.mk 0x7F0010020000 24 0x100000 19200 8 64
  | .wrpRstat => Place.mk 0x7F0020000010 192 0x10000 1 0 32
  | .wrpTdly => Place.mk 0x7F0020000018 192 0x10000 1 0 32
  | .tilePri => Place.mk 0x7F0020001000 192 0x10000 256 16 32
  | .tileAlt => Place.mk 0x7F0020001004 192 0x10000 256 16 32
  | .tileSel => Place.mk 0x7F0020001008 192 0x10000 256 16 32
  | .wrpCctl => Place.mk 0x7F0020008000 192 0x10000 1 0 32
  | .wrpCerrcnt => Place.mk 0x7F0020008008 192 0x10000 1 0 32
  | .wrpCohcnt => Place.mk 0x7F0020008010 192 0x10000 1 0 32
  | .wrpL3way => Place.mk 0x7F0020008800 192 0x10000 512 4 32
  | .wrpTwpair => Place.mk 0x7F0020009000 192 0x10000 1 0 64
  | .wrpTwcnt => Place.mk 0x7F0020009008 192 0x10000 1 0 64
  | .wrpBctl => Place.mk 0x7F0021000000 4 0x10000 1 0 32
  | .hubPri => Place.mk 0x7F0022041000 10 0x10000 256 16 32
  | .hubAlt => Place.mk 0x7F0022041004 10 0x10000 256 16 32
  | .hubSel => Place.mk 0x7F0022041008 10 0x10000 256 16 32
  | .mcPri => Place.mk 0x7F0023001000 24 0x10000 256 16 32
  | .mcAlt => Place.mk 0x7F0023001004 24 0x10000 256 16 32
  | .mcSel => Place.mk 0x7F0023001008 24 0x10000 256 16 32
  | .wpPctl => Place.mk 0x7F0030000000 8 0x10000 1 0 32
  | .wpPstat => Place.mk 0x7F0030000008 8 0x10000 1 0 32
  | .wpLcnt => Place.mk 0x7F0030000010 8 0x10000 1 0 64
  | .wpLdly => Place.mk 0x7F0030000018 8 0x10000 1 0 32
  | .wpEctl => Place.mk 0x7F0030000020 8 0x10000 1 0 32
  | .wpFcfg => Place.mk 0x7F0030080000 1 0x0 1 0 64
  | .wpFname => Place.mk 0x7F0030080008 1 0x0 1 0 64
  | .wpFstat => Place.mk 0x7F0030080010 1 0x0 1 0 32
  | .wpRoute => Place.mk 0x7F0030100000 4096 0x10 4 4 32
  | .wpPsel => Place.mk 0x7F0030200000 4096 0x4 1 0 32
  | .wpBar => Place.mk 0x7F0030300000 256 0x1000 1 0 64
  | .wpBarcnt => Place.mk 0x7F0030300008 256 0x1000 1 0 64
  | .neUpcfg => Place.mk 0x7F0040000100 32 0x8 1 0 64
  | .nePtok => Place.mk 0x7F0040100000 512 0x100 16 8 64
  | .neVpctl => Place.mk 0x7F0040200000 4096 0x80 1 0 64
  | .neVpbob => Place.mk 0x7F0040200008 4096 0x80 1 0 64
  | .neVpmac => Place.mk 0x7F0040200010 4096 0x80 8 8 64
  | .neVpvlan => Place.mk 0x7F0040200050 4096 0x80 8 2 16
  | .neVpdrop => Place.mk 0x7F0040200060 4096 0x80 1 0 64
  | .neBctl => Place.mk 0x7F0040400000 16384 0x40 1 0 64
  | .neSqbase => Place.mk 0x7F0040400008 16384 0x40 1 0 64
  | .neRqbase => Place.mk 0x7F0040400010 16384 0x40 1 0 64
  | .neCqbase => Place.mk 0x7F0040400018 16384 0x40 1 0 64
  | .neBstat => Place.mk 0x7F0040400020 16384 0x40 1 0 64
  | .neBdrop => Place.mk 0x7F0040400028 16384 0x40 1 0 64
  | .dbSqtail => Place.mk 0x7F0044000000 16384 0x1000 1 0 64
  | .dbRqtail => Place.mk 0x7F0044000008 16384 0x1000 1 0 64
  | .dbCqhead => Place.mk 0x7F0044000010 16384 0x1000 1 0 64
  | .dbArm => Place.mk 0x7F0044000018 16384 0x1000 1 0 64
  | .hpCfg => Place.mk 0x7F0050000000 4 0x100 1 0 32
  | .hpRpctl => Place.mk 0x7F0050001000 16 0x40 1 0 64
  | .hpRpstat => Place.mk 0x7F0050001008 16 0x40 1 0 64
  | .hpFunc0 => Place.mk 0x7F0050010000 4 0x2000 512 16 64
  | .hpFunc1 => Place.mk 0x7F0050010008 4 0x2000 512 16 64
  | .hpHdm => Place.mk 0x7F0050030000 8 0x10 1 0 64
  | .hpCtok => Place.mk 0x7F0050040000 8 0x1000 512 4 32
  | .hpCpool => Place.mk 0x7F0050048000 8 0x4 1 0 32
  | .cutCtrl => Place.mk 0x7F0060000000 1 0x0 1 0 32
  | .cutCore => Place.mk 0x7F0060001000 192 0x8 1 0 64
  | .cutOvr => Place.mk 0x7F0060002000 192 0x8 1 0 64
  | .cutContract => Place.mk 0x7F0060010000 512 0x40 8 8 64
  | .cutPstat => Place.mk 0x7F0060020000 512 0x8 1 0 64
  | .tapeStat => Place.mk 0x7F0070000000 1 0x0 1 0 64
  | .tapeLive => Place.mk 0x7F0070010000 512 0x100 16 8 64
  | .tuCtrl => Place.mk 0x7F0080000000 1 0x0 1 0 32
  | .tuStatus => Place.mk 0x7F0080000008 1 0x0 1 0 32
  | .tuTodS => Place.mk 0x7F0080000010 1 0x0 1 0 64
  | .tuTodNs => Place.mk 0x7F0080000018 1 0x0 1 0 64
  | .tuStitch => Place.mk 0x7F0080000020 1 0x0 1 0 64
  | .tuFreqadj => Place.mk 0x7F0080000028 1 0x0 1 0 32
  | .tuOffset => Place.mk 0x7F0080000030 1 0x0 1 0 32
  | .tuPpsdly => Place.mk 0x7F0080000038 1 0x0 1 0 32
  | .tuUtcofs => Place.mk 0x7F0080000040 1 0x0 1 0 32
  | .tuDrop => Place.mk 0x7F0080000100 16 0x8 1 0 64
  | .mbxPage => Place.mk 0x7F0090000000 512 0x1000 1 0 64
  | .mbxDb => Place.mk 0x7F0090000008 512 0x1000 1 0 32
  | .mbxSlot => Place.mk 0x7F0090000010 512 0x1000 16 4 32
  | .pwrStat => Place.mk 0x7F00A0000000 1 0x0 1 0 64
  | .pwrPortdet => Place.mk 0x7F00A0000100 8 0x8 1 0 32
  | .pwrClaim => Place.mk 0x7F00A0000400 32 0x8 1 0 64
  | .pwrDstat => Place.mk 0x7F00A0001000 427 0x8 1 0 64
  | .rasStat => Place.mk 0x7F00B0000000 1 0x0 1 0 64
  | .rasSeq => Place.mk 0x7F00B0000008 1 0x0 1 0 64
  | .rasNote => Place.mk 0x7F00B0000010 1 0x0 1 0 32
  | .rasTmo => Place.mk 0x7F00B0000100 6 0x8 1 0 32
  | .rasMwdog => Place.mk 0x7F00B0000200 1 0x0 1 0 32
  | .icVec => Place.mk 0x7F00C0000000 512 0x4000 2048 8 64

/-- Every register array. -/
def RegKind.all : List RegKind :=
  [RegKind.hubBoltcfg, RegKind.hubBoltstat, RegKind.hubBoot, RegKind.hubPstate, RegKind.hubPwdog, RegKind.hubPwkick, RegKind.hubPfault, RegKind.mcCtrl]
  ++ [RegKind.mcStatus, RegKind.mcScrub, RegKind.mcCecnt, RegKind.mcPool, RegKind.mcRegion, RegKind.mcKvalid, RegKind.mcSpare, RegKind.mcTok]
  ++ [RegKind.mcMirmap, RegKind.wrpRstat, RegKind.wrpTdly, RegKind.tilePri, RegKind.tileAlt, RegKind.tileSel, RegKind.wrpCctl, RegKind.wrpCerrcnt]
  ++ [RegKind.wrpCohcnt, RegKind.wrpL3way, RegKind.wrpTwpair, RegKind.wrpTwcnt, RegKind.wrpBctl, RegKind.hubPri, RegKind.hubAlt, RegKind.hubSel]
  ++ [RegKind.mcPri, RegKind.mcAlt, RegKind.mcSel, RegKind.wpPctl, RegKind.wpPstat, RegKind.wpLcnt, RegKind.wpLdly, RegKind.wpEctl]
  ++ [RegKind.wpFcfg, RegKind.wpFname, RegKind.wpFstat, RegKind.wpRoute, RegKind.wpPsel, RegKind.wpBar, RegKind.wpBarcnt, RegKind.neUpcfg]
  ++ [RegKind.nePtok, RegKind.neVpctl, RegKind.neVpbob, RegKind.neVpmac, RegKind.neVpvlan, RegKind.neVpdrop, RegKind.neBctl, RegKind.neSqbase]
  ++ [RegKind.neRqbase, RegKind.neCqbase, RegKind.neBstat, RegKind.neBdrop, RegKind.dbSqtail, RegKind.dbRqtail, RegKind.dbCqhead, RegKind.dbArm]
  ++ [RegKind.hpCfg, RegKind.hpRpctl, RegKind.hpRpstat, RegKind.hpFunc0, RegKind.hpFunc1, RegKind.hpHdm, RegKind.hpCtok, RegKind.hpCpool]
  ++ [RegKind.cutCtrl, RegKind.cutCore, RegKind.cutOvr, RegKind.cutContract, RegKind.cutPstat, RegKind.tapeStat, RegKind.tapeLive, RegKind.tuCtrl]
  ++ [RegKind.tuStatus, RegKind.tuTodS, RegKind.tuTodNs, RegKind.tuStitch, RegKind.tuFreqadj, RegKind.tuOffset, RegKind.tuPpsdly, RegKind.tuUtcofs]
  ++ [RegKind.tuDrop, RegKind.mbxPage, RegKind.mbxDb, RegKind.mbxSlot, RegKind.pwrStat, RegKind.pwrPortdet, RegKind.pwrClaim, RegKind.pwrDstat]
  ++ [RegKind.rasStat, RegKind.rasSeq, RegKind.rasNote, RegKind.rasTmo, RegKind.rasMwdog, RegKind.icVec]

def rows.hubBoltcfg : List FldRow :=
  [FldRow.mk 31 10 Acc.ro Acc.ro Acc.no,
   FldRow.mk 9 8 Acc.rw Acc.ro Acc.no,
   FldRow.mk 7 2 Acc.ro Acc.ro Acc.no,
   FldRow.mk 1 0 Acc.ro Acc.ro Acc.no]
def rows.hubBoltstat : List FldRow :=
  [FldRow.mk 7 5 Acc.rw Acc.ro Acc.no,
   FldRow.mk 4 4 Acc.rw Acc.ro Acc.no,
   FldRow.mk 3 0 Acc.rw Acc.ro Acc.no,
   FldRow.mk 15 13 Acc.rw Acc.ro Acc.no,
   FldRow.mk 12 12 Acc.rw Acc.ro Acc.no,
   FldRow.mk 11 8 Acc.rw Acc.ro Acc.no,
   FldRow.mk 23 21 Acc.rw Acc.ro Acc.no,
   FldRow.mk 20 20 Acc.rw Acc.ro Acc.no,
   FldRow.mk 19 16 Acc.rw Acc.ro Acc.no,
   FldRow.mk 31 29 Acc.rw Acc.ro Acc.no,
   FldRow.mk 28 28 Acc.rw Acc.ro Acc.no,
   FldRow.mk 27 24 Acc.rw Acc.ro Acc.no]
def rows.hubBoot : List FldRow :=
  [FldRow.mk 31 28 Acc.rw Acc.ro Acc.no,
   FldRow.mk 27 27 Acc.rw Acc.ro Acc.no,
   FldRow.mk 26 26 Acc.rw Acc.ro Acc.no,
   FldRow.mk 25 25 Acc.rw Acc.ro Acc.no,
   FldRow.mk 24 24 Acc.rw Acc.ro Acc.no,
   FldRow.mk 23 11 Acc.ro Acc.ro Acc.no,
   FldRow.mk 10 0 Acc.rw Acc.ro Acc.no]
def rows.hubPstate : List FldRow :=
  [FldRow.mk 31 21 Acc.ro Acc.ro Acc.ro,
   FldRow.mk 20 12 Acc.rw Acc.ro Acc.ro,
   FldRow.mk 11 11 Acc.rw Acc.ro Acc.ro,
   FldRow.mk 10 10 Acc.rw Acc.ro Acc.ro,
   FldRow.mk 9 9 Acc.rw Acc.ro Acc.ro,
   FldRow.mk 8 8 Acc.rw Acc.ro Acc.w1s,
   FldRow.mk 7 3 Acc.ro Acc.ro Acc.ro,
   FldRow.mk 2 0 Acc.rw Acc.ro Acc.ro]
def rows.hubPwdog : List FldRow :=
  [FldRow.mk 31 16 Acc.rw Acc.ro Acc.ro,
   FldRow.mk 15 0 Acc.rw Acc.ro Acc.ro]
def rows.hubPwkick : List FldRow :=
  [FldRow.mk 31 8 Acc.ro Acc.ro Acc.ro,
   FldRow.mk 7 0 Acc.wo Acc.wo Acc.wo]
def rows.hubPfault : List FldRow :=
  [FldRow.mk 31 24 Acc.rw Acc.ro Acc.ro,
   FldRow.mk 23 16 Acc.rw Acc.ro Acc.ro,
   FldRow.mk 15 0 Acc.ro Acc.ro Acc.ro]
def rows.mcCtrl : List FldRow :=
  [FldRow.mk 31 31 Acc.rw Acc.ro Acc.no,
   FldRow.mk 30 13 Acc.ro Acc.ro Acc.no,
   FldRow.mk 12 8 Acc.ro Acc.ro Acc.no,
   FldRow.mk 7 5 Acc.ro Acc.ro Acc.no,
   FldRow.mk 4 0 Acc.rw Acc.ro Acc.no]
def rows.mcStatus : List FldRow :=
  [FldRow.mk 31 31 Acc.rw Acc.ro Acc.no,
   FldRow.mk 30 30 Acc.rw Acc.ro Acc.no,
   FldRow.mk 29 29 Acc.ro Acc.ro Acc.no,
   FldRow.mk 28 20 Acc.rw Acc.ro Acc.no,
   FldRow.mk 19 16 Acc.ro Acc.ro Acc.no,
   FldRow.mk 15 8 Acc.rw Acc.ro Acc.no,
   FldRow.mk 7 0 Acc.rw Acc.ro Acc.no]
def rows.mcScrub : List FldRow :=
  [FldRow.mk 31 10 Acc.rw Acc.ro Acc.no,
   FldRow.mk 9 8 Acc.ro Acc.ro Acc.no,
   FldRow.mk 7 0 Acc.rw Acc.ro Acc.no]
def rows.mcCecnt : List FldRow :=
  [FldRow.mk 31 16 Acc.rw Acc.rc Acc.no,
   FldRow.mk 15 8 Acc.rw Acc.rc Acc.no,
   FldRow.mk 7 0 Acc.rw Acc.rc Acc.no]
def rows.mcPool : List FldRow :=
  [FldRow.mk 31 16 Acc.ro Acc.ro Acc.no,
   FldRow.mk 15 0 Acc.ro Acc.ro Acc.no]
def rows.mcRegion : List FldRow :=
  [FldRow.mk 63 63 Acc.rw Acc.ro Acc.no,
   FldRow.mk 62 60 Acc.rw Acc.ro Acc.no,
   FldRow.mk 59 58 Acc.rw Acc.ro Acc.no,
   FldRow.mk 57 54 Acc.ro Acc.ro Acc.no,
   FldRow.mk 53 32 Acc.rw Acc.ro Acc.no,
   FldRow.mk 31 22 Acc.ro Acc.ro Acc.no,
   FldRow.mk 21 0 Acc.rw Acc.ro Acc.no]
def rows.mcKvalid : List FldRow :=
  [FldRow.mk 31 0 Acc.ro Acc.ro Acc.no]
def rows.mcSpare : List FldRow :=
  [FldRow.mk 31 31 Acc.rw Acc.ro Acc.no,
   FldRow.mk 30 30 Acc.rw Acc.ro Acc.no,
   FldRow.mk 29 22 Acc.ro Acc.ro Acc.no,
   FldRow.mk 21 0 Acc.rw Acc.ro Acc.no]
def rows.mcTok : List FldRow :=
  [FldRow.mk 31 16 Acc.rw Acc.ro Acc.no,
   FldRow.mk 15 0 Acc.ro Acc.ro Acc.no]
def rows.mcMirmap : List FldRow :=
  [FldRow.mk 63 0 Acc.rw Acc.ro Acc.no]
def rows.wrpRstat : List FldRow :=
  [FldRow.mk 31 24 Acc.rw Acc.rc Acc.no,
   FldRow.mk 23 16 Acc.rw Acc.rc Acc.no,
   FldRow.mk 15 8 Acc.rw Acc.rc Acc.no,
   FldRow.mk 7 5 Acc.ro Acc.ro Acc.no,
   FldRow.mk 4 4 Acc.rw Acc.ro Acc.no,
   FldRow.mk 3 3 Acc.rw Acc.ro Acc.no,
   FldRow.mk 2 2 Acc.rw Acc.ro Acc.no,
   FldRow.mk 1 1 Acc.rw Acc.ro Acc.no,
   FldRow.mk 0 0 Acc.rw Acc.ro Acc.no]
def rows.wrpTdly : List FldRow :=
  [FldRow.mk 31 16 Acc.ro Acc.ro Acc.no,
   FldRow.mk 15 0 Acc.rw Acc.ro Acc.no]
def rows.patPri : List FldRow :=
  [FldRow.mk 31 0 Acc.rw Acc.ro Acc.no]
def rows.patAlt : List FldRow :=
  [FldRow.mk 31 0 Acc.rw Acc.ro Acc.no]
def rows.patSel : List FldRow :=
  [FldRow.mk 31 2 Acc.ro Acc.ro Acc.no,
   FldRow.mk 1 1 Acc.ro Acc.ro Acc.no,
   FldRow.mk 0 0 Acc.rw Acc.ro Acc.no]
def rows.wrpCctl : List FldRow :=
  [FldRow.mk 31 20 Acc.ro Acc.ro Acc.no,
   FldRow.mk 19 19 Acc.w1s Acc.ro Acc.no,
   FldRow.mk 18 18 Acc.w1s Acc.ro Acc.no,
   FldRow.mk 17 17 Acc.w1s Acc.ro Acc.no,
   FldRow.mk 16 16 Acc.w1s Acc.ro Acc.no,
   FldRow.mk 15 4 Acc.ro Acc.ro Acc.no,
   FldRow.mk 3 3 Acc.rw Acc.ro Acc.no,
   FldRow.mk 2 2 Acc.rw Acc.ro Acc.no,
   FldRow.mk 1 1 Acc.rw Acc.ro Acc.no,
   FldRow.mk 0 0 Acc.rw Acc.ro Acc.no]
def rows.wrpCerrcnt : List FldRow :=
  [FldRow.mk 31 24 Acc.rw Acc.rc Acc.no,
   FldRow.mk 23 16 Acc.rw Acc.rc Acc.no,
   FldRow.mk 15 8 Acc.rw Acc.rc Acc.no,
   FldRow.mk 7 0 Acc.rw Acc.rc Acc.no]
def rows.wrpCohcnt : List FldRow :=
  [FldRow.mk 31 16 Acc.rw Acc.rc Acc.no,
   FldRow.mk 15 8 Acc.rw Acc.rc Acc.no,
   FldRow.mk 7 0 Acc.rw Acc.rc Acc.no]
def rows.wrpL3way : List FldRow :=
  [FldRow.mk 31 16 Acc.rw Acc.ro Acc.no,
   FldRow.mk 15 0 Acc.rw Acc.ro Acc.no]
def rows.wrpTwpair : List FldRow :=
  [FldRow.mk 63 63 Acc.rw Acc.ro Acc.no,
   FldRow.mk 62 62 Acc.rw Acc.ro Acc.no,
   FldRow.mk 61 54 Acc.rw Acc.ro Acc.no,
   FldRow.mk 53 45 Acc.rw Acc.ro Acc.no,
   FldRow.mk 44 37 Acc.rw Acc.ro Acc.no,
   FldRow.mk 36 0 Acc.ro Acc.ro Acc.no]
def rows.wrpTwcnt : List FldRow :=
  [FldRow.mk 63 48 Acc.rw Acc.rc Acc.no,
   FldRow.mk 47 32 Acc.rw Acc.rc Acc.no,
   FldRow.mk 31 0 Acc.rw Acc.rc Acc.no]
def rows.wrpBctl : List FldRow :=
  [FldRow.mk 31 9 Acc.ro Acc.ro Acc.no,
   FldRow.mk 8 8 Acc.rw Acc.ro Acc.no,
   FldRow.mk 7 0 Acc.rw Acc.ro Acc.no]
def rows.wpPctl : List FldRow :=
  [FldRow.mk 31 30 Acc.rw Acc.ro Acc.no,
   FldRow.mk 29 28 Acc.rw Acc.ro Acc.no,
   FldRow.mk 27 27 Acc.rw Acc.ro Acc.no,
   FldRow.mk 26 26 Acc.rw Acc.ro Acc.no,
   FldRow.mk 25 25 Acc.w1s Acc.ro Acc.no,
   FldRow.mk 24 0 Acc.ro Acc.ro Acc.no]
def rows.wpPstat : List FldRow :=
  [FldRow.mk 31 28 Acc.rw Acc.ro Acc.no,
   FldRow.mk 27 16 Acc.rw Acc.ro Acc.no,
   FldRow.mk 15 13 Acc.rw Acc.ro Acc.no,
   FldRow.mk 12 8 Acc.ro Acc.ro Acc.no,
   FldRow.mk 7 0 Acc.rw Acc.rc Acc.no]
def rows.wpLcnt : List FldRow :=
  [FldRow.mk 63 48 Acc.rw Acc.rc Acc.no,
   FldRow.mk 47 32 Acc.rw Acc.rc Acc.no,
   FldRow.mk 31 16 Acc.rw Acc.rc Acc.no,
   FldRow.mk 15 0 Acc.ro Acc.ro Acc.no]
def rows.wpLdly : List FldRow :=
  [FldRow.mk 31 16 Acc.ro Acc.ro Acc.no,
   FldRow.mk 15 0 Acc.rw Acc.ro Acc.no]
def rows.wpEctl : List FldRow :=
  [FldRow.mk 31 30 Acc.rw Acc.ro Acc.no,
   FldRow.mk 29 28 Acc.rw Acc.ro Acc.no,
   FldRow.mk 27 24 Acc.ro Acc.ro Acc.no,
   FldRow.mk 23 0 Acc.ro Acc.ro Acc.no]
def rows.wpFcfg : List FldRow :=
  [FldRow.mk 63 48 Acc.ro Acc.ro Acc.no,
   FldRow.mk 47 36 Acc.rw Acc.ro Acc.no,
   FldRow.mk 35 32 Acc.rw Acc.ro Acc.no,
   FldRow.mk 31 28 Acc.rw Acc.ro Acc.no,
   FldRow.mk 27 24 Acc.rw Acc.ro Acc.no,
   FldRow.mk 23 1 Acc.ro Acc.ro Acc.no,
   FldRow.mk 0 0 Acc.rw Acc.ro Acc.no]
def rows.wpFname : List FldRow :=
  [FldRow.mk 63 0 Acc.rw Acc.ro Acc.no]
def rows.wpFstat : List FldRow :=
  [FldRow.mk 31 21 Acc.ro Acc.ro Acc.no,
   FldRow.mk 20 8 Acc.rw Acc.ro Acc.no,
   FldRow.mk 7 0 Acc.rw Acc.rc Acc.no]
def rows.wpRoute : List FldRow :=
  [FldRow.mk 31 0 Acc.rw Acc.ro Acc.no]
def rows.wpPsel : List FldRow :=
  [FldRow.mk 31 4 Acc.ro Acc.ro Acc.no,
   FldRow.mk 3 3 Acc.ro Acc.ro Acc.no,
   FldRow.mk 2 2 Acc.rw Acc.ro Acc.no,
   FldRow.mk 1 0 Acc.rw Acc.ro Acc.no]
def rows.wpBar : List FldRow :=
  [FldRow.mk 63 52 Acc.rw Acc.ro Acc.ro,
   FldRow.mk 51 46 Acc.rw Acc.ro Acc.ro,
   FldRow.mk 45 33 Acc.rw Acc.ro Acc.ro,
   FldRow.mk 32 25 Acc.rw Acc.ro Acc.ro,
   FldRow.mk 24 23 Acc.ro Acc.ro Acc.ro,
   FldRow.mk 22 14 Acc.rw Acc.ro Acc.ro,
   FldRow.mk 13 3 Acc.rw Acc.ro Acc.rw,
   FldRow.mk 2 2 Acc.rw Acc.ro Acc.w1c,
   FldRow.mk 1 1 Acc.rw Acc.ro Acc.w1c,
   FldRow.mk 0 0 Acc.rw Acc.ro Acc.w1s]
def rows.wpBarcnt : List FldRow :=
  [FldRow.mk 63 13 Acc.ro Acc.ro Acc.ro,
   FldRow.mk 12 0 Acc.rw Acc.ro Acc.ro]
def rows.neUpcfg : List FldRow :=
  [FldRow.mk 63 63 Acc.rw Acc.ro Acc.no,
   FldRow.mk 62 51 Acc.rw Acc.ro Acc.no,
   FldRow.mk 50 50 Acc.rw Acc.ro Acc.no,
   FldRow.mk 49 0 Acc.ro Acc.ro Acc.no]
def rows.nePtok : List FldRow :=
  [FldRow.mk 63 63 Acc.rw Acc.ro Acc.no,
   FldRow.mk 62 52 Acc.ro Acc.ro Acc.no,
   FldRow.mk 51 32 Acc.rw Acc.ro Acc.no,
   FldRow.mk 31 20 Acc.ro Acc.ro Acc.no,
   FldRow.mk 19 0 Acc.ro Acc.ro Acc.no]
def rows.neVpctl : List FldRow :=
  [FldRow.mk 63 63 Acc.rw Acc.ro Acc.ro,
   FldRow.mk 62 54 Acc.rw Acc.ro Acc.ro,
   FldRow.mk 53 42 Acc.rw Acc.ro Acc.ro,
   FldRow.mk 41 30 Acc.rw Acc.ro Acc.ro,
   FldRow.mk 29 29 Acc.rw Acc.ro Acc.ro,
   FldRow.mk 28 28 Acc.rw Acc.ro Acc.ro,
   FldRow.mk 27 23 Acc.rw Acc.ro Acc.ro,
   FldRow.mk 22 13 Acc.rw Acc.ro Acc.ro,
   FldRow.mk 12 0 Acc.ro Acc.ro Acc.ro]
def rows.neVpbob : List FldRow :=
  [FldRow.mk 63 16 Acc.ro Acc.ro Acc.ro,
   FldRow.mk 15 14 Acc.rw Acc.ro Acc.ro,
   FldRow.mk 13 0 Acc.rw Acc.ro Acc.ro]
def rows.neVpmac : List FldRow :=
  [FldRow.mk 63 63 Acc.rw Acc.ro Acc.ro,
   FldRow.mk 62 48 Acc.ro Acc.ro Acc.ro,
   FldRow.mk 47 0 Acc.rw Acc.ro Acc.ro]
def rows.neVpvlan : List FldRow :=
  [FldRow.mk 15 15 Acc.rw Acc.ro Acc.ro,
   FldRow.mk 14 12 Acc.ro Acc.ro Acc.ro,
   FldRow.mk 11 0 Acc.rw Acc.ro Acc.ro]
def rows.neVpdrop : List FldRow :=
  [FldRow.mk 63 32 Acc.rw Acc.rc Acc.ro,
   FldRow.mk 31 0 Acc.rw Acc.rc Acc.ro]
def rows.neBctl : List FldRow :=
  [FldRow.mk 63 63 Acc.rw Acc.ro Acc.ro,
   FldRow.mk 62 61 Acc.rw Acc.ro Acc.ro,
   FldRow.mk 60 52 Acc.rw Acc.ro Acc.ro,
   FldRow.mk 51 40 Acc.rw Acc.ro Acc.ro,
   FldRow.mk 39 38 Acc.rw Acc.ro Acc.ro,
   FldRow.mk 37 37 Acc.rw Acc.ro Acc.ro,
   FldRow.mk 36 33 Acc.rw Acc.ro Acc.ro,
   FldRow.mk 32 29 Acc.rw Acc.ro Acc.ro,
   FldRow.mk 28 25 Acc.rw Acc.ro Acc.ro,
   FldRow.mk 24 14 Acc.rw Acc.ro Acc.rw,
   FldRow.mk 13 6 Acc.rw Acc.ro Acc.ro,
   FldRow.mk 5 0 Acc.ro Acc.ro Acc.ro]
def rows.neSqbase : List FldRow :=
  [FldRow.mk 63 6 Acc.rw Acc.ro Acc.ro,
   FldRow.mk 5 0 Acc.ro Acc.ro Acc.ro]
def rows.neRqbase : List FldRow :=
  [FldRow.mk 63 6 Acc.rw Acc.ro Acc.ro,
   FldRow.mk 5 0 Acc.ro Acc.ro Acc.ro]
def rows.neCqbase : List FldRow :=
  [FldRow.mk 63 6 Acc.rw Acc.ro Acc.ro,
   FldRow.mk 5 0 Acc.ro Acc.ro Acc.ro]
def rows.neBstat : List FldRow :=
  [FldRow.mk 63 48 Acc.rw Acc.ro Acc.ro,
   FldRow.mk 47 32 Acc.rw Acc.ro Acc.ro,
   FldRow.mk 31 16 Acc.rw Acc.ro Acc.ro,
   FldRow.mk 15 8 Acc.rw Acc.ro Acc.ro,
   FldRow.mk 7 0 Acc.ro Acc.ro Acc.ro]
def rows.neBdrop : List FldRow :=
  [FldRow.mk 63 32 Acc.rw Acc.rc Acc.ro,
   FldRow.mk 31 0 Acc.rw Acc.rc Acc.ro]
def rows.dbSqtail : List FldRow :=
  [FldRow.mk 63 16 Acc.ro Acc.no Acc.wo,
   FldRow.mk 15 0 Acc.rw Acc.no Acc.wo]
def rows.dbRqtail : List FldRow :=
  [FldRow.mk 63 16 Acc.ro Acc.no Acc.wo,
   FldRow.mk 15 0 Acc.rw Acc.no Acc.wo]
def rows.dbCqhead : List FldRow :=
  [FldRow.mk 63 16 Acc.ro Acc.no Acc.wo,
   FldRow.mk 15 0 Acc.rw Acc.no Acc.wo]
def rows.dbArm : List FldRow :=
  [FldRow.mk 63 16 Acc.ro Acc.no Acc.wo,
   FldRow.mk 15 0 Acc.rw Acc.no Acc.wo]
def rows.hpCfg : List FldRow :=
  [FldRow.mk 31 31 Acc.rw Acc.ro Acc.no,
   FldRow.mk 30 28 Acc.rw Acc.ro Acc.no,
   FldRow.mk 27 24 Acc.rw Acc.ro Acc.no,
   FldRow.mk 23 0 Acc.ro Acc.ro Acc.no]
def rows.hpRpctl : List FldRow :=
  [FldRow.mk 63 63 Acc.rw Acc.ro Acc.no,
   FldRow.mk 62 62 Acc.w1s Acc.ro Acc.no,
   FldRow.mk 61 59 Acc.rw Acc.ro Acc.no,
   FldRow.mk 58 56 Acc.rw Acc.ro Acc.no,
   FldRow.mk 55 53 Acc.rw Acc.ro Acc.no,
   FldRow.mk 52 52 Acc.rw Acc.ro Acc.no,
   FldRow.mk 51 0 Acc.ro Acc.ro Acc.no]
def rows.hpRpstat : List FldRow :=
  [FldRow.mk 63 60 Acc.rw Acc.ro Acc.no,
   FldRow.mk 59 57 Acc.rw Acc.ro Acc.no,
   FldRow.mk 56 54 Acc.rw Acc.ro Acc.no,
   FldRow.mk 53 53 Acc.rw Acc.ro Acc.no,
   FldRow.mk 52 32 Acc.ro Acc.ro Acc.no,
   FldRow.mk 31 16 Acc.rw Acc.rc Acc.no,
   FldRow.mk 15 0 Acc.rw Acc.rc Acc.no]
def rows.hpFunc0 : List FldRow :=
  [FldRow.mk 63 63 Acc.rw Acc.ro Acc.no,
   FldRow.mk 62 54 Acc.rw Acc.ro Acc.no,
   FldRow.mk 53 50 Acc.rw Acc.ro Acc.no,
   FldRow.mk 49 34 Acc.rw Acc.ro Acc.no,
   FldRow.mk 33 33 Acc.rw Acc.ro Acc.no,
   FldRow.mk 32 32 Acc.rw Acc.ro Acc.no,
   FldRow.mk 31 31 Acc.rw Acc.ro Acc.no,
   FldRow.mk 30 0 Acc.ro Acc.ro Acc.no]
def rows.hpFunc1 : List FldRow :=
  [FldRow.mk 63 50 Acc.ro Acc.ro Acc.no,
   FldRow.mk 49 32 Acc.rw Acc.ro Acc.no,
   FldRow.mk 31 18 Acc.ro Acc.ro Acc.no,
   FldRow.mk 17 0 Acc.rw Acc.ro Acc.no]
def rows.hpHdm : List FldRow :=
  [FldRow.mk 63 63 Acc.rw Acc.ro Acc.no,
   FldRow.mk 62 46 Acc.ro Acc.ro Acc.no,
   FldRow.mk 45 32 Acc.rw Acc.ro Acc.no,
   FldRow.mk 31 14 Acc.ro Acc.ro Acc.no,
   FldRow.mk 13 0 Acc.rw Acc.ro Acc.no]
def rows.hpCtok : List FldRow :=
  [FldRow.mk 31 16 Acc.rw Acc.ro Acc.no,
   FldRow.mk 15 0 Acc.ro Acc.ro Acc.no]
def rows.hpCpool : List FldRow :=
  [FldRow.mk 31 16 Acc.ro Acc.ro Acc.no,
   FldRow.mk 15 0 Acc.ro Acc.ro Acc.no]
def rows.cutCtrl : List FldRow :=
  [FldRow.mk 31 31 Acc.rw Acc.ro Acc.no,
   FldRow.mk 30 26 Acc.ro Acc.ro Acc.no,
   FldRow.mk 25 16 Acc.rw Acc.ro Acc.no,
   FldRow.mk 15 0 Acc.ro Acc.ro Acc.no]
def rows.cutCore : List FldRow :=
  [FldRow.mk 63 63 Acc.rw Acc.ro Acc.no,
   FldRow.mk 62 62 Acc.rw Acc.ro Acc.no,
   FldRow.mk 61 61 Acc.rw Acc.ro Acc.no,
   FldRow.mk 60 60 Acc.rw Acc.ro Acc.no,
   FldRow.mk 59 51 Acc.rw Acc.ro Acc.no,
   FldRow.mk 50 43 Acc.rw Acc.ro Acc.no,
   FldRow.mk 42 39 Acc.rw Acc.ro Acc.no,
   FldRow.mk 38 33 Acc.rw Acc.ro Acc.no,
   FldRow.mk 32 27 Acc.rw Acc.ro Acc.no,
   FldRow.mk 26 0 Acc.ro Acc.ro Acc.no]
def rows.cutOvr : List FldRow :=
  [FldRow.mk 63 63 Acc.rw Acc.ro Acc.no,
   FldRow.mk 62 62 Acc.rw Acc.ro Acc.no,
   FldRow.mk 61 53 Acc.rw Acc.ro Acc.no,
   FldRow.mk 52 45 Acc.rw Acc.ro Acc.no,
   FldRow.mk 44 0 Acc.ro Acc.ro Acc.no]
def rows.cutContract : List FldRow :=
  [FldRow.mk 63 0 Acc.rw Acc.ro Acc.ro]
def rows.cutPstat : List FldRow :=
  [FldRow.mk 63 56 Acc.rw Acc.ro Acc.ro,
   FldRow.mk 55 48 Acc.rw Acc.ro Acc.ro,
   FldRow.mk 47 47 Acc.rw Acc.ro Acc.ro,
   FldRow.mk 46 0 Acc.ro Acc.ro Acc.ro]
def rows.tapeStat : List FldRow :=
  [FldRow.mk 63 32 Acc.rw Acc.ro Acc.no,
   FldRow.mk 31 31 Acc.rw Acc.ro Acc.no,
   FldRow.mk 30 11 Acc.ro Acc.ro Acc.no,
   FldRow.mk 10 0 Acc.rw Acc.ro Acc.no]
def rows.tapeLive : List FldRow :=
  [FldRow.mk 63 0 Acc.ro Acc.ro Acc.ro]
def rows.tuCtrl : List FldRow :=
  [FldRow.mk 31 24 Acc.rw Acc.ro Acc.no,
   FldRow.mk 23 16 Acc.rw Acc.ro Acc.no,
   FldRow.mk 15 11 Acc.rw Acc.ro Acc.no,
   FldRow.mk 10 10 Acc.rw Acc.ro Acc.no,
   FldRow.mk 9 9 Acc.rw Acc.ro Acc.no,
   FldRow.mk 8 8 Acc.rw Acc.ro Acc.no,
   FldRow.mk 7 7 Acc.rw Acc.ro Acc.no,
   FldRow.mk 6 6 Acc.rw Acc.ro Acc.no,
   FldRow.mk 5 5 Acc.rw Acc.ro Acc.no,
   FldRow.mk 4 4 Acc.rw Acc.ro Acc.no,
   FldRow.mk 3 3 Acc.rw Acc.ro Acc.no,
   FldRow.mk 2 2 Acc.rw Acc.ro Acc.no,
   FldRow.mk 1 0 Acc.rw Acc.ro Acc.no]
def rows.tuStatus : List FldRow :=
  [FldRow.mk 31 31 Acc.rw Acc.ro Acc.no,
   FldRow.mk 30 30 Acc.rw Acc.w1c Acc.no,
   FldRow.mk 29 29 Acc.rw Acc.w1c Acc.no,
   FldRow.mk 28 28 Acc.rw Acc.w1c Acc.no,
   FldRow.mk 27 24 Acc.ro Acc.ro Acc.no,
   FldRow.mk 23 12 Acc.rw Acc.ro Acc.no,
   FldRow.mk 11 11 Acc.rw Acc.ro Acc.no,
   FldRow.mk 10 6 Acc.ro Acc.ro Acc.no,
   FldRow.mk 5 3 Acc.rw Acc.ro Acc.no,
   FldRow.mk 2 0 Acc.rw Acc.ro Acc.no]
def rows.tuTodS : List FldRow :=
  [FldRow.mk 63 48 Acc.ro Acc.ro Acc.no,
   FldRow.mk 47 0 Acc.rw Acc.ro Acc.no]
def rows.tuTodNs : List FldRow :=
  [FldRow.mk 63 48 Acc.ro Acc.ro Acc.no,
   FldRow.mk 47 16 Acc.rw Acc.ro Acc.no,
   FldRow.mk 15 0 Acc.rw Acc.ro Acc.no]
def rows.tuStitch : List FldRow :=
  [FldRow.mk 63 0 Acc.rw Acc.ro Acc.no]
def rows.tuFreqadj : List FldRow :=
  [FldRow.mk 31 0 Acc.rw Acc.ro Acc.no]
def rows.tuOffset : List FldRow :=
  [FldRow.mk 31 0 Acc.rw Acc.ro Acc.no]
def rows.tuPpsdly : List FldRow :=
  [FldRow.mk 31 0 Acc.rw Acc.ro Acc.no]
def rows.tuUtcofs : List FldRow :=
  [FldRow.mk 31 19 Acc.ro Acc.ro Acc.no,
   FldRow.mk 18 18 Acc.rw Acc.ro Acc.no,
   FldRow.mk 17 17 Acc.rw Acc.ro Acc.no,
   FldRow.mk 16 16 Acc.rw Acc.ro Acc.no,
   FldRow.mk 15 0 Acc.rw Acc.ro Acc.no]
def rows.tuDrop : List FldRow :=
  [FldRow.mk 63 0 Acc.rw Acc.rc Acc.no]
def rows.mbxPage : List FldRow :=
  [FldRow.mk 63 63 Acc.rw Acc.ro Acc.ro,
   FldRow.mk 62 43 Acc.ro Acc.ro Acc.ro,
   FldRow.mk 42 32 Acc.rw Acc.ro Acc.rw,
   FldRow.mk 31 22 Acc.ro Acc.ro Acc.ro,
   FldRow.mk 21 0 Acc.rw Acc.ro Acc.ro]
def rows.mbxDb : List FldRow :=
  [FldRow.mk 31 16 Acc.rw Acc.ro Acc.ro,
   FldRow.mk 15 11 Acc.ro Acc.ro Acc.ro,
   FldRow.mk 10 8 Acc.rw Acc.ro Acc.ro,
   FldRow.mk 7 3 Acc.ro Acc.ro Acc.ro,
   FldRow.mk 2 1 Acc.rw Acc.ro Acc.ro,
   FldRow.mk 0 0 Acc.rw Acc.ro Acc.wo]
def rows.mbxSlot : List FldRow :=
  [FldRow.mk 31 8 Acc.ro Acc.ro Acc.ro,
   FldRow.mk 7 0 Acc.rw Acc.ro Acc.w1c]
def rows.pwrStat : List FldRow :=
  [FldRow.mk 63 63 Acc.rw Acc.ro Acc.no,
   FldRow.mk 62 62 Acc.rw Acc.ro Acc.no,
   FldRow.mk 61 48 Acc.ro Acc.ro Acc.no,
   FldRow.mk 47 32 Acc.rw Acc.ro Acc.no,
   FldRow.mk 31 24 Acc.rw Acc.ro Acc.no,
   FldRow.mk 23 16 Acc.ro Acc.ro Acc.no,
   FldRow.mk 15 0 Acc.rw Acc.rc Acc.no]
def rows.pwrPortdet : List FldRow :=
  [FldRow.mk 31 2 Acc.ro Acc.ro Acc.no,
   FldRow.mk 1 1 Acc.rw Acc.w1c Acc.no,
   FldRow.mk 0 0 Acc.rw Acc.rw Acc.no]
def rows.pwrClaim : List FldRow :=
  [FldRow.mk 63 63 Acc.ro Acc.ro Acc.no,
   FldRow.mk 62 32 Acc.ro Acc.ro Acc.no,
   FldRow.mk 31 31 Acc.ro Acc.ro Acc.no,
   FldRow.mk 30 29 Acc.ro Acc.ro Acc.no,
   FldRow.mk 28 16 Acc.ro Acc.ro Acc.no,
   FldRow.mk 15 9 Acc.ro Acc.ro Acc.no,
   FldRow.mk 8 0 Acc.ro Acc.ro Acc.no]
def rows.pwrDstat : List FldRow :=
  [FldRow.mk 63 62 Acc.rw Acc.ro Acc.no,
   FldRow.mk 61 61 Acc.rw Acc.ro Acc.no,
   FldRow.mk 60 59 Acc.rw Acc.ro Acc.no,
   FldRow.mk 58 58 Acc.rw Acc.ro Acc.no,
   FldRow.mk 57 57 Acc.rw Acc.ro Acc.no,
   FldRow.mk 56 48 Acc.ro Acc.ro Acc.no,
   FldRow.mk 47 32 Acc.rw Acc.ro Acc.no,
   FldRow.mk 31 0 Acc.rw Acc.rc Acc.no]
def rows.rasStat : List FldRow :=
  [FldRow.mk 63 56 Acc.rw Acc.ro Acc.no,
   FldRow.mk 55 48 Acc.rw Acc.rc Acc.no,
   FldRow.mk 47 32 Acc.rw Acc.rc Acc.no,
   FldRow.mk 31 0 Acc.rw Acc.rc Acc.no]
def rows.rasSeq : List FldRow :=
  [FldRow.mk 63 32 Acc.rw Acc.rc Acc.no,
   FldRow.mk 31 0 Acc.rw Acc.ro Acc.no]
def rows.rasNote : List FldRow :=
  [FldRow.mk 31 31 Acc.rw Acc.rw Acc.no,
   FldRow.mk 30 13 Acc.ro Acc.ro Acc.no,
   FldRow.mk 12 11 Acc.rw Acc.rw Acc.no,
   FldRow.mk 10 0 Acc.rw Acc.rw Acc.no]
def rows.rasTmo : List FldRow :=
  [FldRow.mk 31 20 Acc.ro Acc.ro Acc.no,
   FldRow.mk 19 0 Acc.rw Acc.ro Acc.no]
def rows.rasMwdog : List FldRow :=
  [FldRow.mk 31 16 Acc.wo Acc.ro Acc.no,
   FldRow.mk 15 8 Acc.ro Acc.ro Acc.no,
   FldRow.mk 7 0 Acc.ro Acc.ro Acc.no]
def rows.icVec : List FldRow :=
  [FldRow.mk 63 32 Acc.ro Acc.ro Acc.ro,
   FldRow.mk 31 31 Acc.rw Acc.ro Acc.rw,
   FldRow.mk 30 30 Acc.rw Acc.ro Acc.rw,
   FldRow.mk 29 29 Acc.rw Acc.ro Acc.ro,
   FldRow.mk 28 20 Acc.ro Acc.ro Acc.ro,
   FldRow.mk 19 16 Acc.rw Acc.ro Acc.rw,
   FldRow.mk 15 10 Acc.ro Acc.ro Acc.ro,
   FldRow.mk 9 9 Acc.rw Acc.ro Acc.rw,
   FldRow.mk 8 8 Acc.rw Acc.ro Acc.rw,
   FldRow.mk 7 0 Acc.rw Acc.ro Acc.rw]

/-- The field rows of each register table, high bit to low. -/
def RegKind.fields : RegKind → List FldRow
  | .hubBoltcfg => rows.hubBoltcfg
  | .hubBoltstat => rows.hubBoltstat
  | .hubBoot => rows.hubBoot
  | .hubPstate => rows.hubPstate
  | .hubPwdog => rows.hubPwdog
  | .hubPwkick => rows.hubPwkick
  | .hubPfault => rows.hubPfault
  | .mcCtrl => rows.mcCtrl
  | .mcStatus => rows.mcStatus
  | .mcScrub => rows.mcScrub
  | .mcCecnt => rows.mcCecnt
  | .mcPool => rows.mcPool
  | .mcRegion => rows.mcRegion
  | .mcKvalid => rows.mcKvalid
  | .mcSpare => rows.mcSpare
  | .mcTok => rows.mcTok
  | .mcMirmap => rows.mcMirmap
  | .wrpRstat => rows.wrpRstat
  | .wrpTdly => rows.wrpTdly
  | .tilePri => rows.patPri
  | .tileAlt => rows.patAlt
  | .tileSel => rows.patSel
  | .wrpCctl => rows.wrpCctl
  | .wrpCerrcnt => rows.wrpCerrcnt
  | .wrpCohcnt => rows.wrpCohcnt
  | .wrpL3way => rows.wrpL3way
  | .wrpTwpair => rows.wrpTwpair
  | .wrpTwcnt => rows.wrpTwcnt
  | .wrpBctl => rows.wrpBctl
  | .hubPri => rows.patPri
  | .hubAlt => rows.patAlt
  | .hubSel => rows.patSel
  | .mcPri => rows.patPri
  | .mcAlt => rows.patAlt
  | .mcSel => rows.patSel
  | .wpPctl => rows.wpPctl
  | .wpPstat => rows.wpPstat
  | .wpLcnt => rows.wpLcnt
  | .wpLdly => rows.wpLdly
  | .wpEctl => rows.wpEctl
  | .wpFcfg => rows.wpFcfg
  | .wpFname => rows.wpFname
  | .wpFstat => rows.wpFstat
  | .wpRoute => rows.wpRoute
  | .wpPsel => rows.wpPsel
  | .wpBar => rows.wpBar
  | .wpBarcnt => rows.wpBarcnt
  | .neUpcfg => rows.neUpcfg
  | .nePtok => rows.nePtok
  | .neVpctl => rows.neVpctl
  | .neVpbob => rows.neVpbob
  | .neVpmac => rows.neVpmac
  | .neVpvlan => rows.neVpvlan
  | .neVpdrop => rows.neVpdrop
  | .neBctl => rows.neBctl
  | .neSqbase => rows.neSqbase
  | .neRqbase => rows.neRqbase
  | .neCqbase => rows.neCqbase
  | .neBstat => rows.neBstat
  | .neBdrop => rows.neBdrop
  | .dbSqtail => rows.dbSqtail
  | .dbRqtail => rows.dbRqtail
  | .dbCqhead => rows.dbCqhead
  | .dbArm => rows.dbArm
  | .hpCfg => rows.hpCfg
  | .hpRpctl => rows.hpRpctl
  | .hpRpstat => rows.hpRpstat
  | .hpFunc0 => rows.hpFunc0
  | .hpFunc1 => rows.hpFunc1
  | .hpHdm => rows.hpHdm
  | .hpCtok => rows.hpCtok
  | .hpCpool => rows.hpCpool
  | .cutCtrl => rows.cutCtrl
  | .cutCore => rows.cutCore
  | .cutOvr => rows.cutOvr
  | .cutContract => rows.cutContract
  | .cutPstat => rows.cutPstat
  | .tapeStat => rows.tapeStat
  | .tapeLive => rows.tapeLive
  | .tuCtrl => rows.tuCtrl
  | .tuStatus => rows.tuStatus
  | .tuTodS => rows.tuTodS
  | .tuTodNs => rows.tuTodNs
  | .tuStitch => rows.tuStitch
  | .tuFreqadj => rows.tuFreqadj
  | .tuOffset => rows.tuOffset
  | .tuPpsdly => rows.tuPpsdly
  | .tuUtcofs => rows.tuUtcofs
  | .tuDrop => rows.tuDrop
  | .mbxPage => rows.mbxPage
  | .mbxDb => rows.mbxDb
  | .mbxSlot => rows.mbxSlot
  | .pwrStat => rows.pwrStat
  | .pwrPortdet => rows.pwrPortdet
  | .pwrClaim => rows.pwrClaim
  | .pwrDstat => rows.pwrDstat
  | .rasStat => rows.rasStat
  | .rasSeq => rows.rasSeq
  | .rasNote => rows.rasNote
  | .rasTmo => rows.rasTmo
  | .rasMwdog => rows.rasMwdog
  | .icVec => rows.icVec

/-- The reset value the tables give, the same for every copy; the arrays whose copies differ are in `Reg.reset`. -/
def RegKind.reset : RegKind → Nat
  | .mcScrub => 0x18
  | .wrpCctl => 0xF0000
  | .wpFcfg => 0xFFF000000
  | .wpFstat => 0x100
  | .wpPsel => 0x4
  | .hpRpctl => 0x1AB0000000000000
  | .cutCtrl => 0x3840000
  | .cutCore => 0x1040000000
  | .tuCtrl => 0x8000C23C
  | .tuUtcofs => 0x25
  | .pwrPortdet => 0x1
  | .rasNote => 0x800
  | .rasMwdog => 0xC8
  | _ => 0

end Sys2Proof.Machine
end

