-- ==== Sys2Proof/Machine/RegFields.lean ====
section
/-! DEFINITION. The places of the named register fields, under the names the register tables give them. -/

namespace Sys2Proof.Machine.F

def hubBoltcfg.NEXT : Fld := ⟨9, 8⟩
def hubBoltcfg.CUR : Fld := ⟨1, 0⟩
def hubBoltstat.STATE0 : Fld := ⟨7, 5⟩
def hubBoltstat.HOST0 : Fld := ⟨4, 4⟩
def hubBoltstat.RESETS0 : Fld := ⟨3, 0⟩
def hubBoltstat.STATE1 : Fld := ⟨15, 13⟩
def hubBoltstat.HOST1 : Fld := ⟨12, 12⟩
def hubBoltstat.RESETS1 : Fld := ⟨11, 8⟩
def hubBoltstat.STATE2 : Fld := ⟨23, 21⟩
def hubBoltstat.HOST2 : Fld := ⟨20, 20⟩
def hubBoltstat.RESETS2 : Fld := ⟨19, 16⟩
def hubBoltstat.STATE3 : Fld := ⟨31, 29⟩
def hubBoltstat.HOST3 : Fld := ⟨28, 28⟩
def hubBoltstat.RESETS3 : Fld := ⟨27, 24⟩
def hubBoot.PHASE : Fld := ⟨31, 28⟩
def hubBoot.SAFEHOLD : Fld := ⟨27, 27⟩
def hubBoot.DEGRADED : Fld := ⟨26, 26⟩
def hubBoot.WARM : Fld := ⟨25, 25⟩
def hubBoot.SCAN : Fld := ⟨24, 24⟩
def hubBoot.NENT : Fld := ⟨10, 0⟩
def hubPstate.PANEL : Fld := ⟨20, 12⟩
def hubPstate.SEALED : Fld := ⟨11, 11⟩
def hubPstate.TWIN : Fld := ⟨10, 10⟩
def hubPstate.SPAN : Fld := ⟨9, 9⟩
def hubPstate.SELFRESET : Fld := ⟨8, 8⟩
def hubPstate.STATE : Fld := ⟨2, 0⟩
def hubPwdog.PERIOD : Fld := ⟨31, 16⟩
def hubPwdog.REMAIN : Fld := ⟨15, 0⟩
def hubPwkick.KICK : Fld := ⟨7, 0⟩
def hubPfault.CAUSE : Fld := ⟨31, 24⟩
def hubPfault.RESETS : Fld := ⟨23, 16⟩
def mcCtrl.EN : Fld := ⟨31, 31⟩
def mcCtrl.PARTNER : Fld := ⟨12, 8⟩
def mcCtrl.LISTIDX : Fld := ⟨4, 0⟩
def mcStatus.TRAINED : Fld := ⟨31, 31⟩
def mcStatus.FAILED : Fld := ⟨30, 30⟩
def mcStatus.SPUSED : Fld := ⟨28, 20⟩
def mcStatus.TDEV1 : Fld := ⟨15, 8⟩
def mcStatus.TDEV0 : Fld := ⟨7, 0⟩
def mcScrub.ROW : Fld := ⟨31, 10⟩
def mcScrub.PERIOD : Fld := ⟨7, 0⟩
def mcCecnt.CORR : Fld := ⟨31, 16⟩
def mcCecnt.UNCOR : Fld := ⟨15, 8⟩
def mcCecnt.ADDRERR : Fld := ⟨7, 0⟩
def mcPool.POOL : Fld := ⟨15, 0⟩
def mcRegion.EN : Fld := ⟨63, 63⟩
def mcRegion.OWNER : Fld := ⟨62, 60⟩
def mcRegion.BOLT : Fld := ⟨59, 58⟩
def mcRegion.LIMIT : Fld := ⟨53, 32⟩
def mcRegion.BASE : Fld := ⟨21, 0⟩
def mcKvalid.VALID : Fld := ⟨31, 0⟩
def mcSpare.V : Fld := ⟨31, 31⟩
def mcSpare.BAD : Fld := ⟨30, 30⟩
def mcSpare.ROW : Fld := ⟨21, 0⟩
def mcTok.GRANT : Fld := ⟨31, 16⟩
def mcTok.REMAIN : Fld := ⟨15, 0⟩
def mcMirmap.MIR : Fld := ⟨63, 0⟩
def wrpRstat.RETRY : Fld := ⟨31, 24⟩
def wrpRstat.BADHDR : Fld := ⟨23, 16⟩
def wrpRstat.MISSB : Fld := ⟨15, 8⟩
def wrpRstat.GATEF : Fld := ⟨4, 4⟩
def wrpRstat.MYF : Fld := ⟨3, 3⟩
def wrpRstat.PYF : Fld := ⟨2, 2⟩
def wrpRstat.MXF : Fld := ⟨1, 1⟩
def wrpRstat.PXF : Fld := ⟨0, 0⟩
def wrpTdly.DELAY : Fld := ⟨15, 0⟩
def patPri.PRI : Fld := ⟨31, 0⟩
def patAlt.ALT : Fld := ⟨31, 0⟩
def patSel.PEND : Fld := ⟨1, 1⟩
def patSel.SEL : Fld := ⟨0, 0⟩
def wrpCctl.INV_DIR : Fld := ⟨19, 19⟩
def wrpCctl.INV_L3 : Fld := ⟨18, 18⟩
def wrpCctl.INV_L2 : Fld := ⟨17, 17⟩
def wrpCctl.INV_L1 : Fld := ⟨16, 16⟩
def wrpCctl.L3_EN : Fld := ⟨3, 3⟩
def wrpCctl.L2_EN : Fld := ⟨2, 2⟩
def wrpCctl.L1D_EN : Fld := ⟨1, 1⟩
def wrpCctl.L1I_EN : Fld := ⟨0, 0⟩
def wrpCerrcnt.L1PAR : Fld := ⟨31, 24⟩
def wrpCerrcnt.L2COR : Fld := ⟨23, 16⟩
def wrpCerrcnt.L3COR : Fld := ⟨15, 8⟩
def wrpCerrcnt.UNCOR : Fld := ⟨7, 0⟩
def wrpCohcnt.RETRY : Fld := ⟨31, 16⟩
def wrpCohcnt.RSV : Fld := ⟨15, 8⟩
def wrpCohcnt.DVICT : Fld := ⟨7, 0⟩
def wrpL3way.LOCK : Fld := ⟨31, 16⟩
def wrpL3way.ALLOC : Fld := ⟨15, 0⟩
def wrpTwpair.EN : Fld := ⟨63, 63⟩
def wrpTwpair.CHK : Fld := ⟨62, 62⟩
def wrpTwpair.PARTNER : Fld := ⟨61, 54⟩
def wrpTwpair.PANEL : Fld := ⟨53, 45⟩
def wrpTwpair.SEAT : Fld := ⟨44, 37⟩
def wrpTwcnt.MISM : Fld := ⟨63, 48⟩
def wrpTwcnt.CLEAN : Fld := ⟨47, 32⟩
def wrpTwcnt.CMP : Fld := ⟨31, 0⟩
def wrpBctl.FENCE : Fld := ⟨8, 8⟩
def wrpBctl.GATEF : Fld := ⟨7, 0⟩
def wpPctl.ROLE : Fld := ⟨31, 30⟩
def wpPctl.DIM : Fld := ⟨29, 28⟩
def wpPctl.DIR : Fld := ⟨27, 27⟩
def wpPctl.DATELINE : Fld := ⟨26, 26⟩
def wpPctl.RETRAIN : Fld := ⟨25, 25⟩
def wpPstat.STATE : Fld := ⟨31, 28⟩
def wpPstat.PEER : Fld := ⟨27, 16⟩
def wpPstat.PEERPORT : Fld := ⟨15, 13⟩
def wpPstat.FAILS : Fld := ⟨7, 0⟩
def wpLcnt.REPLAY : Fld := ⟨63, 48⟩
def wpLcnt.CRCERR : Fld := ⟨47, 32⟩
def wpLcnt.DISCARD : Fld := ⟨31, 16⟩
def wpLdly.DELAY : Fld := ⟨15, 0⟩
def wpEctl.MODE : Fld := ⟨31, 30⟩
def wpEctl.PMD : Fld := ⟨29, 28⟩
def wpEctl.LINKUP : Fld := ⟨27, 24⟩
def wpFcfg.MYID : Fld := ⟨47, 36⟩
def wpFcfg.KX : Fld := ⟨35, 32⟩
def wpFcfg.KY : Fld := ⟨31, 28⟩
def wpFcfg.KZ : Fld := ⟨27, 24⟩
def wpFcfg.EN : Fld := ⟨0, 0⟩
def wpFname.FNAME : Fld := ⟨63, 0⟩
def wpFstat.REACH : Fld := ⟨20, 8⟩
def wpFstat.REPAIRS : Fld := ⟨7, 0⟩
def wpRoute.ROUTE : Fld := ⟨31, 0⟩
def wpPsel.PEND : Fld := ⟨3, 3⟩
def wpPsel.UNREACH : Fld := ⟨2, 2⟩
def wpPsel.SEL : Fld := ⟨1, 0⟩
def wpBar.ROOT : Fld := ⟨63, 52⟩
def wpBar.RCTX : Fld := ⟨51, 46⟩
def wpBar.COUNT : Fld := ⟨45, 33⟩
def wpBar.GEN : Fld := ⟨32, 25⟩
def wpBar.PANEL : Fld := ⟨22, 14⟩
def wpBar.VECTOR : Fld := ⟨13, 3⟩
def wpBar.LATE : Fld := ⟨2, 2⟩
def wpBar.DONE : Fld := ⟨1, 1⟩
def wpBar.ARRIVE : Fld := ⟨0, 0⟩
def wpBarcnt.ARRIVED : Fld := ⟨12, 0⟩
def neUpcfg.EN : Fld := ⟨63, 63⟩
def neUpcfg.SWD : Fld := ⟨62, 51⟩
def neUpcfg.DECAP : Fld := ⟨50, 50⟩
def nePtok.POOLEN : Fld := ⟨63, 63⟩
def nePtok.GRANT : Fld := ⟨51, 32⟩
def nePtok.REMAIN : Fld := ⟨19, 0⟩
def neVpctl.EN : Fld := ⟨63, 63⟩
def neVpctl.PANEL : Fld := ⟨62, 54⟩
def neVpctl.SWD : Fld := ⟨53, 42⟩
def neVpctl.PVID : Fld := ⟨41, 30⟩
def neVpctl.TAGGED : Fld := ⟨29, 29⟩
def neVpctl.UPLEN : Fld := ⟨28, 28⟩
def neVpctl.UPL : Fld := ⟨27, 23⟩
def neVpctl.TMPL : Fld := ⟨22, 13⟩
def neVpbob.RSSN : Fld := ⟨15, 14⟩
def neVpbob.DEFBOB : Fld := ⟨13, 0⟩
def neVpmac.V : Fld := ⟨63, 63⟩
def neVpmac.MAC : Fld := ⟨47, 0⟩
def neVpvlan.V : Fld := ⟨15, 15⟩
def neVpvlan.VID : Fld := ⟨11, 0⟩
def neVpdrop.RX : Fld := ⟨63, 32⟩
def neVpdrop.TX : Fld := ⟨31, 0⟩
def neBctl.EN : Fld := ⟨63, 63⟩
def neBctl.STATE : Fld := ⟨62, 61⟩
def neBctl.PANEL : Fld := ⟨60, 52⟩
def neBctl.VP : Fld := ⟨51, 40⟩
def neBctl.RBSZ : Fld := ⟨39, 38⟩
def neBctl.MSGEN : Fld := ⟨37, 37⟩
def neBctl.SQLOG : Fld := ⟨36, 33⟩
def neBctl.RQLOG : Fld := ⟨32, 29⟩
def neBctl.CQLOG : Fld := ⟨28, 25⟩
def neBctl.VECTOR : Fld := ⟨24, 14⟩
def neBctl.RESETS : Fld := ⟨13, 6⟩
def neSqbase.BASE : Fld := ⟨63, 6⟩
def neRqbase.BASE : Fld := ⟨63, 6⟩
def neCqbase.BASE : Fld := ⟨63, 6⟩
def neBstat.SQHEAD : Fld := ⟨63, 48⟩
def neBstat.RQHEAD : Fld := ⟨47, 32⟩
def neBstat.CQTAIL : Fld := ⟨31, 16⟩
def neBstat.CAUSE : Fld := ⟨15, 8⟩
def neBdrop.NOBUF : Fld := ⟨63, 32⟩
def neBdrop.CQFULL : Fld := ⟨31, 0⟩
def dbSqtail.INDEX : Fld := ⟨15, 0⟩
def dbRqtail.INDEX : Fld := ⟨15, 0⟩
def dbCqhead.INDEX : Fld := ⟨15, 0⟩
def dbArm.INDEX : Fld := ⟨15, 0⟩
def hpCfg.EN : Fld := ⟨31, 31⟩
def hpCfg.BIF : Fld := ⟨30, 28⟩
def hpCfg.CXLMASK : Fld := ⟨27, 24⟩
def hpRpctl.EN : Fld := ⟨63, 63⟩
def hpRpctl.RETRAIN : Fld := ⟨62, 62⟩
def hpRpctl.CTO : Fld := ⟨61, 59⟩
def hpRpctl.MPS : Fld := ⟨58, 56⟩
def hpRpctl.MRRS : Fld := ⟨55, 53⟩
def hpRpctl.L1EN : Fld := ⟨52, 52⟩
def hpRpstat.STATE : Fld := ⟨63, 60⟩
def hpRpstat.WIDTH : Fld := ⟨59, 57⟩
def hpRpstat.SPEED : Fld := ⟨56, 54⟩
def hpRpstat.CXL : Fld := ⟨53, 53⟩
def hpRpstat.CTOCNT : Fld := ⟨31, 16⟩
def hpRpstat.URCNT : Fld := ⟨15, 0⟩
def hpFunc0.V : Fld := ⟨63, 63⟩
def hpFunc0.PANEL : Fld := ⟨62, 54⟩
def hpFunc0.RP : Fld := ⟨53, 50⟩
def hpFunc0.RID : Fld := ⟨49, 34⟩
def hpFunc0.ROK : Fld := ⟨33, 33⟩
def hpFunc0.BME : Fld := ⟨32, 32⟩
def hpFunc0.FLR : Fld := ⟨31, 31⟩
def hpFunc1.WLIMIT : Fld := ⟨49, 32⟩
def hpFunc1.WBASE : Fld := ⟨17, 0⟩
def hpHdm.EN : Fld := ⟨63, 63⟩
def hpHdm.LIMIT : Fld := ⟨45, 32⟩
def hpHdm.BASE : Fld := ⟨13, 0⟩
def hpCtok.GRANT : Fld := ⟨31, 16⟩
def hpCtok.REMAIN : Fld := ⟨15, 0⟩
def hpCpool.POOL : Fld := ⟨15, 0⟩
def cutCtrl.EN : Fld := ⟨31, 31⟩
def cutCtrl.PCAP : Fld := ⟨25, 16⟩
def cutCore.G : Fld := ⟨63, 63⟩
def cutCore.SH : Fld := ⟨62, 62⟩
def cutCore.OVR : Fld := ⟨61, 61⟩
def cutCore.WH : Fld := ⟨60, 60⟩
def cutCore.PANEL : Fld := ⟨59, 51⟩
def cutCore.SEAT : Fld := ⟨50, 43⟩
def cutCore.RUN : Fld := ⟨42, 39⟩
def cutCore.FREQ : Fld := ⟨38, 33⟩
def cutCore.TARGET : Fld := ⟨32, 27⟩
def cutOvr.EN : Fld := ⟨63, 63⟩
def cutOvr.WITHHOLD : Fld := ⟨62, 62⟩
def cutOvr.PANEL : Fld := ⟨61, 53⟩
def cutOvr.SEAT : Fld := ⟨52, 45⟩
def cutContract.WORD : Fld := ⟨63, 0⟩
def cutPstat.CORES : Fld := ⟨63, 56⟩
def cutPstat.DEMAND : Fld := ⟨55, 48⟩
def cutPstat.SHORT : Fld := ⟨47, 47⟩
def tapeStat.SEQ : Fld := ⟨63, 32⟩
def tapeStat.PEND : Fld := ⟨31, 31⟩
def tapeStat.NACC : Fld := ⟨10, 0⟩
def tapeLive.WORD : Fld := ⟨63, 0⟩
def tuCtrl.PRIO1 : Fld := ⟨31, 24⟩
def tuCtrl.PTPDOM : Fld := ⟨23, 16⟩
def tuCtrl.PTP_UPL : Fld := ⟨15, 11⟩
def tuCtrl.PTP_UPLINK : Fld := ⟨10, 10⟩
def tuCtrl.PTP_VP : Fld := ⟨9, 9⟩
def tuCtrl.PTP_2STEP : Fld := ⟨8, 8⟩
def tuCtrl.PTP_P2P : Fld := ⟨7, 7⟩
def tuCtrl.PPS_FREE : Fld := ⟨6, 6⟩
def tuCtrl.REF10M_OUT_EN : Fld := ⟨5, 5⟩
def tuCtrl.PPS_OUT_EN : Fld := ⟨4, 4⟩
def tuCtrl.MASTER_ELIG : Fld := ⟨3, 3⟩
def tuCtrl.FABTIME : Fld := ⟨2, 2⟩
def tuCtrl.REFSEL : Fld := ⟨1, 0⟩
def tuStatus.COMMITTED : Fld := ⟨31, 31⟩
def tuStatus.TIME_FAULT : Fld := ⟨30, 30⟩
def tuStatus.ALIGN_FAULT : Fld := ⟨29, 29⟩
def tuStatus.REF_LOST : Fld := ⟨28, 28⟩
def tuStatus.MASTER_ID : Fld := ⟨23, 12⟩
def tuStatus.IS_MASTER : Fld := ⟨11, 11⟩
def tuStatus.OWNSTATE : Fld := ⟨5, 3⟩
def tuStatus.STATE : Fld := ⟨2, 0⟩
def tuTodS.SECONDS : Fld := ⟨47, 0⟩
def tuTodNs.NS : Fld := ⟨47, 16⟩
def tuTodNs.FRAC : Fld := ⟨15, 0⟩
def tuStitch.STITCH : Fld := ⟨63, 0⟩
def tuFreqadj.FREQADJ : Fld := ⟨31, 0⟩
def tuOffset.OFFSET : Fld := ⟨31, 0⟩
def tuPpsdly.PPSDLY : Fld := ⟨31, 0⟩
def tuUtcofs.UTC_VALID : Fld := ⟨18, 18⟩
def tuUtcofs.LI59 : Fld := ⟨17, 17⟩
def tuUtcofs.LI61 : Fld := ⟨16, 16⟩
def tuUtcofs.OFS : Fld := ⟨15, 0⟩
def tuDrop.COUNT : Fld := ⟨63, 0⟩
def mbxPage.EN : Fld := ⟨63, 63⟩
def mbxPage.VECTOR : Fld := ⟨42, 32⟩
def mbxPage.GRANULE : Fld := ⟨21, 0⟩
def mbxDb.STATUS : Fld := ⟨31, 16⟩
def mbxDb.SLOT : Fld := ⟨10, 8⟩
def mbxDb.STATE : Fld := ⟨2, 1⟩
def mbxDb.RING : Fld := ⟨0, 0⟩
def mbxSlot.HELD : Fld := ⟨7, 0⟩
def pwrStat.EMERG : Fld := ⟨63, 63⟩
def pwrStat.TALERT : Fld := ⟨62, 62⟩
def pwrStat.PIN : Fld := ⟨47, 32⟩
def pwrStat.TMAX : Fld := ⟨31, 24⟩
def pwrStat.EMCNT : Fld := ⟨15, 0⟩
def pwrPortdet.SEEN : Fld := ⟨1, 1⟩
def pwrPortdet.STICKY : Fld := ⟨0, 0⟩
def pwrClaim.EN : Fld := ⟨63, 63⟩
def pwrClaim.HELD : Fld := ⟨31, 31⟩
def pwrClaim.HTARGET : Fld := ⟨30, 29⟩
def pwrClaim.AGE : Fld := ⟨15, 9⟩
def pwrClaim.DOMAIN : Fld := ⟨8, 0⟩
def pwrDstat.CUR : Fld := ⟨63, 62⟩
def pwrDstat.GATED : Fld := ⟨61, 61⟩
def pwrDstat.OCK : Fld := ⟨60, 59⟩
def pwrDstat.TLIM : Fld := ⟨58, 58⟩
def pwrDstat.BUSY : Fld := ⟨57, 57⟩
def pwrDstat.BROWN : Fld := ⟨47, 32⟩
def pwrDstat.TRANS : Fld := ⟨31, 0⟩
def rasStat.FATAL : Fld := ⟨63, 56⟩
def rasStat.BOLT : Fld := ⟨55, 48⟩
def rasStat.PANEL : Fld := ⟨47, 32⟩
def rasStat.CORR : Fld := ⟨31, 0⟩
def rasSeq.LOST : Fld := ⟨63, 32⟩
def rasSeq.LAST : Fld := ⟨31, 0⟩
def rasNote.EN : Fld := ⟨31, 31⟩
def rasNote.MINCLASS : Fld := ⟨12, 11⟩
def rasNote.VECTOR : Fld := ⟨10, 0⟩
def rasTmo.VALUE : Fld := ⟨19, 0⟩
def rasMwdog.KICK : Fld := ⟨31, 16⟩
def rasMwdog.REMAIN : Fld := ⟨7, 0⟩
def icVec.EN : Fld := ⟨31, 31⟩
def icVec.PEND : Fld := ⟨30, 30⟩
def icVec.ACTIVE : Fld := ⟨29, 29⟩
def icVec.PRIO : Fld := ⟨19, 16⟩
def icVec.HLVL : Fld := ⟨9, 9⟩
def icVec.THR : Fld := ⟨8, 8⟩
def icVec.SEAT : Fld := ⟨7, 0⟩
def crSTATUS.FFLAGS : Fld := ⟨24, 20⟩
def crSTATUS.FRM : Fld := ⟨19, 17⟩
def crSTATUS.UACC : Fld := ⟨16, 16⟩
def crSTATUS.UCTR : Fld := ⟨15, 15⟩
def crSTATUS.UTR : Fld := ⟨14, 14⟩
def crSTATUS.IPL : Fld := ⟨13, 10⟩
def crSTATUS.HEXL : Fld := ⟨9, 9⟩
def crSTATUS.SEXL : Fld := ⟨8, 8⟩
def crSTATUS.HPIE : Fld := ⟨7, 7⟩
def crSTATUS.SPIE : Fld := ⟨6, 6⟩
def crSTATUS.IE : Fld := ⟨5, 5⟩
def crSTATUS.HPP : Fld := ⟨4, 3⟩
def crSTATUS.SPP : Fld := ⟨2, 2⟩
def crSTATUS.PL : Fld := ⟨1, 0⟩
def crECAUSE.CODE : Fld := ⟨31, 20⟩
def crECAUSE.SEC : Fld := ⟨17, 17⟩
def crECAUSE.NEST : Fld := ⟨16, 16⟩
def crECAUSE.SUB : Fld := ⟨15, 8⟩
def crECAUSE.CAUSE : Fld := ⟨7, 0⟩
def crEPC.ADDR : Fld := ⟨63, 2⟩
def crEVEC.BASE : Fld := ⟨63, 12⟩
def crTHREAD.SWID : Fld := ⟨63, 32⟩
def crTHREAD.T : Fld := ⟨16, 16⟩
def crTHREAD.SEAT : Fld := ⟨7, 0⟩
def crPWRMODE.PORTW : Fld := ⟨10, 10⟩
def crPWRMODE.STITCHW : Fld := ⟨9, 9⟩
def crPWRMODE.IRQW : Fld := ⟨8, 8⟩
def crPWRMODE.WAKE_PENDING : Fld := ⟨2, 2⟩
def crPWRMODE.TARGET : Fld := ⟨1, 0⟩
def crCLKSEL.PLLOK : Fld := ⟨1, 1⟩
def crCLKSEL.SRC : Fld := ⟨0, 0⟩
def crHINTCTL.RSEN : Fld := ⟨2, 2⟩
def crHINTCTL.ITCEN : Fld := ⟨1, 1⟩
def crHINTCTL.OVREN : Fld := ⟨0, 0⟩
def crIFCTL.NOSPECLD : Fld := ⟨2, 2⟩
def crIFCTL.DPFEN : Fld := ⟨1, 1⟩
def crIFCTL.IPFEN : Fld := ⟨0, 0⟩
def crPTBASE.ASID : Fld := ⟨63, 52⟩
def crPTBASE.ROOT : Fld := ⟨51, 12⟩
def crPTBASE.TEN : Fld := ⟨0, 0⟩
def crMCHK.CODE : Fld := ⟨55, 48⟩
def crMCHK.UCLASS : Fld := ⟨47, 40⟩
def crMCHK.UINDEX : Fld := ⟨39, 16⟩
def crMCHK.OVF : Fld := ⟨3, 3⟩
def crMCHK.PRECISE : Fld := ⟨2, 2⟩
def crMCHK.POISON : Fld := ⟨1, 1⟩
def crMCHK.VALID : Fld := ⟨0, 0⟩
def crTWIN.CMPCNT : Fld := ⟨63, 32⟩
def crTWIN.CMPREQ : Fld := ⟨1, 1⟩
def crTWIN.PAIRED : Fld := ⟨0, 0⟩

end Sys2Proof.Machine.F
end

