-- ==== Sys2Proof/Machine/SMap.lean ====
section
/-! DEFINITION. Sparse tables: a list of (key, value) pairs with strictly rising keys in which no entry
equals what an unlisted key reads as. Every table of the machine (registers, memory, per-panel,
per-core and per-line state) is one of these, so equal tables are equal data. -/

namespace Sys2Proof.Machine

/-- A sparse table keyed by a natural number. -/
abbrev SMap (α : Type) := List (Nat × α)

/-- The entry listed at a key, if there is one. -/
def SMap.find {α : Type} : SMap α → Nat → Option α
  | [], _ => none
  | (j, v) :: m, k => if j = k then some v else SMap.find m k

/-- The value at a key: the listed one, or the default `d k`. -/
def SMap.get {α : Type} (d : Nat → α) (m : SMap α) (k : Nat) : α :=
  (SMap.find m k).getD (d k)

/-- The table without its entry at `k`. -/
def SMap.remove {α : Type} : SMap α → Nat → SMap α
  | [], _ => []
  | (j, v) :: m, k => if j = k then SMap.remove m k else (j, v) :: SMap.remove m k

/-- The table with `v` listed at `k`, keys kept rising. -/
def SMap.insert {α : Type} : SMap α → Nat → α → SMap α
  | [], k, v => [(k, v)]
  | (j, w) :: m, k, v =>
    if k < j then (k, v) :: (j, w) :: m
    else if k = j then (k, v) :: m
    else (j, w) :: SMap.insert m k v

/-- The table that reads `v` at `k`: writing the default takes the entry out. -/
def SMap.put {α : Type} [DecidableEq α] (d : Nat → α) (m : SMap α) (k : Nat) (v : α) : SMap α :=
  if v = d k then SMap.remove m k else SMap.insert m k v

/-- Change the value at `k` by `f`. -/
def SMap.modify {α : Type} [DecidableEq α] (d : Nat → α) (m : SMap α) (k : Nat) (f : α → α) : SMap α :=
  SMap.put d m k (f (SMap.get d m k))

/-- Change every listed value by `f` (defaults are not touched), dropping what became a default. -/
def SMap.mapListed {α : Type} [DecidableEq α] (d : Nat → α) (m : SMap α) (f : Nat → α → α) : SMap α :=
  (m.map (fun e => (e.1, f e.1 e.2))).filter (fun e => e.2 ≠ d e.1)

/-- Keep the entries whose key and value satisfy `p`; the others read as the default again. -/
def SMap.keep {α : Type} (m : SMap α) (p : Nat → α → Bool) : SMap α :=
  m.filter (fun e => p e.1 e.2)

/-- The keys rise strictly from above `lo`. -/
def SMap.risingFrom {α : Type} : Nat → SMap α → Bool
  | _, [] => true
  | lo, (k, _) :: m => decide (lo ≤ k) && SMap.risingFrom (k + 1) m

/-- The canonical form: keys strictly rising, no entry equal to the default. -/
def SMap.wf {α : Type} [DecidableEq α] (d : Nat → α) (m : SMap α) : Bool :=
  SMap.risingFrom 0 m && m.all (fun e => decide (e.2 ≠ d e.1))

end Sys2Proof.Machine
end

