-- ==== Sys2Proof/Machine/Reg.lean ====
section
/-! DEFINITION. One memory-mapped register of an array, its address and its reset value, and the file of all of
them: a sparse table by physical address in which an unlisted register holds its reset value. -/

namespace Sys2Proof.Machine

/-- One register: an array and its two indices. -/
structure Reg where
  kind : RegKind
  i : Nat := 0
  j : Nat := 0
  deriving DecidableEq, Repr

/-- The register's physical address. -/
def Reg.addr (r : Reg) : Nat := r.kind.place.base + r.kind.place.s1 * r.i + r.kind.place.s2 * r.j

/-- The register's width in bits. -/
def Reg.width (r : Reg) : Nat := r.kind.place.width

/-- The reset value: the table's, with the copies that differ: MC.CTRL.PARTNER (Table MEM-12), RAS.TMOn
(Table ERR-4), WP.PCTL (Table WFT-14), PWR.DSTAT (Table PWR-6). -/
def Reg.reset (r : Reg) : Nat :=
  match r.kind with
  | .mcCtrl => (r.i + 12) % 24 * 256
  | .rasTmo => [1, 2, 5, 10, 200, 1000].getD r.i 0
  | .wpPctl => if r.i < 6 then 2 ^ 30 + r.i / 2 * 2 ^ 28 + r.i % 2 * 2 ^ 27 else 2 ^ 31 + r.i % 2 * 2 ^ 27
  | .pwrDstat => if r.i < 425 then 2 ^ 63 else 0
  | k => k.reset

/-- Whether an address offset is copy (i, j) of an array, and which. -/
def Place.find (p : Place) (a : Nat) : Option (Nat × Nat) :=
  if a < p.base then none else
  let off := a - p.base
  let i := if p.n1 ≤ 1 then 0 else off / p.s1
  let r := if p.n1 ≤ 1 then off else off % p.s1
  let j := if p.n2 ≤ 1 then 0 else r / p.s2
  let q := if p.n2 ≤ 1 then r else r % p.s2
  if i < p.n1 ∧ j < p.n2 ∧ q = 0 then some (i, j) else none

/-- The register at a physical address, if one lies there. -/
def Reg.ofAddr (a : Nat) : Option Reg :=
  RegKind.all.findSome? fun k => (k.place.find a).map fun ij => { kind := k, i := ij.1, j := ij.2 }

/-- Whether the register exists: its indices lie within the array. -/
def Reg.ok (r : Reg) : Bool := decide (r.i < r.kind.place.n1) && decide (r.j < r.kind.place.n2)

/-- The register file: values by physical address; an unlisted register reads as its reset value. -/
abbrev RegFile := SMap Nat

/-- The value a register holds, within its width. -/
def RegFile.read (m : RegFile) (r : Reg) : Nat := (SMap.find m r.addr).getD r.reset % 2 ^ r.width

/-- Store a value, cut to the register's width. -/
def RegFile.write (m : RegFile) (r : Reg) (v : Nat) : RegFile :=
  let w := v % 2 ^ r.width
  if w = r.reset then SMap.remove m r.addr else SMap.insert m r.addr w

/-- A field of a register value. -/
def Fld.get (f : Fld) (v : Nat) : Nat := bits v f.hi f.lo
/-- A register value with a field replaced. -/
def Fld.set (f : Fld) (v x : Nat) : Nat := setBits v f.hi f.lo x
/-- The greatest value a field holds. -/
def Fld.top (f : Fld) : Nat := 2 ^ (f.hi + 1 - f.lo) - 1

/-- The owner on whose code an access runs (R13, R492). -/
inductive Owner where
  | thimble | host | panelSw
  /-- The host manager on panel 0's own registers, holding H and P together (R492). -/
  | hostOnPanel0
  deriving DecidableEq, Repr

def Acc.writes : Acc → Bool
  | .rw | .wo | .w1c | .w1s => true
  | _ => false

/-- The code a read runs under. -/
def FldRow.readAcc (f : FldRow) : Owner → Acc
  | .thimble => f.t
  | .host => f.h
  | .panelSw => f.p
  | .hostOnPanel0 => if f.h = .no then f.p else f.h

/-- The code a write runs under (R492: the P code when it allows a write, else the H code). -/
def FldRow.writeAcc (f : FldRow) : Owner → Acc
  | .thimble => f.t
  | .host => f.h
  | .panelSw => f.p
  | .hostOnPanel0 => if f.p.writes || f.h = .no then f.p else f.h

/-- A field's bits in place. -/
def FldRow.mask (f : FldRow) : Nat := (2 ^ (f.hi + 1 - f.lo) - 1) * 2 ^ f.lo

/-- What a read returns: WO fields read zero (R13). -/
def RegKind.readValue (k : RegKind) (o : Owner) (v : Nat) : Nat :=
  (k.fields.map fun f => match f.readAcc o with
    | .no | .wo => 0
    | _ => v &&& f.mask).sum

/-- What a read leaves: the bits of RC fields that it has returned are cleared (R13); `seen` masks the bytes that the access
covers. (DESIGN CHOICE, log entry 109.) -/
def RegKind.afterRead (k : RegKind) (o : Owner) (seen v : Nat) : Nat :=
  (k.fields.map fun f => match f.readAcc o with
    | .rc => (v &&& f.mask) - (v &&& f.mask &&& seen)
    | _ => v &&& f.mask).sum

/-- Whether the access column lists the owner at all (R15). -/
def RegKind.listed (k : RegKind) (o : Owner) : Bool :=
  k.fields.any fun f => f.readAcc o ≠ .no || f.writeAcc o ≠ .no

end Sys2Proof.Machine
end

