-- ==== Sys2Proof/Machine/CoreTypes.lean ====
section
/-! DEFINITION. A core, its two threads and what they hold (R62, R81, R94, R100, R103, R104, R118), and the
seat records that hold a thread while it is not on a core (Table PNL-7, PNL-8). -/

namespace Sys2Proof.Machine

/-- Memory types (Table ISA-25, MT). -/
inductive MemType where
  | wb | wc | dev
  deriving DecidableEq, Repr

/-- A load's result form: bytes, sign extension, destination. -/
inductive LoadDest where
  /-- `rd` of a scalar load, with its size in bytes and whether it is sign-extended (R68). -/
  | gpr (rd size : Nat) (signed : Bool)
  /-- A mask register (KLD). -/
  | kreg (kd w : Nat)
  /-- The active elements of a vector register in ascending order (VLD, VGATHER): width code, mask, Z. -/
  | vreg (vd w : Nat) (mask : Word) (z : Bool)
  /-- One element to every active element (VLDB). -/
  | bcast (vd w : Nat) (mask : Word) (z : Bool)
  deriving DecidableEq, Repr

/-- What lies at a physical address. -/
inductive Target where
  | prot
  | cxl (r : Nat)
  | reg (r : Reg)
  /-- The register range where no register lies. -/
  | noReg
  /-- The interrupt message address (R300). -/
  | intMsg
  | aperture (m off : Nat)
  | ecam (r off : Nat)
  | window (r off : Nat)
  | none
  deriving DecidableEq, Repr

/-- The result of a translation: the physical address, its type and target. -/
structure Xlat where
  pa     : Nat
  mt     : MemType
  target : Target
  /-- The home bolt of the granule (R155). -/
  bolt   : Nat := 0
  deriving DecidableEq, Repr

/-- One checked part of an access: virtual address, translation, bytes. -/
structure Half where
  va : Word
  x  : Xlat
  n  : Nat
  deriving DecidableEq, Repr

/-- An access whose answer comes from outside the module: the thread's oldest instruction waits for it
(R119, R250, R415). The bytes already read and the parts still to be read of a load; a store has no destination. -/
structure Stall where
  dest   : Option LoadDest
  /-- Physical address of the access's first byte. -/
  pa     : Nat
  cur    : Half
  got    : List Byte
  rest   : List Half
  deriving DecidableEq, Repr

/-- A TLB entry (R94, R95): the page, its root's ASID, its type and the effective permission. -/
structure TlbEntry where
  asid : Nat
  glob : Bool
  va   : Nat
  size : Nat
  pa   : Nat
  mt   : MemType
  r    : Bool
  w    : Bool
  x    : Bool
  /-- The granule refuses a permission that PERM grants: such a refusal is subcause 0x02. -/
  potR : Bool
  potW : Bool
  potX : Bool
  user : Bool
  dirty : Bool
  /-- Level H root (HPTBASE) or the S/U root (PTBASE). -/
  hroot : Bool
  /-- The home bolt of the granule (R155). -/
  bolt  : Nat := 0
  deriving DecidableEq, Repr

/-- A record of the load-value queue (Table TWN-3): 8 bytes of a value; an entry taken at an instruction boundary with
the instruction count at which it was taken; or a debugger's change at a count (R438): to a general register (0), the pc (1),
a control register (2) or memory (3). -/
inductive LvqRec where
  | value (v : Nat)
  | debug (count kind idx v : Nat)
  | entry (count lvl cause sub code : Nat) (sec : Bool) (eaddr : Word) (mchk : Option Word)
  deriving DecidableEq, Repr

/-- The state of one hardware thread. Control registers are held by their Table ISA-9 number, the S bank of
0x001–0x005 at 0x101–0x105. -/
structure Thread where
  g        : SMap Word
  v        : SMap VWord
  k        : SMap Word
  pc       : Word
  cr       : SMap Word
  /-- The thread has been started (R43). -/
  started  : Bool
  /-- The thread is in WAIT (R77). -/
  waiting  : Bool
  /-- A debugger holds the thread (R415). -/
  halted   : Bool
  /-- It halts again after one instruction. -/
  stepping : Bool
  stall    : Option Stall
  /-- The thread retired an instruction or made an entry in this stitch (R415). -/
  retired  : Bool
  noRetire : Nat
  /-- The return stack, youngest first: target and valid bit (R104). -/
  retStack : List (Nat × Bool)
  /-- Bytes held in write-combining buffers, by physical address (R118). -/
  wc       : SMap Byte
  /-- A store or DEV store was answered ERRCMP or WERR: an imprecise check is due (R409). -/
  imprecise : Option Nat
  /-- Twin-needle: this thread's running signature and instructions since the last compare (R429, R430). -/
  sig      : Nat
  sinceCmp : Nat
  /-- A compare is forced before the thread retires more (R432). -/
  forced   : Bool
  /-- The compare that is due comes after an access that cannot be undone (R436). -/
  second   : Bool
  /-- Load-value queue records, oldest first (R427, R428): on a checker those that have arrived, on a main core those
  still under way. -/
  lvq      : List LvqRec
  deriving DecidableEq, Repr

/-- Values at seat start (Table ISA-9, Reset): STATUS 0x4001, PWRMODE 0x100, HINTCTL 0x7, IFCTL 0x3, else 0. -/
def crReset (n : Nat) : Word :=
  if n = 0x000 then 0x4001 else if n = 0x020 then 0x100 else if n = 0x030 then 0x7
  else if n = 0x031 then 0x3 else 0

/-- (DESIGN CHOICE, log entry 10.) -/
def Thread.init : Thread :=
  { g := [], v := [], k := [], pc := 0, cr := [], started := false, waiting := false, halted := false,
    stepping := false,
    stall := none, retired := false, noRetire := 0, retStack := [], wc := [], imprecise := none,
    sig := 0, sinceCmp := 0, forced := false, second := false, lvq := [] }

/-- A store held by a twin pair until its compare passes (R431): physical address, bytes, and whether it is
a device store. -/
structure HeldStore where
  thread : Nat
  pa     : Nat
  data   : List Byte
  dev    : Bool
  /-- An IEOI write: the bytes are its value. -/
  eoi    : Bool
  deriving DecidableEq, Repr

/-- A core: its occupant, threads, prediction state and TLB. -/
structure Core where
  /-- The panel and seat the core runs; none is panel 0 idle (R52). -/
  seat      : Option (Nat × Nat)
  thr0      : Thread
  thr1      : Thread
  pgen      : Nat
  /-- Hint-override table: C and G by branch address [14:2] (R100). -/
  overrides : SMap (Nat × Nat)
  /-- Indirect target cache: target [56:2] and generation by address [13:2] (R103). -/
  itc       : SMap (Option (Nat × Nat))
  tlb       : List TlbEntry
  /-- Stitches of CORE_HANG and PWR_BROWNOUT events (Table ERR-11). -/
  hangs     : List Nat
  /-- The core is under the basting test of R417, or failed it. -/
  testing   : Option Nat
  /-- Twin-needle: held stores, checkpoint of both threads, and an outstanding compare (R430–R434). -/
  held      : List HeldStore
  ckpt      : Option (Thread × Thread)
  /-- Stitches of the two threads' checkpoints (R435). -/
  ckptAt    : Nat × Nat
  /-- The PLL is locked (R459). -/
  pll       : Bool
  deriving DecidableEq, Repr

/-- (DESIGN CHOICE, log entry 10.) -/
def Core.init : Core :=
  { seat := none, thr0 := Thread.init, thr1 := Thread.init, pgen := 0, overrides := [], itc := [],
    tlb := [], hangs := [], testing := none, held := [], ckpt := none, ckptAt := (0, 0), pll := false }

/-- A seat record (Table PNL-7): flags, last save, count of saves, and both threads' state.
(DESIGN CHOICE, log entry 36.) -/
structure SeatRec where
  valid   : Bool
  started : Bool
  twin    : Bool
  stitch  : Nat
  gen     : Nat
  thr0    : Thread
  thr1    : Thread
  deriving DecidableEq, Repr

def SeatRec.init : SeatRec :=
  { valid := false, started := false, twin := false, stitch := 0, gen := 0,
    thr0 := Thread.init, thr1 := Thread.init }

end Sys2Proof.Machine
end

