-- ==== Sys2Proof/Machine/Out.lean ====
section
/-! DEFINITION. What the module emits: Warp messages, pin levels and everything else that leaves a part of it. -/

namespace Sys2Proof.Machine

/-- Warp message opcodes (Table COH-7). -/
inductive WarpOp where
  | rds | rdx | upg | rdio | wrf | wrp
  | snpSh | snpInv | snpDrop | snpCpy | mrd
  | dataS | dataE | dataM | dataIo | snprespD | snprespC | wba | wrd | mwa | mdata
  | gntM | gack | snprespI | snprespS | snprespWbpend | wback | retry | go | dbgo | cmp | errcmp | mwack
  | crdreq | crdgnt | crdret | boundary
  deriving DecidableEq, Repr

/-- Output contacts (Table MOD-2 and the pins the chapters name). -/
inductive Pin where
  | ppsOut | ref10mOut | thermAlertN | i3cIbi
  | perstN (r : Nat)
  | tdo
  deriving DecidableEq, Repr

/-- What a root port sends. -/
inductive Tlp where
  | memRead (addr n tag : Nat)
  | memWrite (addr : Nat) (data : List Byte)
  | cfgRead (off n tag : Nat)
  | cfgWrite (off : Nat) (data : List Byte)
  /-- A completion to a device: requester ID, tag, status, poisoned, data. -/
  | completion (rid tag status : Nat) (poison : Bool) (data : List Byte)
  /-- A function-level reset of a function. -/
  | flr (rid : Nat)
  deriving DecidableEq, Repr

/-- An output of the module. (DESIGN CHOICE, log entry 4.) -/
inductive Out where
  /-- A coherence or memory message: opcode, source and destination agents, transaction entry, line address
  divided by 64, and the poison flag with the message's further fields. -/
  | warp (op : WarpOp) (src dst tid line : Nat) (poison : Bool) (more : List Nat)
  | pin (p : Pin) (level : Bool)
  /-- A 64-byte CXL.mem read or write: root port, line address divided by 64. -/
  | cxl (r : Nat) (write : Bool) (line : Nat) (poison : Bool)
  /-- Bytes the module sends over the I3C management bus (R390). -/
  | i3c (bytes : List Byte)
  /-- A Weft frame leaves a port (R239). -/
  | frame (p : Nat) (f : WFrame)
  /-- A cell reaches its sink in the module; a LOCAL cell with the port it came by (R247, R242). -/
  | cell (p : Option Nat) (c : Cell)
  /-- A PTP message leaves a virtual port or an uplink: message type and the fields it carries (R37). -/
  | ptp (at_ : PtpPort) (typ : Nat) (fields : List Nat)
  /-- A frame leaves a sub-port, without its FCS (R287). -/
  | ether (u : Nat) (bytes : List Byte)
  /-- A TLP leaves a root port (R296, R299): kind, address or requester, and data. -/
  | pcie (r : Nat) (tlp : Tlp)
  /-- A register value returned to the owner that read it (R13). -/
  | value (pa v : Nat)
  /-- The JTAG data register of `n` bits that an instruction selects, as captured for TDO (R483). -/
  | jtag (n v : Nat)
  /-- A flit sunk at an endpoint (R188). -/
  | flit (dst : Nat) (f : Flit)
  deriving DecidableEq, Repr

end Sys2Proof.Machine
end

