-- ==== Sys2Proof/Machine/Types.lean ====
section
/-! DEFINITION. The records that the error collector, the panels, memory and the caches hold, and the
messages the module emits. -/

namespace Sys2Proof.Machine

/-- An error record (Table ERR-3a); its CRC is computed when the record is read out. -/
structure ErrRec where
  stitch   : Nat
  unitId   : Nat
  cls      : Nat
  code     : Nat
  action   : Nat
  flags    : Nat
  paddr    : Nat
  panel    : Nat
  req      : Nat
  count    : Nat
  syndrome : List Byte
  detail   : Nat
  seq      : Nat
  deriving DecidableEq, Repr

/-- The error collector's memory (R405–R407, R419). -/
structure RasSt where
  /-- The ring, newest first, at most 65,536. -/
  ring     : List ErrRec
  /-- The last 128 records, kept through a warm reset. -/
  sram     : List ErrRec
  /-- Records written in this stitch, and corrected ones among them. -/
  written  : Nat
  writtenCorr : Nat
  /-- Stitches of module-fatal records (Table ERR-11). -/
  fatals   : List Nat
  /-- FATAL_REPEAT: stop in SAFE_HOLD after the coming warm reset. -/
  holdAfter : Bool
  deriving DecidableEq, Repr

def RasSt.init : RasSt :=
  { ring := [], sram := [], written := 0, writtenCorr := 0, fatals := [], holdAfter := false }

/-- The triggers of Table PNL-4, in the order of R44. -/
inductive Trigger where
  | tear
  | fault (cause : Nat)
  | boltReset
  | reset
  | wdog
  | selfReset
  | pause
  | resume
  | launch
  /-- RESETTING and TEARING are over (Table PNL-4). -/
  | resetDone
  | tearDone
  | build
  deriving DecidableEq, Repr

def Trigger.rank : Trigger → Nat
  | .tear => 0 | .fault _ => 1 | .boltReset => 2 | .reset => 3 | .wdog => 4 | .selfReset => 5
  | .pause => 6 | .resume => 7 | .launch => 8 | .resetDone => 9 | .tearDone => 10 | .build => 11

/-- A panel's KEM offer (R371): the seeds of its decapsulation key, the report's NONCE and STITCH. -/
structure Offer where
  seed   : List Byte
  nonce  : List Byte
  stitch : Nat
  deriving DecidableEq, Repr

/-- What the hub and Thimble hold of a panel beside its registers (R43–R61). -/
structure PanelSt where
  /-- Triggers accepted since the last boundary, oldest first, with the outstanding command each answers. -/
  triggers   : List (Trigger × Option Nat)
  /-- First byte of the save area and its seats (R54). -/
  saveBase   : Option Nat
  seats      : Nat
  entry      : Nat
  /-- Launch measurement (R366) and the granules of the launch list. -/
  launch     : Digest
  build      : Nat
  debugEver  : Bool
  /-- Stitches since entry into RESETTING or TEARING. -/
  sinceEntry : Nat
  /-- The watchdog has expired at the last boundary, and its trigger is accepted (R56). -/
  wdogDue    : Bool
  /-- Stitches of watchdog expiries (Table ERR-11). -/
  wdogHits   : List Nat
  /-- Members of a spanning panel: member panel handles by module ID (R257). -/
  members    : SMap Nat
  /-- The offer of a panel key transfer (R371). -/
  offer      : Option Offer
  /-- The command that is answered when RESETTING or TEARING ends. -/
  endCmd     : Option Nat
  deriving DecidableEq, Repr

def PanelSt.init : PanelSt :=
  { triggers := [], saveBase := none, seats := 0, entry := 0, launch := 0, build := 0, debugEver := false,
    sinceEntry := 0, wdogDue := false, wdogHits := [], members := [], offer := none,
    endCmd := none }

/-- The two module resets (Table BOO-1). -/
inductive ResetKind where
  | warm | cold
  deriving DecidableEq, Repr

/-- Stable and transient states of an L2 line (Table COH-9). -/
inductive L2St where
  | i | sh | e | m | isD | imD | smA
  deriving DecidableEq, Repr

/-- An L2 line: state, panel tag (R47), poison, and the stamp of its last use (for the least-recently-used choice). -/
structure L2Line where
  st     : L2St
  tag    : Nat
  poison : Bool
  used   : Nat
  deriving DecidableEq, Repr

def L2Line.none : L2Line := { st := .i, tag := 0, poison := false, used := 0 }

/-- A selvedge entry (R142): SENT, whether its writeback has left (R168: it may still wait for a credit), and whether it left on
a pooled credit. -/
structure Selv where
  line   : Nat
  tag    : Nat
  sent   : Bool
  poison : Bool
  left   : Bool := sent
  pooled : Bool := false
  deriving DecidableEq, Repr

/-- One 64-byte sector of an L3 line (R134). `stale`: memory was written over it while the slice was disabled (Table CCH-6). -/
structure Sector where
  valid  : Bool
  dirty  : Bool
  poison : Bool
  stale  : Bool := false
  deriving DecidableEq, Repr

/-- An L3 tag entry, by 128-byte line number (R134, R162). -/
structure L3Line where
  way  : Nat
  ktag : Nat
  s0   : Sector
  s1   : Sector
  deriving DecidableEq, Repr

/-- STATE of a directory entry (Table COH-5). -/
inductive DirState where
  | i | sh | em
  deriving DecidableEq, Repr

/-- A directory entry (Table COH-5), without its check bits. -/
structure DirEnt where
  st      : DirState
  owner   : Nat
  sharers : Nat
  ktag    : Nat
  busy    : Option Nat
  /-- Stamp of the last use, for the least-recently-used victim (R172). -/
  used    : Nat
  deriving DecidableEq, Repr

def DirEnt.free : DirEnt := { st := .i, owner := 0, sharers := 0, ktag := 0, busy := none, used := 0 }

/-- The requests a home serves (Table COH-7, class 4), and the recall of a directory victim it makes for itself. -/
inductive HomeOp where
  | rds | rdx | upg | rdio | wrf | wrp | victim
  deriving DecidableEq, Repr

/-- A request as a home receives it (Table COH-8): opcode, requester, its entry, line, key tag, RCNT and RSV. -/
structure HomeReq where
  op    : HomeOp
  agent : Nat
  rtid  : Nat
  line  : Nat
  ktag  : Nat
  rcnt  : Nat
  rsv   : Bool
  deriving DecidableEq, Repr

/-- An open home transaction (R159, R165). -/
structure HomeTx where
  op      : HomeOp
  line    : Nat
  agent   : Nat
  rtid    : Nat
  ktag    : Nat
  /-- Snoop answers still awaited. -/
  snoops  : Nat
  /-- A holder answered a snoop with data; the data is dirty. -/
  snpData : Bool
  dirty   : Bool
  /-- An answer was SNPRESP_WBPEND; the writeback it names has arrived (R169). -/
  wbpend  : Bool
  wbHere  : Bool
  /-- A memory read has been sent; it has been answered. -/
  memSent : Bool
  memDone : Bool
  /-- WRD is awaited; it has arrived. -/
  wrd     : Bool
  wrdHere : Bool
  /-- Memory writes still to be acknowledged; the transaction's own write has been sent. -/
  mwack   : Nat
  written : Bool
  /-- The grant or data has been sent; GACK is awaited. -/
  granted : Bool
  gack    : Bool
  /-- UPG that may be answered GNT_M. -/
  exact   : Bool
  /-- The entry was EM under another owner. -/
  wasEM   : Bool
  prevOwner : Nat
  /-- The line was found valid in the slice. -/
  inSlice : Bool
  poison  : Bool
  age     : Nat
  /-- The request that waits behind a recall (R172). -/
  next    : Option HomeReq
  /-- The L2 whose writeback is kept for this transaction and awaits its WBACK (R168, R169). -/
  wbFrom  : Option Nat := none
  /-- The bytes of WRD that MASK selects, by address (R175, R176). -/
  data    : SMap Byte := []
  deriving DecidableEq, Repr

/-- A requester's open entry (R159, R173, R174). -/
structure MissEnt where
  op    : HomeOp
  line  : Nat
  rcnt  : Nat
  rsv   : Bool
  /-- RETRY has been received and the request not issued again. -/
  retry : Bool
  /-- What the access belongs to: a thread index, a bobbin, a transfer. -/
  ctx   : Nat
  age   : Nat
  /-- The panel whose access it is: the tag of the line it fills (R47). -/
  tag   : Nat := 0
  /-- The seat whose access it is, for a core's access to another bolt (R156). -/
  seat  : Option (Nat × Nat) := none
  /-- The home bolt, as the requester learned it (R155). -/
  bolt  : Nat := 0
  /-- The bytes a write carries, by address, and their poison. -/
  data  : SMap Byte := []
  bad   : Bool := false
  deriving DecidableEq, Repr

/-- A reservation of a home's starvation queue (R174): directory set, the request's agent, entry and line, the transaction entry
and directory way kept for it, and whether GO has been sent. -/
structure Starve where
  set   : Nat
  agent : Nat
  rtid  : Nat
  line  : Nat
  tx    : Option Nat := none
  way   : Bool := false
  gone  : Bool := false
  deriving DecidableEq, Repr

/-- A snoop as it reaches an L2: invalidates, returns data, the state that S, E and M go to. -/
inductive SnpKind where
  | sh | inv | drop | cpy
  deriving DecidableEq, Repr

/-- A snoop held in an L2's snoop queue (R170). -/
structure HeldSnp where
  line : Nat
  htid : Nat
  kind : SnpKind
  deriving DecidableEq, Repr

/-- A waiting cleaning of L3 ways (R137): ways, and what follows it. -/
structure CleanJob where
  ways  : Nat
  age   : Nat
  deriving DecidableEq, Repr

/-- What a tile holds beside its registers. (DESIGN CHOICE, log entry 19.) -/
structure TileSt where
  l2     : SMap L2Line
  selv   : List Selv
  /-- Lines the L1I and the L1D hold, most recent first (R130). -/
  l1i    : List Nat := []
  l1d    : List Nat := []
  /-- Lines just filled, to which no snoop is applied until the access that caused the fill has been performed (R170). -/
  fresh  : List Nat := []
  /-- The snoop queue: snoops held, oldest first, at most 16 (R158, R170). -/
  snpQ   : List HeldSnp := []
  /-- Fills that wait for a selvedge entry (R144): RTID, state to enter, poison. -/
  fills  : List (Nat × L2St × Bool)
  l3     : SMap L3Line
  /-- Tree pseudo-LRU bits by set (R136). -/
  plru   : SMap Nat
  dir    : SMap DirEnt
  home   : SMap (Option HomeTx)
  miss   : SMap (Option MissEnt)
  /-- Requests held until the invalidation of an array is complete (R151). -/
  homeQ  : List HomeReq := []
  /-- Starvation queue, at most 256 reservations (R158, R174). -/
  starve : List Starve
  /-- Pooled writeback credits granted by this home (R159), of 32, and the L2s that wait for one. -/
  pool   : Nat
  poolQ  : List Nat
  /-- Memory credits in use by channel × 2 + (1 for writes), pooled ones held, and messages that wait for one. -/
  memUse : SMap Nat
  memPool : SMap Nat
  memQ   : List (Nat × Out)
  /-- Writes sent to memory outside a transaction whose MWACK is awaited: the line, and the L2 whose writeback it was, which then
  receives WBACK (R165). -/
  wbs    : List (Nat × Option Nat)
  clean  : List CleanJob
  /-- Ways that enter a panel's WRP.L3WAY when they are clean, by panel (R137). -/
  wayDue : SMap Nat := []
  /-- Arrays whose raw enable bit is set when their invalidation completes, as in WRP.CCTL [3:0] (R148, R151). -/
  enable : Nat := 0
  /-- The way masks that Thimble rewrites before a reset bolt returns, by panel (R150). -/
  ways   : SMap Nat := []
  /-- This tile's copy of the time grid: next boundary's stitch number, boundaries missed (R198, R199). -/
  bnd    : Nat
  missed : Nat
  /-- Stamp of the last use. -/
  tick   : Nat
  /-- Directory victims recalled below the unit of 256 of WRP.COHCNT.DVICT. -/
  dvict  : Nat
  deriving DecidableEq, Repr

def TileSt.init : TileSt :=
  { l2 := [], selv := [], fills := [], l3 := [], plru := [], dir := [], home := [], miss := [], starve := [],
    pool := 0, poolQ := [], memUse := [], memPool := [], memQ := [], wbs := [], clean := [], bnd := 0, missed := 0, tick := 0,
    dvict := 0 }

/-- A request waiting at a memory controller (R222, R229–R232). -/
structure McReq where
  write  : Bool
  line   : Nat
  ktag   : Nat
  hbolt  : Nat
  req    : Nat
  /-- Home tile and HTID, or the partner channel whose copy this is. -/
  home   : Option (Nat × Nat)
  poison : Bool
  res    : ReadOut
  age    : Nat
  deriving DecidableEq, Repr

/-- What a memory controller holds beside its registers: requests that wait for tokens; requests that wait for the
partner's answer, of which the first eight reads and the first eight writes have gone out on a standing credit (R222, R223); the
trailer cache (rows, most recent first, R229); rows held for a sparing copy with their spare (R227); requests held behind it;
stitches to the next scrub row (R225); pooled read credits granted. -/
structure McSt where
  waiting  : List McReq
  partnerQ : List McReq
  trailers : List Nat
  held     : List (Nat × Nat)
  heldReqs : List McReq
  scrubIn  : Nat
  pool     : Nat
  /-- Pooled write credits granted; home slices that wait for a credit: tile, and whether for a write (R158). -/
  poolW    : Nat := 0
  poolQ    : List (Nat × Bool) := []
  deriving DecidableEq, Repr

def McSt.init : McSt :=
  { waiting := [], partnerQ := [], trailers := [], held := [], heldReqs := [], scrubIn := 0, pool := 0 }

/-- A CXL root port's requests (R305–R308): waiting for tokens, and sent to the device. -/
structure CxlSt where
  waiting : List McReq
  sent    : List McReq
  deriving DecidableEq, Repr

def CxlSt.init : CxlSt := { waiting := [], sent := [] }

/-- A line's stored metadata (Table MEM-3). -/
structure LineMeta where
  ktag   : Nat
  poison : Bool
  deriving DecidableEq, Repr

/-- A table shootdown not yet acknowledged by every checker (R219): the granules with their old entries, the agents
still to acknowledge, and the outstanding command it ends. -/
structure Shoot where
  old     : SMap Nat
  waiting : List Nat
  cmd     : Option Nat
  deriving DecidableEq, Repr

/-- Output arbitration (R167, R192, R241): the input each output last served in a class, and the slots a waiting class
has been passed over, by output × 8 + class. -/
structure Arb where
  last   : SMap Nat
  passed : SMap Nat
  deriving DecidableEq, Repr

def Arb.init : Arb := { last := [], passed := [] }

/-- The Warp's buffers (R192): flits in each input channel, oldest first; the input that sends a pair into a channel; the interfaces
that have sent the first flit of a pair and not its second. -/
structure WarpSt where
  bufs   : SMap (List Flit)
  pairs  : SMap Nat
  arb    : Arb
  mid    : List Nat := []
  deriving DecidableEq, Repr

def WarpSt.init : WarpSt := { bufs := [], pairs := [], arb := Arb.init }

end Sys2Proof.Machine
end

