-- ==== Sys2Proof/Machine/BootTypes.lean ====
section
/-! DEFINITION. What a start and the module's contacts hold (R462–R484): inputs that hold the module in reset, how far a
start has come, the test report, scan, the JTAG port and the I3C address. -/

namespace Sys2Proof.Machine

/-- A test-report entry (Table BOO-5). -/
structure RepEnt where
  unit    : Nat
  array   : Nat
  result  : Nat
  action  : Nat
  pattern : Nat
  addr    : Nat
  bitNo   : Nat
  count   : Nat
  deriving DecidableEq, Repr

/-- The JTAG port (R483, Table MOD-4): the instruction register, the boundary register's latch, and the instruction
that drives the contacts, if one does. -/
structure JtagSt where
  ir    : Nat
  latch : Nat
  drive : Option Nat
  deriving DecidableEq, Repr

/-- After reset of the port IDCODE is selected (IEEE 1149.1). (PRESUMED, log entry 12.) -/
def JtagSt.init : JtagSt := { ir := 0x01, latch := 0, drive := none }

structure BootSt where
  /-- PWR_OK and MOD_RESET_N; the undervoltage and the overvoltage lockout of Table MOD-2 hold (R478). -/
  pwrOk    : Bool
  resetN   : Bool
  uvp      : Bool
  ovp      : Bool
  /-- SLOTID as sampled at step 1 of the cold start (R481), and the last TAI value that the Swatch store held then:
  seconds and nanoseconds (R30). -/
  slotid   : Nat
  lastTai  : Option (Nat × Nat)
  /-- Steps 7 that have ended: training, basting. -/
  trained  : Bool
  basted   : Bool
  /-- Loader copies tried, and the copy has been measured (R466). -/
  copies   : Nat
  loaded   : Bool
  /-- Panel 0's first grant: first granule and count. -/
  first    : Option (Nat × Nat)
  /-- Waiting for fabric lock is over (R266). -/
  joined   : Bool
  released : Bool
  /-- The test report of the current start (R471): entries, FLAGS.LOADER, FLAGS.OVERFLOW. -/
  entries  : List RepEnt
  loaderBad : Bool
  overflow : Bool
  /-- The report's header, final from release or SAFE_HOLD on; empty before. -/
  head     : List Byte
  /-- Channel pairs out of service in this power cycle (R473). -/
  chansOut : List Nat
  /-- The repair field of the fuses: class × 256 + index, at most 256 (R470). -/
  repairs  : List Nat
  /-- The clear before scan runs; scan is open; a cold reset waits for the clear (R474). -/
  clearing : Bool
  scanOpen : Bool
  coldAfter : Bool
  /-- The I3C dynamic address (R482). -/
  i3cAddr  : Option Nat
  jtag     : JtagSt
  /-- Domains still to be brought ON, in order, and boundaries until the next group begins (R464). -/
  bringUp  : List Nat
  bringIn  : Nat
  /-- Boundaries since the first Weft port began training (R266). -/
  joinAge  : Option Nat
  /-- The boundary of the warm reset that the current start follows, in boundaries since power (Table BOO-1). -/
  warmAt   : Option Nat
  deriving DecidableEq, Repr

/-- At time 0 of a cold start, with SLOTID sampled. (DESIGN CHOICE, log entry 11; DESIGN CHOICE, log entry 13.) -/
def BootSt.init : BootSt :=
  { pwrOk := true, resetN := true, uvp := false, ovp := false, slotid := Config.slotid.toNat, lastTai := none, trained := false, basted := false, copies := 0,
    loaded := false, first := none, joined := false, released := false, entries := [], loaderBad := false,
    overflow := false, head := [], chansOut := [], repairs := [], clearing := false, scanOpen := false,
    coldAfter := false, i3cAddr := none, jtag := JtagSt.init, bringUp := [], bringIn := 0, joinAge := none, warmAt := none }

end Sys2Proof.Machine
end

