-- ==== Sys2Proof/Machine/FabTypes.lean ====
section
/-! DEFINITION. What the Time Unit (R17–R39) and the Weft (R235–R268) hold beside their registers. -/

namespace Sys2Proof.Machine

/-! ### The Time Unit -/

/-- A sample of a reference, or one that failed to come (R29): the offset, local minus reference, in ns. -/
inductive Sample where
  | offset (ns : Int)
  | broken
  deriving DecidableEq, Repr

/-- Tracking of one reference under Table TIM-6, beside its state code: consecutive samples within 100 ns, whether
ACQUIRING was entered from HOLDOVER, and the samples since the last discipline step, oldest first. -/
structure Track where
  good     : Nat
  fromHold : Bool
  samples  : List Sample
  deriving DecidableEq, Repr

def Track.init : Track := { good := 0, fromHold := false, samples := [] }

/-- An election key (R32): PRIO1, QUAL, module ID. -/
structure ElectKey where
  prio1 : Nat
  qual  : Nat
  modid : Nat
  deriving DecidableEq, Repr

/-- A PTP master seen on the client's uplink (R28): its last Announce, and the boundaries passed when the last one and the
one before it came. -/
structure Foreign where
  ann  : Announce
  at_  : Nat
  prev : Option Nat
  deriving DecidableEq, Repr

structure TimeSt where
  /-- The reference followed, and on a follower its own reference (R493). -/
  main     : Track
  own      : Track
  /-- Consecutive PPS_IN edges rejected or missing; whether REF10M_IN is present (R27). -/
  badEdges : Nat
  ref10m   : Bool
  /-- The masters seen on the client's uplink (R28), and boundaries since the last PTP sample (R29). -/
  masters  : List Foreign
  sincePtp : Nat
  /-- Frequency corrections of the last 1,024 stitches, newest first, and the average held in HOLDOVER (R29). -/
  freqs    : List Int
  heldFreq : Int
  /-- Phase still to be slewed out, in units of 2^-16 ns. -/
  slew     : Int
  /-- Boundaries since the Time Unit last left LOCKED; clockClass 52 is advertised (R37). -/
  sinceLock : Nat
  class52  : Bool
  /-- An Ockar time has been set since the start (R30). -/
  ockarSet : Bool
  /-- TOD_NS as latched by a read of TOD_S (R26). -/
  latched  : Option Nat
  /-- Consecutive drops by task, and the tasks dropped and completed in this stitch (R21, R22). -/
  drops    : SMap Nat
  dropped  : List Nat
  done     : List Nat
  /-- Boundaries since the election started here, and the best key seen in it (R33, R495). -/
  electing : Option Nat
  best     : Option ElectKey
  /-- Boundaries since the last SYNC cell of the master; the module has followed a master (R34). -/
  sinceSync : Nat
  followed : Bool
  /-- MASTER_ID names a master: an election's winner, or the sender of a first SYNC cell (R495). -/
  known    : Bool
  /-- SEQ of the last SYNC cell taken from each sender (R34). -/
  syncSeen : SMap Nat
  /-- QUAL last sent as master, and the PRIO1 of the master followed. -/
  lastQual : Nat
  masterPrio : Nat
  /-- Sequence numbers of time cells by type; the delay exchange open on each port: its SEQ (R34). -/
  seqs     : SMap Nat
  delayReq : SMap Nat
  /-- Stitches since the last delay exchange of each port. -/
  sinceDelay : SMap Nat
  /-- Stitches left of a PPS_OUT pulse (R39). -/
  pulse    : Nat
  /-- REF10M_OUT carries the steered 10 MHz (R39). -/
  out10m   : Bool
  deriving DecidableEq, Repr

/-- REF10M_IN is taken as present until its loss is reported (R27). (DESIGN CHOICE, log entry 103.) -/
def TimeSt.init : TimeSt :=
  { main := Track.init, own := Track.init, badEdges := 0, ref10m := true, masters := [], sincePtp := 0, freqs := [], heldFreq := 0,
    slew := 0, sinceLock := 0, class52 := false, ockarSet := false, latched := none, drops := [], dropped := [], done := [],
    electing := none, best := none, sinceSync := 0, followed := false, known := false, syncSeen := [], lastQual := 0, masterPrio := 0, seqs := [],
    delayReq := [], sinceDelay := [], pulse := 0, out10m := false }

/-! ### The Weft -/

/-- A port's link (R240, R241): the last SEQ sent and the last received good; frames not yet acknowledged with the
times each was resent; NAK to be sent; frames discarded until the resend; credits held by channel (2 × class + DL);
credits owed; cells in the input buffers by channel; stitches since bring-up last failed. -/
structure LinkSt where
  sndSeq  : Nat
  rcvSeq  : Nat
  replay  : List (Nat × Cell × Nat)
  nak     : Bool
  discard : Bool
  credits : SMap Nat
  owed    : SMap Nat
  bufs    : SMap (List Cell)
  since   : Nat
  deriving DecidableEq, Repr

def LinkSt.init : LinkSt :=
  { sndSeq := 4095, rcvSeq := 4095, replay := [], nak := false, discard := false, credits := [], owed := [], bufs := [],
    since := 0 }

/-- What an outbound entry of the Weft engine is for (R251). -/
inductive OutUse where
  /-- A thread's aperture load, or a posted store and the seat that issued it. -/
  | load (th : Nat)
  | store (th : Nat) (seat : Option (Nat × Nat))
  /-- A load whose thread no longer waits for it: the answer is discarded. -/
  | gone
  /-- A frame for a virtual port of another module, and the bobbin that sent it. -/
  | eth (bob : Option Nat)
  /-- A forwarded request (its tag), a reply, or a notice. -/
  | ockar (tag : Option Nat)
  deriving DecidableEq, Repr

/-- An outbound entry: use, target, class, its cells, and the stitches since its first cell left, when it has. -/
structure OutEnt where
  use   : OutUse
  dst   : Nat
  cls   : Nat
  cells : List Cell
  age   : Option Nat
  deriving DecidableEq, Repr

/-- An inbound request that the Weft engine performs (R251, R253): requester, SEQ, type, offset, local line, mask and
data, its part requests still open, an error seen, whether it has been issued, and poison found. -/
structure InEnt where
  src    : Nat
  srch   : Nat
  seq    : Nat
  typ    : Nat
  off    : Nat
  line   : Nat
  data   : List Byte
  mask   : Nat
  open_  : Nat
  err    : Bool
  issued : Bool
  poison : Bool
  /-- Arrival order. -/
  ord    : Nat
  deriving DecidableEq, Repr

/-- A message being reassembled (R259, R262, R274): source module or handle, cell type, bytes so far, and for MSG the
bobbin, the buffer taken (none: refused, the rest discarded) and its index. -/
structure Partial where
  src   : Nat
  typ   : Nat
  arg   : Nat
  bytes : List Byte
  buf   : Option Nat
  index : Nat
  deriving DecidableEq, Repr

/-- A link-state entry of an origin (Table WFT-10): SEQ, UPMASK, peers, stitches since accepted. -/
structure LinkRec where
  seq   : Nat
  up    : Nat
  peers : List Nat
  age   : Nat
  deriving DecidableEq, Repr

/-- A thread's aperture access that waits for an outbound entry (R254), with the seat that issued it. -/
structure ApReq where
  th    : Nat
  seat  : Option (Nat × Nat)
  store : Bool
  m     : Nat
  off   : Nat
  n     : Nat
  data  : List Byte
  deriving DecidableEq, Repr

structure WeftSt where
  links   : SMap LinkSt
  /-- WP.PCTL as a port that is UP still uses it after a write, until the port is brought up again (R235). -/
  inUse   : SMap Nat
  /-- The module's own cells that wait to be injected, oldest first; a LOCAL cell with its port. -/
  own     : List (Option Nat × Cell)
  arb     : Arb
  out     : SMap (Option OutEnt)
  inb     : SMap (Option InEnt)
  nextIn  : Nat
  apq     : List ApReq
  /-- Ockar packets that wait for an outbound entry: tag, target, requester, bytes. -/
  ockq    : List (Option Nat × Nat × Nat × List Byte)
  /-- Inbound map (Table WFT-13), by entry. -/
  inmap   : SMap Nat
  /-- Next SEQ by destination × 8 + class, and the SEQ from which a class toward a target is stopped (R252). -/
  seqs    : SMap Nat
  stopped : SMap Nat
  /-- The route word that a destination's requests still use while WP.PSEL.PEND is set (R246). -/
  oldSel  : SMap Nat
  /-- Blocked sources: source, class, refused SEQ, oldest first; by class, the source and SEQ that an entry is held for (R252). -/
  blocked : List (Nat × Nat × Nat)
  held    : SMap (Nat × Nat)
  partials : List Partial
  links'  : SMap LinkRec
  /-- Barrier releases seen: root, context, GEN; and those due: with their RSTITCH (R261). -/
  relSeen : List (Nat × Nat × Nat)
  relDue  : List (Nat × Nat × Nat × Nat)
  /-- The modules whose arrival a root context has counted in this generation (R260). -/
  counted : SMap (List Nat)
  /-- Stitches since LINKST was originated (R264). -/
  sinceOrig : Nat
  deriving DecidableEq, Repr

def WeftSt.init : WeftSt :=
  { links := [], inUse := [], own := [], arb := Arb.init, out := [], inb := [], nextIn := 0, apq := [], ockq := [], inmap := [], seqs := [], stopped := [],
    oldSel := [], blocked := [], held := [], partials := [], links' := [], relSeen := [], relDue := [], counted := [], sinceOrig := 0 }

end Sys2Proof.Machine
end

