-- ==== Sys2Proof/Machine/NetTypes.lean ====
section
/-! DEFINITION. What the network engine (R269–R290) and the host ports (R291–R310) hold beside their registers. -/

namespace Sys2Proof.Machine

/-- A flow entry (Table NET-6): its INDEX, key bytes 0–39, actions, and what it has matched. -/
structure FlowEnt where
  index  : Nat
  key    : List Byte
  act    : Nat
  target : Nat
  meter  : Nat
  tmpl   : Nat
  pkts   : Nat
  bytes  : Nat
  deriving DecidableEq, Repr

/-- A meter (R277): rate and burst in bytes, its level, the panel it is assigned to, and the frames dropped against it. -/
structure Meter where
  rate  : Nat
  burst : Nat
  level : Int
  panel : Nat
  drops : Nat
  deriving DecidableEq, Repr

def Meter.init : Meter := { rate := 0, burst := 0, level := 0, panel := 0, drops := 0 }

/-- A remote entry of the MAC table (R273). -/
structure RemoteMac where
  swd    : Nat
  vlan   : Nat
  mac    : Nat
  module : Nat
  vp     : Nat
  deriving DecidableEq, Repr

/-- Where a frame waits to leave: a sub-port, or the Weft toward a virtual port of another module, with the sender's
virtual port and switch domain. -/
inductive TxTo where
  | uplink (u : Nat)
  | fabric (m vp src swd : Nat)
  deriving DecidableEq, Repr

/-- A frame that waits to leave (R287), without its FCS; its bobbin (none: it came by an uplink) and send. -/
structure TxFrame where
  bob   : Option Nat
  panel : Nat
  send  : Nat
  to_   : TxTo
  data  : List Byte
  deriving DecidableEq, Repr

/-- A send taken from the ring whose completion is not yet written (R283): its number and first descriptor, frames
still to leave, bytes, whether a timestamp is asked for, and the timestamp of the first frame. -/
structure SendJob where
  id     : Nat
  index  : Nat
  left   : Nat
  len    : Nat
  status : Nat
  tsreq  : Bool
  ts     : Nat
  deriving DecidableEq, Repr

/-- What the engine holds of a bobbin beside its registers: sends under way, completions that wait for CQ space (without
PHASE), stitches without progress, and the CAUSE of a reset under way. -/
structure BobSt where
  /-- Completions written since the bobbin's reset. -/
  done   : Nat
  sends  : List SendJob
  owed   : List (List Byte)
  age    : Nat
  reset  : Option Nat
  deriving DecidableEq, Repr

def BobSt.init : BobSt :=
  { done := 0, sends := [], owed := [], age := 0, reset := none }

structure NetSt where
  bobs   : SMap BobSt
  flows  : List FlowEnt
  meters : SMap Meter
  rmacs  : List RemoteMac
  tmpls  : SMap (List Byte)
  vtep   : SMap (List Byte)
  vnis   : SMap (Option Nat)
  /-- Frames that wait to leave, in the order they were switched. -/
  wait   : List TxFrame
  nextSend : Nat
  /-- Stitches of each bobbin's latest resets (Table ERR-11). -/
  bobHits : SMap (List Nat)
  /-- Pools by uplink × 2 + direction, and of the Weft ports by 64 + port × 2 + direction (R286, R288). -/
  pools  : SMap Int
  /-- MODE of each port in force since its last bring-up (R269). -/
  modes  : SMap Nat
  /-- Frames discarded at each uplink (R270, R280). -/
  upDrops : SMap Nat
  deriving DecidableEq, Repr

def NetSt.init : NetSt :=
  { bobs := [], flows := [], meters := [], rmacs := [], tmpls := [], vtep := [], vnis := [], wait := [], nextSend := 0,
    bobHits := [], pools := [], modes := [], upDrops := [] }

/-- A load of a window or a configuration read that waits for its completion (R296): thread, root port, whether it is
a configuration read, window or ECAM offset, bytes, stitches. -/
structure PcieReq where
  th  : Nat
  rp  : Nat
  cfg : Bool
  off : Nat
  n   : Nat
  age : Nat
  deriving DecidableEq, Repr

/-- One line of a device's request (R301, R302): the request it belongs to, its function (root port × 65,536 +
requester ID), line, mask of bytes, data, and how far it has come. -/
structure DmaPiece where
  job    : Nat
  func   : Nat
  write  : Bool
  line   : Nat
  mask   : Nat
  data   : List Byte
  poison : Bool
  strict : Bool
  rtid   : Option Nat
  dbgo   : Bool
  sent   : Bool
  deriving DecidableEq, Repr

/-- A device's read under way: tag, pieces still open, error, poison, and the bytes so far by line. -/
structure DmaJob where
  id     : Nat
  func   : Nat
  tag    : Nat
  addr   : Nat
  len    : Nat
  open_  : Nat
  err    : Bool
  poison : Bool
  deriving DecidableEq, Repr

structure HioSt where
  reqs   : List PcieReq
  pieces : List DmaPiece
  jobs   : List DmaJob
  nextJob : Nat
  /-- Function-level resets under way, by controller × 512 + entry: stitches since issue (R310). -/
  flr    : SMap Nat
  deriving DecidableEq, Repr

def HioSt.init : HioSt := { reqs := [], pieces := [], jobs := [], nextJob := 0, flr := [] }

end Sys2Proof.Machine
end

