-- ==== Sys2Proof/Machine/CutTypes.lean ====
section
/-! DEFINITION. What the Cutter and the Tape hold beside their registers (R311–R337, R425, R496). -/

namespace Sys2Proof.Machine

/-- What a core does in the next stitch (R320, R48). -/
inductive CoreUse where
  /-- No grant: panel 0 idle, parked in RET (R319). -/
  | idle
  /-- Granted to a panel and seat; for a twin pair, whether it is the checker, and its partner (R425). -/
  | seat (p n : Nat) (twin : Option (Bool × Nat))
  /-- A sealed hem (R48, R49). -/
  | hem
  deriving DecidableEq, Repr

/-- An allocation for the next stitch (R315). -/
structure Alloc where
  cores   : SMap CoreUse
  /-- Panels whose guarantee is not met (R318). -/
  short   : List Nat
  /-- MC.TOK and HP.CTOK grants by (channel, or 24 + root port) × 512 + panel (R321). -/
  lineTok : SMap Nat
  /-- NE.PTOK by panel × 16 + register index: POOLEN and GRANT (R322). -/
  portTok : SMap (Bool × Nat)
  /-- New way masks by bolt × 512 + panel, at a mask recomputation (R323). -/
  masks   : Option (SMap Nat)
  /-- Frequency targets by core (R324). -/
  freq    : SMap Nat
  deriving DecidableEq, Repr

/-- A pair under the mismatch sequence (Table TWN-5): its cores, the panel billed, the seat while it waits for the outcome,
the stitches of the checkpoint and of detection, whether the mismatch cannot be undone (R436), and whether the boundary has
released it. -/
structure TwinTest where
  panel    : Nat
  main     : Nat
  chk      : Nat
  seat     : Option (Nat × Nat)
  ckpt     : Nat
  found    : Nat
  second   : Bool
  released : Bool
  deriving DecidableEq, Repr

structure CutSt where
  /-- Pairs under test after a mismatch (R434, R435). -/
  twin      : List TwinTest
  /-- Contract words as they stood at the last boundary (R313). -/
  contracts : SMap Nat
  /-- Override words as they stood when the last staging was committed (R326); none before it. -/
  ovr       : Option (SMap Nat)
  /-- Seats found runnable at the last boundary, by panel × 256 + seat (R314). -/
  runnable  : List Nat
  /-- The allocation of this stitch's cutter window, and the one staged in its press window. -/
  plan      : Option Alloc
  staged    : Option Alloc
  /-- Core each seat last ran on, by seat key, plus 1 (R320). -/
  lastCore  : SMap Nat
  /-- Panel each core's L2 last ran, plus 1 (R320). -/
  lastPanel : SMap Nat
  /-- Last stitch in which each seat held a core, plus 1 (R496). -/
  lastHeld  : SMap Nat
  /-- Stitch at which each panel's count last rose (R319). -/
  lastRise  : SMap Nat
  /-- L3 misses by panel × 192 + slice since the last stitch ≡ 0 mod 1,000, that stitch included (R323). -/
  misses    : SMap Nat
  /-- Bytes by panel × 16 + 2 × port + direction in each of the last 100 stitches, newest first (R322). -/
  portHist  : List (SMap Nat)
  deriving DecidableEq, Repr

def CutSt.init : CutSt :=
  { twin := [], contracts := [], ovr := none, runnable := [], plan := none, staged := none, lastCore := [], lastPanel := [],
    lastHeld := [], lastRise := [], misses := [], portHist := [] }

/-- One account's amounts in one sheet (Table CUT-8, Table CUT-11). -/
structure Acct where
  panel  : Nat
  build  : Nat
  opened : Bool
  final  : Bool
  twin   : Bool
  sealed : Bool
  reset  : Bool
  fault  : Bool
  cores  : Nat
  memg   : Nat
  cxlg   : Nat
  lines  : Nat
  txup   : Nat
  txfab  : Nat
  txloc  : Nat
  rxup   : Nat
  rxfab  : Nat
  rxloc  : Nat
  ways   : Nat
  energy : Nat
  first  : Nat
  last   : Nat
  deriving DecidableEq, Repr

/-- A minute sheet before its signature (R332). -/
structure Sheet where
  minute : Nat
  start  : Nat
  stop   : Nat
  modid  : Nat
  step   : Bool
  reset  : Bool
  loss   : Bool
  /-- Not signed within 500 stitches of its end (R336). -/
  late   : Bool
  accts  : List Acct
  /-- 48 V input energy over the sheet, µJ (R329). -/
  energy : Nat
  deriving DecidableEq, Repr

/-- A signed sheet: the 256-byte header and the signature (R335). -/
structure Signed where
  seq    : Nat
  minute : Nat
  hdr    : List Byte
  sig    : List Byte
  deriving DecidableEq, Repr

/-- A retired counter bank (R330): its stitch, its counts, the sampled amounts, the measured input energy. -/
structure Bank where
  stitch : Nat
  counts : SMap Nat
  energy : Nat
  deriving DecidableEq, Repr

structure TapeSt where
  /-- Counts of the current stitch, by panel × 1024 + counter. -/
  bank    : SMap Nat
  retired : Option Bank
  /-- The bank the Cutter reads in its window (R314, R330). -/
  usage   : SMap Nat
  /-- The open sheet; none before commitment. -/
  sheet   : Option Sheet
  /-- Closed sheets that await their signature, oldest first. -/
  closed  : List Sheet
  /-- Records of the last 1,440 signed sheets, newest first, by SEQ (R337). -/
  records : List (Nat × List (List Byte))
  deriving DecidableEq, Repr

def TapeSt.init : TapeSt :=
  { bank := [], retired := none, usage := [], sheet := none, closed := [], records := [] }

end Sys2Proof.Machine
end

