-- ==== Sys2Proof/Machine/StoreTypes.lean ====
section
/-! DEFINITION. The Swatch store (R440–R446, Tables SWT-1 to SWT-5): what lies in the cells, and what waits in
hub SRAM for a flush. -/

namespace Sys2Proof.Machine

/-- A row error log entry (Table SWT-4). -/
structure RowEnt where
  channel : Nat
  device  : Nat
  spared  : Bool
  hard    : Bool
  row     : Nat
  corr    : Nat
  uncor   : Nat
  first   : Nat
  last    : Nat
  deriving DecidableEq, Repr

/-- Persistent values (Table SWT-2). -/
structure Pers where
  serial : Nat
  first  : Nat
  build  : Nat
  seq    : Nat
  evhead : Nat
  accsel : Nat
  mwdog  : Bool
  dbgauth  : Digest
  ownerkey : Digest
  opkey    : Digest
  deriving DecidableEq, Repr

/-- The values of a new store: no sheet signed, SEQ 0xFFFF_FFFF. -/
def Pers.init : Pers :=
  { serial := 0, first := 0, build := 0, seq := 0xFFFFFFFF, evhead := 0, accsel := 0, mwdog := false,
    dbgauth := 0, ownerkey := 0, opkey := 0 }

/-- A log, sheet, certificate or persistent-value write that waits for a flush. -/
inductive SwWrite where
  | pers (p : Pers)
  | rows (l : List RowEnt)
  | event (r : ErrRec)
  | sheet (x : Signed)
  | cert (slot : Nat) (bytes : List Byte)
  /-- A share of the Tape's accumulator copy; the last share makes the copy current. -/
  | acc (x : Sheet)
  /-- Training results of a channel (Table MEM-10). -/
  | training (chan : Nat) (bytes : List Byte)
  /-- A spare remap (R227): MC.SPAREk of a channel, by channel × 256 + k. -/
  | spare (key v : Nat)
  deriving DecidableEq, Repr

/-- 64-byte blocks a write takes. -/
def SwWrite.blocks : SwWrite → Nat
  | .pers _ => 4
  | .rows _ => 1
  | .event _ => 1
  | .sheet _ => 64
  | .cert _ _ => 128
  | .acc _ => 2048
  | .training _ _ => 128
  | .spare _ _ => 1

/-- The store's contents. -/
structure SwStore where
  pers   : Pers
  /-- Counter area (Table SWT-3): values by byte offset from 0x001_0000. -/
  counts : SMap Nat
  rows   : List RowEnt
  /-- Event log, newest first, at most 32,768. -/
  events : List ErrRec
  sheets : List Signed
  /-- The two accumulator copies (R332). -/
  accA   : Option Sheet
  accB   : Option Sheet
  certs  : SMap (List Byte)
  training : SMap (List Byte)
  spares : SMap Nat
  deriving DecidableEq, Repr

structure SwatchSt where
  store : SwStore
  /-- Values in hub SRAM, ahead of the cells. -/
  pers   : Pers
  counts : SMap Nat
  rows   : List RowEnt
  /-- Writes that wait, oldest first, with the blocks each still needs. -/
  wait   : List (SwWrite × Nat)
  /-- Dirty counter blocks (offset / 64), oldest first. -/
  dirty  : List Nat
  /-- Cutter shortfalls of this minute, in stitches by panel (event 0xC5). -/
  short  : SMap Nat
  deriving DecidableEq, Repr

/-- (DESIGN CHOICE, log entry 11.) -/
def SwStore.init : SwStore :=
  { pers := Pers.init, counts := [], rows := [], events := [], sheets := [], accA := none, accB := none, certs := [],
    training := [], spares := [] }

def SwatchSt.init : SwatchSt :=
  { store := SwStore.init, pers := Pers.init, counts := [], rows := [], wait := [], dirty := [], short := [] }

/-! ### Power -/

/-- What the power controller holds beside its registers (R447–R460). -/
structure PwrSt where
  /-- Domains needed in this stitch: one returned to ON by a demand goes back to RET only after a whole stitch
  without one (R152, R449). -/
  demand  : List Nat
  /-- The state a running transition ends in, by domain (R450). -/
  goal    : SMap Nat
  /-- The latest request held by a claim or a running transition, by domain: 0 ON, 1 RET, 2 OFF, 3 gate (R351, R450). -/
  held    : SMap (Option Nat)
  /-- Reduction of R458 in steps of 100 MHz. -/
  reduce  : Nat
  /-- Dies (0–3) whose cores the thermal hold keeps at 1.2 GHz, and dies at or above 100 °C (Table PWR-3). -/
  hot     : List Nat
  /-- Domains whose sensor has read above 95 °C and not yet 90 °C or below (R456). -/
  noRet   : List Nat
  /-- A thermal trip holds the module (Table PWR-3). -/
  trip    : Bool
  deriving DecidableEq, Repr

def PwrSt.init : PwrSt :=
  { demand := [], goal := [], held := [], reduce := 0, hot := [], noRet := [], trip := false }

end Sys2Proof.Machine
end

