-- ==== Sys2Proof/Machine/ThmTypes.lean ====
section
/-! DEFINITION. What Thimble holds (R339–R362, R365–R379, R380–R401): the requests it has taken and the ones whose
reply is still due, sessions, mailbox engines, the key ladder, fuses, flash and the configuration record. -/

namespace Sys2Proof.Machine

/-- How a request came, and so where its reply goes (Table OCK-4). -/
inductive Via where
  /-- The mailbox of a panel, the slot reserved, and the session of an operator packet that panel 0 passes on. -/
  | mailbox (p slot : Nat) (sid : Option Nat)
  /-- I3C: the session of its MAC, if it has one. -/
  | i3c (sid : Option Nat)
  /-- An OCKAR message from a module, its tag, and the session of its MAC (R262, R394). -/
  | weft (src tag : Nat) (sid : Option Nat)
  deriving DecidableEq, Repr

/-- A request Thimble has taken: its header, payload, and the stitch in which it was taken. -/
structure OckReq where
  via     : Via
  head    : List Byte
  payload : List Byte
  mac     : List Byte
  /-- When it was taken: the stitch number, and the boundaries passed. -/
  at_     : Nat
  tick    : Nat
  /-- PENDING has been its reply (R396). -/
  answered : Bool
  deriving DecidableEq, Repr

/-- A command whose reply is still due: its number, request, and the numbers it works with. -/
structure Job where
  id   : Nat
  q    : OckReq
  data : List Nat
  /-- Stitch in which it started. -/
  start : Nat
  deriving DecidableEq, Repr

/-- A session (R391–R393): the steps done (4 when open), T1 and the decapsulation seed while it is set up, the MAC
keys, the stitch of the last step or valid request, bad MACs in a row, the highest SEQUENCE, and the last 8 replies. -/
structure Session where
  step  : Nat
  t1    : List Byte
  seed  : List Byte
  ctHash : List Byte
  mreq  : List Byte
  mrep  : List Byte
  last  : Nat
  bad   : Nat
  seq   : Option Nat
  kept  : List (Nat × List Byte)
  deriving DecidableEq, Repr

/-- A reserved result slot (R346, R347): whether its reply has been written, and the SEQUENCE of the last one. -/
structure MSlot where
  busy : Bool
  seq  : Nat
  deriving DecidableEq, Repr

def MSlot.init : MSlot := { busy := false, seq := 0 }

/-- An open debug session, or one that waits for the panel's consent (R359, R360). -/
structure DbgSession where
  scope  : Nat
  panel  : Nat
  nonce  : List Byte
  expiry : Nat
  opened : Bool
  job    : Option Nat
  deriving DecidableEq, Repr

/-- The fuses (R357, R365, R377) beside the device secret, which is fixed: lifecycle, DBGLOCK, rollback counter, and
revocation bits of the four firmware keys. -/
structure Fuses where
  life     : Nat
  dbglock  : Bool
  rollback : Nat
  revoked  : Nat
  deriving DecidableEq, Repr

/-- The configuration record (R358, R374, R398, Table OCK-12): registered keys, and the values in force from the next
reset. (DEDUCED, log entry 82.) -/
structure ConfRec where
  dbgauth  : List Byte
  ownerkey : List Byte
  opkey    : List Byte
  /-- FAB_CONFIG: MYID, KX − 1, KY − 1, KZ − 1, EN, FNAME; empty when none is recorded. -/
  fab      : List Nat
  /-- HP.CFG of the four controllers. -/
  hostcfg  : List Nat
  /-- HUB.BOLTCFG.NEXT (R154). -/
  bolt     : Nat
  /-- Panel 0's contract, if the record gives one (R311). -/
  contract0 : List Byte
  /-- Panel 0's loader: root port, byte offset, length; and its first grant in granules (R466). -/
  loaderRp  : Nat
  loaderOff : Nat
  loaderLen : Nat
  first     : Nat
  /-- Port roles by port: ROLE × 8 + DIM × 2 + DIR (R267), and PCAP (R324's register is reloaded at a reset). -/
  ports    : SMap Nat
  pcap     : Option Nat
  deriving DecidableEq, Repr

def ConfRec.init : ConfRec :=
  { dbgauth := [], ownerkey := [], opkey := [], fab := [], hostcfg := [], bolt := 0,
    contract0 := [], loaderRp := 0, loaderOff := 0, loaderLen := 0, first := 32768, ports := [],
    pcap := none }

/-- A flash bank's image area and boot record (Tables ATT-7 and ATT-8). -/
structure FlashBank where
  /-- Image-area bytes written since the last erase. -/
  image : SMap Byte
  /-- Never erased since manufacture: unlisted bytes are those of the shipped image, else of erased flash (0xFF). -/
  shipped : Bool
  state : Nat
  tries : Nat
  seq   : Nat
  svn   : Nat
  magic : Bool
  deriving DecidableEq, Repr

def FlashBank.erased : FlashBank := { image := [], shipped := false, state := 0xFF, tries := 0xFF, seq := 0xFFFFFFFF, svn := 0xFFFFFFFF, magic := false }

/-- Bank A as shipped: a GOOD image (R491). -/
def FlashBank.asShipped : FlashBank := { image := [], shipped := true, state := 0x3F, tries := 0xFE, seq := 0, svn := 1, magic := true }

/-- The firmware side (R375–R379): banks A and B, the running one, the update under way (bank and length), the erase
under way, and the bank last checked with the step at which it failed (0 passed; none: not checked since the last write). -/
structure FwSt where
  a       : FlashBank
  b       : FlashBank
  running : Nat
  update  : Option (Nat × Nat)
  erasing : Option Nat
  checked : Option (Nat × Nat)
  /-- Header of the running image. -/
  header  : List Byte
  mcfg    : Digest
  /-- The alias and metering certificates of this start, empty when none was issued. -/
  alias_  : List Byte
  meter   : List Byte
  deriving DecidableEq, Repr

/-- (DESIGN CHOICE, log entry 11.) -/
def FwSt.init : FwSt :=
  { a := FlashBank.asShipped, b := FlashBank.erased, running := 0, update := none, erasing := none, checked := none,
    header := [], mcfg := 0, alias_ := [], meter := [] }

/-- The key ladder and its pool (R354–R356): slots of 64 bytes, exportable slots, whether slot 0 is filled, the
command that runs with its value, error code, entropy in bytes, and health-test windows still to pass. -/
structure Ladder where
  slots   : SMap (List Byte)
  exp     : List Nat
  cdi     : Bool
  running : Option Nat
  err     : Nat
  pool    : Nat
  windows : Nat
  /-- Keys bound to the AES and NTT engines. -/
  bound   : SMap (List Byte)
  deriving DecidableEq, Repr

def Ladder.init : Ladder :=
  { slots := [], exp := [], cdi := false, running := none, err := 0, pool := 0, windows := 0, bound := [] }

/-- Thimble. -/
structure ThmSt where
  /-- Control registers of Table THM-3 that hold a value, by number. -/
  cr       : SMap Word
  /-- The core is in a handler: an exception now is module-fatal (R342). -/
  inHandler : Bool
  /-- Firmware runs: the ROM has handed over (R364); the secure watchdog counts. -/
  firmware : Bool
  /-- Recovery (R379); held in SAFE_HOLD is HUB.BOOT.SAFEHOLD. -/
  recovery : Bool
  /-- Descriptors queued by XQ, oldest first (R344). -/
  xq       : List Nat
  /-- Requests that mailbox engines hold, the first in the request buffer and the others still COPYING: panel, slot
  and packet, by engine (R346). -/
  engines  : SMap (List (Nat × Nat × List Byte))
  mslots   : SMap MSlot
  taken    : List OckReq
  jobs     : List Job
  nextJob  : Nat
  sessions : SMap Session
  nonces   : List (List Byte × Nat)
  dbgs     : List DbgSession
  /-- Consents given before the certificate came: panel and nonce (R360). -/
  consents : List (Nat × List Byte)
  /-- Accepted service certificates: the requester's marker and EXPIRY (R446). -/
  service  : List (Nat × Nat)
  taint    : Bool
  /-- Keys staged by purpose (KEY_STAGE). -/
  staged   : SMap (List Byte)
  ladder   : Ladder
  /-- What the SHAKE (0), AES (1) and NTT (2) engines work on: operation and operands (R343). -/
  engJobs  : SMap (List Nat)
  fuses    : Fuses
  conf     : ConfRec
  fw       : FwSt
  /-- Forwarded operator packets that wait for their reply: tag, how they came, their header, stitch of sending. -/
  forwards : List (Nat × Via × List Byte × Nat)
  nextTag  : Nat
  /-- Units under reconciliation, and the ones rewritten once, by unit ID (R400). -/
  recon    : List Nat
  /-- Units that leave service at the next boundary (Table OCK-22). -/
  outDue   : List Nat
  /-- Last state reports by unit ID: CFGD, stitch of the last change, and the record (R400). -/
  reports  : SMap (Nat × Nat × List Byte)
  deriving DecidableEq, Repr

/-- TWDOG reads 1,000 after reset (Table THM-9). -/
def thmCrReset (n : Nat) : Word := if n = 0x020 then 1000 else 0

/-- (DESIGN CHOICE, log entry 11.) -/
def ThmSt.init : ThmSt :=
  { cr := [], inHandler := false, firmware := false, recovery := false, xq := [], engines := [],
    mslots := [], taken := [], jobs := [], nextJob := 0, sessions := [], nonces := [], dbgs := [], consents := [], service := [],
    taint := false, staged := [], ladder := Ladder.init, engJobs := [],
    fuses := { life := 3, dbglock := false, rollback := 0, revoked := 0 }, conf := ConfRec.init, fw := FwSt.init,
    forwards := [], nextTag := 0, recon := [], outDue := [], reports := [] }

end Sys2Proof.Machine

/-- The bytes of an accumulator copy in the Swatch store, by offset; the manual gives their layout no form (R332).
(DESIGN CHOICE, log entry 86.) -/
opaque Sys2Proof.Config.accImage : Sys2Proof.Machine.Sheet → Nat → Sys2Proof.Byte

/-- The configuration record's bytes, whose layout the manual does not give (MCFG, Table ATT-3).
(DESIGN CHOICE, log entry 74.) -/
opaque Sys2Proof.Config.confBytes : Sys2Proof.Machine.ConfRec → List Sys2Proof.Byte
end

