-- ==== Sys2Proof/Syntax.lean ====
section
/-! DEFINITION. The commands of the module: one constructor for each row of the table of operations and events, in the
table's order, with what the row's operation takes and what only the world outside decides. -/

namespace Sys2Proof

inductive Instr where
  /-- STITCH_BOUNDARY (R17): A 10 µs TAI stitch boundary passes, and every boundary task and staged change runs there.
  -/
  | stitchBoundary (x : Reading)
  /-- DROPPED_STITCH (R21): A periodic task reaches the end of its window unfinished and is abandoned for the stitch.
  -/
  | droppedStitch (task : Fin 16)
  /-- DISCIPLINE_STEP (R30): Task 6 applies the samples since the last step to TOD by step or slew and runs the state
  table. -/
  | disciplineStep
  /-- PPS_IN (R27): A rising edge on PPS_IN is accepted as a sample or rejected. -/
  | ppsIn (edge : Int)
  /-- PPS_IN_MISSING (R27): An expected PPS_IN edge fails to arrive, and three in a row set REF_LOST. -/
  | ppsInMissing
  /-- REF10M_IN_LOSS (R27): REF10M_IN missing for 10 stitches sets REF_LOST. -/
  | ref10mInLoss
  /-- PTP_SYNC (R29): A PTP Sync message from the chosen master arrives as a sample. -/
  | ptpSync (u : Uplink) (sender : PtpSender) (offset : Int)
  /-- ANNOUNCE_RECEIPT_TIMEOUT (R28): The PTP announce receipt timeout expires and sets REF_LOST. -/
  | announceReceiptTimeout
  /-- PTP_DELAY_REQ (R37): A PTP client message on a served port is answered by the module's PTP service. -/
  | ptpDelayReq (at_ : PtpPort) (client : BitVec 80) (seq : BitVec 16) (rxNs : BitVec 80) (p2p : Bool)
  /-- HOLDOVER_LIMIT (R37): Eight hours in HOLDOVER since leaving LOCKED changes the advertised clockClass to 52. -/
  | holdoverLimit
  /-- SYNC (R34): A SYNC cell arrives, is forwarded with correction and taken as a sample if from the master. -/
  | sync (p : Port) (c : Cell) (residence : BitVec 64) (offset : Int)
  /-- MASTER_LOSS (R34): No SYNC from the master for 64 stitches puts a follower in HOLDOVER and starts an election.
  -/
  | masterLoss
  /-- ELECT (R33): An ELECT cell arrives and is forwarded if its key beats the best seen. -/
  | elect (p : Port) (c : Cell)
  /-- ELECTION_END (R495): 128 stitches after an election started, the module takes the best key seen as master. -/
  | electionEnd
  /-- LINK_DELAY_MEASUREMENT (R34): Every 1,024 stitches a link starts a DELAY_REQ exchange. -/
  | linkDelayMeasurement (p : Port)
  /-- DELAY_REQ (R34): A DELAY_REQ cell arrives and is answered with DELAY_RESP. -/
  | delayReq (p : Port) (c : Cell) (residence : BitVec 64)
  /-- DELAY_RESP (R34): A DELAY_RESP arrives and the link's one-way delay is written. -/
  | delayResp (p : Port) (c : Cell) (roundTrip : BitVec 64)
  /-- BOUNDARY (R198): A BOUNDARY flit reaches a tile, which stores a copy, forwards it and schedules the boundary. -/
  | boundary (t : Tile) (stitch : Word) (corr : FlitCorr)
  /-- WRP_MISSB (R199): No BOUNDARY flit 20 ns after due makes the tile apply the boundary by count and record MISSB.
  -/
  | wrpMissb (t : Tile)
  /-- PANEL_WDOG (R56): A panel watchdog reaches zero and triggers a panel reset, or a warm reset for panel 0. -/
  | panelWdog (p : Panel)
  /-- RESET_COMPLETE (R43): A panel reset finishes and the panel returns from RESETTING to RUNNING. -/
  | resetComplete (p : Panel)
  /-- TEAR_COMPLETE (R58): Key destroyed and cached copies purged, the panel moves from TEARING to EMPTY. -/
  | tearComplete (p : Panel)
  /-- ILLEGAL_INSTRUCTION (R65): A reserved or malformed instruction word takes an illegal instruction exception. -/
  | illegalInstruction (th : AnyThr) (word : IWord)
  /-- ADD (R66): rd receives ra + rb. -/
  | add (th : AnyThr) (rd ra rb : GIdx) (w : Bool)
  /-- SUB (R66): rd receives ra − rb. -/
  | sub (th : AnyThr) (rd ra rb : GIdx) (w : Bool)
  /-- AND (R66): rd receives ra & rb. -/
  | and (th : AnyThr) (rd ra rb : GIdx)
  /-- OR (R66): rd receives ra | rb. -/
  | or (th : AnyThr) (rd ra rb : GIdx)
  /-- XOR (R66): rd receives ra ^ rb. -/
  | xor (th : AnyThr) (rd ra rb : GIdx)
  /-- ANDN (R66): rd receives ra & ~rb. -/
  | andn (th : AnyThr) (rd ra rb : GIdx)
  /-- SLL (R66): rd receives ra shifted left by rb. -/
  | sll (th : AnyThr) (rd ra rb : GIdx) (w : Bool)
  /-- SRL (R66): rd receives ra shifted right logically by rb. -/
  | srl (th : AnyThr) (rd ra rb : GIdx) (w : Bool)
  /-- SRA (R66): rd receives ra shifted right arithmetically by rb. -/
  | sra (th : AnyThr) (rd ra rb : GIdx) (w : Bool)
  /-- ROR (R66): rd receives ra rotated right by rb. -/
  | ror (th : AnyThr) (rd ra rb : GIdx) (w : Bool)
  /-- SLT (R66): rd receives 1 if ra < rb signed. -/
  | slt (th : AnyThr) (rd ra rb : GIdx)
  /-- SLTU (R66): rd receives 1 if ra < rb unsigned. -/
  | sltu (th : AnyThr) (rd ra rb : GIdx)
  /-- MIN (R66): rd receives the signed minimum of ra and rb. -/
  | min (th : AnyThr) (rd ra rb : GIdx)
  /-- MAX (R66): rd receives the signed maximum of ra and rb. -/
  | max (th : AnyThr) (rd ra rb : GIdx)
  /-- MINU (R66): rd receives the unsigned minimum of ra and rb. -/
  | minu (th : AnyThr) (rd ra rb : GIdx)
  /-- MAXU (R66): rd receives the unsigned maximum of ra and rb. -/
  | maxu (th : AnyThr) (rd ra rb : GIdx)
  /-- MUL (R66): rd receives the low 64 bits of ra × rb. -/
  | mul (th : AnyThr) (rd ra rb : GIdx) (w : Bool)
  /-- MULH (R66): rd receives the high 64 bits of the signed product. -/
  | mulh (th : AnyThr) (rd ra rb : GIdx)
  /-- MULHU (R66): rd receives the high 64 bits of the unsigned product. -/
  | mulhu (th : AnyThr) (rd ra rb : GIdx)
  /-- MULHSU (R66): rd receives the high 64 bits of signed ra times unsigned rb. -/
  | mulhsu (th : AnyThr) (rd ra rb : GIdx)
  /-- DIV (R67): rd receives the signed quotient, with the fixed results for zero and overflow. -/
  | div (th : AnyThr) (rd ra rb : GIdx) (w : Bool)
  /-- DIVU (R67): rd receives the unsigned quotient. -/
  | divu (th : AnyThr) (rd ra rb : GIdx) (w : Bool)
  /-- REM (R67): rd receives the signed remainder. -/
  | rem (th : AnyThr) (rd ra rb : GIdx) (w : Bool)
  /-- REMU (R67): rd receives the unsigned remainder. -/
  | remu (th : AnyThr) (rd ra rb : GIdx) (w : Bool)
  /-- CLZ (R67): rd receives the leading zeros of ra. -/
  | clz (th : AnyThr) (rd ra : GIdx)
  /-- CTZ (R67): rd receives the trailing zeros of ra. -/
  | ctz (th : AnyThr) (rd ra : GIdx)
  /-- POPC (R66): rd receives the number of set bits of ra. -/
  | popc (th : AnyThr) (rd ra : GIdx)
  /-- BSWAP (R66): rd receives ra with its byte order reversed. -/
  | bswap (th : AnyThr) (rd ra : GIdx)
  /-- ADDI (R67): rd receives ra plus the sign-extended immediate. -/
  | addi (th : AnyThr) (rd ra : GIdx) (imm : BitVec 16)
  /-- ANDI (R67): rd receives ra AND the zero-extended immediate. -/
  | andi (th : AnyThr) (rd ra : GIdx) (imm : BitVec 16)
  /-- ORI (R67): rd receives ra OR the zero-extended immediate. -/
  | ori (th : AnyThr) (rd ra : GIdx) (imm : BitVec 16)
  /-- XORI (R67): rd receives ra XOR the zero-extended immediate. -/
  | xori (th : AnyThr) (rd ra : GIdx) (imm : BitVec 16)
  /-- SLTI (R67): rd receives 1 if ra is below the immediate, signed. -/
  | slti (th : AnyThr) (rd ra : GIdx) (imm : BitVec 16)
  /-- SLTIU (R67): rd receives 1 if ra is below the sign-extended immediate, unsigned. -/
  | sltiu (th : AnyThr) (rd ra : GIdx) (imm : BitVec 16)
  /-- LUI (R67): rd receives the sign-extended immediate shifted left by 16. -/
  | lui (th : AnyThr) (rd : GIdx) (imm : BitVec 16)
  /-- ADDPC (R67): rd receives PC plus the sign-extended immediate shifted left by 16. -/
  | addpc (th : AnyThr) (rd : GIdx) (imm : BitVec 16)
  /-- SHI_SLL (R67): rd receives ra shifted left by a constant. -/
  | shiSll (th : AnyThr) (rd ra : GIdx) (amount : ShiftAmount)
  /-- SHI_SRL (R67): rd receives ra shifted right logically by a constant. -/
  | shiSrl (th : AnyThr) (rd ra : GIdx) (amount : ShiftAmount)
  /-- SHI_SRA (R67): rd receives ra shifted right arithmetically by a constant. -/
  | shiSra (th : AnyThr) (rd ra : GIdx) (amount : ShiftAmount)
  /-- SHI_ROR (R67): rd receives ra rotated right by a constant. -/
  | shiRor (th : AnyThr) (rd ra : GIdx) (amount : ShiftAmount)
  /-- LB (R68): Load a byte, sign-extended. -/
  | lb (th : AnyThr) (rd ra : GIdx) (disp : BitVec 16)
  /-- LH (R68): Load two bytes, sign-extended. -/
  | lh (th : AnyThr) (rd ra : GIdx) (disp : BitVec 16)
  /-- LW (R68): Load four bytes, sign-extended. -/
  | lw (th : AnyThr) (rd ra : GIdx) (disp : BitVec 16)
  /-- LD (R68): Load eight bytes. -/
  | ld (th : AnyThr) (rd ra : GIdx) (disp : BitVec 16)
  /-- LBU (R68): Load a byte, zero-extended. -/
  | lbu (th : AnyThr) (rd ra : GIdx) (disp : BitVec 16)
  /-- LHU (R68): Load two bytes, zero-extended. -/
  | lhu (th : AnyThr) (rd ra : GIdx) (disp : BitVec 16)
  /-- LWU (R68): Load four bytes, zero-extended. -/
  | lwu (th : AnyThr) (rd ra : GIdx) (disp : BitVec 16)
  /-- SB (R68): Store the low byte of rs. -/
  | sb (th : AnyThr) (rs ra : GIdx) (disp : BitVec 16)
  /-- SH (R68): Store the low two bytes of rs. -/
  | sh (th : AnyThr) (rs ra : GIdx) (disp : BitVec 16)
  /-- SW (R68): Store the low four bytes of rs. -/
  | sw (th : AnyThr) (rs ra : GIdx) (disp : BitVec 16)
  /-- SD (R68): Store all eight bytes of rs. -/
  | sd (th : AnyThr) (rs ra : GIdx) (disp : BitVec 16)
  /-- BEQ (R69): Branch if ra equals rb. -/
  | beq (th : AnyThr) (ra rb : GIdx) (hint : Bool) (disp : BitVec 15)
  /-- BNE (R69): Branch if ra differs from rb. -/
  | bne (th : AnyThr) (ra rb : GIdx) (hint : Bool) (disp : BitVec 15)
  /-- BLT (R69): Branch if ra is less than rb, signed. -/
  | blt (th : AnyThr) (ra rb : GIdx) (hint : Bool) (disp : BitVec 15)
  /-- BGE (R69): Branch if ra is at least rb, signed. -/
  | bge (th : AnyThr) (ra rb : GIdx) (hint : Bool) (disp : BitVec 15)
  /-- BLTU (R69): Branch if ra is less than rb, unsigned. -/
  | bltu (th : AnyThr) (ra rb : GIdx) (hint : Bool) (disp : BitVec 15)
  /-- BGEU (R69): Branch if ra is at least rb, unsigned. -/
  | bgeu (th : AnyThr) (ra rb : GIdx) (hint : Bool) (disp : BitVec 15)
  /-- J (R70): Jump PC-relative. -/
  | j (th : AnyThr) (disp : BitVec 25)
  /-- JAL (R70): Write PC + 4 to g1 and jump, pushing the return stack when H = 0. -/
  | jal (th : AnyThr) (hint : Bool) (disp : BitVec 25)
  /-- JALR (R70): Jump to the register target, writing PC + 4 to rd. -/
  | jalr (th : AnyThr) (rd ra : GIdx) (imm : BitVec 16)
  /-- AMO_SWAP (R71): Atomically write rb and return the old value. -/
  | amoSwap (th : Thr) (rd ra rb : GIdx) (wide : Bool)
  /-- AMO_ADD (R71): Atomically add rb and return the old value. -/
  | amoAdd (th : Thr) (rd ra rb : GIdx) (wide : Bool)
  /-- AMO_AND (R71): Atomically AND rb and return the old value. -/
  | amoAnd (th : Thr) (rd ra rb : GIdx) (wide : Bool)
  /-- AMO_OR (R71): Atomically OR rb and return the old value. -/
  | amoOr (th : Thr) (rd ra rb : GIdx) (wide : Bool)
  /-- AMO_XOR (R71): Atomically XOR rb and return the old value. -/
  | amoXor (th : Thr) (rd ra rb : GIdx) (wide : Bool)
  /-- AMO_MIN (R71): Atomically store the signed minimum and return the old value. -/
  | amoMin (th : Thr) (rd ra rb : GIdx) (wide : Bool)
  /-- AMO_MAX (R71): Atomically store the signed maximum and return the old value. -/
  | amoMax (th : Thr) (rd ra rb : GIdx) (wide : Bool)
  /-- AMO_MINU (R71): Atomically store the unsigned minimum and return the old value. -/
  | amoMinu (th : Thr) (rd ra rb : GIdx) (wide : Bool)
  /-- AMO_MAXU (R71): Atomically store the unsigned maximum and return the old value. -/
  | amoMaxu (th : Thr) (rd ra rb : GIdx) (wide : Bool)
  /-- AMO_CAS (R71): Atomically compare with rd and write rb on equality, 8 or 16 bytes. -/
  | amoCas (th : Thr) (rd ra rb : GIdx) (wide : Bool)
  /-- CRGET (R74): Read a control register into rd. -/
  | crget (th : AnyThr) (rd : GIdx) (crn : BitVec 12)
  /-- CRSET (R74): Write ra to a control register through its access codes. -/
  | crset (th : AnyThr) (ra : GIdx) (crn : BitVec 12)
  /-- CRSWP (R74): Swap a control register with ra as one action. -/
  | crswp (th : AnyThr) (rd ra : GIdx) (crn : BitVec 12)
  /-- CRBS (R74): Set the bits named by ra in RW and W1S fields, returning the old value. -/
  | crbs (th : AnyThr) (rd ra : GIdx) (crn : BitVec 12)
  /-- CRBC (R74): Clear the bits named by ra in RW and W1C fields, returning the old value. -/
  | crbc (th : AnyThr) (rd ra : GIdx) (crn : BitVec 12)
  /-- SYSCALL (R82): Take cause 0x08 at S with CODE from crn. -/
  | syscall (th : Thr) (code : BitVec 12)
  /-- HOSTCALL (R73): Take cause 0x09 at H in panel 0; illegal elsewhere. -/
  | hostcall (th : Thr) (code : BitVec 12)
  /-- ERET (R84): Return from an exception at S or H, restoring PC, level and IE. -/
  | eret (th : AnyThr)
  /-- WAIT (R77): Stop the thread until an enabled wake source or a secure interrupt. -/
  | wait (th : AnyThr) (boundaryWake pulse : Bool)
  /-- FENCE (R75): Order all earlier accesses before later ones and drain write-combining buffers. -/
  | fence (th : AnyThr)
  /-- IFSYNC (R129): Wait for older stores and refetch younger instructions. -/
  | ifsync (th : AnyThr)
  /-- PBAR (R106): Invalidate the thread's return stack and increment PGEN at retirement. -/
  | pbar (th : AnyThr)
  /-- PFLUSH (R107): Clear the override table, target cache and return stacks and zero PGEN. -/
  | pflush (th : AnyThr)
  /-- TLBINV_ALL (R76): Invalidate every TLB and page-walk cache entry, locally or on every core of the panel. -/
  | tlbinvAll (th : Thr) (all : Bool)
  /-- TLBINV_ASID (R76): Invalidate non-global entries of one ASID, locally or broadcast. -/
  | tlbinvAsid (th : Thr) (ra : GIdx) (all : Bool)
  /-- TLBINV_VA (R76): Invalidate entries translating one virtual address in every ASID, locally or broadcast. -/
  | tlbinvVa (th : Thr) (ra : GIdx) (all : Bool)
  /-- TLBINV_VA_ASID (R76): Invalidate entries translating one address in the current ASID and global ones. -/
  | tlbinvVaAsid (th : Thr) (ra : GIdx) (all : Bool)
  /-- VADD (R78): Vector integer add under mask. -/
  | vadd (th : Thr) (vd va vb : VIdx) (k : KIdx) (z : Bool) (w : Fin 4)
  /-- VSUB (R78): Vector integer subtract under mask. -/
  | vsub (th : Thr) (vd va vb : VIdx) (k : KIdx) (z : Bool) (w : Fin 4)
  /-- VAND (R78): Vector AND under mask. -/
  | vand (th : Thr) (vd va vb : VIdx) (k : KIdx) (z : Bool) (w : Fin 4)
  /-- VOR (R78): Vector OR under mask. -/
  | vor (th : Thr) (vd va vb : VIdx) (k : KIdx) (z : Bool) (w : Fin 4)
  /-- VXOR (R78): Vector XOR under mask. -/
  | vxor (th : Thr) (vd va vb : VIdx) (k : KIdx) (z : Bool) (w : Fin 4)
  /-- VSLL (R78): Per-element shift left by vb. -/
  | vsll (th : Thr) (vd va vb : VIdx) (k : KIdx) (z : Bool) (w : Fin 4)
  /-- VSRL (R78): Per-element logical shift right by vb. -/
  | vsrl (th : Thr) (vd va vb : VIdx) (k : KIdx) (z : Bool) (w : Fin 4)
  /-- VSRA (R78): Per-element arithmetic shift right by vb. -/
  | vsra (th : Thr) (vd va vb : VIdx) (k : KIdx) (z : Bool) (w : Fin 4)
  /-- VMIN (R78): Per-element signed minimum. -/
  | vmin (th : Thr) (vd va vb : VIdx) (k : KIdx) (z : Bool) (w : Fin 4)
  /-- VMAX (R78): Per-element signed maximum. -/
  | vmax (th : Thr) (vd va vb : VIdx) (k : KIdx) (z : Bool) (w : Fin 4)
  /-- VMINU (R78): Per-element unsigned minimum. -/
  | vminu (th : Thr) (vd va vb : VIdx) (k : KIdx) (z : Bool) (w : Fin 4)
  /-- VMAXU (R78): Per-element unsigned maximum. -/
  | vmaxu (th : Thr) (vd va vb : VIdx) (k : KIdx) (z : Bool) (w : Fin 4)
  /-- VMUL (R78): Per-element multiply, low half. -/
  | vmul (th : Thr) (vd va vb : VIdx) (k : KIdx) (z : Bool) (w : Fin 4)
  /-- VMULH (R78): Per-element signed multiply, high half. -/
  | vmulh (th : Thr) (vd va vb : VIdx) (k : KIdx) (z : Bool) (w : Fin 4)
  /-- VADDSAT (R78): Per-element signed saturating add. -/
  | vaddsat (th : Thr) (vd va vb : VIdx) (k : KIdx) (z : Bool) (w : Fin 4)
  /-- VSUBSAT (R78): Per-element signed saturating subtract. -/
  | vsubsat (th : Thr) (vd va vb : VIdx) (k : KIdx) (z : Bool) (w : Fin 4)
  /-- VCMPEQ (R78): Compare elements for equality into a mask register. -/
  | vcmpeq (th : Thr) (kd : KIdx) (va vb : VIdx) (k : KIdx) (z : Bool) (w : Fin 4)
  /-- VCMPLT (R78): Compare elements signed less-than into a mask register. -/
  | vcmplt (th : Thr) (kd : KIdx) (va vb : VIdx) (k : KIdx) (z : Bool) (w : Fin 4)
  /-- VCMPLTU (R78): Compare elements unsigned less-than into a mask register. -/
  | vcmpltu (th : Thr) (kd : KIdx) (va vb : VIdx) (k : KIdx) (z : Bool) (w : Fin 4)
  /-- VFADD (R79): Vector floating-point add. -/
  | vfadd (th : Thr) (vd va vb : VIdx) (k : KIdx) (z : Bool) (w : FpWidth)
  /-- VFSUB (R79): Vector floating-point subtract. -/
  | vfsub (th : Thr) (vd va vb : VIdx) (k : KIdx) (z : Bool) (w : FpWidth)
  /-- VFMUL (R79): Vector floating-point multiply. -/
  | vfmul (th : Thr) (vd va vb : VIdx) (k : KIdx) (z : Bool) (w : FpWidth)
  /-- VFDIV (R79): Vector floating-point divide. -/
  | vfdiv (th : Thr) (vd va vb : VIdx) (k : KIdx) (z : Bool) (w : FpWidth)
  /-- VFSQRT (R79): Vector floating-point square root. -/
  | vfsqrt (th : Thr) (vd va : VIdx) (k : KIdx) (z : Bool) (w : FpWidth)
  /-- VFMIN (R79): Vector floating-point minimum. -/
  | vfmin (th : Thr) (vd va vb : VIdx) (k : KIdx) (z : Bool) (w : FpWidth)
  /-- VFMAX (R79): Vector floating-point maximum. -/
  | vfmax (th : Thr) (vd va vb : VIdx) (k : KIdx) (z : Bool) (w : FpWidth)
  /-- VFMA (R79): Fused multiply-add, vd ← va × vb + vd. -/
  | vfma (th : Thr) (vd va vb : VIdx) (k : KIdx) (z : Bool) (w : FpWidth)
  /-- VFMS (R79): Fused multiply-subtract, vd ← va × vb − vd. -/
  | vfms (th : Thr) (vd va vb : VIdx) (k : KIdx) (z : Bool) (w : FpWidth)
  /-- VFNMA (R79): Fused negated multiply-add, vd ← −(va × vb) + vd. -/
  | vfnma (th : Thr) (vd va vb : VIdx) (k : KIdx) (z : Bool) (w : FpWidth)
  /-- VFCMPEQ (R79): Floating-point equality compare into a mask. -/
  | vfcmpeq (th : Thr) (kd : KIdx) (va vb : VIdx) (k : KIdx) (z : Bool) (w : FpWidth)
  /-- VFCMPLT (R79): Floating-point less-than compare into a mask. -/
  | vfcmplt (th : Thr) (kd : KIdx) (va vb : VIdx) (k : KIdx) (z : Bool) (w : FpWidth)
  /-- VFCMPLE (R79): Floating-point less-or-equal compare into a mask. -/
  | vfcmple (th : Thr) (kd : KIdx) (va vb : VIdx) (k : KIdx) (z : Bool) (w : FpWidth)
  /-- VFCVTFI (R79): Convert float to signed integer, saturating. -/
  | vfcvtfi (th : Thr) (vd va : VIdx) (k : KIdx) (z : Bool) (w : FpWidth)
  /-- VFCVTIF (R79): Convert signed integer to float. -/
  | vfcvtif (th : Thr) (vd va : VIdx) (k : KIdx) (z : Bool) (w : FpWidth)
  /-- VFCVTW (R79): Change floating-point width, widening or narrowing. -/
  | vfcvtw (th : Thr) (vd va : VIdx) (k : KIdx) (z : Bool) (w src : FpWidth)
  /-- VLD (R80): Load 32 bytes into a vector register. -/
  | vld (th : Thr) (vd : VIdx) (ga gb : GIdx) (k : KIdx) (z : Bool) (w : Fin 4)
  /-- VST (R80): Store 32 bytes of a vector register. -/
  | vst (th : Thr) (vs : VIdx) (ga gb : GIdx) (k : KIdx) (z : Bool) (w : Fin 4)
  /-- VLDB (R80): Load one element and broadcast it to every element. -/
  | vldb (th : Thr) (vd : VIdx) (ga gb : GIdx) (k : KIdx) (z : Bool) (w : Fin 4)
  /-- VGATHER (R80): Load each active element from base plus scaled vector index. -/
  | vgather (th : Thr) (vd : VIdx) (ga : GIdx) (vb : VIdx) (k : KIdx) (z : Bool) (w : Fin 4)
  /-- VSCATTER (R80): Store each active element in ascending order to base plus scaled index. -/
  | vscatter (th : Thr) (vs : VIdx) (ga : GIdx) (vb : VIdx) (k : KIdx) (z : Bool) (w : Fin 4)
  /-- KLD (R80): Load 8 bytes into a mask register. -/
  | kld (th : Thr) (kd : KIdx) (ga gb : GIdx) (w : Fin 4)
  /-- KST (R80): Store 8 bytes of a mask register. -/
  | kst (th : Thr) (ks : KIdx) (ga gb : GIdx) (w : Fin 4)
  /-- KAND (R78): Mask AND. -/
  | kand (th : Thr) (kd ka kb : KIdx)
  /-- KOR (R78): Mask OR. -/
  | kor (th : Thr) (kd ka kb : KIdx)
  /-- KXOR (R78): Mask XOR. -/
  | kxor (th : Thr) (kd ka kb : KIdx)
  /-- KNOT (R78): Mask NOT. -/
  | knot (th : Thr) (kd ka : KIdx)
  /-- KTOG (R78): Move a mask register to a general register. -/
  | ktog (th : Thr) (rd : GIdx) (ka : KIdx)
  /-- GTOK (R78): Move a general register to a mask register. -/
  | gtok (th : Thr) (kd : KIdx) (ga : GIdx)
  /-- VPERM (R78): Permute elements by index. -/
  | vperm (th : Thr) (vd va vb : VIdx) (k : KIdx) (z : Bool) (w : Fin 4)
  /-- VCOMPRESS (R78): Pack active elements low. -/
  | vcompress (th : Thr) (vd va : VIdx) (k : KIdx) (z : Bool) (w : Fin 4)
  /-- VEXT (R78): Extract one element to a general register. -/
  | vext (th : Thr) (rd : GIdx) (va : VIdx) (gb : GIdx) (w : Fin 4)
  /-- VINS (R78): Insert a general register into one element. -/
  | vins (th : Thr) (vd : VIdx) (ga gb : GIdx) (w : Fin 4)
  /-- VREDADD (R78): Sum active elements into element 0. -/
  | vredadd (th : Thr) (vd va : VIdx) (k : KIdx) (z : Bool) (w : Fin 4)
  /-- VREDMIN (R78): Signed minimum of active elements into element 0. -/
  | vredmin (th : Thr) (vd va : VIdx) (k : KIdx) (z : Bool) (w : Fin 4)
  /-- VREDMAX (R78): Signed maximum of active elements into element 0. -/
  | vredmax (th : Thr) (vd va : VIdx) (k : KIdx) (z : Bool) (w : Fin 4)
  /-- VFREDADD (R79): Floating-point pairwise-tree sum into element 0. -/
  | vfredadd (th : Thr) (vd va : VIdx) (k : KIdx) (z : Bool) (w : FpWidth)
  /-- VBCAST (R78): Broadcast a general register to every element. -/
  | vbcast (th : Thr) (vd : VIdx) (ga : GIdx) (k : KIdx) (z : Bool) (w : Fin 4)
  /-- INTERRUPT_ENTRY (R89): At an instruction boundary a thread takes its highest deliverable vector as cause 0x20.
  -/
  | interruptEntry (th : Thr)
  /-- SECURE_INTERRUPT_ENTRY (R87): A pending secure interrupt is taken regardless of IE and IPL. -/
  | secureInterruptEntry (th : Thr)
  /-- SECURE_INTERRUPT_WAIT_EXPIRY (R87): A secure interrupt held by EXL for 4,096 cycles is taken with NEST = 1. -/
  | secureInterruptWaitExpiry (th : Thr)
  /-- IACK (R90): A read of IACK returns the highest deliverable vector and marks it active. -/
  | iack (th : Thr) (rd : GIdx)
  /-- IEOI (R90): A write to IEOI clears ACTIVE of the named vector. -/
  | ieoi (th : Thr) (ra : GIdx)
  /-- IC_VEC (R88): A write to a vector's IC.VEC raises or withdraws PEND and clears EN on a seat the panel lacks. -/
  | icVec (p : Panel) (v : Vec) (value : Word)
  /-- INTERRUPT_MESSAGE (R300): A 4-byte device write to the interrupt address sets PEND of the function's panel
  vector. -/
  | interruptMessage (r : RootPort) (rid : BitVec 16) (data : BitVec 32)
  /-- RDS (R165): A home takes a read-for-load request and answers per Table COH-10 or RETRY. -/
  | rds (t : Tile) (line : Line)
  /-- RDX (R165): A home takes a read-for-ownership request. -/
  | rdx (t : Tile) (line : Line)
  /-- UPG (R165): A home takes an upgrade request from an S holder. -/
  | upg (t : Tile) (line : Line)
  /-- RDIO (R177): A home takes an uncached read and returns a copy. -/
  | rdio (a : Agent) (line : Line) (ctx : Fin 16384)
  /-- WRF (R175): A home takes a full-line write, drops every copy and writes memory. -/
  | wrf (a : Agent) (line : Line) (w : IoWrite)
  /-- WRP (R176): A home takes a partial-line write, recalls the line and merges. -/
  | wrp (a : Agent) (line : Line) (mask : BitVec 64) (w : IoWrite)
  /-- SNP_SH (R164): An L2 receives a share snoop and answers per Table COH-9. -/
  | snpSh (t : Tile) (line : Line) (htid : Htid)
  /-- SNP_INV (R164): An L2 receives an invalidate snoop and returns data if E or M. -/
  | snpInv (t : Tile) (line : Line) (htid : Htid)
  /-- SNP_DROP (R164): An L2 receives a drop snoop and discards the line even if dirty. -/
  | snpDrop (t : Tile) (line : Line) (htid : Htid)
  /-- SNP_CPY (R164): An L2 receives a copy snoop and returns data keeping its state. -/
  | snpCpy (t : Tile) (line : Line) (htid : Htid)
  /-- MRD (R232): A memory controller takes a forwarded read, decodes, decrypts and checks key tag and region. -/
  | mrd (c : MemDest) (src : MemSrc) (line : Line) (ktag : Panel) (hbolt : Bolt) (req : Agent) (res : ReadOut)
  /-- MWA (R224): A memory controller takes a memory write pair, encrypts, checks and queues it, mirroring if marked.
  -/
  | mwa (c : MemDest) (src : MemSrc) (line : Line) (ktag : Panel) (hbolt : Bolt) (req : Agent) (poison wedged : Bool)
  /-- MDATA (R223): Memory read data arrives at a home, or partner data arrives at a primary for mirror repair. -/
  | mdata (dst : MemEnd) (poison : Bool)
  /-- MWACK (R232): A memory write acceptance arrives at a home or a mirror primary. -/
  | mwack (dst : MemEnd) (failed : Bool)
  /-- DATA_S (R164): An L2 in IS_D receives data and enters S. -/
  | dataS (t : Tile) (rtid : Fin 48) (poison : Bool)
  /-- DATA_E (R164): An L2 in IS_D receives data and enters E. -/
  | dataE (t : Tile) (rtid : Fin 48) (poison : Bool)
  /-- DATA_M (R164): An L2 receives data in M, performs waiting stores or AMO and sends GACK. -/
  | dataM (t : Tile) (rtid : Fin 48) (poison : Bool)
  /-- DATA_IO (R177): Data for an RDIO arrives at its requester. -/
  | dataIo (a : Agent) (rtid : Fin 256) (poison : Bool)
  /-- SNPRESP_D (R165): A home receives a snoop answer with dirty data. -/
  | snprespD (h : Tile) (htid : Htid) (src : Tile) (poison : Bool)
  /-- SNPRESP_C (R165): A home receives a snoop answer with clean data. -/
  | snprespC (h : Tile) (htid : Htid) (src : Tile) (poison : Bool)
  /-- SNPRESP_I (R165): A home receives a not-held snoop answer. -/
  | snprespI (h : Tile) (htid : Htid) (src : Tile)
  /-- SNPRESP_S (R165): A home receives a held-in-S snoop answer. -/
  | snprespS (h : Tile) (htid : Htid) (src : Tile)
  /-- SNPRESP_WBPEND (R169): A home learns a snooped line is in a selvedge buffer and awaits its writeback. -/
  | snprespWbpend (h : Tile) (htid : Htid) (src : Tile)
  /-- WBA (R169): A home takes a writeback pair, alone or matched to an open transaction. -/
  | wba (h src : Tile) (line : Line) (poison : Bool)
  /-- WRD (R175): Write data for a WRF or WRP arrives at the home. -/
  | wrd (h : Tile) (htid : Htid) (poison : Bool)
  /-- GNT_M (R164): An L2 in SM_A receives ownership without data. -/
  | gntM (t : Tile) (rtid : Fin 48)
  /-- GACK (R165): A home receives the grant acknowledgement and closes the transaction. -/
  | gack (h : Tile) (htid : Htid)
  /-- WBACK (R142): Writeback completion frees a selvedge entry and returns the credit. -/
  | wback (t : Tile) (line : Line)
  /-- RETRY (R173): A requester receives RETRY and counts it in RCNT. -/
  | retry (a : Agent) (rtid : Fin 256) (rsv : Bool)
  /-- RETRY_REISSUE (R173): 16 ns × RCNT after a RETRY the requester issues again. -/
  | retryReissue (a : Agent) (rtid : Fin 256)
  /-- GO (R174): A reserved requester receives GO and issues with RSV. -/
  | go (a : Agent) (rtid : Fin 256)
  /-- DBGO (R302): A writer receives DBGO and sends WRD, releasing ordered writes behind it. -/
  | dbgo (a : Agent) (rtid : Fin 256)
  /-- CMP (R156): A write completion reaches its requester. -/
  | cmp (a : Agent) (rtid : Fin 256)
  /-- ERRCMP (R156): An error completion reaches its requester. -/
  | errcmp (a : Agent) (rtid : Fin 256)
  /-- CRDREQ (R158): A request for a pool credit arrives at a home or memory controller. -/
  | crdreq (k : Credit)
  /-- CRDGNT (R159): A pool credit is granted to the requester. -/
  | crdgnt (k : Credit)
  /-- CRDRET (R159): A memory credit returns to a home. -/
  | crdret (h : Tile) (c : Chan) (w : Bool)
  /-- COH_TIMEOUT (R179): The coherence home transaction timeout expires and the bolt resets. -/
  | cohTimeout (atHome : Bool) (t : Tile) (id : Htid)
  /-- BOLT_RESET_COMPLETE (R182): Bolt basting and reload end, the fence lowers and the bolt runs, or goes OFFLINE. -/
  | boltResetComplete (b : Bolt) (failed : List Tile)
  /-- FLIT_FORWARD (R190): A router, bridge or hub switch forwards a flit by its route word. -/
  | flitForward (node : WarpNode) (src : FlitFrom) (fails : Fin 6)
  /-- PATTERN_SWITCH (R197): Once old-route requests are answered, an NI switches to the new route word and clears
  PEND. -/
  | patternSwitch (ni : Ni) (e : Fin 256)
  /-- WRP_TIMEOUT (R412): The Warp transaction timeout expires and the request receives ERRCMP. -/
  | wrpTimeout (a : Agent) (rtid : Fin 256)
  /-- L2_L3_SCRUB (R146): The tile scrubber reads L2 and L3 lines in idle cycles and rewrites corrected words. -/
  | l2L3Scrub (t : Tile) (found : List ArrayErr)
  /-- WAY_CLEAN_COMPLETE (R137): Cleaning of a way leaving a mask ends, and it may enter another panel's field. -/
  | wayCleanComplete (t : Tile)
  /-- RANGE_INV_COMPLETE (R141): Every slice has visited the range and range invalidation completes. -/
  | rangeInvComplete (p : Option Panel)
  /-- INV_COMPLETE (R151): An array invalidation engine finishes and its INV bit reads 0. -/
  | invComplete (t : Tile) (a : CacheArray)
  /-- PATROL_SCRUB (R225): A controller reads, corrects and writes back one row on its scrub schedule. -/
  | patrolScrub (c : Chan) (found : List (Fin 25 × ReadOut))
  /-- SPARE_COPY_COMPLETE (R227): The spare copy ends, MC.SPAREk is set and held requests go to the spare. -/
  | spareCopyComplete (c : Chan) (bad : List (Fin 25)) (spareBad : Bool)
  /-- MEM_TIMEOUT (R231): The memory controller request timeout expires with poisoned data or MWACK. -/
  | memTimeout (c : Chan)
  /-- POT_SHOOTDOWN_ACK (R219): A checker acknowledges after its old-entry accesses complete. -/
  | potShootdownAck (a : Agent)
  /-- WEFT_FRAME (R240): A Weft frame arrives, is checked, acknowledges, returns credits or triggers replay. -/
  | weftFrame (p : Port) (f : WFrame)
  /-- PCS_LOCK (R241): PMD training and PCS, marker and FEC lock complete and NULL frames start. -/
  | pcsLock (p : Port)
  /-- HELLO (R263): A HELLO cell is checked against the port's own identity and shape. -/
  | hello (p : Port) (c : Cell)
  /-- LINK_BRINGUP_RESTART (R241): One second after a bring-up failure the port starts again. -/
  | linkBringupRestart (p : Port)
  /-- CELL_FORWARD (R247): A routed cell is forwarded on its current leg or delivered to its sink. -/
  | cellForward (src : CellFrom)
  /-- BARARR (R260): A barrier arrival reaches the root, which counts it when GEN matches. -/
  | bararr (c : Cell)
  /-- BARREL (R261): A barrier release cell is flooded on and schedules or late-releases the context. -/
  | barrel (p : Port) (c : Cell)
  /-- RD64 (R256): A 64-byte remote read is checked and issued into the target bolt. -/
  | rd64 (c : Cell)
  /-- RD128 (R256): A 128-byte remote read is checked and issued into the target bolt. -/
  | rd128 (c : Cell)
  /-- WR64 (R256): A 64-byte masked remote write is checked and issued. -/
  | wr64 (c : Cell)
  /-- WR128 (R253): A 128-byte remote write is performed as two WRF requests. -/
  | wr128 (c : Cell)
  /-- RDRESP (R258): A remote read response completes its outbound entry. -/
  | rdresp (c : Cell)
  /-- WACK (R258): A remote write acknowledgement completes its outbound entry. -/
  | wack (c : Cell)
  /-- WRETRY (R252): A target refusal stops the source's class toward that target until GO. -/
  | wretry (c : Cell)
  /-- WFT_GO (R252): A Weft GO cell lets a blocked source resend from the refused SEQ. -/
  | wftGo (c : Cell)
  /-- WERR (R258): A remote error completes the outbound entry with its code. -/
  | werr (c : Cell)
  /-- MSG (R259): A remote bobbin message segment is written into the target's receive buffer. -/
  | msg (c : Cell)
  /-- ETH (R274): A frame segment for a remote virtual port is reassembled and delivered. -/
  | eth (c : Cell)
  /-- OCKAR (R262): An Ockar packet segment arrives for the target Thimble or as a forwarded reply. -/
  | ockar (c : Cell)
  /-- LINKST (R264): A link-state cell is accepted if newer, recorded and flooded. -/
  | linkst (p : Port) (c : Cell)
  /-- LINKST_ORIGINATION (R264): A module originates a LINKST each second or on a port change. -/
  | linkstOrigination
  /-- LINKST_ORIGIN_ABSENT (R264): An origin silent for 3 s is treated as absent. -/
  | linkstOriginAbsent (m : Fin 4096)
  /-- APERTURE_ACCESS (R254): A core aperture load or store reaches the Weft engine and becomes RD64 or WR64. -/
  | apertureAccess
  /-- WFT_TIMEOUT (R258): The Weft remote operation timeout completes the entry with WERR TIMEOUT. -/
  | wftTimeout (t : WftTimer)
  /-- UPLINK_FRAME (R273): A frame received on an uplink is checked, switched and delivered. -/
  | uplinkFrame (u : Uplink) (f : List Byte) (fcsOk : Bool) (ns : Fin 10000)
  /-- SEND_DESCRIPTOR (R283): The engine takes a send descriptor chain, checks it and builds the frame. -/
  | sendDescriptor (b : Bobbin)
  /-- FRAME_TRANSMIT (R287): An eligible frame leaves its sub-port and is charged to tokens. -/
  | frameTransmit (u : Option Uplink) (ns : Fin 10000)
  /-- NET_BOBSTALL (R290): The bobbin stall timeout expires and resets the bobbin. -/
  | netBobstall (b : Bobbin)
  /-- UPLINK_LINK_CHANGE (R269): An Ethernet sub-port gains or loses link. -/
  | uplinkLinkChange (u : Uplink) (up : Bool)
  /-- DMA_REQUEST (R299): A device memory request is checked per line and split into RDIO, WRF or WRP. -/
  | dmaRequest (r : RootPort) (rid : BitVec 16) (q : DmaReq)
  /-- PCIE_COMPLETION (R296): A completion for a DEV load or configuration read returns through a root port. -/
  | pcieCompletion (r : RootPort) (th : Thr) (st : CplStatus) (data : Word)
  /-- HIO_CTO (R296): A root-port completion timeout expires and the load receives ERRCMP. -/
  | hioCto (r : RootPort)
  /-- HIO_DPC (R309): A DPC event holds the root port and fails its outstanding requests. -/
  | hioDpc (r : RootPort)
  /-- ROOT_PORT_LINK_CHANGE (R293): A root-port link trains, falls or is held NOFLIT. -/
  | rootPortLinkChange (r : RootPort) (c : LinkChange)
  /-- FLR_COMPLETE (R310): A function-level reset completes and FLR clears with BME set. -/
  | flrComplete (k : Fin 4) (e : Fin 512)
  /-- CXL_RESPONSE (R305): A CXL.mem device answers a controller read or write. -/
  | cxlResponse (r : Fin 8) (write : Bool) (line : Line) (poison : Bool)
  /-- HIO_CXLTO (R307): A CXL request not completed in 2 stitches is answered with poison or MWACK. -/
  | hioCxlto (r : Fin 8)
  /-- CUTTER_ALLOCATION (R315): Task 5 computes cores, tokens, ways and frequencies for the next stitch. -/
  | cutterAllocation
  /-- COMMIT_STAGING (R325): Task 8 stages the allocation for the next boundary. -/
  | commitStaging
  /-- UNIT_STATE_REPORT (R400): Task 9 delivers each unit's state record and Thimble compares CFGD. -/
  | unitStateReport (u cfgd : BitVec 32) (what : Report) (rec_ : BitVec 512)
  /-- TAPE_ACCUMULATE (R330): The accumulator pipeline adds the retired bank into the minute totals and updates
  TAPE.LIVE. -/
  | tapeAccumulate
  /-- SHEET_SIGN (R335): Thimble signs a closed minute sheet's header with the metering key. -/
  | sheetSign
  /-- THM_LATE (R336): A sheet unsigned 500 stitches after END will be signed with LATE and recorded. -/
  | thmLate
  /-- THIMBLE_INTERRUPT (R341): A pending enabled Thimble interrupt is taken after the current instruction. -/
  | thimbleInterrupt
  /-- XQ (R344): A write to XQ queues a transfer descriptor. -/
  | xq (a : BitVec 32)
  /-- TRANSFER_COMPLETE (R344): A transfer descriptor finishes, STATUS is written and XFER raised. -/
  | transferComplete (res : XferEnd)
  /-- MBTAKE (R346): Thimble frees a mailbox engine after copying its request. -/
  | mbtake (m : Fin 64)
  /-- MBDONE (R347): Thimble has the engine write a reply into the named slot. -/
  | mbdone (v : BitVec 32)
  /-- SINT (R349): Thimble raises a secure interrupt for a seat and thread. -/
  | sint (v : BitVec 32)
  /-- CLAIMSET (R350): Thimble sets a power claim on a domain. -/
  | claimset (d : BitVec 9)
  /-- CLAIMCLR (R351): Thimble clears a claim, and a held power request proceeds. -/
  | claimclr (d : BitVec 9)
  /-- THM_CLAIM (R352): A claim reaching AGE 100 clears itself and CLAIMEXP is raised. -/
  | thmClaim (k : Fin 32)
  /-- TWDOG (R353): A write of 0x5EC1 reloads the secure watchdog; other values count BADKICK. -/
  | twdog (kick : BitVec 16)
  /-- THM_SWDOG (R353): The secure watchdog reaches zero and the module takes a warm reset. -/
  | thmSwdog
  /-- ENTROPY (R356): Ladder command filling a slot from the entropy pool. -/
  | entropy (exp : Bool) (dst : Fin 32)
  /-- DERIVE (R354): Ladder command deriving a slot by SHAKE256 from a source and label. -/
  | derive (exp : Bool) (src dst : Fin 32) (laddr : Byte)
  /-- PUSHALL (R355): Ladder command loading a key into a tag of every controller in service. -/
  | pushall (src : Fin 32) (tag : Panel)
  /-- CLEARTAG (R355): Ladder command clearing a key tag in every controller. -/
  | cleartag (tag : Panel)
  /-- CLEAR (R354): Ladder command zeroing a slot. -/
  | clear (dst : Fin 32)
  /-- LADDER_EXPORT (R354): Ladder command copying an exportable slot to SRAM. -/
  | ladderExport (dst : Fin 32) (laddr : Byte)
  /-- BIND (R354): Ladder command binding a slot to the AES or NTT engine. -/
  | bind (src : Fin 32) (ntt : Bool)
  /-- LADDER_COMPLETE (R354): A ladder command finishes and LSTAT BUSY clears. -/
  | ladderComplete
  /-- SHAKE_ENGINE (R343): Thimble starts the SHAKE engine on SRAM operands. -/
  | shakeEngine (src dst : BitVec 32) (len out : BitVec 16)
  /-- AES_ENGINE (R343): Thimble starts the AES engine with a bound ladder key. -/
  | aesEngine (src dst : BitVec 32) (len : BitVec 16)
  /-- NTT_ENGINE (R343): Thimble starts an ML-DSA or ML-KEM operation on the NTT engine. -/
  | nttEngine (op : NttOp) (key msg dst : BitVec 32) (len : BitVec 16)
  /-- ENGINE_COMPLETE (R343): A cryptographic engine finishes and raises its interrupt. -/
  | engineComplete (e : Fin 3)
  /-- ENTFAIL (R356): An entropy health test fails, emptying the pool and failing ENTROPY. -/
  | entfail
  /-- DEBUG_EXPIRY (R361): A debug session's EXPIRY boundary passes and the session closes. -/
  | debugExpiry (nonce : BitVec 256)
  /-- ROM_BOOT (R375): After root-of-trust basting the ROM selects a bank, checks the image and derives keys. -/
  | romBoot (failures : List Failure)
  /-- OFFER_LAPSE (R371): A KEM offer lapses one minute after its report's STITCH. -/
  | offerLapse (p : Panel)
  /-- IMAGE_ERASE_COMPLETE (R376): The bank erase started by IMAGE_BEGIN ends. -/
  | imageEraseComplete
  /-- I3C_MCTP_MESSAGE (R390): An MCTP message carrying an Ockar packet arrives over I3C. -/
  | i3cMctpMessage (msg : List Byte)
  /-- ENTDAA (R482): The I3C controller assigns Thimble a dynamic address by ENTDAA. -/
  | entdaa (addr : BitVec 7)
  /-- SETDASA (R482): The I3C controller assigns a dynamic address from static 0x3A. -/
  | setdasa (static addr : BitVec 7)
  /-- SESSION_STEP_TIMEOUT (R392): A session set-up step not followed within 60 ms discards the partial session. -/
  | sessionStepTimeout (sid : BitVec 16)
  /-- SESSION_IDLE_TIMEOUT (R393): A session with no valid request for one minute closes. -/
  | sessionIdleTimeout (sid : BitVec 16)
  /-- COMMAND_CLASS_BOUND (R396): A command not done at its class bound is answered PENDING. -/
  | commandClassBound
  /-- INFO (R399): Return the module's identity and parameters. -/
  | info
  /-- CERT_FETCH (R366): Return a piece of a DEVID, alias or metering certificate. -/
  | certFetch
  /-- UNIT_QUERY (R400): Return a unit's service state, CFGD and last state record. -/
  | unitQuery
  /-- SESSION_OFFER (R392): Start a session with a nonce and an ephemeral ML-KEM key. -/
  | sessionOffer
  /-- SESSION_PROOF (R392): Sign the session transcript with the alias key. -/
  | sessionProof
  /-- SESSION_KEY (R392): Decapsulate the operator's ciphertext and derive the MAC keys. -/
  | sessionKey
  /-- SESSION_AUTH (R392): Verify the operator key's signature and open the session. -/
  | sessionAuth
  /-- SESSION_CLOSE (R393): Close the operator session. -/
  | sessionClose
  /-- KEY_STAGE (R399): Stage a public key for a later registration. -/
  | keyStage
  /-- OPKEY_REGISTER (R392): Register or replace the operator key. -/
  | opkeyRegister
  /-- BUILD (R43): Create a panel with its contract, save area, mailbox and key. -/
  | build
  /-- LAUNCH (R368): Measure the staged granules and start the panel. -/
  | launch
  /-- PAUSE (R43): Trigger RUNNING to PAUSED. -/
  | pause
  /-- RESUME (R43): Trigger PAUSED to RUNNING. -/
  | resume
  /-- RESET (R43): Trigger a panel reset. -/
  | reset
  /-- TEAR (R58): Trigger teardown of a panel. -/
  | tear
  /-- PANEL_QUERY (R399): Return a panel's state, flags and counts. -/
  | panelQuery
  /-- FN_ASSIGN (R297): Assign a PCIe function to a panel. -/
  | fnAssign
  /-- FN_RELEASE (R297): Release a function with BME cleared and a function-level reset. -/
  | fnRelease
  /-- MEMBER_EVENT (R61): A peer notice of a faulted member faults or interrupts this member. -/
  | memberEvent
  /-- CONTRACT_SET (R312): Check and write a panel's contract. -/
  | contractSet
  /-- CONTRACT_GET (R399): Return a panel's contract. -/
  | contractGet
  /-- OVERRIDE (R326): Clear, withhold or pin a core through CUT.OVR. -/
  | override
  /-- CUTTER_READ (R399): Return CUT.PSTAT of a range of panels. -/
  | cutterRead
  /-- GRANT (R218): Grant contiguous granules to a panel. -/
  | grant
  /-- RELEASE (R220): Remove granules from a panel by shootdown, invalidation and zero fill. -/
  | release
  /-- POT_READ (R217): Return Page Owner Table entries. -/
  | potRead
  /-- L3_LOCK (R138): Preload a granule range into locked L3 ways. -/
  | l3Lock
  /-- L3_UNLOCK (R140): Clear the panel's LOCK fields. -/
  | l3Unlock
  /-- RANGE_INV (R141): Start invalidation of a granule range in every slice. -/
  | rangeInv
  /-- CACHE_DISABLE (R149): Clean and disable one cache of a tile. -/
  | cacheDisable
  /-- CACHE_ENABLE (R149): Invalidate and enable one cache of a tile. -/
  | cacheEnable
  /-- BOLTCFG_SET (R154): Set the bolt configuration for the next reset. -/
  | boltcfgSet
  /-- HOSTCFG_SET (R292): Set a host-port controller's division and CXL mask for the next reset. -/
  | hostcfgSet
  /-- REGION_SET (R216): Set a memory region register in every controller. -/
  | regionSet
  /-- RAW_READ (R206): Return a raw 2,048-byte row of a channel. -/
  | rawRead
  /-- SCRUB_SET (R225): Set a channel's patrol scrub period. -/
  | scrubSet
  /-- HDM_SET (R304): Set a CXL root port's HDM range. -/
  | hdmSet
  /-- RP_SET (R308): Set a root port's timeout, payload and link fields. -/
  | rpSet
  /-- VP_CREATE (R271): Create a virtual port for a panel. -/
  | vpCreate
  /-- VP_REMOVE (R271): Remove a virtual port. -/
  | vpRemove
  /-- VP_READ (R271): Return a virtual port's registers. -/
  | vpRead
  /-- RMAC_SET (R273): Install or remove a remote MAC table entry. -/
  | rmacSet
  /-- FLOW_ADD (R275): Insert a flow entry into its bucket. -/
  | flowAdd
  /-- FLOW_DEL (R275): Delete a flow entry. -/
  | flowDel
  /-- FLOW_READ (R275): Return a flow entry. -/
  | flowRead
  /-- METER_SET (R277): Set a meter's rate, burst and panel. -/
  | meterSet
  /-- TMPL_SET (R278): Write an encapsulation template. -/
  | tmplSet
  /-- BOB_CREATE (R281): Create a bobbin on a virtual port. -/
  | bobCreate
  /-- BOB_RINGS (R281): Set a bobbin's ring bases. -/
  | bobRings
  /-- BOB_RESET (R290): Reset a bobbin with CAUSE 0x04. -/
  | bobReset
  /-- UPLINK_SET (R269): Set an Ethernet port's mode, PMD and uplink configuration. -/
  | uplinkSet
  /-- VTEP_SET (R280): Set a VTEP address entry. -/
  | vtepSet
  /-- VNI_SET (R280): Map a VNI to a switch domain. -/
  | vniSet
  /-- FAB_CONFIG (R236): Write the fabric ID, shape and name to the configuration record. -/
  | fabConfig
  /-- PORT_SET (R235): Set a port's role, dimension and direction, with retraining. -/
  | portSet
  /-- EXPORT (R255): Export a granule into the inbound map and return its offset. -/
  | exportAperture
  /-- UNEXPORT (R256): Remove an export by shootdown. -/
  | unexport
  /-- MEMBER_SET (R257): Set a member table entry. -/
  | memberSet
  /-- BAR_SET (R260): Configure a barrier context. -/
  | barSet
  /-- BAR_CANCEL (R261): Cancel a barrier by resetting its context. -/
  | barCancel
  /-- ROUTE_READ (R245): Return a destination's route words and PSEL. -/
  | routeRead
  /-- TIME_CFG (R493): Write TU.CTRL, a reference change counting as loss. -/
  | timeCfg
  /-- TIME_SET (R30): Set TAI time before commitment. -/
  | timeSet
  /-- TIME_STEP (R31): Step time after commitment while all tenant panels are EMPTY. -/
  | timeStep
  /-- UTC_SET (R37): Write TU.UTCOFS. -/
  | utcSet
  /-- PPSDLY_SET (R484): Write the PPS_IN delay compensation. -/
  | ppsdlySet
  /-- TIME_READ (R399): Return Time Unit status, offset, frequency and time. -/
  | timeRead
  /-- SHEET_FETCH (R337): Return a signed minute sheet by SEQ or MINUTE. -/
  | sheetFetch
  /-- RECORD_FETCH (R337): Return a sheet record with its inclusion proof. -/
  | recordFetch
  /-- REPORT (R369): Produce a signed attestation report, optionally with a KEM offer. -/
  | report
  /-- OFFER_FETCH (R371): Return the offered encapsulation key. -/
  | offerFetch
  /-- SECRET_ACCEPT (R372): Decapsulate and write the derived tenant secret into panel memory. -/
  | secretAccept
  /-- IMAGE_BEGIN (R376): Start erasing the non-running bank for an image. -/
  | imageBegin
  /-- IMAGE_WRITE (R376): Program image bytes into the erased bank. -/
  | imageWrite
  /-- IMAGE_CHECK (R373): Check the bank's image under R373. -/
  | imageCheck
  /-- ACTIVATE (R376): Program the bank's boot record NEW. -/
  | activate
  /-- TRY (R376): Take a warm reset to try the new image. -/
  | try
  /-- COMMIT (R377): Mark the running bank GOOD and optionally advance the rollback counter. -/
  | commit
  /-- FW_STATUS (R399): Return firmware bank and operation status. -/
  | fwStatus
  /-- DECOMMISSION (R365): Move the lifecycle to SCRAPPED. -/
  | decommission
  /-- OWNERKEY_REGISTER (R374): Register or replace the owner firmware key. -/
  | ownerkeyRegister
  /-- DOMAIN_SET (R448): Set a power domain's state. -/
  | domainSet
  /-- PCAP_SET (R324): Set the module power cap. -/
  | pcapSet
  /-- ERR_FETCH (R406): Return error records from the ring. -/
  | errFetch
  /-- PANEL_ERR_FETCH (R423): Return error records that name the panel. -/
  | panelErrFetch
  /-- OFFLINE_READ (R228): Return the list of OFFLINE granules. -/
  | offlineRead
  /-- UNIT_SERVICE (R422): Take a unit out of service or return it. -/
  | unitService
  /-- SWATCH_READ (R445): Return a range of the Swatch store. -/
  | swatchRead
  /-- DBG_NONCE (R359): Issue a debug nonce, retiring the oldest beyond four. -/
  | dbgNonce
  /-- DBG_OPEN (R359): Check a debug or service certificate and open its scope. -/
  | dbgOpen
  /-- DBG_CONSENT (R360): A tenant consents to a PANEL-scope session. -/
  | dbgConsent
  /-- DBG_CLOSE (R361): Close a debug session. -/
  | dbgClose
  /-- DBGAUTH_REGISTER (R358): Register or replace the debug authority. -/
  | dbgauthRegister
  /-- TEST_REPORT (R471): Return a piece of the basting test report. -/
  | testReport
  /-- CORE_HANG (R417): A no-retirement counter reaches TMO3 and the core-hang recovery runs. -/
  | coreHang (c : Tile) (fails : HangFails)
  /-- CORE_TEST_COMPLETE (R417): Basting of a recovered core ends, clearing WH or taking it out of service. -/
  | coreTestComplete (c : Tile) (pass : Bool)
  /-- WARM_RESET (R420): A warm reset starts at the boundary after a module-fatal error or request. -/
  | warmReset
  /-- MOD_WDOG (R421): The independent module watchdog expires and drives a cold reset. -/
  | modWdog
  /-- RAS_MWDOG (R421): A write of 0x7A11 kicks the module watchdog. -/
  | rasMwdog (v : BitVec 16)
  /-- TWIN_COMPARE (R430): The checker's signature reaches the main core and is compared at a compare point. -/
  | twinCompare (th : Thr) (sig : BitVec 64) (saveFails : Bool)
  /-- LVQ_RECORD (R428): A flit of load-value queue records reaches the checker. -/
  | lvqRecord (th : Thr)
  /-- TWIN_TEST_OUTCOME (R435): Basting of a mismatched pair ends and its outcome is applied. -/
  | twinTestOutcome (main : Tile) (mainFails chkFails : Bool)
  /-- CMPREQ (R430): A write of 1 to TWIN.CMPREQ forces a compare at the next retirement. -/
  | cmpreq (th : Thr)
  /-- SWATCH_FLUSH (R442): Task 10 writes waiting and dirty blocks to the Swatch store. -/
  | swatchFlush
  /-- SWATCH_SAMPLE (R441): Each second the controller adds to the temperature, voltage and lane BER histograms. -/
  | swatchSample (temps : List (Fin 5 × Int)) (mv : List (Fin 427 × Nat)) (lanes : List (Fin 96 × Nat × Nat))
  /-- DOMAIN_TRANSITION_COMPLETE (R450): A power domain transition finishes in the time of Table PWR-2. -/
  | domainTransitionComplete (d : Domain)
  /-- WAKE_SOURCE (R454): An enabled wake source asserts and wakes a thread in WAIT. -/
  | wakeSource (th : Thr) (src : WakeSource)
  /-- PORT_ACTIVITY (R454): A port activity detector sees a frame and sets SEEN or pulses. -/
  | portActivity (p : Port) (arming : List Thr)
  /-- PLL_LOCK (R459): A core PLL locks, PLLOK sets and the core moves to its target. -/
  | pllLock (c : Tile)
  /-- GRANT_WAKE (R453): At 8.0 µs the power controller wakes a RET core with a staged grant change. -/
  | grantWake
  /-- PWR_BROWNOUT (R457): A core domain draws over 120 mA in RET and is reset with its dirty lines poisoned. -/
  | pwrBrownout (c : Tile)
  /-- TLIM (R456): A domain junction above 95 °C refuses RET until it reads 90 °C. -/
  | tlim (d : Domain) (hotter : Bool)
  /-- THERM_ALERT_N (R480): A die at 100 °C asserts THERM_ALERT_N and holds its cores at 1.2 GHz. -/
  | thermAlertN (die : Die)
  /-- THERMAL_TRIP (R462): A die at 115 °C powers off every domain but hub common and Thimble. -/
  | thermalTrip (die : Die)
  /-- PWR_OK (R478): PWR_OK rising starts a cold start; low for 1 µs triggers cold reset. -/
  | pwrOk (level : Bool)
  /-- MOD_RESET_N (R478): MOD_RESET_N low for 1 µs with PWR_OK high triggers a cold reset. -/
  | modResetN (level : Bool)
  /-- UNDERVOLTAGE_LOCKOUT (R478): 48 V below 38 V for 10 µs holds the module in reset. -/
  | undervoltageLockout (held : Bool)
  /-- OVERVOLTAGE_LOCKOUT (R478): 48 V above 62 V for 10 µs holds the module in reset. -/
  | overvoltageLockout (held : Bool)
  /-- TRAINING_COMPLETE (R233): GDDR7 training ends and the channel list is fixed. -/
  | trainingComplete (failures : List Failure)
  /-- BASTING_COMPLETE (R468): Basting groups end and repairs, slice lists and the HOST bolt are fixed. -/
  | bastingComplete (failures : List Failure)
  /-- LOADER_COPY_COMPLETE (R466): The panel 0 loader copy finishes and is measured, or retried and failed. -/
  | loaderCopyComplete (res : Option (List Byte))
  /-- FABRIC_JOIN_TIMEOUT (R266): Three seconds after Weft training began, host release stops waiting for fabric lock.
  -/
  | fabricJoinTimeout
  /-- HOST_RELEASE (R467): Thimble commits time, enables the Cutter and starts panel 0 at level H. -/
  | hostRelease
  /-- SCANREQ (R474): JTAG instruction requesting internal scan, which clears secrets first. -/
  | scanreq
  /-- SCAN_CLEAR_COMPLETE (R474): The clear engine finishes, checks arrays zero and opens the scan chains. -/
  | scanClearComplete
  /-- EXTEST (R483): JTAG instruction driving boundary-scan outputs. -/
  | extest
  /-- IDCODE (R483): JTAG instruction selecting the identification register. -/
  | idcode
  /-- SAMPLE_PRELOAD (R483): JTAG instruction sampling or preloading the boundary register. -/
  | samplePreload (latch : BitVec 64)
  /-- CLAMP (R483): JTAG instruction clamping outputs with bypass selected. -/
  | clamp
  /-- HIGHZ (R483): JTAG instruction floating outputs. -/
  | highz
  /-- DBGAP (R483): JTAG instruction giving run-control access in an open debug session. -/
  | dbgap (th : AnyThr) (op : DbgOp)
  /-- BYPASS (R483): JTAG bypass, also for every unassigned code. -/
  | bypass
  /-- DBG_TRIG_IN (R480): A debugger cross-trigger input acts under an open session. -/
  | dbgTrigIn (halt resume : List (AnyThr))
  /-- TU_TOD_S (R26): A read of TU.TOD_S latches the matching nanoseconds. -/
  | tuTodS
  /-- HUB_PWKICK (R56): Writing 0xA5 reloads the panel watchdog. -/
  | hubPwkick (p : Panel) (v : Byte)
  /-- HUB_PSTATE_SELFRESET (R45): Writing 1 requests a panel reset, or a warm reset for panel 0. -/
  | hubPstateSelfreset (p : Panel)
  /-- MBX_DB_RING (R346): A ring makes the panel's engine reserve a slot and snapshot the request. -/
  | mbxDbRing (p : Panel)
  /-- MBX_SLOT (R347): Writing 1 to a HELD bit releases a written result slot. -/
  | mbxSlot (p : Panel) (mask : Byte)
  /-- SQTAIL (R282): A send-ring doorbell write posts descriptors or stops an overrun bobbin. -/
  | sqtail (b : Bobbin) (idx : BitVec 16)
  /-- RQTAIL (R282): A receive-ring doorbell write posts buffers. -/
  | rqtail (b : Bobbin) (idx : BitVec 16)
  /-- CQHEAD (R282): A completion-ring doorbell write frees completion slots. -/
  | cqhead (b : Bobbin) (idx : BitVec 16)
  /-- ARM (R282): Writing ARM bit 0 raises VECTOR at the next completion. -/
  | arm (b : Bobbin) (on : Bool)
  /-- BAR_ARRIVE (R260): Writing ARRIVE counts the module's arrival or sends BARARR to the root. -/
  | barArrive (n : Fin 256)
  /-- WP_PCTL_RETRAIN (R235): Writing RETRAIN restarts a port's bring-up. -/
  | wpPctlRetrain (p : Port)
  /-- HP_RPCTL_RETRAIN (R309): Writing RETRAIN retrains a root-port link and leaves DPC. -/
  | hpRpctlRetrain (r : RootPort)
  /-- INV_DIR (R147): Writing 1 starts invalidation of the tile's directory. -/
  | invDir (t : Tile)
  /-- INV_L3 (R147): Writing 1 starts invalidation of the L3 slice, locked ways included. -/
  | invL3 (t : Tile)
  /-- INV_L2 (R147): Writing 1 invalidates the L2 and selvedge buffer without writeback. -/
  | invL2 (t : Tile)
  /-- INV_L1 (R147): Writing 1 invalidates the L1I and L1D. -/
  | invL1 (t : Tile)
  /-- WRP_PATTERN_SEL (R197): Thimble changes a pattern entry's SEL, setting PEND. -/
  | wrpPatternSel (ni : Ni) (e : Fin 256) (sel : Bool)
  /-- WP_PSEL (R246): Thimble changes a destination's Weft route selection, setting PEND. -/
  | wpPsel (d : Fin 4096) (sel : Fin 4) (unreach : Bool)
  /-- REGISTER_WRITE (R13): A write to a register without a row of its own takes effect by its access codes. -/
  | registerWrite (who : RegWho) (addr : BitVec 52) (value : Word)
  /-- REGISTER_READ_CLEAR (R13): A read of an RC field returns the value and clears it. -/
  | registerReadClear (who : RegWho) (addr : BitVec 52)
  /-- THERMAL_TRIP_END (R462): After a thermal trip every die reads 90 °C or below, and the module leaves SAFE_HOLD by
  a cold reset. -/
  | thermalTripEnd
  /-- THERM_ALERT_RELEASE (R480): Every die reads 95 °C or below, THERM_ALERT_N is released and the 1.2 GHz hold on
  the die's cores ends. -/
  | thermAlertRelease
  /-- PCS_LOCK_LOSS (R240): A Weft port loses PCS, alignment-marker or FEC lock because the peer or the cable has
  gone, and the link fails. -/
  | pcsLockLoss (p : Port)
  /-- PTP_ANNOUNCE (R28): An Announce message arrives on the PTP client uplink, feeds the best master clock algorithm
  and restarts the announce receipt timeout. -/
  | ptpAnnounce (u : Uplink) (domain : Byte) (a : Announce)
  /-- PTP_SERVICE_MESSAGE (R37): The module, serving as boundary clock or grandmaster, sends its periodic Announce and
  Sync messages on virtual ports and uplinks. -/
  | ptpServiceMessage (at_ : PtpPort)
  /-- ENTROPY_HEALTH_PASS (R356): After a health-test failure, 16 consecutive test windows pass and Thimble again
  serves commands that need fresh keys. -/
  | entropyHealthPass
  /-- REF10M_IN_RETURN (R27): REF10M_IN returns after a loss and again steers the Time Unit's frequency under REFSEL =
  01. -/
  | ref10mInReturn
  /-- TRST_N (R480): TRST_N asserted asynchronously resets the JTAG test access port. -/
  | trstN
  deriving DecidableEq, Repr

end Sys2Proof
end

