-- ==== Sys2Proof/Machine/State.lean ====
section
/-! DEFINITION. The machine's state: every register, table, buffer and mode the manual gives the module, as
plain data, and the queue of commands that wait. -/

namespace Sys2Proof.Machine

/-- Why a step stops. No command of this block faults: every stop the manual gives is an exception, an error
record or a reset, and is a next state. The one constructor exists for the interface and nothing raises it. -/
inductive Fault where
  /-- Raised by nothing. Safe. -/
  | none
  deriving DecidableEq, Repr

/-- Why a command has no meaning. -/
inductive Refusal where
  /-- A command of the table that the model does not give a meaning yet; raised by exec's arm. Safe. -/
  | notModelled (mnemonic : String)
  deriving DecidableEq, Repr

structure State where
  /-- Commands that wait, first in first out. -/
  pending : List Instr
  /-- What the module has emitted, oldest first; the MODEL's own field. -/
  sent    : List Out
  /-- The number of free values used; the MODEL's own field. -/
  fresh   : Nat
  /-- Boundaries that have passed since the module was powered: what every period and timeout counts (R12, R494). -/
  ticks   : Nat
  regs    : RegFile
  cores   : SMap Core
  seats   : SMap SeatRec
  panels  : SMap PanelSt
  /-- Secure interrupts not yet taken: panel, seat, thread, number (R87, R349). -/
  sint    : List (Nat × Nat × Nat × Nat)
  /-- Panels whose twin mismatch waits to be signalled through vector 2047 of panel 0 (R434). -/
  twinEvents : List Nat
  /-- Page Owner Table entries by granule, the CXL part above the protected part (R217). (DESIGN CHOICE, log entry 132.) -/
  pot     : SMap Nat
  /-- Memory contents as the owning panel reads them, by physical address. -/
  mem     : List Host.Cell
  lineMeta : SMap LineMeta
  /-- Lines whose newest value may be only in the bolt's caches (R150). -/
  dirty   : SMap Bool
  tiles   : SMap TileSt
  warp    : WarpSt
  mcs     : SMap McSt
  /-- Channels in service, in list order (R205). -/
  clist   : List Nat
  /-- Tiles whose slice has left the slice list of its bolt (R133, Table BOO-3). -/
  noSlice : List Nat
  /-- Request-table entries of the I/O agents, by agent × 256 + RTID (Table COH-4). -/
  ioReqs  : SMap (Option MissEnt)
  /-- Stitches of each bolt's resets (R184). -/
  boltHits : SMap (List Nat)
  shoots  : List Shoot
  /-- Granules to be marked OFFLINE when next freed (R228). -/
  toOffline : List Nat
  /-- Memory keys by key tag, and the firmware memory key (R214, R216); a controller's slot holds the key when its
  MC.KVALID bit is set. -/
  keys    : SMap Nat
  /-- Valid key slots of the host-port controllers, by controller × 512 + tag (R306). -/
  hpKeys  : SMap Bool
  cxl     : SMap CxlSt
  fwKey   : Nat
  ras     : RasSt
  /-- Units out of service, as unit IDs with MODULE zero: fused out, failed or taken out (R422, R470). -/
  outUnits : List Nat
  cut     : CutSt
  tape    : TapeSt
  sw      : SwatchSt
  pwr     : PwrSt
  thm     : ThmSt
  time    : TimeSt
  weft    : WeftSt
  net     : NetSt
  hio     : HioSt
  boot    : BootSt
  /-- A module reset asked for, to run at the next boundary (R420). -/
  resetDue : Option ResetKind
  deriving DecidableEq, Repr

/-- The machine at time 0 of a cold start (Table BOO-2): every register at its reset value, domains 425 and 426 ON and the
others OFF, nothing in memory, no panel, no command waiting, flash and fuses as shipped.
(DESIGN CHOICE, log entry 10; DESIGN CHOICE, log entry 11.) -/
def State.reset : State :=
  { pending := [], sent := [], fresh := 0, ticks := 0, regs := [], cores := [], seats := [], panels := [], sint := [], twinEvents := [],
    pot := [], mem := [], lineMeta := [], dirty := [], tiles := [], warp := WarpSt.init, mcs := [], clist := [],
    noSlice := [], ioReqs := [], boltHits := [], shoots := [], toOffline := [], keys := [], hpKeys := [], cxl := [],
    fwKey := 0, ras := RasSt.init, outUnits := [], cut := CutSt.init, tape := TapeSt.init, sw := SwatchSt.init,
    pwr := PwrSt.init, thm := ThmSt.init, time := TimeSt.init, weft := WeftSt.init, net := NetSt.init,
    hio := HioSt.init, boot := BootSt.init, resetDue := none }

end Sys2Proof.Machine
end

