-- ==== Sys2Proof/Machine/Ops.lean ====
section
/-! DEFINITION. The operations every meaning is written with: registers, memory bytes, the Page Owner Table,
error records (R402–R410), interrupt vectors (R88–R90), lifecycle triggers (R43, R44) and resets (R420). -/

namespace Sys2Proof.Machine

/-! ### Registers -/

/-- The stored value of a register. -/
def State.rd (s : State) (r : Reg) : Nat := RegFile.read s.regs r
/-- Set the stored value of a register. -/
def State.wr (s : State) (r : Reg) (v : Nat) : State := { s with regs := RegFile.write s.regs r v }
/-- A field of a register. -/
def State.fld (s : State) (r : Reg) (f : Fld) : Nat := f.get (s.rd r)
/-- A one-bit field, as a Boolean. -/
def State.flag (s : State) (r : Reg) (f : Fld) : Bool := s.fld r f == 1
/-- Set a field of a register. -/
def State.setFld (s : State) (r : Reg) (f : Fld) (v : Nat) : State := s.wr r (f.set (s.rd r) v)
/-- Add to a field, saturating at its greatest value. -/
def State.addFld (s : State) (r : Reg) (f : Fld) (n : Nat) : State :=
  s.setFld r f (satAdd f.top (s.fld r f) n)

/-- The current stitch number (TU.STITCH). -/
def State.stitch (s : State) : Nat := s.rd { kind := .tuStitch }

/-! ### Outputs and free values -/

/-- A contact that boundary scan drives does not follow the module (R483). -/
def State.muted (s : State) : Out → Bool
  | .pin _ _ => s.boot.jtag.drive.isSome
  | _ => false
def State.emit (s : State) (o : Out) : State := if s.muted o then s else { s with sent := s.sent ++ [o] }
def State.emits (s : State) (os : List Out) : State := os.foldl State.emit s
/-- The next free number, and the state that has used it. (DESIGN CHOICE, log entry 3.) -/
def State.freeNat (s : State) : Nat × State := (Config.freeNat s.fresh, { s with fresh := s.fresh + 1 })
/-- The next free value of `n` bits. (DESIGN CHOICE, log entry 3.) -/
def State.freeBits (s : State) (n : Nat) : BitVec n × State :=
  (Config.freeBits n s.fresh, { s with fresh := s.fresh + 1 })

/-! ### Parts -/

def State.core (s : State) (c : Nat) : Core := SMap.get (fun _ => Core.init) s.cores c
def State.setCore (s : State) (c : Nat) (x : Core) : State :=
  { s with cores := SMap.put (fun _ => Core.init) s.cores c x }
def State.tile (s : State) (t : Nat) : TileSt := SMap.get (fun _ => TileSt.init) s.tiles t
def State.setTile (s : State) (t : Nat) (x : TileSt) : State :=
  { s with tiles := SMap.put (fun _ => TileSt.init) s.tiles t x }
def State.mc (s : State) (c : Nat) : McSt := SMap.get (fun _ => McSt.init) s.mcs c
def State.setMc (s : State) (c : Nat) (x : McSt) : State :=
  { s with mcs := SMap.put (fun _ => McSt.init) s.mcs c x }
def State.panel (s : State) (p : Nat) : PanelSt := SMap.get (fun _ => PanelSt.init) s.panels p
def State.setPanel (s : State) (p : Nat) (x : PanelSt) : State :=
  { s with panels := SMap.put (fun _ => PanelSt.init) s.panels p x }
/-- The key of seat `n` of panel `p`. -/
def seatKey (p n : Nat) : Nat := p * 256 + n
def State.seat (s : State) (p n : Nat) : SeatRec := SMap.get (fun _ => SeatRec.init) s.seats (seatKey p n)
def State.setSeat (s : State) (p n : Nat) (x : SeatRec) : State :=
  { s with seats := SMap.put (fun _ => SeatRec.init) s.seats (seatKey p n) x }

/-- The thread of hardware thread number `th` (core × 2 + index). -/
def State.thr (s : State) (th : Nat) : Thread :=
  if th % 2 = 0 then (s.core (th / 2)).thr0 else (s.core (th / 2)).thr1
def State.setThr (s : State) (th : Nat) (x : Thread) : State :=
  let c := s.core (th / 2)
  s.setCore (th / 2) (if th % 2 = 0 then { c with thr0 := x } else { c with thr1 := x })

/-! ### Module numbers -/

/-- The 12-bit module ID (WP.FCFG.MYID). -/
def State.myId (s : State) : Nat := s.fld { kind := .wpFcfg } F.wpFcfg.MYID
/-- The handle of a local panel (Table PNL-2). -/
def State.handle (s : State) (p : Nat) : Nat := s.myId * 512 + p
/-- MODE of an Ethernet port in force since its last bring-up (R269). -/
def State.upMode (s : State) (p : Nat) : Nat := SMap.get (fun _ => 0) s.net.modes p
/-- A unit ID with MODULE zero (Table OCK-2). (DESIGN CHOICE, log entry 56.) -/
def unitId (cls idx : Nat) : Nat := cls * 2 ^ 24 + idx

/-- A unit is out of service (R401, R422). -/
def State.unitOut (s : State) (cls idx : Nat) : Bool := decide (unitId cls idx ∈ s.outUnits)

/-- Bolts the configuration in force creates (Table COH-1). -/
def State.nBolts (s : State) : Nat := 2 ^ s.fld { kind := .hubBoltcfg } F.hubBoltcfg.CUR
/-- Tiles per bolt. -/
def State.boltTiles (s : State) : Nat := 192 / s.nBolts
/-- The bolt of a tile. -/
def State.boltOf (s : State) (t : Nat) : Nat := t / s.boltTiles
/-- The cores of a bolt. -/
def State.boltCores (s : State) (b : Nat) : List Nat :=
  (List.range s.boltTiles).map (b * s.boltTiles + ·)
/-- A core is in service: neither it nor its tile is out. -/
def State.coreIn (s : State) (c : Nat) : Bool :=
  unitId 1 c ∉ s.outUnits && unitId 2 c ∉ s.outUnits

/-! ### Panels -/

/-- HUB.PSTATE.STATE of a panel (Table PNL-3). -/
def State.pstate (s : State) (p : Nat) : Nat := s.fld { kind := .hubPstate, i := p } F.hubPstate.STATE
def psEmpty : Nat := 0
def psBuilt : Nat := 1
def psRunning : Nat := 2
def psPaused : Nat := 3
def psFaulted : Nat := 4
def psResetting : Nat := 5
def psTearing : Nat := 6

/-- A field of a panel's contract record, by byte offset and length (Table CUT-1). -/
def State.ct (s : State) (p off n : Nat) : Nat :=
  s.rd { kind := .cutContract, i := p, j := off / 8 } / 2 ^ (8 * (off % 8)) % 2 ^ (8 * n)
/-- The bolt of a panel's cores (Table CUT-1, BOLT). -/
def State.panelBolt (s : State) (p : Nat) : Nat := s.ct p 19 1
/-- HUB.BOLTSTAT.STATE of a bolt (Table COH-3). -/
def State.boltState (s : State) (b : Nat) : Nat := s.fld { kind := .hubBoltstat } ⟨8 * b + 7, 8 * b + 5⟩
def State.setBoltState (s : State) (b v : Nat) : State := s.setFld { kind := .hubBoltstat } ⟨8 * b + 7, 8 * b + 5⟩ v

/-- Accept a lifecycle trigger; it takes effect at the next boundary (R43). -/
def State.trigger (s : State) (p : Nat) (t : Trigger) (cmd : Option Nat := none) : State :=
  let x := s.panel p
  s.setPanel p { x with triggers := x.triggers ++ [(t, cmd)] }

/-! ### Interrupts -/

/-- Set PEND of one of the 2,048 vectors of a panel (R88). -/
def State.raise (s : State) (p v : Nat) : State :=
  if p < 512 ∧ v < 2048 then s.setFld { kind := .icVec, i := p, j := v } F.icVec.PEND 1 else s
/-- Send a secure interrupt (R349); it waits until the thread takes it (R87). -/
def State.sendSint (s : State) (p n t num : Nat) : State :=
  if (p, n, t, num) ∈ s.sint then s else { s with sint := s.sint ++ [(p, n, t, num)] }

/-! ### Error records -/

/-- An error as its detector reports it; the collector adds the stitch, SEQ and COUNT (R405). -/
structure ErrEvt where
  unitId   : Nat
  cls      : Nat
  code     : Nat
  action   : Nat
  flags    : Nat := 0
  paddr    : Nat := 0
  panel    : Nat := 0
  req      : Nat := 0xFF
  syndrome : List Byte := []
  detail   : Nat := 0
  deriving DecidableEq, Repr

def flagPaddr : Nat := 1
def flagPanel : Nat := 2
def flagPoison : Nat := 4
def flagPrecise : Nat := 8

/-- Fold a corrected event into a record of the same stitch with the same UNIT, CODE and PADDR (R406). -/
def foldErr (e : ErrEvt) (stitch : Nat) : List ErrRec → Option (List ErrRec)
  | [] => none
  | r :: rs =>
    if r.stitch = stitch ∧ r.cls = 0 ∧ r.unitId = e.unitId ∧ r.code = e.code ∧ r.paddr = e.paddr then
      some ({ r with count := satAdd 0xFFFF r.count 1 } :: rs)
    else (foldErr e stitch rs).map (r :: ·)

/-- Count an event in RAS.STAT (Table ERR-6). -/
def State.countErr (s : State) (cls : Nat) : State :=
  let r : Reg := { kind := .rasStat }
  match cls with
  | 0 => s.addFld r F.rasStat.CORR 1
  | 1 => s.addFld r F.rasStat.PANEL 1
  | 2 => s.addFld r F.rasStat.BOLT 1
  | _ => s.addFld r F.rasStat.FATAL 1

/-- Fuse a unit out (R470): one of at most 256 repair entries, class × 256 + index. (DESIGN CHOICE, log entry 94.) -/
def State.fuseOut (s : State) (cls idx : Nat) : State :=
  let k := cls * 256 + idx
  if k ∈ s.boot.repairs ∨ 256 ≤ s.boot.repairs.length then s
  else { s with boot := { s.boot with repairs := s.boot.repairs ++ [k] } }

/-! ### The Swatch store (R440–R444) -/

/-- A write waits for a flush (R442). -/
def State.swWrite (s : State) (w : SwWrite) : State :=
  { s with sw := { s.sw with wait := s.sw.wait ++ [(w, w.blocks)] } }

/-- Add to a counter of the counter area, saturating at its width in bytes; its block is dirty (R441, R442). -/
def State.swCount (s : State) (off n width : Nat) : State :=
  let v := satAdd (2 ^ (8 * width) - 1) (SMap.get (fun _ => 0) s.sw.counts off) n
  let b := off / 64
  { s with sw := { s.sw with counts := SMap.put (fun _ => 0) s.sw.counts off v
                             dirty := if b ∈ s.sw.dirty then s.sw.dirty else s.sw.dirty ++ [b] } }

/-- The unit slot of a unit ID (R441). -/
def unitSlot (u : Nat) : Option Nat :=
  let i := u % 2 ^ 24
  match u / 2 ^ 24 with
  | 0x01 => some i
  | 0x02 => some (192 + i)
  | 0x03 => some (384 + i)
  | 0x04 => some (408 + i)
  | 0x05 => some (416 + i)
  | 0x06 => some 432
  | 0x07 => some 433
  | 0x08 => some 434
  | 0x09 => some 435
  | 0x0A => some 436
  | 0x0B => some (437 + i)
  | 0x0D => some 441
  | _ => none

/-- Count an error of a unit in the store (R441). -/
def State.swUnit (s : State) (u code : Nat) : State :=
  match unitSlot u with
  | some k => s.swCount (0x20000 + 512 * k + 4 * code) 1 4
  | none => s

/-- The row log after an event (R443). -/
def addRow (l : List RowEnt) (now channel device row : Nat) (uncor spared hard : Bool) (n : Nat) : List RowEnt :=
  if l.any (fun e => e.channel == channel && e.row == row) then
    l.map fun e => if e.channel == channel && e.row == row then
        { e with device := if e.device = device then device else 0xFF, spared := e.spared || spared,
                 hard := e.hard || hard, corr := satAdd (2 ^ 32 - 1) e.corr (if uncor then 0 else n),
                 uncor := satAdd (2 ^ 32 - 1) e.uncor (if uncor then n else 0), last := now }
      else e
  else
    let e : RowEnt := { channel := channel, device := device, spared := spared, hard := hard, row := row,
                        corr := if uncor then 0 else n, uncor := if uncor then n else 0, first := now, last := now }
    if l.length < 65536 then l ++ [e]
    else
      let least := (l.filter (fun e => !e.spared)).foldl (fun (b : Option RowEnt) e =>
        match b with
        | none => some e
        | some x => if e.corr + e.uncor < x.corr + x.uncor ∨
                       (e.corr + e.uncor = x.corr + x.uncor ∧ e.last < x.last) then some e else some x) none
      match least with
      | none => l
      | some x => l.map fun y => if y = x then e else y

/-- A memory event adds to its row's entry (R443). -/
def State.swRow (s : State) (channel device row : Nat) (uncor spared hard : Bool) : State :=
  let l := addRow s.sw.rows s.stitch channel device row uncor spared hard (if spared then 0 else 1)
  { s with sw := { s.sw with rows := l } }.swWrite (.rows l)

/-! ### Thimble's control registers (Table THM-3) -/

def State.tcr (s : State) (n : Nat) : Word := SMap.get thmCrReset s.thm.cr n
def State.setTcr (s : State) (n : Nat) (v : Word) : State :=
  { s with thm := { s.thm with cr := SMap.put thmCrReset s.thm.cr n v } }
/-- A source of TIPEND becomes pending. -/
def State.tipend (s : State) (k : Nat) : State :=
  let s := s.setTcr 0x009 (s.tcr 0x009 ||| (1#64 <<< k))
  let x := s.thr 384
  -- a WAIT of the Thimble core with IE = 0 ends here; with IE = 1 the interrupt ends it (R340, R341)
  if x.waiting ∧ s.tcr 0x000 &&& 1#64 = 0 ∧ s.tcr 0x008 &&& s.tcr 0x009 ≠ 0 then
    s.setThr 384 { x with waiting := false, pc := x.pc + 4 }
  else s

/-- Write a new record (R405–R407) and raise RAS.NOTE's vector when it asks for it (Table ERR-8). -/
def State.writeRec (s : State) (e : ErrEvt) : State :=
  let seq := (s.fld { kind := .rasSeq } F.rasSeq.LAST + 1) % 2 ^ 32
  let r : ErrRec :=
    { stitch := s.stitch, unitId := e.unitId, cls := e.cls, code := e.code, action := e.action,
      flags := e.flags, paddr := e.paddr, panel := e.panel, req := e.req, count := 1,
      syndrome := padTo 16 e.syndrome, detail := e.detail, seq := seq }
  let x := s.ras
  let s := { s with ras := { x with
    ring := (r :: x.ring).take 65536
    sram := (r :: x.sram).take 128
    written := x.written + 1
    writtenCorr := x.writtenCorr + (if e.cls = 0 then 1 else 0) } }
  let s := if 2 ≤ e.cls ∨ e.action = 7 ∨ e.action = 9 ∨ e.action = 10 then s.swWrite (.event r) else s
  let s := s.setFld { kind := .rasSeq } F.rasSeq.LAST seq
  let s := if 2 ≤ e.cls then s.tipend 10 else s
  let n : Reg := { kind := .rasNote }
  if s.flag n F.rasNote.EN && decide (s.fld n F.rasNote.MINCLASS ≤ e.cls) then
    s.raise 0 (s.fld n F.rasNote.VECTOR)
  else s

/-- Report an error to the collector (R405, R406): folded, written, or lost beyond the 192nd corrected record. -/
def State.logErr (s : State) (e : ErrEvt) : State :=
  let s := (s.countErr e.cls).swUnit e.unitId e.code
  if e.cls = 0 then
    match foldErr e s.stitch (s.ras.ring.take s.ras.written) with
    | some recs =>
      { s with ras := { s.ras with ring := recs ++ s.ras.ring.drop s.ras.written
                                   sram := (recs ++ s.ras.ring.drop s.ras.written).take s.ras.sram.length } }
    | none =>
      if 192 ≤ s.ras.writtenCorr then s.addFld { kind := .rasSeq } F.rasSeq.LOST 1 else s.writeRec e
  else s.writeRec e

/-- The kinds of module reset (Table BOO-1). -/
def askReset (old : Option ResetKind) (k : ResetKind) : Option ResetKind :=
  match old, k with
  | some .cold, _ => some .cold
  | _, k => some k

/-- Ask for a module reset at the next boundary; the wider one wins (R404). -/
def State.resetAt (s : State) (k : ResetKind) : State := { s with resetDue := askReset s.resetDue k }

/-- A module-fatal record was written (R419, R420): RESET_WARN unless Thimble is in doubt, a warm reset at the
next boundary, and FATAL_REPEAT at the fourth within 60,000,000 stitches. -/
def State.moduleFatal (s : State) (warn : Bool) : State :=
  let now := s.ticks
  let recent := (now :: s.ras.fatals).filter fun t => now < t + 60000000
  let s := { s with ras := { s.ras with fatals := recent.take 4 } }
  let s := if warn then s.sendSint 0 0 0 0 else s
  let s := s.resetAt .warm
  if 4 ≤ recent.length ∧ s.ras.holdAfter = false then
    let s := s.logErr { unitId := unitId 0x0D 0, cls := 3, code := 0x5A, action := 9 }
    { s with ras := { s.ras with holdAfter := true } }
  else s

/-- A module-fatal error: its record, and the warm reset. -/
def State.fatal (s : State) (e : ErrEvt) (warn : Bool) : State := (s.logErr e).moduleFatal warn

/-- A panel-contained error in the third case of R403: the panel goes FAULTED at the next boundary, and panel 0
takes the module down with it (R45, Table PNL-4). In a FENCED bolt the record shows the bolt reset (Table ERR-2). `e.action` is the default the record shows otherwise. -/
def State.panelError (s : State) (p cause : Nat) (e : ErrEvt) : State :=
  if p = 0 then
    (s.logErr { e with action := 9 }).fatal
      { unitId := unitId 0x0D 0, cls := 3, code := 0x4D, action := 9, flags := flagPanel, panel := s.handle 0 } true
  else if s.boltState (s.panelBolt p) = 2 then s.logErr { e with action := 8 }
  else
    (s.logErr e).trigger p (.fault cause)

/-! ### Memory -/

/-- What a byte of memory that nothing has written reads as: zero (log entry 1). -/
def memDefault : Nat → Byte := fun _ => 0
/-- Read one byte of memory. (DESIGN CHOICE, log entry 1.) -/
def State.byte (s : State) (a : Nat) : Byte := SMap.get memDefault s.mem a
/-- Write one byte of memory. -/
def State.setByte (s : State) (a : Nat) (b : Byte) : State := { s with mem := SMap.put memDefault s.mem a b }
/-- The canonical form of memory: addresses strictly rising, no entry equal to what an unlisted one reads as. -/
def Memory.wf (m : List Host.Cell) : Bool := SMap.wf memDefault m
/-- `n` bytes of memory from `a` up. -/
def State.bytes (s : State) (a : Nat) : Nat → List Byte
  | 0 => []
  | n + 1 => s.byte a :: s.bytes (a + 1) n
/-- Store bytes from `a` up. -/
def State.setBytes (s : State) (a : Nat) : List Byte → State
  | [] => s
  | b :: bs => (s.setByte a b).setBytes (a + 1) bs
/-- Store a block of bytes from `a` up, all at once: the entries of the range are replaced. -/
def State.setBlock (s : State) (a : Nat) (bs : List Byte) : State :=
  let new := (bs.zipIdx.filter fun e => e.1 ≠ memDefault (a + e.2)).map fun e => (a + e.2, e.1)
  { s with mem := s.mem.filter (fun e => decide (e.1 < a)) ++ new ++ s.mem.filter fun e => decide (a + bs.length ≤ e.1) }
/-- An `n`-byte little-endian number in memory. -/
def State.memNat (s : State) (a n : Nat) : Nat := ofLeBytes (s.bytes a n)

def LineMeta.init : LineMeta := { ktag := 0, poison := false }
def State.meta (s : State) (line : Nat) : LineMeta := SMap.get (fun _ => LineMeta.init) s.lineMeta line
def State.setMeta (s : State) (line : Nat) (m : LineMeta) : State :=
  { s with lineMeta := SMap.put (fun _ => LineMeta.init) s.lineMeta line m }
/-- Whether any byte of the range lies in a poisoned line (R224). -/
def State.poisoned (s : State) (a n : Nat) : Bool :=
  (s.meta (a / 64)).poison || (s.meta ((a + n - 1) / 64)).poison

/-- The Page Owner Table entry of a granule (Table MEM-7). (DESIGN CHOICE, log entry 132.) -/
def State.potEntry (s : State) (g : Nat) : Nat := SMap.get (fun _ => 0) s.pot g
def State.setPot (s : State) (g e : Nat) : State := { s with pot := SMap.put (fun _ => 0) s.pot g e }
def potKind (e : Nat) : Nat := bits e 15 13
def potMir (e : Nat) : Bool := bit e 12
def potX (e : Nat) : Bool := bit e 11
def potW (e : Nat) : Bool := bit e 10
def potR (e : Nat) : Bool := bit e 9
def potPanel (e : Nat) : Nat := bits e 8 0
def kFree : Nat := 0
def kOwned : Nat := 1
def kSave : Nat := 2
def kStage : Nat := 3
def kMcopy : Nat := 4
def kFirmware : Nat := 5
def kOffline : Nat := 6
/-- A Page Owner Table entry from its fields. -/
def mkPot (kind : Nat) (mir x w r : Bool) (p : Nat) : Nat :=
  kind * 2 ^ 13 + b2n mir * 2 ^ 12 + b2n x * 2 ^ 11 + b2n w * 2 ^ 10 + b2n r * 2 ^ 9 + p

def mwdogR : Reg := { kind := .rasMwdog }
/-- A kick of the module watchdog (R421): 0x7A11 reloads REMAIN, any other value does nothing. -/
def State.kickModule (s : State) (v : Nat) : State :=
  if v = 0x7A11 then s.setFld mwdogR F.rasMwdog.REMAIN 0xC8 else s

/-- The entry an I/O agent checks against: the old one until it has acknowledged the shootdown. -/
def State.potFor (s : State) (agent g : Nat) : Nat :=
  match s.shoots.find? fun x => agent ∈ x.waiting && (SMap.find x.old g).isSome with
  | some x => SMap.get (fun _ => 0) x.old g
  | none => s.potEntry g

/-- Bytes of protected memory with `n` channels in service: n × 6.25 GiB (R211). -/
def protSize (n : Nat) : Nat := n * 6710886400
def State.protTop (s : State) : Nat := protSize s.clist.length
/-- The first byte of the reserved region, 2 GiB below the top (R211). (DESIGN CHOICE, log entry 132.) -/
def State.reservedBase (s : State) : Nat := s.protTop - 2 ^ 31

/-- The HDM range, if enabled, that holds an offset into the CXL window (R304). -/
def State.hdmOf (s : State) (off : Nat) : Option Nat :=
  (List.range 8).find? fun r =>
    let h : Reg := { kind := .hpHdm, i := r }
    s.flag h F.hpHdm.EN && decide (s.fld h F.hpHdm.BASE ≤ off / 2 ^ 28) && decide (off / 2 ^ 28 ≤ s.fld h F.hpHdm.LIMIT)

/-- First granule of the reserved region, and granules of the lower half (R211). -/
def State.reservedGranule (s : State) : Nat := s.reservedBase / 65536
def State.lowerGranules (s : State) : Nat := 51200 * s.clist.length

def cxlFirst : Nat := 2 ^ 24
def cxlEnd : Nat := 5 * 2 ^ 24
def isCxl (g : Nat) : Bool := decide (cxlFirst ≤ g) && decide (g < cxlEnd)

/-- A granule that has a place: protected memory outside the reserved region, or a CXL granule inside an enabled HDM
range. -/
def State.granuleExists (s : State) (g : Nat) : Bool :=
  if isCxl g then (s.hdmOf ((g - cxlFirst) * 65536)).isSome else decide (g < s.reservedGranule)

/-- The granules that `n` bytes at `a` lie in. -/
def granulesIn (a n : Nat) : List Nat := (List.range ((a + n - 1) / 65536 + 1 - a / 65536)).map (a / 65536 + ·)

/-- A panel OWNS a granule. -/
def State.ownsGranule (s : State) (p g : Nat) : Bool :=
  s.granuleExists g && potKind (s.potEntry g) == kOwned && potPanel (s.potEntry g) == p

/-- The physical map. -/
def State.target (s : State) (pa : Nat) : Target :=
  if pa < s.protTop then .prot
  else if 0x010000000000 ≤ pa ∧ pa < 0x050000000000 then
    match s.hdmOf (pa - 0x010000000000) with
    | some r => .cxl r
    | none => .none
  else if 0x100000000000 ≤ pa ∧ pa < 0x200000000000 then
    .aperture ((pa - 0x100000000000) / 2 ^ 32) (pa % 2 ^ 32)
  else if pa = 0x7F00C8000000 then .intMsg
  else if 0x7F0000000000 ≤ pa ∧ pa < 0x7F3F00000000 then
    match Reg.ofAddr pa with
    | some r => .reg r
    | none =>
      match Reg.ofAddr (pa - pa % 4), Reg.ofAddr (pa - pa % 8) with
      | some r, _ => .reg r
      | none, some r => if pa % 8 < r.width / 8 then .reg r else .noReg
      | none, none => .noReg
  else if 0x7F3F00000000 ≤ pa ∧ pa < 0x7F4000000000 then
    .ecam ((pa - 0x7F3F00000000) / 2 ^ 28) (pa % 2 ^ 28)
  else if 0x7F4000000000 ≤ pa ∧ pa < 0x7F8000000000 then
    .window ((pa - 0x7F4000000000) / 2 ^ 34) ((pa - 0x7F4000000000) % 2 ^ 34)
  else .none

/-! ### Arbitration (R167, R192, R241) -/

/-- The class an output serves next among those that wait: one that has been passed over 15 times, else the lowest. -/
def Arb.classNext (a : Arb) (out : Nat) (cs : List Nat) : Option Nat :=
  let late := cs.filter fun c => decide (15 ≤ SMap.get (fun _ => 0) a.passed (out * 8 + c))
  (sortBy (fun x y => decide (x < y)) (if late.isEmpty then cs else late)).head?

/-- The input whose turn it is: round robin after the last one served. -/
def Arb.inputNext (a : Arb) (out cls : Nat) (ks : List Nat) : Option Nat :=
  let l := SMap.get (fun _ => 0) a.last (out * 8 + cls)
  let sorted := sortBy (fun x y => decide (x < y)) ks
  match sorted.find? fun k => decide (l < k) with
  | some k => some k
  | none => sorted.head?

/-- Whether input `k` of class `cls` is the one an output serves next among the contenders (input, class). -/
def Arb.mayGo (a : Arb) (out : Nat) (ks : List (Nat × Nat)) (k cls : Nat) : Bool :=
  let ks := if (k, cls) ∈ ks then ks else (k, cls) :: ks
  match a.classNext out (dedupNat (ks.map (·.2))) with
  | some c => c == cls && a.inputNext out c ((ks.filter fun e => e.2 == c).map (·.1)) == some k
  | none => false

/-- An output has served an input: the other classes that wait have been passed over once more. -/
def Arb.served (a : Arb) (out k cls : Nat) (ks : List (Nat × Nat)) : Arb :=
  let passed := (dedupNat (ks.map (·.2))).foldl (fun (m : SMap Nat) c =>
    if c = cls then m else SMap.insert m (out * 8 + c) (SMap.get (fun _ => 0) m (out * 8 + c) + 1)) a.passed
  { passed := SMap.remove passed (out * 8 + cls), last := SMap.insert a.last (out * 8 + cls) k }

/-! ### Tape counters -/

/-- Counter numbers of the per-panel banks (R330). -/
def cntLine (ch : Nat) : Nat := ch
def cntWait (ch : Nat) : Nat := 32 + ch
def cntPort (port dir : Nat) : Nat := 64 + 2 * port + dir
def cntHeld (port dir : Nat) : Nat := 80 + 2 * port + dir
def cntTxUp : Nat := 96
def cntTxFab : Nat := 97
def cntTxLoc : Nat := 98
def cntRxUp : Nat := 99
def cntRxFab : Nat := 100
def cntRxLoc : Nat := 101
def cntMiss (t : Nat) : Nat := 128 + t
/-- A count of a panel in a bank. -/
def bankGet (m : SMap Nat) (p k : Nat) : Nat := SMap.get (fun _ => 0) m (p * 1024 + k)
/-- Count in the current bank (R330). -/
def State.count (s : State) (p k n : Nat) : State :=
  { s with tape := { s.tape with
      bank := SMap.put (fun _ => 0) s.tape.bank (p * 1024 + k) (bankGet s.tape.bank p k + n) } }

/-! ### Stores -/

/-- A store into memory becomes visible: its bytes are written and its lines marked dirty; a store that covers a
whole line clears its poison (R409), and the lines take the owner's key tag (R215). (DESIGN CHOICE, log entry 19.) -/
def State.visible (s : State) (p pa : Nat) (data : List Byte) : State :=
  let s := s.setBytes pa data
  let line := pa / 64
  let last := (pa + data.length - 1) / 64
  let mark (s : State) (l : Nat) : State :=
    let full := decide (pa ≤ l * 64) && decide (l * 64 + 64 ≤ pa + data.length)
    { s.setMeta l { ktag := p, poison := (s.meta l).poison && !full } with
      dirty := SMap.put (fun _ => false) s.dirty l true }
  let s := mark s line
  if last = line then s else mark s last

/-- Lines of a byte range. -/
def linesOf (pa len : Nat) : List Nat := (List.range ((pa + len - 1) / 64 + 1 - pa / 64)).map (pa / 64 + ·)
/-- What a write of `len` bytes from `pa` up leaves of its lines: a line it covers whole loses its poison (R409), and every line
takes the owner's key tag (R215). -/
def written (m : SMap LineMeta) (p pa len : Nat) : SMap LineMeta :=
  (linesOf pa len).foldl (fun m l =>
    let full := decide (pa ≤ l * 64) && decide (l * 64 + 64 ≤ pa + len)
    let old := SMap.get (fun _ => LineMeta.init) m l
    SMap.put (fun _ => LineMeta.init) m l { ktag := p, poison := old.poison && !full }) m

/-- A write past the caches (WRF or WRP) in memory (R175, R176). (DESIGN CHOICE, log entry 19.) -/
def State.ioVisible (s : State) (p pa : Nat) (data : List Byte) : State :=
  { s with mem := (s.setBytes pa data).mem, lineMeta := written s.lineMeta p pa data.length
           dirty := (linesOf pa data.length).foldl (fun d l => SMap.put (fun _ => false) d l false) s.dirty }

end Sys2Proof.Machine
end

