-- ==== Sys2Proof/Machine/ThmBase.lean ====
section
/-! DEFINITION. Thimble's core (R339–R343): its registers, its address map (Table THM-2), its exceptions, and what is common
to all its instructions. The core is held as thread 384. -/

namespace Sys2Proof.Machine

def thmThread : Nat := 384

def tcTSTATUS : Nat := 0x000
def tcTEPC : Nat := 0x001
def tcTECAUSE : Nat := 0x002
def tcTEADDR : Nat := 0x003
def tcTEVEC : Nat := 0x004
def tcTIEN : Nat := 0x008
def tcTIPEND : Nat := 0x009

/-! ### Memory (Table THM-2) -/

/-- Thimble's own memory lies in the table of bytes above the 52-bit physical space. -/
def thmBase : Nat := 2 ^ 52
def sramTop : Nat := 0x10080000
def inRom (a n : Nat) : Bool := decide (a + n ≤ 0x40000)
def inSram (a n : Nat) : Bool := decide (0x10000000 ≤ a) && decide (a + n ≤ sramTop)
def inMailbox (a n : Nat) : Bool := decide (0x20000000 ≤ a) && decide (a + n ≤ 0x20080000)
def State.sram (s : State) (a n : Nat) : List Byte := s.bytes (thmBase + a) n
def State.setSram (s : State) (a : Nat) (bs : List Byte) : State := s.setBytes (thmBase + a) bs
/-- Engine m's request buffer; its result buffer follows at + 0x1000. -/
def mbWindow (m : Nat) : Nat := thmBase + 0x20000000 + 0x2000 * m

/-- Bytes as the core reads them; the ROM's contents are not given. -/
def State.thmBytes (s : State) (a n : Nat) : List Byte :=
  if inRom a n then (List.range n).map fun i => Config.romByte (a + i) else s.sram a n

/-! ### Exceptions (R342) -/

/-- A fault of the core: to TEVEC + 0x100 with the Kwesaist cause; in a handler with IE = 0, or from ROM code, it is
module-fatal. -/
def State.thmExcept (s : State) (cause sub : Nat) (epc eaddr : Word) : State :=
  let st := s.tcr tcTSTATUS
  let x := s.thr thmThread
  if inRom x.pc.toNat 1 || (s.thm.inHandler && st &&& 1 == 0) then
    s.fatal { unitId := unitId 0x0A 0, cls := 3, code := 0x4A, action := 9 } false
  else
    let s := (s.setTcr tcTEPC (epc &&& ~~~3#64)).setTcr tcTECAUSE (BitVec.ofNat 64 (sub % 256 * 256 + cause))
    let s := (s.setTcr tcTEADDR eaddr).setTcr tcTSTATUS (st &&& ~~~1#64)
    let s := s.setThr thmThread { x with pc := (s.tcr tcTEVEC &&& ~~~0xFFF#64) + 0x100 }
    { s with thm := { s.thm with inHandler := true } }

/-- The core executes: firmware runs, and the core is not in WAIT and not halted by a debugger. -/
def State.thmLive (s : State) : Bool :=
  let x := s.thr thmThread
  s.thm.firmware && x.started && !x.waiting && !x.halted

/-- The core has no predictor (R340): what an instruction leaves in prediction state is dropped. -/
def State.thmPlain (s : State) : State :=
  let c := s.core (thmThread / 2)
  s.setCore (thmThread / 2) { c with thr0 := { c.thr0 with retStack := [], wc := [] }, overrides := [], itc := [], pgen := 0 }

/-- An interrupt is due (R341): IE is set and an enabled source pending, while the core runs or is in WAIT. -/
def State.thmDue (s : State) : Bool :=
  s.thm.firmware && (s.thr thmThread).started && !(s.thr thmThread).halted && s.tcr tcTSTATUS &&& 1#64 ≠ 0 &&
    s.tcr tcTIEN &&& s.tcr tcTIPEND ≠ 0

/-- Interrupt entry (R341): the pc is saved in TEPC, IE cleared, and the core goes to TEVEC. -/
def State.thmEnter (s : State) : State :=
  let x := s.thr thmThread
  let pc := if x.waiting then x.pc + 4 else x.pc
  let s := (s.setTcr tcTEPC (pc &&& ~~~3#64)).setTcr tcTSTATUS (s.tcr tcTSTATUS &&& ~~~1#64)
  let s := s.setThr thmThread { x with pc := s.tcr tcTEVEC &&& ~~~0xFFF#64, waiting := false }
  { s with thm := { s.thm with inHandler := true } }

/-- Run an instruction (R340): an interrupt that is due is taken before it (R341); else the fetch, then the instruction. -/
def State.thmRun (s : State) (body : State → State) : State :=
  if s.thmDue then s.thmEnter else
  if !s.thmLive then s else
  let pc := (s.thr thmThread).pc
  if !(inRom pc.toNat 4 || inSram pc.toNat 4) then s.thmExcept 0x01 0x06 pc pc
  else (body s).thmPlain

/-- Retire: a single step ends halted. -/
def State.thmRetire (s : State) (pc : Word) : State :=
  let x := s.thr thmThread
  s.setThr thmThread { x with pc := pc, halted := x.halted || x.stepping, stepping := false }

end Sys2Proof.Machine
end

