-- ==== Sys2Proof/Machine/Translate.lean ====
section
/-! DEFINITION. From a virtual address to a checked access: control registers of a thread, the page walk under
the Page Owner Table (R91–R95, R218) and the order in which faults are weighed (R498). -/

namespace Sys2Proof.Machine

/-! ### Control registers of a thread -/

def Thread.cr0 (x : Thread) (n : Nat) : Word := SMap.get crReset x.cr n
def Thread.setCr (x : Thread) (n : Nat) (v : Word) : Thread := { x with cr := SMap.put crReset x.cr n v }
def Thread.crFld (x : Thread) (n : Nat) (f : Fld) : Nat := f.get (x.cr0 n).toNat
def Thread.setCrFld (x : Thread) (n : Nat) (f : Fld) (v : Nat) : Thread :=
  x.setCr n (BitVec.ofNat 64 (f.set (x.cr0 n).toNat v))
/-- A STATUS field. -/
def Thread.st (x : Thread) (f : Fld) : Nat := x.crFld 0 f
def Thread.setSt (x : Thread) (f : Fld) (v : Nat) : Thread := x.setCrFld 0 f v
/-- The current level (R63): 0 U, 1 S, 2 H. -/
def Thread.pl (x : Thread) : Nat := x.st F.crSTATUS.PL

/-- The panel the thread's core runs; panel 0 when idle. -/
def Core.panel (c : Core) : Nat := match c.seat with
  | some (p, _) => p
  | none => 0
def State.panelOf (s : State) (th : Nat) : Nat := (s.core (th / 2)).panel

/-- A general register; g0 reads as zero (R62). -/
def Thread.gr (x : Thread) (r : Nat) : Word := if r = 0 then 0 else SMap.get (fun _ => 0) x.g r
/-- Write a general register; a write to g0 is discarded (R62). -/
def Thread.setGr (x : Thread) (r : Nat) (v : Word) : Thread :=
  if r = 0 then x else { x with g := SMap.put (fun _ => 0) x.g r v }
def Thread.vr (x : Thread) (r : Nat) : VWord := SMap.get (fun _ => 0) x.v r
def Thread.setVr (x : Thread) (r : Nat) (v : VWord) : Thread := { x with v := SMap.put (fun _ => 0) x.v r v }
/-- A mask register; k0 reads as all ones (R62). -/
def Thread.kr (x : Thread) (r : Nat) : Word := if r = 0 then BitVec.allOnes 64 else SMap.get (fun _ => 0) x.k r
def Thread.setKr (x : Thread) (r : Nat) (v : Word) : Thread :=
  if r = 0 then x else { x with k := SMap.put (fun _ => 0) x.k r v }

/-! ### Accesses -/

inductive Access where
  | load | store | fetch | amo
  deriving DecidableEq, Repr

/-- The cause of a translation fault (Table ISA-21): 0x01, 0x04 or 0x05. -/
def Access.cause : Access → Nat
  | .fetch => 0x01
  | .load => 0x04
  | _ => 0x05

/-- What the Page Owner Table grants panel `p`'s cores in a granule (Table MEM-8): read, write, execute. -/
def State.potGrant (s : State) (p g : Nat) : Bool × Bool × Bool :=
  let e := s.potEntry g
  if potKind e = kOwned ∧ potPanel e = p then (potR e, potW e, potX e)
  else if potKind e = kStage ∧ p = 0 then (false, true, false)
  else (false, false, false)

/-- Why an access is not performed: an exception with its cause, subcause and EADDR, or poison consumed. -/
inductive AccFault where
  | exc (cause sub : Nat) (eaddr : Word)
  | poison (eaddr : Word) (pa : Nat)
  deriving DecidableEq, Repr

/-- A table entry the walk ends in. -/
structure Leaf where
  level : Nat
  entry : Nat
  addr  : Nat
  deriving DecidableEq, Repr

inductive WalkEnd where
  | leaf (l : Leaf)
  | sub (n : Nat)
  | poison (pa : Nat)
  deriving DecidableEq, Repr

/-- The index field of a level (R91). -/
def vaIndex (va level : Nat) : Nat := va / 2 ^ (12 + 9 * (level - 1)) % 512

/-- Why a table address is refused (R94); none when the walker may read it. -/
def State.tableRefused (s : State) (p a : Nat) : Option Nat :=
  match s.target a with
  | .prot | .cxl _ => if (s.potGrant p (a / 65536)).1 then none else some 0x02
  | .none => some 0x06
  | _ => some 0x05

/-- Whether a leaf breaks R92. -/
def leafBad (level e : Nat) : Bool :=
  decide (4 ≤ level) || decide (5 ≤ bits e 4 2) || bits e 10 9 == 3 ||
  (level == 3 && bits e 29 12 != 0) || (level == 2 && bits e 20 12 != 0) ||
  (level != 1 && bit e 11)

/-- The walk from a table at `base` down (R91–R94). -/
def State.walk (s : State) (p va : Nat) : Nat → Nat → WalkEnd
  | 0, _ => .sub 0x04
  | level + 1, base =>
    let a := base + 8 * vaIndex va (level + 1)
    match s.tableRefused p a with
    | some n => .sub n
    | none =>
      if s.poisoned a 8 then .poison a else
      let e := s.memNat a 8
      if !bit e 0 then .sub 0x00
      else if bits e 63 62 ≠ 0 then .sub 0x04
      else if bit e 1 then
        (if leafBad (level + 1) e then .sub 0x04 else .leaf ⟨level + 1, e, a⟩)
      else if level = 0 ∨ bits e 11 2 ≠ 0 then .sub 0x04
      else s.walk p va level (bits e 51 12 * 4096)

/-- PERM codes (Table ISA-25a): read, write, execute. -/
def permOf : Nat → Bool × Bool × Bool
  | 0 => (true, false, false)
  | 1 => (true, true, false)
  | 2 => (false, false, true)
  | 3 => (true, false, true)
  | _ => (true, true, true)

def mtOf : Nat → MemType
  | 0 => .wb
  | 1 => .wc
  | _ => .dev

/-- The page size in address bits that a leaf maps, before the granule rule (R92). -/
def leafBits (l : Leaf) : Nat :=
  if l.level = 3 then 30 else if l.level = 2 then 21 else if bit l.entry 11 then 16 else 12

/-- The physical base of the leaf's page. -/
def leafBase (l : Leaf) : Nat :=
  let b := bits l.entry 51 12 * 4096
  if l.level = 1 ∧ bit l.entry 11 then b / 65536 * 65536 else b

/-- Whether a physical address is checked against the Page Owner Table. -/
def Target.owned : Target → Bool
  | .prot | .cxl _ => true
  | _ => false

/-- The CXL window, whether or not an HDM range holds the address. -/
def inCxl (pa : Nat) : Bool := decide (0x010000000000 ≤ pa) && decide (pa < 0x050000000000)

/-- The home bolt of a granule, from its Page Owner Table entry (R133, R155). -/
def State.granuleBolt (s : State) (g : Nat) : Nat := s.panelBolt (potPanel (s.potEntry g))

/-- The TLB entry a leaf gives for an address (R94): at 2 MiB when all 32 granules grant all that PERM grants and have one home
bolt, else the 64 KiB granule, else the 4 KiB page. -/
def State.fill (s : State) (p va asid : Nat) (hroot : Bool) (l : Leaf) : TlbEntry :=
  let off := va % 2 ^ leafBits l
  let pa := leafBase l + off
  let (r, w, x) := permOf (bits l.entry 4 2)
  let owned := (s.target pa).owned
  let passes (g : Nat) : Bool :=
    let (gr, gw, gx) := s.potGrant p g
    (!r || gr) && (!w || gw) && (!x || gx)
  let g0 := pa / 2 ^ 21 * 32
  let big := decide (21 ≤ leafBits l) && (!owned || (List.range 32).all fun i =>
    passes (g0 + i) && s.granuleBolt (g0 + i) == s.granuleBolt g0)
  let size := if big then 21 else min 16 (leafBits l)
  let (gr, gw, gx) := if owned then s.potGrant p (pa / 65536) else (true, true, true)
  { asid := asid, glob := bit l.entry 8, va := va / 2 ^ size, size := size, pa := pa / 2 ^ size,
    mt := mtOf (bits l.entry 10 9), r := r, w := w, x := x, potR := gr, potW := gw, potX := gx,
    user := bit l.entry 7, dirty := bit l.entry 5, hroot := hroot, bolt := if owned then s.granuleBolt (pa / 65536) else 0 }

/-- Whether a TLB entry translates an address for a root. -/
def TlbEntry.hits (t : TlbEntry) (va asid : Nat) (hroot : Bool) : Bool :=
  t.hroot == hroot && (t.glob || t.asid == asid) && va / 2 ^ t.size == t.va

/-- Canonical addresses (R91): bits [63:57] equal bit 56. -/
def canonical (va : Nat) : Bool := va / 2 ^ 56 == 0 || va / 2 ^ 56 == 255

/-- Steps 3–7 of R498 on a finished translation of a core in bolt `b`: unaligned device access, no target, type, permission,
owner. -/
def State.judge (s : State) (b : Nat) (acc : Access) (aligned : Bool) (pl : Nat) (uacc : Bool) (t : TlbEntry) (pa : Nat)
    (va : Word) : Option AccFault :=
  let tg := s.target pa
  let c := acc.cause
  let want : Bool := match acc with
    | .load => t.r
    | .store => t.w
    | .fetch => t.x
    | .amo => t.r && t.w
  let pot : Bool := match acc with
    | .load => t.potR
    | .store => t.potW
    | .fetch => t.potX
    | .amo => t.potR && t.potW
  let noTarget : Bool := match tg with
    | .none | .noReg => true
    | .intMsg => true
    | _ => false
  let typeBad : Bool :=
    (match tg with
      | .reg _ | .ecam .. | .window .. => t.mt ≠ .dev
      | .aperture _ _ => t.mt = .wb
      | _ => false) ||
    (match acc with
      | .amo | .fetch => t.mt ≠ .wb
      | _ => false) ||
    -- an AMO to a line homed in another bolt (R156)
    (acc == .amo && tg.owned && t.bolt ≠ b)
  let userBad : Bool :=
    if pl = 0 then !t.user
    else t.user && (match acc with | .fetch => true | _ => !uacc)
  if acc ≠ .fetch ∧ acc ≠ .amo ∧ t.mt = .dev ∧ !aligned then some (.exc 0x06 0x00 va)
  else if noTarget then some (.exc c 0x06 va)
  else if typeBad then some (.exc c 0x05 va)
  else if !want || userBad then some (.exc c 0x01 va)
  else if !pot then some (.exc c 0x02 va)
  else none

/-- Set A, and D for a store, in the leaf (R93). -/
def State.setAD (s : State) (l : Leaf) (store : Bool) : State :=
  let e := l.entry ||| 0x40 ||| (if store then 0x20 else 0)
  if e = l.entry then s else
    { (s.setBytes l.addr (leBytes 8 e)) with dirty := SMap.put (fun _ => false) s.dirty (l.addr / 64) true }

/-- The TLB holds at most 3,072 entries (Table COR-1); a fill drops the oldest. -/
def tlbAdd (tlb : List TlbEntry) (t : TlbEntry) : List TlbEntry :=
  (t :: tlb.filter (fun u => !(u.va == t.va && u.size == t.size && u.asid == t.asid && u.hroot == t.hroot))).take 3072

/-- Translate and check one access that lies within one line (R91–R95, R498). On success the state holds the A and
D bits and the TLB entry; the checker of a pair sets no A or D bit (R427). -/
def State.translate (s : State) (th : Nat) (acc : Access) (va : Word) (aligned : Bool) :
    State × Except AccFault Xlat :=
  let x := s.thr th
  let c := s.core (th / 2)
  let p := c.panel
  let pl := x.pl
  let uacc := x.st F.crSTATUS.UACC == 1
  let hroot := pl == 2
  let root := if hroot then 0x041 else 0x040
  let v := va.toNat
  let cause := acc.cause
  let store : Bool := match acc with
    | .store | .amo => true
    | _ => false
  if x.crFld root F.crPTBASE.TEN = 0 then
    if 2 ^ 52 ≤ v then (s, .error (.exc cause 0x03 va)) else
    let tg := s.target v
    let (gr, gw, gx) := if tg.owned then s.potGrant p (v / 65536) else (true, true, true)
    let t : TlbEntry :=
      { asid := 0, glob := true, va := v / 4096, size := 12, pa := v / 4096,
        mt := (if tg.owned || inCxl v then .wb else .dev), r := true, w := true, x := true,
        potR := gr, potW := gw, potX := gx, user := pl == 0, dirty := true, hroot := hroot,
        bolt := if tg.owned then s.granuleBolt (v / 65536) else 0 }
    match s.judge (s.boltOf (th / 2)) acc aligned pl uacc t v va with
    | some f => (s, .error f)
    | none => (s, .ok { pa := v, mt := t.mt, target := tg, bolt := t.bolt })
  else if !canonical v then (s, .error (.exc cause 0x03 va))
  else
    let asid := x.crFld root F.crPTBASE.ASID
    match c.tlb.find? (fun t => t.hits v asid hroot && (t.dirty || !store)) with
    | some t =>
      let pa := t.pa * 2 ^ t.size + v % 2 ^ t.size
      match s.judge (s.boltOf (th / 2)) acc aligned pl uacc t pa va with
      | some f => (s, .error f)
      | none => (s, .ok { pa := pa, mt := t.mt, target := s.target pa, bolt := t.bolt })
    | none =>
      match s.walk p (v % 2 ^ 57) 5 (x.crFld root F.crPTBASE.ROOT * 4096) with
      | .sub n => (s, .error (.exc cause n va))
      | .poison pa => (s, .error (.poison va pa))
      | .leaf l =>
        let t := { s.fill p v asid hroot l with dirty := store || bit l.entry 5 }
        let pa := t.pa * 2 ^ t.size + v % 2 ^ t.size
        match s.judge (s.boltOf (th / 2)) acc aligned pl uacc t pa va with
        | some f => (s, .error f)
        | none =>
          let s := if s.flag { kind := .wrpTwpair, i := th / 2 } F.wrpTwpair.CHK then s else s.setAD l store
          let c := s.core (th / 2)
          (s.setCore (th / 2) { c with tlb := tlbAdd c.tlb t }, .ok { pa := pa, mt := t.mt, target := s.target pa, bolt := t.bolt })

end Sys2Proof.Machine
end

