-- ==== Sys2Proof/Machine/Protect.lean ====
section
/-! DEFINITION. The memory controllers (R205–R234): address mapping, checks, tokens, mirroring, poison, scrub and
sparing. -/

namespace Sys2Proof.Machine

/-! ### Domains needed by a request (R449, R234, R152) -/

def dstatR (d : Nat) : Reg := { kind := .pwrDstat, i := d }

/-- A request needs the domain: a domain in RET returns to ON and serves it, and the stitch counts as one with
demand. -/
def State.need (s : State) (d : Nat) : State :=
  let s := { s with pwr := { s.pwr with demand := if d ∈ s.pwr.demand then s.pwr.demand else s.pwr.demand ++ [d] } }
  let bridge := if 192 ≤ d ∧ d < 384 then 384 + (d - 192) / 48 else if 388 ≤ d ∧ d < 412 then 384 + (d - 388) / 6 else d
  let s := if bridge ≠ d ∧ s.fld (dstatR bridge) F.pwrDstat.CUR = 1 then
      (s.setFld (dstatR bridge) F.pwrDstat.CUR 0).addFld (dstatR bridge) F.pwrDstat.TRANS 1
    else s
  if s.fld (dstatR d) F.pwrDstat.CUR = 1 then
    ((s.setFld (dstatR d) F.pwrDstat.CUR 0).setFld (dstatR d) F.pwrDstat.GATED (b2n (decide (d < 192)))).addFld
      (dstatR d) F.pwrDstat.TRANS 1
  else s

/-! ### Dirty copies in caches -/

def Sector.none : Sector := { valid := false, dirty := false, poison := false }

/-- The sector of a line in a slice. -/
def TileSt.sector (x : TileSt) (line : Nat) : Sector :=
  match SMap.find x.l3 (line / 2) with
  | some e => if line % 2 = 0 then e.s0 else e.s1
  | none => Sector.none

/-- An L2 or its selvedge buffer holds a line's newest data. -/
def TileSt.owns (x : TileSt) (line : Nat) : Bool :=
  (SMap.get (fun _ => L2Line.none) x.l2 line).st == .m || x.selv.any (fun e => e.line == line)
/-- A tile holds newer data of a line than memory does: in its L2, its selvedge buffer or its slice. -/
def TileSt.holdsDirty (x : TileSt) (line : Nat) : Bool := x.owns line || ((x.sector line).valid && (x.sector line).dirty)

/-- Memory has accepted a line (R182): nothing of it can be lost with the caches, unless one of them holds newer data. -/
def State.inMemory (s : State) (line : Nat) : State :=
  if s.tiles.any fun e => e.2.holdsDirty line then s
  else { s with dirty := SMap.put (fun _ => false) s.dirty line false }

def mcReg (k : RegKind) (c : Nat) (j : Nat := 0) : Reg := { kind := k, i := c, j := j }

/-! ### Mapping (R210) -/

/-- The hash of a channel-local line index. -/
def memHash (u n : Nat) : Nat :=
  let x := (u ^^^ (u >>> 16)) % 65536
  x * 0x9E37 % 65536 * n / 65536

/-- Channel, row and slot of a line of protected memory (R210). -/
def mapLine (clist : List Nat) (l : Nat) : Nat × Nat × Nat :=
  let n := clist.length
  let i := l / n
  let j := l % n
  let hf := if 52428800 ≤ i then 1 else 0
  let u := i - hf * 52428800
  let k := (j + memHash u n + hf * (n / 2)) % n
  (clist.getD k 0, i / 25, i % 25)

/-- The line of a slot: the inverse of R210. -/
def lineAt (clist : List Nat) (chan row slot : Nat) : Nat :=
  let n := clist.length
  let i := row * 25 + slot
  let hf := if 52428800 ≤ i then 1 else 0
  let u := i - hf * 52428800
  let k := (clist.findIdx? (· == chan)).getD 0
  let j := (k + 2 * n - memHash u n % n - hf * (n / 2)) % n
  i * n + j

/-- The copy of a lower-half line (R210, R221). -/
def State.copyLine (s : State) (l : Nat) : Nat := l + 52428800 * s.clist.length
/-- The primary of an upper-half line. -/
def State.primaryLine (s : State) (l : Nat) : Nat := l - 52428800 * s.clist.length
/-- The mirror bit of a line's granule (R221). -/
def State.mirrored (s : State) (l : Nat) : Bool := potMir (s.potEntry (l / 1024))

/-- One step of the division of R208. -/
def bchStep (c : Nat) (b : Bool) : Nat :=
  let fb := xor b (c.testBit 13)
  let c := c * 2 % 16384
  if fb then c ^^^ 0x0377 else c

/-- The BCH check bits of a message of `n` bits, most significant first (R208). -/
def bch (m n : Nat) : Nat := ((List.range n).reverse.map m.testBit).foldl bchStep 0

/-- Parity of the low `n` bits. -/
def parityOf (m n : Nat) : Bool := ((List.range n).filter m.testBit).length % 2 == 1

/-- The check word of word `w` of the line at `pa` with ciphertext `d` (R208). -/
def checkWord (d pa w : Nat) : Nat :=
  let m := d + (pa / 64 % 2 ^ 46) * 2 ^ 64 + w * 2 ^ 110
  let c := bch m 113
  c + b2n (xor (parityOf m 113) (parityOf c 14)) * 2 ^ 14

/-- Trailer check group g over 50 trailer bits (R208). -/
def trailerGroup (bits50 row chan g : Nat) : Nat := bch (bits50 + row * 2 ^ 50 + chan * 2 ^ 72 + g * 2 ^ 77) 80

/-- The row's metadata bits [299:0] (Table MEM-3). -/
def State.trailerBits (s : State) (chan row : Nat) : Nat :=
  ((List.range 25).map fun k =>
    let m := s.meta (lineAt s.clist chan row k)
    (b2n m.poison + 2 * m.ktag) * 2 ^ (12 * k)).sum

/-- The ciphertext of a line under its key tag (R213); the cipher is opaque. (DESIGN CHOICE, log entry 49.) -/
def State.cipher (s : State) (l : Nat) : List Byte :=
  let m := s.meta l
  let key := leBytes 64 (SMap.get (fun _ => 0) s.keys m.ktag)
  let tweak := leBytes 16 ((if l < 52428800 * s.clist.length then l else if s.mirrored (s.primaryLine l) then s.primaryLine l else l) * 64)
  let src := if 52428800 * s.clist.length ≤ l ∧ s.mirrored (s.primaryLine l) then s.primaryLine l else l
  padTo 64 (Config.aesSeal key tweak (s.bytes (src * 64) 64))

/-- The spare row that serves a row. -/
def State.spareOf (s : State) (c row : Nat) : Option Nat :=
  (List.range 256).find? fun k =>
    s.flag (mcReg .mcSpare c k) F.mcSpare.V && s.fld (mcReg .mcSpare c k) F.mcSpare.ROW == row

def firstSpareRow : Nat := 4194048

/-- The row whose lines a physical row of a channel holds: a spare row in use serves another (R227). -/
def State.rowHeld (s : State) (c row : Nat) : Nat :=
  let r := mcReg .mcSpare c (row - firstSpareRow)
  if firstSpareRow ≤ row ∧ s.flag r F.mcSpare.V = true then s.fld r F.mcSpare.ROW else row

/-- A stored row as RAW_READ returns it (Table MEM-1); a spare row in use holds the row that it serves (R227). -/
def State.rowBytes (s : State) (chan row : Nat) : List Byte :=
  let row := s.rowHeld chan row
  let slots := (List.range 25).flatMap fun k =>
    let l := lineAt s.clist chan row k
    let c := s.cipher l
    c ++ (List.range 8).flatMap fun w => leBytes 2 (checkWord (field c (8 * w) 8) (l * 64) w)
  let t := s.trailerBits chan row
  let groups := ((List.range 6).map fun g => trailerGroup (bits t (50 * g + 49) (50 * g)) row chan g * 2 ^ (300 + 14 * g)).sum
  slots ++ leBytes 48 (t + groups)

/-! ### Checks of one request -/

/-- The lowest-numbered enabled region that covers a line (R216). -/
def State.regionOf (s : State) (c l : Nat) : Option Nat :=
  (List.range 16).find? fun k =>
    let r := mcReg .mcRegion c k
    s.flag r F.mcRegion.EN && decide (s.fld r F.mcRegion.BASE ≤ l / 1024) && decide (l / 1024 ≤ s.fld r F.mcRegion.LIMIT)

/-- Whether a region lets a request pass (Table MEM-6). -/
def State.regionPass (s : State) (c : Nat) (q : McReq) : Bool :=
  match s.regionOf c q.line with
  | none => true
  | some k =>
    match s.fld (mcReg .mcRegion c k) F.mcRegion.OWNER with
    | 1 => q.req == 192 || q.req == 199
    | 2 => q.ktag == 0 || q.req == 192
    | 3 => q.hbolt == s.fld (mcReg .mcRegion c k) F.mcRegion.BOLT
    | _ => false

/-- The request uses the firmware key (Table MEM-6). -/
def State.inFirmware (s : State) (c l : Nat) : Bool :=
  match s.regionOf c l with
  | some k => s.fld (mcReg .mcRegion c k) F.mcRegion.OWNER == 1
  | none => false

/-- MC.KVALID of a key tag. -/
def State.keyValid (s : State) (c tag : Nat) : Bool := bit (s.rd (mcReg .mcKvalid c (tag / 32))) (tag % 32)

/-- A memory record's syndrome bytes 32–47 (Table ERR-3a). -/
def memSyn (chan slot word bits row syn : Nat) : List Byte :=
  leBytes 1 chan ++ leBytes 1 slot ++ leBytes 1 word ++ leBytes 1 bits ++ leBytes 4 row ++ leBytes 2 syn

/-- Report a memory event, with the row log's entry for the codes R443 names. -/
def State.memErr (s : State) (c code cls action flags l word nbits syn panel : Nat) : State :=
  let (_, row, slot) := mapLine s.clist l
  let s := s.logErr
    { unitId := unitId 3 c, cls := cls, code := code, action := action, flags := flags + flagPaddr
      paddr := l * 64, panel := panel, syndrome := memSyn c slot word nbits row syn }
  if code = 0x10 then s.swRow c 0xFF row false false false
  else if code = 0x11 ∨ code = 0x12 then s.swRow c 0xFF row true false false
  else s

/-! ### Answers -/

/-- Endpoint numbers of homes and controllers in the module's outputs. -/
def homeEnd (t : Nat) : Nat := 256 + t
def mcEnd (c : Nat) : Nat := 512 + c

/-- Answer a request: to its home, and the credit returns (CRDRET). -/
def State.mcAnswer (s : State) (c : Nat) (q : McReq) (poison : Bool) : State :=
  match q.home with
  | some (t, id) =>
    (s.emit (.warp (if q.write then .mwack else .mdata) (mcEnd c) (homeEnd t) id q.line (poison && !q.write) [])).emit
      (.warp .crdret (mcEnd c) (homeEnd t) c (b2n q.write) false [])
  | none =>
    let p := (c + 12) % 24
    s.emit (.warp (if q.write then .mwack else .mdata) (mcEnd c) (mcEnd p) 0xFF (s.primaryLine q.line) (poison && !q.write) [])

/-- A refusal under R216. -/
def State.regionRefuse (s : State) (c : Nat) (q : McReq) : State :=
  let s := s.mcAnswer c q true
  s.panelError q.ktag 0x02
    { unitId := unitId 3 c, cls := 1, code := 0x14, action := 6, flags := flagPaddr + flagPanel, paddr := q.line * 64
      panel := s.handle q.ktag, req := q.req, syndrome := memSyn c 0 0xFF 0 0 0 }

/-! ### Tokens (R229, R230) -/

/-- Tokens a request costs: one, and one more on a trailer-cache miss. -/
def State.tokenCost (s : State) (c l : Nat) : Nat :=
  let row := (mapLine s.clist l).2.1
  if row ∈ (s.mc c).trailers then 1 else 2

/-- The trailer cache after a row is used: 2,048 rows, most recent first. -/
def State.touchTrailer (s : State) (c l : Nat) : State :=
  let row := (mapLine s.clist l).2.1
  let x := s.mc c
  s.setMc c { x with trailers := (row :: x.trailers.filter (· ≠ row)).take 2048 }

/-- The FIRMWARE region and the reads of a mirror repair have their own share of the slots (R229). -/
def State.untaxed (s : State) (c : Nat) (q : McReq) : Bool := s.inFirmware c q.line || (q.home.isNone && !q.write)

/-- The panel's REMAIN or the pool is above zero, or the request needs no token. -/
def State.eligible (s : State) (c : Nat) (q : McReq) : Bool :=
  s.untaxed c q || decide (0 < s.fld (mcReg .mcTok c q.ktag) F.mcTok.REMAIN) ||
    decide (0 < s.fld (mcReg .mcPool c) F.mcPool.POOL)

/-- Consume `n` tokens, REMAIN first and then the pool, and count them for the Tape. -/
def State.spend (s : State) (c p n : Nat) : State :=
  let r := mcReg .mcTok c p
  let a := s.fld r F.mcTok.REMAIN
  let s := s.setFld r F.mcTok.REMAIN (a - n)
  let s := s.setFld (mcReg .mcPool c) F.mcPool.POOL (s.fld (mcReg .mcPool c) F.mcPool.POOL - (n - a))
  s.count p (cntLine c) n

def State.charge (s : State) (c : Nat) (q : McReq) : State :=
  if s.untaxed c q then s else (s.spend c q.ktag (s.tokenCost c q.line)).touchTrailer c q.line

/-! ### Sparing (R226–R228) -/

/-- The lowest free spare row of a channel. -/
def State.freeSpare (s : State) (c : Nat) : Option Nat :=
  (List.range 256).find? fun k =>
    let r := mcReg .mcSpare c k
    s.fld r F.mcSpare.V == 0 && s.fld r F.mcSpare.BAD == 0 && !(s.mc c).held.any (fun h => h.2 == k)

/-- A spare row has failed: BAD, in its register and in the Swatch store's remap (R227). -/
def State.spareBad (s : State) (c k : Nat) : State :=
  let s := s.setFld (mcReg .mcSpare c k) F.mcSpare.BAD 1
  s.swWrite (.spare (c * 256 + k) (s.rd (mcReg .mcSpare c k)))

/-- A row has a hard fault: it is moved to a spare (one that serves it is bad, and the row is spared again), or stays in use and its
granules will be marked OFFLINE (R226–R228). A free spare row with a hard fault is bad. (DEDUCED, log entry 133.) -/
def State.hardRow (s : State) (c row : Nat) : State :=
  let row := s.rowHeld c row
  let s := s.swRow c 0xFF row false false true
  if firstSpareRow ≤ row then s.spareBad c (row - firstSpareRow) else
  if (s.mc c).held.any (fun h => h.1 == row) then s else
  let s := match s.spareOf c row with
    | some k => s.spareBad c k
    | none => s
  match s.freeSpare c with
  | some k => s.setMc c { s.mc c with held := (s.mc c).held ++ [(row, k)] }
  | none =>
    let gs := dedupNat ((List.range 25).map fun k => lineAt s.clist c row k / 1024)
    { s.memErr c 0x19 0 0 0 (lineAt s.clist c row 0) 0xFF 0 0 0 with
      toOffline := s.toOffline ++ gs.filter (· ∉ s.toOffline) }

/-! ### The partner (R222, R223) -/

/-- Ask the partner: write the copy, or read it. -/
def State.partnerEmit (s : State) (c : Nat) (q : McReq) : State :=
  s.emit (.warp (if q.write then .mwa else .mrd) (mcEnd c) (mcEnd ((c + 12) % 24)) 0xFF (s.copyLine q.line) (q.write && q.poison)
    (if q.write then [q.ktag] else []))

/-- A request goes to the partner on one of the eight standing credits of its kind, or waits for one. -/
def State.partnerAsk (s : State) (c : Nat) (q : McReq) : State :=
  let x := s.mc c
  let first := (x.partnerQ.filter fun r => r.write == q.write).length < 8
  let s := s.setMc c { x with partnerQ := x.partnerQ ++ [q] }
  if first then s.partnerEmit c q else s

/-- The request of a kind that the partner has and that concerns a line. -/
def McSt.asked (x : McSt) (write : Bool) (line : Nat) : Option McReq :=
  ((x.partnerQ.filter fun q => q.write == write).take 8).find? fun q => q.line == line

/-- A request to the partner is over: its credit goes to the next of its kind that waits. -/
def State.partnerDone (s : State) (c : Nat) (q : McReq) : State :=
  let x := s.mc c
  let rest := x.partnerQ.erase q
  let s := s.setMc c { x with partnerQ := rest }
  match (rest.filter fun r => r.write == q.write)[7]? with
  | some r => s.partnerEmit c r
  | none => s

/-- A mirrored write did not reach the copy: MEM_MIRROR, and the copy is stale, which POISON in the partner's trailer says until the
next write of the line (R222). -/
def State.copyStale (s : State) (c l : Nat) : State :=
  let m := s.copyLine l
  (s.setMeta m { s.meta m with poison := true }).memErr c 0x15 0 0 0 l 0xFF 0 0 0

/-! ### Reads -/

/-- A line is found uncorrectable: POISON is set in the trailer (R224), and the event recorded. -/
def State.lineBad (s : State) (c l word syn : Nat) (addr : Bool) : State :=
  let s := s.setMeta l { s.meta l with poison := true }
  let s := s.addFld (mcReg .mcCecnt c) F.mcCecnt.UNCOR 1
  let s := if addr then s.addFld (mcReg .mcCecnt c) F.mcCecnt.ADDRERR 1 else s
  s.memErr c (if addr then 0x12 else 0x11) 0 0 flagPoison l word 0 syn 0

/-- A word, or a group of the trailer, corrected (R209), and its row a sparing candidate when the error stays (R226). -/
def State.lineFixed (s : State) (c l word nbits syn : Nat) (hard : Bool) : State :=
  let s := (s.addFld (mcReg .mcCecnt c) F.mcCecnt.CORR 1).memErr c 0x10 0 0 0 l word nbits syn 0
  if hard then s.hardRow c (mapLine s.clist l).2.1 else s

/-- Slots whose metadata field touches the bits of trailer group `g` (R207). -/
def slotsOfGroup (g : Nat) : List Nat := (List.range 25).filter fun k => decide (12 * k ≤ 50 * g + 49) && decide (50 * g ≤ 12 * k + 11)

/-- The other lines that an uncorrectable trailer group makes unreadable: repaired from their copies, or poisoned; and the row is a
sparing candidate (R209). -/
def State.trailerLost (s : State) (c l word syn : Nat) : State :=
  let row := (mapLine s.clist l).2.1
  let others := ((slotsOfGroup (word - 16)).map (lineAt s.clist c row)).filter (· ≠ l)
  let s := others.foldl (fun s k =>
    if s.mirrored k then
      s.partnerAsk c { write := false, line := k, ktag := (s.meta k).ktag, hbolt := 0, req := 0xFF, home := none, poison := false
                       res := .bad word syn false false, age := 0 }
    else s.lineBad c k word syn false) s
  s.hardRow c row

/-- A line is uncorrectable (R209, R223, R224): the good copy is fetched for the request `q`, or the line is poisoned. -/
def State.lineLost (s : State) (c : Nat) (q : McReq) (word syn : Nat) (addr hard : Bool) : State :=
  let s := if 16 ≤ word then s.trailerLost c q.line word syn else s
  if s.mirrored q.line then s.partnerAsk c q
  else
    let s := s.lineBad c q.line word syn addr
    let s := if hard then s.hardRow c (mapLine s.clist q.line).2.1 else s
    if q.req = 0xFF then s else s.mcAnswer c q true

/-- Perform an accepted read (R209, R214, R215, R223, R224, R226). The key tag is compared before a key is needed. A read of a slot
with POISON set is recorded too. (DEDUCED, log entry 131.) -/
def State.mcRead (s : State) (c : Nat) (q : McReq) : State :=
  let m := s.meta q.line
  let fw := s.inFirmware c q.line
  if q.home.isNone then
    -- the partner's side of a mirror repair: the ciphertext, with POISON when this copy fails too
    match q.res with
    | .corrected w b y h => (s.lineFixed c q.line w b y h).mcAnswer c q m.poison
    | .bad w y a h =>
      let s := if 16 ≤ w then s.trailerLost c q.line w y else s
      let s := s.lineBad c q.line w y a
      (if h then s.hardRow c (mapLine s.clist q.line).2.1 else s).mcAnswer c q true
    | _ => s.mcAnswer c q m.poison
  else if !fw && m.ktag ≠ q.ktag then
    (s.memErr c 0x13 0 0 flagPoison q.line 0xFF 0 0 0).mcAnswer c q true
  else if !fw && !s.keyValid c q.ktag then s.mcAnswer c q true
  else if m.poison then (s.memErr c 0x11 0 0 flagPoison q.line 0xFF 0 0 0).mcAnswer c q true
  else match q.res with
    | .clean | .wedged => s.mcAnswer c q false
    | .corrected w b y h => (s.lineFixed c q.line w b y h).mcAnswer c q false
    | .bad w y a h => s.lineLost c q w y a h

/-! ### Writes -/

/-- Perform an accepted write (R214, R215, R222, R224). -/
def State.mcWrite (s : State) (c : Nat) (q : McReq) : State :=
  let fw := s.inFirmware c q.line
  if q.home.isNone then
    (s.setMeta q.line { ktag := q.ktag, poison := q.poison }).mcAnswer c q false
  else if !fw && (!s.keyValid c q.ktag || s.pstate q.ktag == psTearing) then s.mcAnswer c q false
  else
    let s := s.setMeta q.line { ktag := if fw then 0 else q.ktag, poison := q.poison }
    let s := s.inMemory q.line
    if s.mirrored q.line then s.partnerAsk c q else s.mcAnswer c q false

/-- Serve a request: its region check, its tokens, its effect. -/
def State.mcServe (s : State) (c : Nat) (q : McReq) : State :=
  if !s.regionPass c q then s.regionRefuse c q
  else
    let s := s.charge c q
    if q.write then s.mcWrite c q else s.mcRead c q

/-- Accept a request (R230): served when eligible, else it waits; a row held for sparing holds it (R227). -/
def State.mcTake (s : State) (c : Nat) (q : McReq) : State :=
  let s := s.need (388 + c)
  let row := (mapLine s.clist q.line).2.1
  let x := s.mc c
  if q.res = .wedged then s.setMc c { x with waiting := x.waiting ++ [q] }
  else if x.held.any (fun h => h.1 == row) then s.setMc c { x with heldReqs := x.heldReqs ++ [q] }
  else if s.eligible c q then s.mcServe c q
  else (s.setMc c { x with waiting := x.waiting ++ [q] }).count q.ktag (cntWait c) 1


end Sys2Proof.Machine
end

