-- ==== Sys2Proof/Machine/Home.lean ====
section
/-! DEFINITION. The shared operations of the coherence protocol: where a line's home is (R133), the L3 slice
(R134–R139), L2 fills and the selvedge buffer (R142–R144), bolt faults (R180–R184), and the transactions of a home
(R159–R177). Caches hold states and tags; the bytes of a line are those of memory, and a message carries the bytes of I/O
writes only. (DESIGN CHOICE, log entry 19.) -/

namespace Sys2Proof.Machine

/-! ### Slice and set selection (R133) -/

/-- The slice list of a bolt: its tiles whose slices are in service, by die and tile. -/
def State.sliceList (s : State) (b : Nat) : List Nat :=
  (s.boltCores b).filter fun t => t ∉ s.noSlice

/-- The hash of a line over `n` slices, and its set. -/
def sliceHash (pa n : Nat) : Nat :=
  let a := pa / 128
  let h := (a ^^^ (a >>> 16) ^^^ (a >>> 32)) % 65536
  h * 0x9E37 % 65536 * n / 65536
def l3Set (pa : Nat) : Nat :=
  let a := pa / 128
  (a ^^^ (a >>> 10) ^^^ (a >>> 20) ^^^ (a >>> 30) ^^^ (a >>> 40)) % 1024
/-- The directory set of a line (R160). -/
def dirSet (line : Nat) : Nat := l3Set (line * 64) * 2 + line % 2

/-- The granule owner's panel, and its bolt: the home bolt of a line. -/
def State.lineOwner (s : State) (line : Nat) : Nat := potPanel (s.potEntry (line / 1024))
def State.homeBolt (s : State) (line : Nat) : Nat := s.panelBolt (s.lineOwner line)
/-- The home tile of a line in a bolt. -/
def State.homeIn (s : State) (b line : Nat) : Option Nat :=
  let l := s.sliceList b
  l[sliceHash (line * 64) l.length]?
/-- The home tile of a line. -/
def State.homeOf (s : State) (line : Nat) : Option Nat := s.homeIn (s.homeBolt line) line

/-! ### Bolt faults (R180–R184) -/

/-- Raise or lower the fence at the gates of a bolt's dies (R201). -/
def State.fence (s : State) (b v : Nat) : State :=
  (List.range 4).foldl (fun s d =>
    if d * 48 / s.boltTiles = b then s.setFld { kind := .wrpBctl, i := d } F.wrpBctl.FENCE v else s) s

/-- The I/O requests and cross-bolt accesses inside a bolt when its fence rises are answered ERRCMP (R181). -/
def State.failInside (s : State) (b : Nat) : State :=
  s.emits (s.tiles.flatMap fun e => if s.boltOf e.1 = b then
    e.2.home.filterMap fun k => match k.2 with
      | some x => if x.op = .rdio ∨ x.op = .wrf ∨ x.op = .wrp then some (.warp .errcmp (homeEnd e.1) x.agent x.rtid x.line false [])
        else none
      | none => none
    else [])

/-- The bolt has HOST = 1 (Table COH-3). -/
def State.isHostBolt (s : State) (b : Nat) : Bool := s.fld { kind := .hubBoltstat } ⟨8 * b + 4, 8 * b + 4⟩ == 1

/-- A bolt-contained error: fenced, to be reset from the next boundary; module-fatal in the HOST bolt (R183); the
fourth reset within 100,000 stitches takes the bolt offline (R184). -/
def State.boltError (s : State) (b : Nat) (e : ErrEvt) : State :=
  if s.isHostBolt b then
    (s.logErr { e with cls := 2, action := 9 }).fatal
      { unitId := unitId 0x0B b, cls := 3, code := 0x4C, action := 9 } true
  else if s.boltState b = 4 ∨ s.boltState b = 0 then s.logErr { e with cls := 2, action := 0 }
  else
    let s := (s.logErr { e with cls := 2, action := 8 }).fence b 1
    (s.failInside b).setBoltState b 2

/-- A coherence record's syndrome bytes (Table ERR-3a). -/
def cohSyn (opcode htid rtid src : Nat) : List Byte := leBytes 1 opcode ++ leBytes 1 htid ++ leBytes 1 rtid ++ leBytes 1 src

/-- A protocol error detected at a tile (R180). -/
def State.cohProtocol (s : State) (t opcode htid rtid src line : Nat) : State :=
  s.boltError (s.boltOf t)
    { unitId := unitId 2 t, cls := 2, code := 0x28, action := 8, flags := flagPaddr, paddr := line * 64
      syndrome := cohSyn opcode htid rtid src }

/-- A bolt that answers: its fence is down. -/
def State.boltUp (s : State) (b : Nat) : Bool := s.boltState b == 1

/-! ### The slice -/

def State.modTile (s : State) (t : Nat) (f : TileSt → TileSt) : State := s.setTile t (f (s.tile t))

/-- The bytes of a line lost with the caches, or read from a copy that is out of date: free values (R148, R150, R182).
(DESIGN CHOICE, log entry 20.) -/
def State.loseLine (s : State) (line : Nat) : State :=
  let bs := (List.range 64).map fun i => Config.freeBits 8 (s.fresh + i)
  { s.setBytes (line * 64) bs with fresh := s.fresh + 64, dirty := SMap.put (fun _ => false) s.dirty line false }

def State.l3On (s : State) (h : Nat) : Bool := s.flag { kind := .wrpCctl, i := h } F.wrpCctl.L3_EN

/-- A slice that is being disabled no longer allocates (Table CCH-7). -/
def State.l3Leaving (s : State) (h : Nat) : Bool :=
  s.thm.jobs.any fun j => field j.q.head 2 2 == 0x0407 && j.data.getD 0 0 == h && j.data.getD 1 0 == 3

def State.inSlice (s : State) (h line : Nat) : Bool := s.l3On h && ((s.tile h).sector line).valid

def L3Line.set (e : L3Line) (line : Nat) (x : Sector) : L3Line :=
  if line % 2 = 0 then { e with s0 := x } else { e with s1 := x }

/-- Replace a sector of a line the slice has a tag for. -/
def TileSt.setSector (x : TileSt) (line : Nat) (y : Sector) : TileSt :=
  match SMap.find x.l3 (line / 2) with
  | some e =>
    let e := e.set line y
    { x with l3 := if e.s0.valid || e.s1.valid then SMap.insert x.l3 (line / 2) e else SMap.remove x.l3 (line / 2) }
  | none => x

/-- A line is written past the slice: its sector is invalidated without writeback. A slice that is disabled keeps it, out of
date (R147, Table CCH-6). -/
def State.dropSector (s : State) (h line : Nat) : State :=
  s.modTile h fun x =>
    let y := x.sector line
    if !y.valid then x else x.setSector line (if s.l3On h then Sector.none else { y with stale := true })

/-- Ways held in any panel's LOCK field of a slice (R136). -/
def State.lockedWays (s : State) (h : Nat) : Nat :=
  (List.range 512).foldl (fun m p => m ||| s.fld { kind := .wrpL3way, i := h, j := p } F.wrpL3way.LOCK) 0

/-- The way the tree pseudo-LRU names among allowed ways (R136): at each node the pointed-to half, or the other when
that half has no allowed way. -/
def plruWay (tree allowed : Nat) : Nat → Nat → Nat
  | 0, node => node - 16
  | depth + 1, node =>
    let want := node * 2 + b2n (bit tree node)
    let span := 2 ^ depth
    let has := fun (n : Nat) => (allowed >>> (n * span - 16)) % 2 ^ span ≠ 0
    plruWay tree allowed depth (if has want then want else want ^^^ 1)

/-- The tree after a way is used: every node on its path points away from it. -/
def plruTouch (tree way : Nat) : Nat :=
  (List.range 4).foldl (fun t k =>
    let node := (16 + way) / 2 ^ (k + 1)
    let side := (16 + way) / 2 ^ k % 2
    setBits t node node (1 - side)) tree

/-- A way of a set has been used (R136). -/
def TileSt.touchWay (x : TileSt) (set way : Nat) : TileSt :=
  { x with plru := SMap.put (fun _ => 0) x.plru set (plruTouch (SMap.get (fun _ => 0) x.plru set) way) }

/-- A slice hit uses the line's way. -/
def State.touchLine (s : State) (h line : Nat) : State :=
  match SMap.find (s.tile h).l3 (line / 2) with
  | some e => s.modTile h fun x => x.touchWay (l3Set (line * 64)) e.way
  | none => s

/-- A dirty sector that leaves a slice: its line, the key tag of its L3 tag (R162) and the sector. -/
structure Cast where
  line : Nat
  ktag : Nat
  sec  : Sector
  deriving DecidableEq, Repr

/-- The dirty sectors of a 128-byte line. -/
def L3Line.casts (e : L3Line) (l128 : Nat) : List Cast :=
  [{ line := 2 * l128, ktag := e.ktag, sec := e.s0 : Cast }, { line := 2 * l128 + 1, ktag := e.ktag, sec := e.s1 }].filter
    fun c => c.sec.valid && c.sec.dirty

/-- Place a sector in a slice under the panel's mask (R134, R136): the slice after it and the dirty sectors of the victim, or none
where nothing may be allocated. -/
def State.sliceFill (s : State) (h p line : Nat) (x : Sector) : Option (State × List Cast) :=
  if !s.l3On h || s.l3Leaving h then none else
  let t := s.tile h
  let set := l3Set (line * 64)
  match SMap.find t.l3 (line / 2) with
  | some e =>
    some (s.setTile h ({ t with l3 := SMap.insert t.l3 (line / 2) { e.set line x with ktag := p } }.touchWay set e.way), [])
  | none =>
    let mask := s.fld { kind := .wrpL3way, i := h, j := p } F.wrpL3way.ALLOC &&& (0xFFFF - s.lockedWays h)
    if mask = 0 then none else
    let inSet := t.l3.filter fun e => l3Set (e.1 * 128) == set
    let used := inSet.map (·.2.way)
    let way := match (List.range 16).find? fun w => bit mask w && w ∉ used with
      | some w => w
      | none => plruWay (SMap.get (fun _ => 0) t.plru set) mask 4 1
    let victim := inSet.find? fun e => e.2.way == way
    let out := match victim with
      | some e => e.2.casts e.1
      | none => []
    let l3 := match victim with
      | some e => SMap.remove t.l3 e.1
      | none => t.l3
    let e : L3Line := { way := way, ktag := p, s0 := Sector.none, s1 := Sector.none }
    some (s.setTile h ({ t with l3 := SMap.insert l3 (line / 2) (e.set line x) }.touchWay set way), out)

/-! ### Home to memory -/

/-- The controller or CXL root port of a line. -/
def State.chanOf (s : State) (line : Nat) : Nat :=
  if line * 64 < s.protTop then (mapLine s.clist line).1
  else 24 + (s.hdmOf (line * 64 - 0x010000000000)).getD 0


/-- Send a memory message when a credit is at hand, else ask for one (R159). CXL root ports grant no credits: Table COH-4 names
the channels alone. -/
def State.memSend (s : State) (h c : Nat) (w : Bool) (o : Out) : State :=
  let x := s.tile h
  let k := 2 * c + b2n w
  if 24 ≤ c then s.emit o else
  if SMap.get (fun _ => 0) x.memUse k = 0 then
    (s.setTile h { x with memUse := SMap.insert x.memUse k 1 }).emit o
  else if 0 < SMap.get (fun _ => 0) x.memPool k then
    (s.setTile h { x with memPool := SMap.put (fun _ => 0) x.memPool k (SMap.get (fun _ => 0) x.memPool k - 1) }).emit o
  else
    (s.setTile h { x with memQ := x.memQ ++ [(k, o)] }).emit (.warp .crdreq (homeEnd h) (mcEnd c) c (b2n w) false [])

/-- A credit has come: the oldest message that waits for it leaves. -/
def State.memNext (s : State) (h k : Nat) : State :=
  let x := s.tile h
  match x.memQ.find? fun e => e.1 == k with
  | none => s
  | some e => (s.setTile h { x with memQ := x.memQ.erase e }).memSend h (k / 2) (k % 2 == 1) e.2

def State.sendMrd (s : State) (h id : Nat) (x : HomeTx) : State :=
  let c := s.chanOf x.line
  s.memSend h c false (.warp .mrd (homeEnd h) (mcEnd c) id x.line false [x.ktag, s.boltOf h, x.agent])

/-- Send a line to memory under its key tag, for a transaction or for none (HTID 0xFF). The memory side discards it where the tag
names a panel in TEARING (R162). -/
def State.sendMwa (s : State) (h id line ktag : Nat) (poison : Bool) : State :=
  let c := s.chanOf line
  s.memSend h c true (.warp .mwa (homeEnd h) (mcEnd c) id line poison [ktag, s.boltOf h])

/-- Write dirty sectors that leave a slice to memory, for a transaction. One that is out of date overwrites newer data
(Table CCH-6). -/
def State.castFor (s : State) (h id : Nat) (cs : List Cast) : State :=
  cs.foldl (fun s c => (if c.sec.stale then s.loseLine c.line else s).sendMwa h id c.line c.ktag c.sec.poison) s

/-- Write a line to memory outside any transaction: a cast-out, or a writeback whose L2 is answered on MWACK. -/
def State.writeAlone (s : State) (h line ktag : Nat) (poison : Bool) (l2 : Option Nat) : State :=
  (s.modTile h fun x => { x with wbs := x.wbs ++ [(line, l2)] }).sendMwa h 0xFF line ktag poison

/-- Write dirty sectors that leave a slice to memory, for no transaction. -/
def State.castOut (s : State) (h : Nat) (cs : List Cast) : State :=
  cs.foldl (fun s c => (if c.sec.stale then s.loseLine c.line else s).writeAlone h c.line c.ktag c.sec.poison none) s

/-! ### Way masks (R137) -/

/-- Ways still cleaning in a slice (R137). -/
def TileSt.cleaning (x : TileSt) : Nat := x.clean.foldl (fun m j => m ||| j.ways) 0

/-- Ways that are being cleaned are in no panel's field; they come back to the panel they are meant for when they are clean
(R137). -/
def State.hideWay (s : State) (t p ways : Nat) : State :=
  let r : Reg := { kind := .wrpL3way, i := t, j := p }
  let a := s.fld r F.wrpL3way.ALLOC
  if a &&& ways = 0 then s else
    (s.setFld r F.wrpL3way.ALLOC (a &&& (0xFFFF - ways))).modTile t fun x => { x with
      wayDue := SMap.put (fun _ => 0) x.wayDue p (SMap.get (fun _ => 0) x.wayDue p ||| (a &&& ways)) }

/-- A panel's ways in a slice: those in its fields, and those on their way to them. -/
def State.waysOf (s : State) (t p : Nat) : Nat :=
  let r : Reg := { kind := .wrpL3way, i := t, j := p }
  s.fld r F.wrpL3way.ALLOC ||| s.fld r F.wrpL3way.LOCK

/-- Ways have left a panel's field: their cleaning starts (R137). -/
def State.startClean (s : State) (t ways : Nat) : State :=
  if ways = 0 then s else
    (List.range 512).foldl (fun s p => s.hideWay t p ways) (s.modTile t fun x => { x with clean := x.clean ++ [{ ways := ways, age := 0 }] })

/-- Ways of a slice are clean: those that a panel's ALLOC was to hold enter it. -/
def State.showWays (s : State) (t ways : Nat) : State :=
  let clean := ways &&& (0xFFFF - (s.tile t).cleaning)
  (s.tile t).wayDue.foldl (fun s e =>
    let r : Reg := { kind := .wrpL3way, i := t, j := e.1 }
    (s.setFld r F.wrpL3way.ALLOC (s.fld r F.wrpL3way.ALLOC ||| (e.2 &&& clean))).modTile t fun x => { x with
      wayDue := SMap.put (fun _ => 0) x.wayDue e.1 (e.2 &&& (0xFFFF - clean)) }) s

/-- A panel's way-mask entry gets a new value: ways that leave its fields are cleaned before another panel may hold them, and ways
still being cleaned enter when they are clean (R137). -/
def State.putWays (s : State) (t p v : Nat) : State :=
  let r : Reg := { kind := .wrpL3way, i := t, j := p }
  let old := s.waysOf t p
  let s := (s.wr r v).modTile t fun x => { x with wayDue := SMap.put (fun _ => 0) x.wayDue p 0 }
  (s.hideWay t p (s.tile t).cleaning).startClean t (old &&& (0xFFFF - s.waysOf t p))

/-! ### L2 and selvedge -/

/-- The L2 line of a tile. -/
def State.l2 (s : State) (t line : Nat) : L2Line := SMap.get (fun _ => L2Line.none) (s.tile t).l2 line

def L2St.stable : L2St → Bool
  | .sh | .e | .m => true
  | _ => false

/-- A raw enable bit of a tile's caches (Table CCH-5). -/
def State.cacheOn (s : State) (t : Nat) (f : Fld) : Bool := s.flag { kind := .wrpCctl, i := t } f

/-- Set an L2 line. When the L2 drops a line, the L1s drop it in the same cycle (R130), unless they are disabled (R147). -/
def State.setL2 (s : State) (t line : Nat) (x : L2Line) : State :=
  let keep := fun (f : Fld) (l : List Nat) => if x.st.stable || x.st = .smA || !s.cacheOn t f then l else l.filter (· ≠ line)
  s.modTile t fun y => { y with
    l2 := SMap.put (fun _ => L2Line.none) y.l2 line x
    l1i := keep F.wrpCctl.L1I_EN y.l1i
    l1d := keep F.wrpCctl.L1D_EN y.l1d }

/-- Writebacks under way from an L2 to a home on its standing credit (R142, R159). -/
def State.sentTo (s : State) (t h : Nat) : Bool :=
  (s.tile t).selv.any fun e => e.left && !e.pooled && s.homeOf e.line == some h

/-- A selvedge entry's writeback leaves on a credit: the entry is SENT (R142). -/
def State.leaves (s : State) (t h : Nat) (e : Selv) (pooled : Bool) : State :=
  (s.modTile t fun x => { x with selv := x.selv.map fun y =>
      if y.line = e.line then { y with sent := true, left := true, pooled := pooled } else y }).emit
    (.warp .wba t (homeEnd h) 0xFF e.line e.poison [e.tag])

/-- Send a selvedge entry's writeback on the standing credit, or ask for a pooled one (R159). -/
def State.sendSelv (s : State) (t line : Nat) : State :=
  match s.homeOf line, (s.tile t).selv.find? fun e => e.line == line && !e.left with
  | some h, some e =>
    if s.sentTo t h then s.emit (.warp .crdreq t (homeEnd h) 0 line false []) else s.leaves t h e false
  | _, _ => s

/-- Force a QUEUED entry to SENT (R143, R168); its writeback leaves when the credit it has asked for comes. -/
def State.forceSelv (s : State) (t line : Nat) : State :=
  s.modTile t fun x => { x with selv := x.selv.map fun y => if y.line = line then { y with sent := true } else y }

/-- The panel whose accesses a core makes. -/
def State.corePanel (s : State) (t : Nat) : Nat := (s.core t).panel

/-- The victim an L2 fill takes (R47, R144): none needed, a line, or no way free. -/
inductive Victim where
  | free
  | line (l : Nat)
  | full
  deriving DecidableEq, Repr

def State.l2Victim (s : State) (t line tag : Nat) : Victim :=
  let x := s.tile t
  let set := x.l2.filter fun e => e.1 % 1024 == line % 1024 && e.1 ≠ line
  if set.length < 16 then .free else
  let ok := set.filter fun e => e.2.st == .sh || e.2.st == .e || (e.2.st == .m && decide (x.selv.length < 16))
  let order := fun (a b : Nat × L2Line) =>
    let fa := a.2.tag == tag
    let fb := b.2.tag == tag
    (!fa && fb) || (fa == fb && decide (a.2.used < b.2.used))
  match (sortBy order ok).head? with
  | some e => .line e.1
  | none => .full

/-- Evict a line: S and E silently, M into the selvedge buffer (R142). -/
def State.evict (s : State) (t line : Nat) : State :=
  let e := s.l2 t line
  let s := s.setL2 t line L2Line.none
  if e.st = .m then
    let s := s.modTile t fun x => { x with selv := x.selv ++ [{ line := line, tag := e.tag, sent := false, poison := e.poison }] }
    s.sendSelv t line
  else s

/-- Fill a line in a state for a panel, evicting as needed; false when the fill must wait for a WBACK (R144). -/
def State.fillL2 (s : State) (t line : Nat) (st : L2St) (tag : Nat) (poison : Bool) : State × Bool :=
  match s.l2Victim t line tag with
  | .full => (s, false)
  | v =>
    let s := match v with
      | .line l => s.evict t l
      | _ => s
    let s := s.modTile t fun x => { x with tick := x.tick + 1 }
    (s.setL2 t line { st := st, tag := tag, poison := poison, used := (s.tile t).tick }, true)

/-! ### Requesters -/

def isTile (a : Nat) : Bool := decide (a < 192)

/-- A requester's entry. -/
def State.req (s : State) (a rtid : Nat) : Option MissEnt :=
  if isTile a then SMap.get (fun _ => none) (s.tile a).miss rtid
  else SMap.get (fun _ => none) s.ioReqs (a * 256 + rtid)
def State.setReq (s : State) (a rtid : Nat) (m : Option MissEnt) : State :=
  if isTile a then s.modTile a fun x => { x with miss := SMap.put (fun _ => none) x.miss rtid m }
  else { s with ioReqs := SMap.put (fun _ => none) s.ioReqs (a * 256 + rtid) m }

/-- Entries an agent has (Table COH-4). -/
def reqSlots (a : Nat) : Nat :=
  if a < 192 then 48 else if a = 192 then 16 else if a = 193 then 256 else if a < 199 then 128 else 8

/-- The lowest free entry of a requester (R159). -/
def State.freeReq (s : State) (a : Nat) : Option Nat :=
  (List.range (reqSlots a)).find? fun k => (s.req a k).isNone

/-! ### The directory -/

def State.dirEnt (s : State) (h line : Nat) : DirEnt := SMap.get (fun _ => DirEnt.free) (s.tile h).dir line
def State.setDir (s : State) (h line : Nat) (e : DirEnt) : State :=
  s.modTile h fun x => { x with dir := SMap.put (fun _ => DirEnt.free) x.dir line e }

/-- The sharer bit of a tile (Table COH-6). -/
def State.sharerBit (s : State) (t : Nat) : Nat :=
  let r := t % s.boltTiles
  if s.boltTiles = 48 then r else r / 3

/-- The tiles a sharer vector names: those of each group whose core is in service (R161). -/
def State.sharerTiles (s : State) (h v : Nat) : List Nat :=
  (s.boltCores (s.boltOf h)).filter fun t => bit v (s.sharerBit t) && s.coreIn t

/-- The recorded holders of an entry. -/
def State.holders (s : State) (h : Nat) (e : DirEnt) : List Nat :=
  match e.st with
  | .i => []
  | .em => [e.owner]
  | .sh => s.sharerTiles h e.sharers

def State.tx (s : State) (h id : Nat) : Option HomeTx := SMap.get (fun _ => none) (s.tile h).home id
def State.setTx (s : State) (h id : Nat) (x : Option HomeTx) : State :=
  s.modTile h fun t => { t with home := SMap.put (fun _ => none) t.home id x }

/-- The lowest free transaction entry that no reservation keeps (R174). -/
def State.freeTx (s : State) (h : Nat) : Option Nat :=
  (List.range 64).find? fun k => (s.tx h k).isNone && !(s.tile h).starve.any fun e => e.tx == some k

/-- Ways of a directory set in use: entries, and ways kept for reservations. -/
def State.dirUsed (s : State) (h set : Nat) : Nat :=
  ((s.tile h).dir.filter fun e => dirSet e.1 == set).length + ((s.tile h).starve.filter fun e => e.set == set && e.way).length

/-- Whether a set's directory has a free way, and its victim else: the least recently used entry not BUSY (R172). -/
def State.dirVictim (s : State) (h set : Nat) : Option (Option Nat) :=
  if s.dirUsed h set < 16 then some none else
  let inSet := (s.tile h).dir.filter fun e => dirSet e.1 == set && e.2.busy.isNone
  match (sortBy (fun (a b : Nat × DirEnt) => decide (a.2.used < b.2.used)) inSet).head? with
  | some e => some (some e.1)
  | none => none

/-! ### A home's transactions -/

def HomeTx.init (op : HomeOp) (line agent rtid ktag : Nat) : HomeTx :=
  { op := op, line := line, agent := agent, rtid := rtid, ktag := ktag, snoops := 0, snpData := false, dirty := false,
    wbpend := false, wbHere := false, memSent := false, memDone := false, wrd := false, wrdHere := false, mwack := 0,
    written := false, granted := false, gack := false, exact := false, wasEM := false, prevOwner := 0,
    inSlice := false, poison := false, age := 0, next := none }

/-- The agent number of a home's own recalls. -/
def homeSelf : Nat := 255

/-- Put dirty data of a transaction into the slice, or into memory where the slice does not allocate. -/
def State.keepDirty (s : State) (h id : Nat) (x : HomeTx) : State × HomeTx :=
  match s.sliceFill h x.ktag x.line { valid := true, dirty := true, poison := x.poison } with
  | some (s, out) => (s.castFor h id out, { x with mwack := x.mwack + out.length })
  | none => ((s.dropSector h x.line).sendMwa h id x.line x.ktag x.poison, { x with mwack := x.mwack + 1 })

/-- The directory entry a closing transaction leaves (Table COH-10); none for a panel whose purge has run (R178). -/
def State.newEntry (s : State) (h : Nat) (x : HomeTx) : DirEnt :=
  let e := s.dirEnt h x.line
  let em : DirEnt := { st := .em, owner := x.agent, sharers := 0, ktag := x.ktag, busy := none, used := e.used }
  if s.pstate x.ktag = psTearing then DirEnt.free else
  match x.op with
  | .rds =>
    if x.wasEM && x.snpData then
      { em with st := .sh, owner := 0, sharers := 2 ^ s.sharerBit x.agent ||| 2 ^ s.sharerBit x.prevOwner }
    else if e.st = .sh then { e with sharers := e.sharers ||| 2 ^ s.sharerBit x.agent, busy := none }
    else em
  | .rdx | .upg => em
  | .rdio => if x.wbHere || e.st = .i then DirEnt.free else { e with busy := none }
  | _ => DirEnt.free

/-- The reservation at the head of a set's queue keeps the first transaction entry and directory way that are free, and is sent GO
when its line is not BUSY (R174). -/
def State.starveGo (s : State) (h set : Nat) : State :=
  match (s.tile h).starve.find? fun e => e.set == set with
  | none => s
  | some e =>
    let tracked := (s.dirEnt h e.line).st ≠ .i
    let tx := match e.tx with
      | some k => some k
      | none => s.freeTx h
    let way := e.way || (!tracked && decide (s.dirUsed h set < 16))
    let go := !e.gone && tx.isSome && (s.dirEnt h e.line).busy.isNone && (tracked || way || (s.dirVictim h set).isSome)
    let s := s.modTile h fun x => { x with starve := x.starve.map fun y =>
      if y.agent = e.agent then { y with tx := tx, way := way, gone := y.gone || go } else y }
    if go then s.emit (.warp .go (homeEnd h) e.agent e.rtid e.line false []) else s

/-- Every set's head after something fell free. -/
def State.starveAll (s : State) (h : Nat) : State :=
  (dedupNat ((s.tile h).starve.map (·.set))).foldl (fun s set => s.starveGo h set) s

/-- Close a transaction. -/
def State.closeTx (s : State) (h id : Nat) (x : HomeTx) : State :=
  ((s.setDir h x.line (s.newEntry h x)).setTx h id none).starveAll h

/-- A pooled writeback credit goes back to its pool, and on to the next L2 that waits for one (R158). -/
def State.poolBack (s : State) (h : Nat) : State :=
  match (s.tile h).poolQ with
  | [] => s.modTile h fun x => { x with pool := x.pool - 1 }
  | t :: rest => (s.modTile h fun x => { x with poolQ := rest }).emit (.warp .crdgnt (homeEnd h) t 0 0 false [])

/-- WBACK to the L2 whose writeback is complete (R142); the credit that carried it returns (R163). -/
def State.wback (s : State) (h l2 line : Nat) : State :=
  let s := s.emit (.warp .wback (homeEnd h) l2 0xFF line false [])
  if (s.tile l2).selv.any fun e => e.line == line && e.pooled then s.poolBack h else s

/-- The bytes of a write that has all it waits for go to the line (R175, R176); none for a panel in TEARING (R162). -/
def State.merge (s : State) (x : HomeTx) : State :=
  if s.pstate x.ktag = psTearing then s else
  { (x.data.foldl (fun s e => s.setByte e.1 e.2) s).setMeta x.line { ktag := x.ktag, poison := x.poison } with
    dirty := SMap.put (fun _ => false) s.dirty x.line (x.data ≠ []) }

/-- Advance a transaction as far as what has arrived allows (R165, R169, R175–R177). -/
def State.stepTx (s : State) (h id : Nat) (x : HomeTx) : State :=
  let waiting := decide (0 < x.snoops) || (x.wbpend && !x.wbHere)
  let haveData := x.snpData || x.wbHere || x.inSlice || x.memDone
  if waiting then s.setTx h id (some x) else
  let s := match x.wbFrom with
    | some l2 => s.wback h l2 x.line
    | none => s
  let x := { x with wbFrom := none }
  let ask := fun (s : State) =>
    if x.memSent then s.setTx h id (some x)
    else (s.sendMrd h id x).setTx h id (some { x with memSent := true })
  match x.op with
  | .rds | .rdx | .upg =>
    if x.granted then
      if x.gack || 0 < x.mwack then s.setTx h id (some x) else s.closeTx h id x
    else if x.exact then
      (s.emit (.warp .gntM (homeEnd h) x.agent x.rtid x.line false [])).setTx h id
        (some { x with granted := true, gack := true })
    else if haveData then
      let (s, x) := if x.op = .rds && ((x.snpData && x.dirty) || x.wbHere) then s.keepDirty h id x else (s, x)
      let op : WarpOp := if x.op ≠ .rds then .dataM
        else if (x.wasEM && x.snpData) || (s.dirEnt h x.line).st = .sh then .dataS else .dataE
      (s.emit (.warp op (homeEnd h) x.agent x.rtid x.line x.poison [])).setTx h id
        (some { x with granted := true, gack := true })
    else ask s
  | .rdio =>
    if x.granted then
      if 0 < x.mwack then s.setTx h id (some x) else s.closeTx h id x
    else if haveData then
      let (s, x) := if x.wbHere then s.keepDirty h id x else (s, x)
      let s := s.emit (.warp .dataIo (homeEnd h) x.agent x.rtid x.line x.poison [])
      let x := { x with granted := true }
      if 0 < x.mwack then s.setTx h id (some x) else s.closeTx h id x
    else ask s
  | .wrf | .wrp =>
    if x.written then
      if 0 < x.mwack then s.setTx h id (some x)
      else (s.closeTx h id x).emit (.warp .cmp (homeEnd h) x.agent x.rtid x.line false [])
    else if !x.wrdHere then
      if x.op = .wrp && !haveData then ask s else s.setTx h id (some x)
    else if x.op = .wrp && !haveData then ask s
    else
      let s := ((s.dropSector h x.line).merge x).sendMwa h id x.line x.ktag x.poison
      s.setTx h id (some { x with written := true, mwack := x.mwack + 1 })
  | .victim =>
    if x.written then
      if 0 < x.mwack then s.setTx h id (some x) else s.closeTx h id x
    else
      let (s, x) := if (x.snpData && x.dirty) || x.wbHere then s.keepDirty h id x else (s, x)
      let x := { x with written := true }
      if 0 < x.mwack then s.setTx h id (some x) else s.closeTx h id x

/-- Send a snoop to each of some tiles. -/
def State.snoopAll (s : State) (h id line : Nat) (op : WarpOp) (ts : List Nat) : State :=
  ts.foldl (fun s t => s.emit (.warp op (homeEnd h) t id line false [])) s

/-- Open a transaction for an accepted request (Table COH-10); `next` is the request that waits behind a recall. -/
def State.openTx (s : State) (h id : Nat) (q : HomeReq) (next : Option HomeReq) : State :=
  let op := q.op
  let line := q.line
  let s := s.modTile h fun x => { x with tick := x.tick + 1 }
  let e := s.dirEnt h line
  let s := s.setDir h line { (if e.st = .i then { e with ktag := q.ktag } else e) with busy := some id, used := (s.tile h).tick }
  let sec := (s.tile h).sector line
  let inS := s.inSlice h line && op ≠ .wrf
  let core := op = .rds ∨ op = .rdx ∨ op = .upg
  let s := if core ∧ inS = false then s.count q.ktag (cntMiss h) 1 else s
  let s := if inS then s.touchLine h line else s
  let s := if inS && sec.stale then s.loseLine line else s
  let others := (s.holders h e).filter (· ≠ q.agent)
  let exact := op = .upg ∧ e.st = .sh ∧ s.boltTiles = 48 ∧ bit e.sharers (s.sharerBit q.agent) = true
  let ownerOther := e.st = .em ∧ e.owner ≠ q.agent
  let (snoop, ts) : WarpOp × List Nat := match op with
    | .rds => if ownerOther then (.snpSh, [e.owner]) else (.snpSh, [])
    | .rdx | .upg => if e.st = .sh then (.snpInv, others) else if ownerOther then (.snpInv, [e.owner]) else (.snpInv, [])
    | .rdio => if e.st = .em then (.snpCpy, [e.owner]) else (.snpCpy, [])
    | .wrf => (.snpDrop, s.holders h e)
    | .wrp => if e.st = .em then (.snpInv, [e.owner]) else (.snpDrop, s.holders h e)
    | .victim => (.snpInv, s.holders h e)
  let io := op = .wrf ∨ op = .wrp
  let s := if io then s.emit (.warp .dbgo (homeEnd h) q.agent q.rtid line false []) else s
  let s := if op = .wrf then s.dropSector h line else s
  let x := { HomeTx.init op line q.agent q.rtid q.ktag with
    snoops := ts.length, wrd := decide io, exact := decide exact, wasEM := decide ownerOther, prevOwner := e.owner
    inSlice := inS, poison := inS && sec.poison, next := next }
  (s.snoopAll h id line snoop ts).stepTx h id x

/-- Add to a field of WRP.COHCNT; directory victims count in units of 256. -/
def State.cohCount (s : State) (h : Nat) (f : Fld) : State := s.addFld { kind := .wrpCohcnt, i := h } f 1
def State.countVictim (s : State) (h : Nat) : State :=
  let n := (s.tile h).dvict + 1
  if 256 ≤ n then (s.modTile h fun x => { x with dvict := 0 }).cohCount h F.wrpCohcnt.DVICT
  else s.modTile h fun x => { x with dvict := n }

/-- RETRY to a requester; each one is counted (R173, R185). -/
def State.sendRetry (s : State) (h a rtid line : Nat) (rsv : Bool) : State :=
  (s.cohCount h F.wrpCohcnt.RETRY).emit (.warp .retry (homeEnd h) a rtid line false [b2n rsv])

/-- Refuse a request (R173), entering it in the starvation queue from RCNT 7 on (R174; DEDUCED, log entry 40). A request under a reservation
keeps it and waits for GO again. (DEDUCED, log entry 40.) -/
def State.refuse (s : State) (h : Nat) (q : HomeReq) : State :=
  let x := s.tile h
  if x.starve.any fun e => e.agent == q.agent && e.rtid == q.rtid then
    ((s.modTile h fun x => { x with starve := x.starve.map fun e => if e.agent = q.agent then { e with gone := false } else e }).sendRetry
      h q.agent q.rtid q.line true).starveGo h (dirSet q.line)
  else if 7 ≤ q.rcnt ∧ x.starve.any (fun e => e.agent == q.agent) = false ∧ x.starve.length < 256 then
    let s := s.modTile h fun x => { x with
      starve := x.starve ++ [{ set := dirSet q.line, agent := q.agent, rtid := q.rtid, line := q.line }] }
    (((s.cohCount h F.wrpCohcnt.RSV).sendRetry h q.agent q.rtid q.line true)).starveGo h (dirSet q.line)
  else s.sendRetry h q.agent q.rtid q.line false

/-- An array of the home is being invalidated (R151). -/
def State.homeHeld (s : State) (h : Nat) : Bool :=
  s.cacheOn h F.wrpCctl.INV_DIR || (s.l3On h && s.cacheOn h F.wrpCctl.INV_L3)

/-- A home takes a request (R165, R172–R174); it holds one that comes while an array is being invalidated (R151). -/
def State.homeTake (s : State) (h : Nat) (q : HomeReq) : State :=
  let s := s.need (192 + h)
  if s.homeHeld h then s.modTile h fun x => { x with homeQ := x.homeQ ++ [q] } else
  let set := dirSet q.line
  let head := (s.tile h).starve.find? fun e => e.set == set
  let blocked := head.any fun e => e.agent ≠ q.agent
  let mine := head.filter fun e => q.rsv && e.agent == q.agent && e.rtid == q.rtid
  let e := s.dirEnt h q.line
  if e.busy.isSome || blocked then s.refuse h q else
  let slot := match mine.bind (·.tx) with
    | some k => some k
    | none => s.freeTx h
  let way := if e.st = .i && !mine.any (·.way) then s.dirVictim h set else some none
  let free := fun (s : State) => if mine.isSome then
      s.modTile h fun x => { x with starve := x.starve.filter fun e => !(e.agent == q.agent && e.rtid == q.rtid) } else s
  match slot, way with
  | some id, some none => (free s).openTx h id q none
  | some id, some (some v) =>
    let r : HomeReq := { op := .victim, agent := homeSelf, rtid := 0, line := v, ktag := (s.dirEnt h v).ktag, rcnt := 0, rsv := false }
    let s := (s.countVictim h).openTx h id r (some q)
    if (s.tx h id).isSome then s else (free s).openTx h id q none
  | _, _ => s.refuse h q

/-- After a transaction moved on: the request behind a closed recall continues (R172). -/
def State.resume (s : State) (h : Nat) (before : HomeTx) (id : Nat) : State :=
  match s.tx h id, before.next with
  | none, some q => s.homeTake h q
  | _, _ => s

/-- Apply a change to an open transaction and advance it. -/
def State.onTx (s : State) (h id : Nat) (x : HomeTx) : State := (s.stepTx h id x).resume h x id

/-- Issue or reissue a requester's entry to its home (R155, R159, R173), under the key tag of the granule's owner (R160). -/
def State.issue (s : State) (a rtid : Nat) (m : MissEnt) : State :=
  match s.homeIn m.bolt m.line with
  | none => s
  | some h =>
    let s := s.setReq a rtid (some { m with retry := false, age := 0 })
    if s.boltUp (s.boltOf h) then
      s.homeTake h { op := m.op, agent := a, rtid := rtid, line := m.line, ktag := s.lineOwner m.line, rcnt := m.rcnt, rsv := m.rsv }
    else s.emit (.warp .errcmp (homeEnd h) a rtid m.line false [])

/-- A new request: an entry is reserved and the request issued; none while the requester has no entry free. -/
def State.newReq (s : State) (a : Nat) (m : MissEnt) : State :=
  match s.freeReq a with
  | none => s
  | some k => s.issue a k m

/-- The bytes of a line that a mask selects, by address. -/
def maskedBytes (line mask : Nat) (bs : List Byte) : SMap Byte :=
  ((List.range 64).filter (bit mask ·)).map fun i => (line * 64 + i, bs.getD i 0)

/-- WRD leaves a requester for the transaction its home has open for it (R175). -/
def State.sendWrd (s : State) (a : Nat) (m : MissEnt) : State :=
  match s.homeIn m.bolt m.line with
  | some h => s.emit (.warp .wrd a (homeEnd h) ((s.dirEnt h m.line).busy.getD 0xFF) m.line m.bad (m.data.map (·.2.toNat)))
  | none => s

/-- The entry of a request of an I/O agent, which learns the home bolt from its own check (R155). -/
def State.ioReq (s : State) (a : Nat) (op : HomeOp) (line ctx : Nat) (data : SMap Byte) (bad : Bool := false) : MissEnt :=
  { op := op, line := line, rcnt := 0, rsv := false, retry := false, ctx := ctx, age := 0, data := data, bad := bad
    bolt := s.panelBolt (potPanel (s.potFor a (line / 1024))) }

/-! ### Writes performed at a home in one step -/

/-- A copy in an L2 is dropped: a stable line goes, SM_A falls to IM_D, a QUEUED writeback is discarded. -/
def State.dropCopy (s : State) (t line : Nat) : State :=
  let e := s.l2 t line
  let s := if e.st.stable then s.setL2 t line L2Line.none else if e.st = .smA then s.setL2 t line { e with st := .imD } else s
  s.modTile t fun x => { x with selv := x.selv.filter fun y => y.line ≠ line || y.sent }

/-- A writeback of the line is under way from an L2: its WBACK has not come. -/
def State.wbUnderWay (s : State) (t line : Nat) : Bool := (s.tile t).selv.any fun e => e.line == line && e.left

/-- A home drops every copy that L2s hold of a line by a snoop; the entry goes free, unless a transaction is open on it or a
writeback is under way. -/
def State.dropCopies (s : State) (h line : Nat) (op : WarpOp) : State :=
  let e := s.dirEnt h line
  let hs := s.holders h e
  let s := hs.foldl (fun s t => s.dropCopy t line) (s.snoopAll h 0xFF line op hs)
  if e.busy.isSome || hs.any (s.wbUnderWay · line) then s else s.setDir h line DirEnt.free

/-- Every cached copy of a line in its home bolt is dropped (R175, R176); a line with an open transaction is left to it.
(DESIGN CHOICE, log entry 19.) -/
def State.recall (s : State) (line : Nat) : State :=
  match s.homeOf line with
  | none => s
  | some h => if (s.dirEnt h line).busy.isSome then s else (s.dropCopies h line .snpDrop).dropSector h line

/-- Bytes written to memory at their lines' homes, by an I/O agent or by a core past its caches (WRF or WRP, R118, R147, R175, R176):
every cached copy is dropped. -/
def State.homeStore (s : State) (p pa : Nat) (data : List Byte) : State :=
  ((linesOf pa data.length).foldl State.recall s).ioVisible p pa data

end Sys2Proof.Machine
end

