-- ==== Sys2Proof/Machine/WeftBase.lean ====
section
/-! DEFINITION. The Weft's shared operations (R235–R249, R252, R260, R261, R264): frames, route words, the forwarding
rule, injection and flooding of cells, and stitch barriers. -/

namespace Sys2Proof.Machine

/-! ### Cells (Table WFT-5) -/

def cROUTE : Fld := ⟨31, 0⟩
def cDST : Fld := ⟨43, 32⟩
def cCLASS : Fld := ⟨46, 44⟩
def cDL : Fld := ⟨47, 47⟩
def cSRCH : Fld := ⟨68, 48⟩
def cPOISON : Fld := ⟨69, 69⟩
def cLOCAL : Fld := ⟨70, 70⟩
def cLAST : Fld := ⟨71, 71⟩
def cTYPE : Fld := ⟨79, 72⟩
def cTAG : Fld := ⟨95, 80⟩
def cARG : Fld := ⟨127, 96⟩

/-- A field of a cell's header. -/
def cf (c : Cell) (f : Fld) : Nat := f.get c.head.toNat
def setCf (c : Cell) (f : Fld) (v : Nat) : Cell := { c with head := BitVec.ofNat 128 (f.set c.head.toNat v) }
/-- Payload bytes. -/
def cellBytes (c : Cell) : List Byte := leBytes 128 c.data.toNat
/-- A field of the payload. -/
def cd (c : Cell) (a n : Nat) : Nat := field (cellBytes c) a n
/-- The module a cell comes from. -/
def cellSrc (c : Cell) : Nat := cf c cSRCH / 512

/-- The class of a cell type (Table WFT-6), none where the type is reserved. -/
def cellClass (typ : Nat) : Option Nat :=
  match typ with
  | 0x00 => some 0 | 0x01 => some 0 | 0x02 => some 0 | 0x03 => some 0 | 0x04 => some 0
  | 0x10 => some 4 | 0x11 => some 4 | 0x12 => some 4 | 0x13 => some 4
  | 0x20 => some 2 | 0x21 => some 1 | 0x22 => some 1 | 0x23 => some 1 | 0x24 => some 1
  | 0x30 => some 5 | 0x31 => some 5 | 0x40 => some 6 | 0x41 => some 6
  | _ => none

/-- A cell (Table WFT-5): type, destination, requester, TAG, ARG, LAST, POISON, route word, payload. -/
def mkCell (typ dst srch tag arg : Nat) (last poison : Bool) (route : Nat) (payload : List Byte) : Cell :=
  { head := BitVec.ofNat 128 (route + dst % 4096 * 2 ^ 32 + (cellClass typ).getD 0 * 2 ^ 44 + srch % 2 ^ 21 * 2 ^ 48 +
      b2n poison * 2 ^ 69 + b2n last * 2 ^ 71 + typ * 2 ^ 72 + tag % 65536 * 2 ^ 80 + arg % 2 ^ 32 * 2 ^ 96)
    data := BitVec.ofNat 1024 (ofLeBytes (padTo 128 payload)) }

/-- A LOCAL cell to the module behind a port. -/
def mkLocal (typ me srch tag arg : Nat) (payload : List Byte) : Cell :=
  setCf (mkCell typ me srch tag arg false false 0 payload) cLOCAL 1

def nullCell : Cell := mkCell 0 0 0 0 0 false false 0 []

/-! ### Links and frames (R239–R241) -/

def State.link (s : State) (p : Nat) : LinkSt := SMap.get (fun _ => LinkSt.init) s.weft.links p
def State.setLink (s : State) (p : Nat) (x : LinkSt) : State :=
  { s with weft := { s.weft with links := SMap.put (fun _ => LinkSt.init) s.weft.links p x } }

def pctlR (p : Nat) : Reg := { kind := .wpPctl, i := p }
def pstatR (p : Nat) : Reg := { kind := .wpPstat, i := p }
def lcntR (p : Nat) : Reg := { kind := .wpLcnt, i := p }
def fcfgR : Reg := { kind := .wpFcfg }

def lsDown : Nat := 0
def lsTraining : Nat := 1
def lsPcs : Nat := 2
def lsHello : Nat := 3
def lsUp : Nat := 4
def lsFailed : Nat := 5
def lsMiscabled : Nat := 6
def lsIsolated : Nat := 7

/-- A field of WP.PCTL as the port uses it: what is written while the port is UP takes effect when it is brought up again (R235). -/
def State.pctlFld (s : State) (p : Nat) (f : Fld) : Nat := f.get ((SMap.find s.weft.inUse p).getD (s.rd (pctlR p)))
def State.portRole (s : State) (p : Nat) : Nat := s.pctlFld p F.wpPctl.ROLE
def State.portDim (s : State) (p : Nat) : Nat := s.pctlFld p F.wpPctl.DIM
def State.portDir (s : State) (p : Nat) : Nat := s.pctlFld p F.wpPctl.DIR
def State.isWeft (s : State) (p : Nat) : Bool := s.portRole p == 1
def State.linkState (s : State) (p : Nat) : Nat := s.fld (pstatR p) F.wpPstat.STATE
/-- An UP Weft port. -/
def State.portUp (s : State) (p : Nat) : Bool := s.isWeft p && s.linkState p == lsUp
def State.upPorts (s : State) : List Nat := (List.range 8).filter s.portUp

/-- WP.PCTL changes: a port that is UP goes on with what it was brought up with (R235). -/
def State.keepInUse (s : State) (p : Nat) : State :=
  if s.portUp p && (SMap.find s.weft.inUse p).isNone then
    { s with weft := { s.weft with inUse := SMap.insert s.weft.inUse p (s.rd (pctlR p)) } }
  else s
/-- A port starts anew with WP.PCTL as it stands. -/
def State.takePctl (s : State) (p : Nat) : State := { s with weft := { s.weft with inUse := SMap.remove s.weft.inUse p } }

/-- Hops of a ring (R236). -/
def State.ring_ (s : State) (dim : Nat) : Nat :=
  (match dim with
   | 0 => s.fld fcfgR F.wpFcfg.KX
   | 1 => s.fld fcfgR F.wpFcfg.KY
   | _ => s.fld fcfgR F.wpFcfg.KZ) + 1

def cellVc (c : Cell) : Nat := 2 * cf c cCLASS + cf c cDL

/-- The link header (Table WFT-3). -/
def linkHdr (nak : Bool) (ccnt cvc ack seq : Nat) : BitVec 56 :=
  BitVec.ofNat 56 (b2n nak * 2 ^ 35 + ccnt * 2 ^ 32 + cvc * 2 ^ 28 + ack * 2 ^ 12 + seq)

/-- The CRC of a frame (Table WFT-2). -/
def frameCrc (hdr : BitVec 56) (c : Cell) : BitVec 32 :=
  crc32c (leBytes 7 hdr.toNat ++ leBytes 16 c.head.toNat ++ cellBytes c)

/-- Credits returned in the next frame: channel and count, at most 7. -/
def LinkSt.giveBack (x : LinkSt) : Nat × Nat × LinkSt :=
  match x.owed with
  | [] => (0, 0, x)
  | (vc, n) :: _ =>
    let k := min 7 n
    (vc, k, { x with owed := SMap.put (fun _ => 0) x.owed vc (n - k) })

/-- A frame leaves a port with the SEQ given. -/
def State.frameOut (s : State) (p seq : Nat) (c : Cell) : State :=
  let x := s.link p
  let (vc, k, y) := x.giveBack
  let hdr := linkHdr x.nak k vc x.rcvSeq seq
  (s.setLink p { y with nak := false }).emit (.frame p { hdr := hdr, cell := c, crc := frameCrc hdr c, fecOk := true })

/-- A cell leaves a port: next SEQ, one credit of its channel, kept until acknowledged. -/
def State.sendFrame (s : State) (p : Nat) (c : Cell) : State :=
  let x := s.link p
  let seq := (x.sndSeq + 1) % 4096
  let vc := cellVc c
  let s := s.setLink p { x with
    sndSeq := seq
    replay := x.replay ++ [(seq, c, 0)]
    credits := SMap.put (fun _ => 0) x.credits vc (SMap.get (fun _ => 0) x.credits vc - 1) }
  s.frameOut p seq c

/-- A NULL frame, so that acknowledgements and credits flow. -/
def State.sendNull (s : State) (p : Nat) : State := s.frameOut p (s.link p).sndSeq nullCell

/-- A cell may leave: the port carries it, a credit is held, and fewer than 128 frames are unacknowledged. -/
def State.canLeave (s : State) (p : Nat) (c : Cell) : Bool :=
  let x := s.link p
  let st := s.linkState p
  let typ := cf c cTYPE
  s.isWeft p && (st == lsUp || (typ == 0x02 && (st == lsPcs || st == lsHello || st == lsMiscabled || st == lsIsolated)) ||
    (typ == 0x01 && st == lsHello)) &&
  decide (0 < SMap.get (fun _ => 0) x.credits (cellVc c)) && decide (x.replay.length < 128)

/-- A cell that the module itself sends joins its queue. -/
def State.sendCell (s : State) (c : Cell) : State := { s with weft := { s.weft with own := s.weft.own ++ [(none, c)] } }
/-- A LOCAL cell to the neighbour behind a port. -/
def State.sendLocal (s : State) (p : Nat) (c : Cell) : State :=
  { s with weft := { s.weft with own := s.weft.own ++ [(some p, c)] } }
/-- Flood a LOCAL cell out of every UP Weft port but one. -/
def State.flood (s : State) (c : Cell) (except : Option Nat) : State :=
  (s.upPorts.filter fun p => some p ≠ except).foldl (fun s p => s.sendLocal p c) s

/-! ### Routes (R244–R247) -/

def legCnt (r k : Nat) : Nat := bits r (8 * k + 4) (8 * k)
def legPort (r k : Nat) : Nat := bits r (8 * k + 7) (8 * k + 5)
def rLEG : Fld := ⟨28, 27⟩

/-- What a module does with a routed cell. -/
inductive CellHop where
  | deliver
  | bad
  /-- Out of a port, with the header rewritten. -/
  | out (port : Nat) (c : Cell)
  deriving DecidableEq, Repr

/-- The forwarding rule (R247), with the discards of R243 that concern the route. (DEDUCED, log entry 55.) -/
def State.cellHop (s : State) (injected : Bool) (c : Cell) : CellHop :=
  let r := cf c cROUTE
  let legs := (List.range 3).filter fun k => decide (0 < legCnt r k)
  match legs with
  | [] => if cf c cDST = s.myId then .deliver else .bad
  | k :: _ =>
    let p := legPort r k
    let dimOf := fun j => s.portDim (legPort r j)
    let ascending := (legs.zip (legs.drop 1)).all fun e => decide (dimOf e.1 < dimOf e.2)
    let dlf := bit r (24 + k)
    let date := s.flag (pctlR p) F.wpPctl.DATELINE
    if !s.portUp p || decide (s.ring_ (dimOf k) - 1 < legCnt r k) || !ascending || (date && !dlf) then .bad
    else
      let fresh := injected || rLEG.get r ≠ k
      let dl := if fresh then (if dlf then 0 else 1) else cf c cDL
      let dl := if date then 1 else dl
      let r := setBits (rLEG.set r k) (8 * k + 4) (8 * k) (legCnt r k - 1)
      .out p (setCf (setCf c cROUTE r) cDL dl)

def pselR (d : Nat) : Reg := { kind := .wpPsel, i := d }
def routeR (d w : Nat) : Reg := { kind := .wpRoute, i := d, j := w }

/-- The route word toward a destination, the same for every class: the old one while PEND is set (R246, R197); none where it cannot
be reached. The own module needs none. -/
def State.wordTo (s : State) (d : Nat) : Option Nat :=
  if d = s.myId then some 0
  else if s.flag (pselR d) F.wpPsel.UNREACH then none
  else
    let w := if s.flag (pselR d) F.wpPsel.PEND then (SMap.find s.weft.oldSel d).getD 0
      else s.rd (routeR d (s.fld (pselR d) F.wpPsel.SEL))
    if bit w 31 then some w else none

/-- The next SEQ toward a destination in a class (R252). -/
def State.takeSeq (s : State) (d cls : Nat) : Nat × State :=
  let k := d * 8 + cls
  let n := SMap.get (fun _ => 0) s.weft.seqs k
  (n, { s with weft := { s.weft with seqs := SMap.put (fun _ => 0) s.weft.seqs k ((n + 1) % 65536) } })

/-- The coordinates of a module (R236). -/
def coord (m dim : Nat) : Nat := match dim with
  | 0 => bits m 11 8
  | 1 => bits m 7 4
  | _ => bits m 3 0

/-- Hops in a direction (0 +, 1 −) of a ring, and whether they cross its dateline (R238). -/
def hops (k a b dir : Nat) : Nat × Bool :=
  if dir = 0 then ((b + k - a) % k, decide (b < a)) else ((a + k - b) % k, decide (a < b))

/-- The direction a word takes in a dimension: the shorter, on a tie the one that does not cross; `long`: the other. -/
def pickDir (k a b : Nat) (long : Bool) : Nat :=
  let p := hops k a b 0
  let m := hops k a b 1
  let short := if p.1 < m.1 then 0 else if m.1 < p.1 then 1 else if p.2 then 1 else 0
  if long then 1 - short else short

/-- The Weft port of a dimension and direction. -/
def State.portFor (s : State) (dim dir : Nat) : Option Nat :=
  (List.range 8).find? fun p =>
    s.isWeft p && s.portDim p == dim && s.portDir p == dir

/-- Route word `w` of a destination (R245). -/
def State.buildWord (s : State) (d w : Nat) : Nat :=
  let me := s.myId
  let legs := (List.range 3).filterMap fun dim =>
    let a := coord me dim
    let b := coord d dim
    if a = b then none
    else
      let dir := pickDir (s.ring_ dim) a b (w == dim + 1)
      some (dim, dir, hops (s.ring_ dim) a b dir)
  let present := decide (coord d 0 < s.ring_ 0) && decide (coord d 1 < s.ring_ 1) && decide (coord d 2 < s.ring_ 2)
  let distinct := w = 0 || legs.any fun l => l.1 + 1 == w
  let ports := legs.map fun l => s.portFor l.1 l.2.1
  if d = me ∨ !present ∨ !distinct ∨ ports.any (·.isNone) then 0
  else
    (legs.zip ports).zipIdx.foldl (fun (r : Nat) e =>
      let l := e.1.1
      r + (l.2.2.1 + e.1.2.getD 0 * 32) * 2 ^ (8 * e.2) + b2n l.2.2.2 * 2 ^ (24 + e.2)) (2 ^ 31)

/-- Thimble builds the pattern table and sets the datelines (R238, R245). -/
def State.buildRoutes (s : State) : State :=
  let s := (List.range 8).foldl (fun s p =>
    if s.isWeft p then
      let dim := s.portDim p
      let c := coord s.myId dim
      let date := if s.portDir p = 0 then c + 1 = s.ring_ dim else c = 0
      s.setFld (pctlR p) F.wpPctl.DATELINE (b2n (decide date))
    else s) s
  (List.range 4096).foldl (fun s d =>
    (List.range 4).foldl (fun s w => s.wr (routeR d w) (s.buildWord d w)) s) s

/-! ### Link state (R264) -/

/-- Originate LINKST: flooded out of every UP Weft port. -/
def State.originate (s : State) : State :=
  let mask := ((s.upPorts).map fun p => 2 ^ p).sum
  let peers := (List.range 8).map fun p => if s.portUp p then s.fld (pstatR p) F.wpPstat.PEER else 0
  let payload := leBytes 2 s.myId ++ leBytes 2 0 ++ leBytes 4 (s.stitch % 2 ^ 32) ++ leBytes 1 mask ++ leBytes 1 0
    ++ peers.flatMap (leBytes 2)
  let s := { s with weft := { s.weft with sinceOrig := 0 } }
  s.flood (mkLocal 0x41 s.myId (s.handle 0) 0 0 payload) none

/-! ### Barriers (R260, R261) -/

def barR (n : Nat) : Reg := { kind := .wpBar, i := n }
def barcntR (n : Nat) : Reg := { kind := .wpBarcnt, i := n }

/-- A context counts no arrival yet. -/
def State.forgetArrivals (s : State) (n : Nat) : State := { s with weft := { s.weft with counted := SMap.remove s.weft.counted n } }

/-- Release the contexts that match root, root context and GEN. -/
def State.barRelease (s : State) (root rctx gen : Nat) (late : Bool) : State :=
  (List.range 256).foldl (fun s n =>
    let r := barR n
    if s.fld r F.wpBar.COUNT ≠ 0 ∧ s.fld r F.wpBar.ROOT = root ∧ s.fld r F.wpBar.RCTX = rctx ∧ s.fld r F.wpBar.GEN = gen then
      let s := (s.setFld r F.wpBar.ARRIVE 0).setFld r F.wpBar.DONE 1
      let s := if late then s.setFld r F.wpBar.LATE 1 else s
      let s := s.setFld r F.wpBar.GEN ((gen + 1) % 256)
      let s := s.setFld (barcntR n) F.wpBarcnt.ARRIVED 0
      let s := s.forgetArrivals n
      s.raise (s.fld r F.wpBar.PANEL) (s.fld r F.wpBar.VECTOR)
    else s) s

/-- A release becomes known: due at RSTITCH, or late and done at once. -/
def State.barLearn (s : State) (root rctx gen rstitch : Nat) : State :=
  let s := { s with weft := { s.weft with relSeen := (root, rctx, gen) :: s.weft.relSeen.filter fun e => e.1 ≠ root || e.2.1 ≠ rctx } }
  if rstitch ≤ s.stitch then s.barRelease root rctx gen true
  else { s with weft := { s.weft with relDue := s.weft.relDue ++ [(root, rctx, gen, rstitch)] } }

/-- The root's own contexts of a root context. -/
def State.rootCtx (s : State) (rctx : Nat) : Option Nat :=
  (List.range 256).find? fun n =>
    s.fld (barR n) F.wpBar.COUNT ≠ 0 && s.fld (barR n) F.wpBar.ROOT == s.myId && s.fld (barR n) F.wpBar.RCTX == rctx

/-- An arrival at the root, counted when GEN is its own and none of the same module has been counted; the last one floods BARREL with
RSTITCH = s + 2. (DEDUCED, log entry 136.) -/
def State.barCount (s : State) (rctx gen src : Nat) : State :=
  match s.rootCtx rctx with
  | none => s
  | some n =>
    let seen := SMap.get (fun _ => []) s.weft.counted n
    if s.fld (barR n) F.wpBar.GEN ≠ gen ∨ src ∈ seen then s else
    let s := { s with weft := { s.weft with counted := SMap.insert s.weft.counted n (src :: seen) } }
    let k := s.fld (barcntR n) F.wpBarcnt.ARRIVED + 1
    let s := s.setFld (barcntR n) F.wpBarcnt.ARRIVED k
    if k = s.fld (barR n) F.wpBar.COUNT then
      let rs := s.stitch + 2
      let s := s.flood (mkLocal 0x04 s.myId (s.handle 0) gen (s.myId * 64 + rctx) (leBytes 8 rs)) none
      s.barLearn s.myId rctx gen rs
    else s

/-- Panel software writes ARRIVE of a context (R260). -/
def State.barArrive (s : State) (n : Nat) : State :=
  let r := barR n
  if s.flag r F.wpBar.ARRIVE || s.fld r F.wpBar.COUNT == 0 then s else
  let s := s.setFld r F.wpBar.ARRIVE 1
  let root := s.fld r F.wpBar.ROOT
  let gen := s.fld r F.wpBar.GEN
  let rctx := s.fld r F.wpBar.RCTX
  if root = s.myId then s.barCount rctx gen root
  else
    match s.wordTo root with
    | some w => s.sendCell (mkCell 0x03 root (s.handle (s.fld r F.wpBar.PANEL)) gen rctx false false w [])
    | none => s

end Sys2Proof.Machine
end

