-- ==== Sys2Proof/Machine/WeftOut.lean ====
section
/-! DEFINITION. Outbound entries of the Weft engine (R251, R252, R258): what the module itself asks of others; selections (R246), and
the refusals of what others ask (R252). -/

namespace Sys2Proof.Machine

def State.outEnt (s : State) (k : Nat) : Option OutEnt := SMap.get (fun _ => none) s.weft.out k
def State.setOut (s : State) (k : Nat) (e : Option OutEnt) : State :=
  { s with weft := { s.weft with out := SMap.put (fun _ => none) s.weft.out k e } }

/-- A free outbound entry of the 1,024. -/
def State.freeOut (s : State) : Option Nat := (List.range 1024).find? fun k => (s.outEnt k).isNone

/-- The SEQ from which a class toward a target is stopped (R252). -/
def State.stoppedAt (s : State) (dst cls : Nat) : Option Nat := SMap.find s.weft.stopped (dst * 8 + cls)

/-- Numbers taken for `n` cells. -/
def State.takeSeqs (s : State) (dst cls : Nat) : Nat → List Nat × State
  | 0 => ([], s)
  | n + 1 =>
    let (q, s) := s.takeSeq dst cls
    let (qs, s) := s.takeSeqs dst cls n
    (q :: qs, s)

/-- Reserve entry `k` and queue its cells; while the class is stopped toward the target they wait for GO. -/
def State.openOut (s : State) (k : Nat) (use : OutUse) (dst cls n : Nat) (mk : Nat → Nat → Cell) : State :=
  let (qs, s) := s.takeSeqs dst cls n
  let cells := qs.zipIdx.map fun e => mk e.2 e.1
  let s := s.setOut k (some { use := use, dst := dst, cls := cls, cells := cells, age := none })
  if (s.stoppedAt dst cls).isSome then s else cells.foldl (fun s c => s.sendCell c) s

/-- The entry a response names: target, class and SEQ of one of its cells. -/
def State.outBySeq (s : State) (dst cls seq : Nat) : Option (Nat × OutEnt) :=
  s.weft.out.findSome? fun e => match e.2 with
    | some x => if x.dst = dst ∧ x.cls = cls ∧ x.cells.any (fun c => cf c cTAG == seq) then some (e.1, x) else none
    | none => none

/-- The first cell of an entry leaves: its timeout is armed (R258). -/
def State.armOut (s : State) (c : Cell) : State :=
  match s.outBySeq (cf c cDST) (cf c cCLASS) (cf c cTAG) with
  | some (k, x) => if x.age.isNone then s.setOut k (some { x with age := some 0 }) else s
  | none => s

/-- An Ockar packet goes to a module in up to 32 cells (R262): a request with its tag, a reply or a notice. It waits
where no entry is free; nothing is sent where the module cannot be reached. -/
def State.ockarCells (s : State) (tag : Option Nat) (dst srch : Nat) (bytes : List Byte) : State :=
  match s.wordTo dst with
  | none => s
  | some w =>
    match s.freeOut with
    | none => { s with weft := { s.weft with ockq := s.weft.ockq ++ [(tag, dst, srch, bytes)] } }
    | some k =>
      let n := (bytes.length + 127) / 128
      s.openOut k (.ockar tag) dst 6 n fun i seq =>
        mkCell 0x40 dst srch seq i (decide (i + 1 = n)) false w ((bytes.drop (128 * i)).take 128)

/-- An entry is over: its cells that still wait are taken out, the entry is free, and a waiting Ockar packet takes
it. -/
def State.closeOut (s : State) (k : Nat) : State :=
  match s.outEnt k with
  | none => s
  | some x =>
    let s := s.setOut k none
    let s := { s with weft := { s.weft with own := s.weft.own.filter fun e => e.1.isSome || e.2 ∉ x.cells } }
    match s.weft.ockq with
    | [] => s
    | (t, d, h, b) :: q => { s with weft := { s.weft with ockq := q } }.ockarCells t d h b

/-! ### Selections (R246) -/

def State.setWeft (s : State) (f : WeftSt → WeftSt) : State := { s with weft := f s.weft }

/-- No change of a selection waits any longer. -/
def State.endPend (s : State) (d : Nat) : State :=
  (s.setFld (pselR d) F.wpPsel.PEND 0).setWeft fun x => { x with oldSel := SMap.remove x.oldSel d }

/-- A change of a destination's SEL (R246): PEND while requests on the old word are open; back to the word in use, nothing waits. -/
def State.setSel (s : State) (d w : Nat) : State :=
  let r := pselR d
  let old := s.fld r F.wpPsel.SEL
  if old = w then s else
  let s := s.setFld r F.wpPsel.SEL w
  if s.flag r F.wpPsel.PEND then
    if SMap.find s.weft.oldSel d = some (s.rd (routeR d w)) then s.endPend d else s
  else
  let busy := s.weft.out.any fun e => match e.2 with
    | some x => x.dst == d
    | none => false
  if busy then
    (s.setFld r F.wpPsel.PEND 1).setWeft fun x => { x with oldSel := SMap.insert x.oldSel d (s.rd (routeR d old)) }
  else s

/-- PEND clears once no request is open on the old word (R246). -/
def State.settleSel (s : State) (d : Nat) : State :=
  let r := pselR d
  if !s.flag r F.wpPsel.PEND then s else
  let old := (SMap.find s.weft.oldSel d).getD 0
  let busy := s.weft.out.any fun e => match e.2 with
    | some x => x.dst == d && x.cells.any fun c => cf c cROUTE == old
    | none => false
  if busy then s else s.endPend d

/-- An outbound entry is over. -/
def State.endOut (s : State) (k : Nat) : State :=
  match s.outEnt k with
  | some x => (s.closeOut k).settleSel x.dst
  | none => s

/-! ### Refusals at the target (R252) -/

/-- Send a response of class 1 or 2 to a module, when it can be reached. -/
def State.respond (s : State) (typ dst srch tag arg : Nat) (poison : Bool) (payload : List Byte) : State :=
  match s.wordTo dst with
  | some w => s.sendCell (mkCell typ dst srch tag arg false poison w payload)
  | none => s

/-- Refuse a request with a WERR code. -/
def State.werr (s : State) (c : Cell) (code : Nat) : State :=
  s.respond 0x24 (cellSrc c) (cf c cSRCH) (cf c cTAG) code false []

/-- Refuse a cell that cannot be sunk: WRETRY once, then silence until it comes again (R252). -/
def State.refuseCell (s : State) (c : Cell) : State :=
  let src := cellSrc c
  let cls := cf c cCLASS
  if s.weft.blocked.any fun b => b.1 == src && b.2.1 == cls then s else
  (s.setWeft fun x => { x with blocked := x.blocked ++ [(src, cls, cf c cTAG)] }).respond 0x22 src (cf c cSRCH) (cf c cTAG)
    cls false []

/-- Whether a cell of a class may be sunk now: its source is not blocked, or it is the resend that an entry is held
for; `room` says whether an entry is free, `more` that the cell goes on with what an entry already holds. -/
def State.mayTake (s : State) (c : Cell) (room more : Bool) : Bool :=
  let src := cellSrc c
  let cls := cf c cCLASS
  match s.weft.blocked.find? fun b => b.1 == src && b.2.1 == cls with
  | some b => SMap.find s.weft.held cls == some (src, b.2.2) && b.2.2 == cf c cTAG
  | none => more || (room && !s.weft.blocked.any (fun b => b.2.1 == cls))

/-- A blocked source's resend has been taken. -/
def State.unblock (s : State) (c : Cell) : State :=
  let src := cellSrc c
  let cls := cf c cCLASS
  s.setWeft fun x => { x with
    blocked := x.blocked.filter fun b => b.1 ≠ src || b.2.1 ≠ cls
    held := if (SMap.find x.held cls).any (fun b => b.1 == src) then SMap.remove x.held cls else x.held }

/-- Inbound entry `k` of the Weft engine (R251). -/
def State.inEnt (s : State) (k : Nat) : Option InEnt := SMap.get (fun _ => none) s.weft.inb k

/-- A class has an entry for one more request (R251): the Weft engine's 128, the network engine's 64 frames, and Thimble's 64
packets. -/
def State.sinkRoom (s : State) (cls : Nat) : Bool :=
  let partials := fun (typ : Nat) => (s.weft.partials.filter fun x => x.typ == typ).length
  if cls = 4 then (List.range 128).any fun k => (s.inEnt k).isNone
  else if cls = 5 then decide (partials 0x31 < 64)
  else decide (partials 0x40 + (s.thm.taken.filter fun q => match q.via with
    | .weft .. => true
    | _ => false).length < 64)

/-- An entry of a class is free: it is held for the source at the head of the queue, which gets GO. -/
def State.freed (s : State) (cls : Nat) : State :=
  if (SMap.find s.weft.held cls).isSome || !s.sinkRoom cls then s else
  match s.weft.blocked.find? fun b => b.2.1 == cls with
  | none => s
  | some b => (s.setWeft fun x => { x with held := SMap.insert x.held cls (b.1, b.2.2) }).respond 0x23 b.1 (s.handle 0) b.2.2 cls false []

end Sys2Proof.Machine
end

