-- ==== Sys2Proof/Machine/Bobbin.lean ====
section
/-! DEFINITION. Bobbins (R281–R283, R290): their registers, the checks of their accesses, completions, stops, and the
doorbells. -/

namespace Sys2Proof.Machine

/-! ### Registers -/

def vpctlR (v : Nat) : Reg := { kind := .neVpctl, i := v }
def vpbobR (v : Nat) : Reg := { kind := .neVpbob, i := v }
def vpmacR (v k : Nat) : Reg := { kind := .neVpmac, i := v, j := k }
def vpvlanR (v k : Nat) : Reg := { kind := .neVpvlan, i := v, j := k }
def vpdropR (v : Nat) : Reg := { kind := .neVpdrop, i := v }
def upcfgR (u : Nat) : Reg := { kind := .neUpcfg, i := u }
def bctlR (b : Nat) : Reg := { kind := .neBctl, i := b }
def bstatR (b : Nat) : Reg := { kind := .neBstat, i := b }
def bdropR (b : Nat) : Reg := { kind := .neBdrop, i := b }
def sqbaseR (b : Nat) : Reg := { kind := .neSqbase, i := b }
def rqbaseR (b : Nat) : Reg := { kind := .neRqbase, i := b }
def cqbaseR (b : Nat) : Reg := { kind := .neCqbase, i := b }
def sqtailR (b : Nat) : Reg := { kind := .dbSqtail, i := b }
def rqtailR (b : Nat) : Reg := { kind := .dbRqtail, i := b }
def cqheadR (b : Nat) : Reg := { kind := .dbCqhead, i := b }
def armR (b : Nat) : Reg := { kind := .dbArm, i := b }
def ptokR (p port dir : Nat) : Reg := { kind := .nePtok, i := p, j := 2 * port + dir }
def ectlR (p : Nat) : Reg := { kind := .wpEctl, i := p }

def bIdle : Nat := 0
def bRun : Nat := 1
def bStopped : Nat := 2
def bResetting : Nat := 3

def State.bob (s : State) (b : Nat) : BobSt := SMap.get (fun _ => BobSt.init) s.net.bobs b
def State.setBob (s : State) (b : Nat) (x : BobSt) : State :=
  { s with net := { s.net with bobs := SMap.put (fun _ => BobSt.init) s.net.bobs b x } }
def State.bobState (s : State) (b : Nat) : Nat := s.fld (bctlR b) F.neBctl.STATE
def State.bobPanel (s : State) (b : Nat) : Nat := s.fld (bctlR b) F.neBctl.PANEL
def State.vpPanel (s : State) (v : Nat) : Nat := s.fld (vpctlR v) F.neVpctl.PANEL
def State.vpUp (s : State) (v : Nat) : Bool := decide (v < 4096) && s.flag (vpctlR v) F.neVpctl.EN

def ringSize (log : Nat) : Nat := 2 ^ (log + 6)
def State.sqSize (s : State) (b : Nat) : Nat := ringSize (s.fld (bctlR b) F.neBctl.SQLOG)
def State.rqSize (s : State) (b : Nat) : Nat := ringSize (s.fld (bctlR b) F.neBctl.RQLOG)
def State.cqSize (s : State) (b : Nat) : Nat := ringSize (s.fld (bctlR b) F.neBctl.CQLOG)
def idxSub (a b : Nat) : Nat := (a + 65536 - b) % 65536

/-- Frames dropped on send or receive are counted against the virtual port. -/
def State.dropTx (s : State) (v : Nat) : State := s.addFld (vpdropR v) F.neVpdrop.TX 1
def State.dropRx (s : State) (v : Nat) : State := s.addFld (vpdropR v) F.neVpdrop.RX 1

/-! ### Memory under the Page Owner Table (R218, R281) -/

/-- Every granule of a range is owned by the panel and grants the access, as checker `agent` sees it. -/
def State.rangeOk (s : State) (agent p pa n : Nat) (w : Bool) : Bool :=
  decide (0 < n) && (List.range ((pa + n - 1) / 65536 + 1 - pa / 65536)).all fun i =>
    let e := s.potFor agent (pa / 65536 + i)
    potKind e == kOwned && potPanel e == p && (if w then potW e else potR e) &&
      (match s.target ((pa / 65536 + i) * 65536) with
       | .prot => true
       | .cxl _ => true
       | _ => false)

/-- How an access of the engine ends. -/
inductive NeAcc where
  | ok | denied | errcmp
  deriving DecidableEq, Repr

def State.neCheck (s : State) (p pa n : Nat) (w : Bool) : NeAcc :=
  if !s.rangeOk 193 p pa n w then .denied
  else if s.boltState (s.panelBolt p) ≠ 1 then .errcmp
  else .ok

/-! ### Bobbins: stop, reset, completions (R283, R290) -/

/-- Stop a bobbin with a CAUSE (R282, R290). -/
def State.stopBob (s : State) (b cause : Nat) : State :=
  let s := (s.setFld (bctlR b) F.neBctl.STATE bStopped).setFld (bstatR b) F.neBstat.CAUSE cause
  s.logErr { unitId := unitId 6 0, cls := 0, code := 0x39, action := 0, flags := flagPanel
             panel := s.handle (s.bobPanel b), detail := b }

/-- Reset a bobbin (Table NET-14): nothing more is taken from now on. -/
def State.resetBob (s : State) (b cause : Nat) : State :=
  let s := (s.setFld (bctlR b) F.neBctl.STATE bResetting).setFld (bstatR b) F.neBstat.CAUSE cause
  s.setBob b { s.bob b with reset := some cause }

/-- A completion without PHASE (Table NET-12). -/
def complRec (ts len index typ status nbuf rxf tci hash src : Nat) : List Byte :=
  leBytes 8 ts ++ leBytes 4 len ++ leBytes 2 index ++ leBytes 1 typ ++ leBytes 1 status ++ leBytes 1 nbuf ++
  leBytes 1 rxf ++ leBytes 2 tci ++ leBytes 4 hash ++ leBytes 4 src ++ leBytes 3 0

def State.cqFull (s : State) (b : Nat) : Bool :=
  decide (s.cqSize b ≤ idxSub (s.fld (bstatR b) F.neBstat.CQTAIL) (s.rd (cqheadR b)))

/-- Write a completion at CQTAIL as one 32-byte write, and raise an armed VECTOR (R282, R283). -/
def State.writeCompl (s : State) (b : Nat) (r : List Byte) : State :=
  let p := s.bobPanel b
  let x := s.bob b
  let size := s.cqSize b
  let pa := s.rd (cqbaseR b) + 32 * (x.done % size)
  match s.neCheck p pa 32 true with
  | .ok =>
    let phase := if x.done / size % 2 = 0 then 1 else 0
    let s := s.homeStore p pa (r ++ leBytes 1 phase)
    let s := s.setFld (bstatR b) F.neBstat.CQTAIL ((x.done + 1) % 65536)
    let s := s.setBob b { x with done := x.done + 1, age := 0 }
    if bit (s.rd (armR b)) 0 then (s.wr (armR b) 0).raise p (s.fld (bctlR b) F.neBctl.VECTOR) else s
  | _ => s.stopBob b 0x02

/-- Write what is owed, as far as the CQ has space. -/
def State.drainCompl (s : State) (b : Nat) : State :=
  (s.bob b).owed.foldl (fun s r =>
    if s.bobState b ≠ bRun || s.cqFull b then s
    else (s.setBob b { s.bob b with owed := (s.bob b).owed.drop 1 }).writeCompl b r) s

/-- A completion becomes due: written in order, or waiting for CQ space. -/
def State.owe (s : State) (b : Nat) (r : List Byte) : State :=
  (s.setBob b { s.bob b with owed := (s.bob b).owed ++ [r] }).drainCompl b

/-- Sends whose frames have all left complete in ring order (R283). -/
def State.finishSends (s : State) (b : Nat) : State :=
  (s.bob b).sends.foldl (fun s (_ : SendJob) =>
    match (s.bob b).sends with
    | [] => s
    | j :: rest =>
      if j.left ≠ 0 then s
      else (s.setBob b { s.bob b with sends := rest }).owe b
        (complRec (if j.tsreq then j.ts else 0) j.len j.index 0x01 j.status 0 0 0 0 0)) s

/-- A frame of a send has left, at a TAI time in ns. -/
def State.frameLeft (s : State) (b send ts : Nat) : State :=
  let x := s.bob b
  (s.setBob b { x with sends := x.sends.map fun j =>
    if j.id = send then { j with left := j.left - 1, ts := if j.ts = 0 then ts else j.ts } else j }).finishSends b

/-! ### Doorbells (R282) -/

/-- A send or receive tail: beyond the ring size the bobbin stops with CAUSE 0x01. -/
def State.tailWrite (s : State) (b : Nat) (send : Bool) (i : Nat) : State :=
  let head := s.fld (bstatR b) (if send then F.neBstat.SQHEAD else F.neBstat.RQHEAD)
  let s := s.wr (if send then sqtailR b else rqtailR b) i
  if s.bobState b = bRun && decide ((if send then s.sqSize b else s.rqSize b) < idxSub i head) then s.stopBob b 0x01 else s

/-- SQTAIL (R282): descriptors are posted. -/
def execSqtail (b : Bobbin) (i : BitVec 16) (s : State) : Host.Outcome State Fault Refusal :=
  .next (s.tailWrite b true i.toNat)
/-- RQTAIL (R282): buffers are posted. -/
def execRqtail (b : Bobbin) (i : BitVec 16) (s : State) : Host.Outcome State Fault Refusal :=
  .next (s.tailWrite b false i.toNat)

/-- A CQ head: completion slots are freed, and completions that waited are written; a head that leaves more than the ring in use
stops the bobbin as a tail does. -/
def State.cqheadWrite (s : State) (b i : Nat) : State :=
  let s := s.wr (cqheadR b) i
  if s.bobState b = bRun && decide (s.cqSize b < idxSub (s.fld (bstatR b) F.neBstat.CQTAIL) i) then s.stopBob b 0x01
  else s.drainCompl b
/-- CQHEAD (R282). (DEDUCED, log entry 62.) -/
def execCqhead (b : Bobbin) (i : BitVec 16) (s : State) : Host.Outcome State Fault Refusal :=
  .next (s.cqheadWrite b i.toNat)

def State.armWrite (s : State) (b : Nat) (on : Bool) : State :=
  if on then s.wr (armR b) 1 else s
/-- ARM (R282): with bit 0 set, VECTOR is raised at the next completion. -/
def execArm (b : Bobbin) (on : Bool) (s : State) : Host.Outcome State Fault Refusal := .next (s.armWrite b on)

end Sys2Proof.Machine
end

