-- ==== Sys2Proof/Machine/Frames.lean ====
section
/-! DEFINITION. Ethernet frames without their FCS (R270–R285): fields, tags, the flow key, checksums, tunnels and
segments. Fields of the published formats are in network byte order (R11). -/

namespace Sys2Proof.Machine

/-- A field in network byte order. -/
def beField (f : List Byte) (a n : Nat) : Nat := ofBeBytes ((f.drop a).take n)
/-- A frame with bytes replaced from `a` up. -/
def putAt (f : List Byte) (a : Nat) (bs : List Byte) : List Byte := f.take a ++ bs ++ f.drop (a + bs.length)

/-- Addresses as NE.VPMAC holds them: the first octet in bits [7:0]. -/
def frDst (f : List Byte) : Nat := field f 0 6
def frSrc (f : List Byte) : Nat := field f 6 6
/-- Broadcast or multicast. -/
def frGroup (f : List Byte) : Bool := bit (frDst f) 0
def frTagged (f : List Byte) : Bool := beField f 12 2 == 0x8100
def frTci (f : List Byte) : Nat := if frTagged f then beField f 14 2 else 0
def stripTag (f : List Byte) : List Byte := if frTagged f then f.take 12 ++ f.drop 16 else f
def insertTag (f : List Byte) (tci : Nat) : List Byte := f.take 12 ++ beBytes 2 0x8100 ++ beBytes 2 tci ++ f.drop 12

/-- Offset of the network header, and the EtherType. -/
def l3At (f : List Byte) : Nat := if frTagged f then 18 else 14
def etherType (f : List Byte) : Nat := beField f (l3At f - 2) 2

/-- Length of a frame with its FCS within R270. -/
def lenOk (f : List Byte) : Bool := decide (60 ≤ f.length) && decide (f.length + 4 ≤ 9216)

/-! ### The network and transport headers -/

/-- What a frame carries: version, protocol, offset of the transport header, and whether it is a later fragment. -/
structure IpInfo where
  v6    : Bool
  proto : Nat
  l4    : Nat
  frag  : Bool
  deriving DecidableEq, Repr

/-- The protocol behind the extension headers of an IPv6 packet. -/
def v6Chain (f : List Byte) : Nat → Nat → Nat → Bool → IpInfo
  | 0, p, a, g => { v6 := true, proto := p, l4 := a, frag := g }
  | n + 1, p, a, g =>
    if p = 0 ∨ p = 43 ∨ p = 60 then v6Chain f n (beField f a 1) (a + 8 + 8 * beField f (a + 1) 1) g
    else if p = 44 then v6Chain f n (beField f a 1) (a + 8) (g || decide (8 ≤ beField f (a + 2) 2))
    else { v6 := true, proto := p, l4 := a, frag := g }

/-- The IP header at an offset, of an EtherType. -/
def ipInfo (f : List Byte) (a et : Nat) : Option IpInfo :=
  if et = 0x0800 ∧ beField f a 1 / 16 = 4 ∧ a + 20 ≤ f.length then
    some { v6 := false, proto := beField f (a + 9) 1, l4 := a + 4 * (beField f a 1 % 16)
           frag := beField f (a + 6) 2 % 8192 ≠ 0 }
  else if et = 0x86DD ∧ beField f a 1 / 16 = 6 ∧ a + 40 ≤ f.length then
    some (v6Chain f 8 (beField f (a + 6) 1) (a + 40) false)
  else none

/-- An IPv4 address as ::ffff:a.b.c.d. -/
def mapped (v4 : List Byte) : List Byte := List.replicate 10 0 ++ [0xFF, 0xFF] ++ v4

/-- Source and destination addresses in the form of the flow key. -/
def ipAddrs (f : List Byte) (a : Nat) (v6 : Bool) : List Byte × List Byte :=
  if v6 then ((f.drop (a + 8)).take 16, (f.drop (a + 24)).take 16)
  else (mapped ((f.drop (a + 12)).take 4), mapped ((f.drop (a + 16)).take 4))

/-- The flow key of a frame (Table NET-6, bytes 0–39); none for a frame that is not looked up (R276). -/
def flowKey (f : List Byte) (dir vp : Nat) : Option (List Byte) :=
  (ipInfo f (l3At f) (etherType f)).map fun i =>
    let (src, dst) := ipAddrs f (l3At f) i.v6
    let ports := if (i.proto = 6 ∨ i.proto = 17) ∧ !i.frag then padTo 4 ((f.drop i.l4).take 4) else [0, 0, 0, 0]
    src ++ dst ++ ports ++ leBytes 1 i.proto ++ leBytes 1 dir ++ leBytes 2 vp

/-! ### Checksums -/

/-- The sum of 16-bit words in network order, an odd last byte padded with zero. -/
def sum16 : List Byte → Nat
  | [] => 0
  | [a] => a.toNat * 256
  | a :: b :: r => a.toNat * 256 + b.toNat + sum16 r

def fold16 (n : Nat) : Nat := let m := n / 65536 + n % 65536; let m := m / 65536 + m % 65536; m / 65536 + m % 65536

/-- The Internet checksum. -/
def inetSum (n : Nat) : Nat := 0xFFFF - fold16 n

/-- The frame with the IPv4 header checksum of the header at `a` written (CSUM3). -/
def setCsum3 (f : List Byte) (a : Nat) : List Byte :=
  if beField f a 1 / 16 ≠ 4 then f else
  let g := putAt f (a + 10) [0, 0]
  putAt g (a + 10) (beBytes 2 (inetSum (sum16 ((g.drop a).take (4 * (beField f a 1 % 16))))))

/-- The pseudo-header and transport sum of the packet at `a` with its transport header at `l4`. -/
def l4Sum (f : List Byte) (a l4 : Nat) : Nat :=
  let v6 := beField f a 1 / 16 = 6
  let stop := if v6 then a + 40 + beField f (a + 4) 2 else a + beField f (a + 2) 2
  let seg := (f.drop l4).take (stop - l4)
  let proto := if v6 then (v6Chain f 8 (beField f (a + 6) 1) (a + 40) false).proto else beField f (a + 9) 1
  let addrs := if v6 then (f.drop (a + 8)).take 32 else (f.drop (a + 12)).take 8
  sum16 addrs + seg.length + proto + sum16 seg

/-- Where the transport checksum lies, by protocol. -/
def l4SumAt (f : List Byte) (a l4 : Nat) : Option Nat :=
  let proto := if beField f a 1 / 16 = 6 then (v6Chain f 8 (beField f (a + 6) 1) (a + 40) false).proto else beField f (a + 9) 1
  if proto = 6 then some (l4 + 16) else if proto = 17 then some (l4 + 6) else none

/-- The frame with its TCP or UDP checksum written (CSUM4). -/
def setCsum4 (f : List Byte) (a l4 : Nat) : List Byte :=
  match l4SumAt f a l4 with
  | none => f
  | some c =>
    let g := putAt f c [0, 0]
    let x := inetSum (l4Sum g a l4)
    putAt g c (beBytes 2 (if x = 0 ∧ c = l4 + 6 then 0xFFFF else x))

/-- Both checksums as a receiver finds them (R285): network, transport. A UDP datagram over IPv4 without a checksum
counts as good. -/
def rxSums (f : List Byte) : Bool × Bool :=
  match ipInfo f (l3At f) (etherType f) with
  | none => (false, false)
  | some i =>
    let a := l3At f
    let l3 := i.v6 || fold16 (sum16 ((f.drop a).take (4 * (beField f a 1 % 16)))) == 0xFFFF
    let l4 := match l4SumAt f a i.l4 with
      | none => false
      | some c => !i.frag && ((i.proto == 17 && !i.v6 && beField f c 2 == 0) || fold16 (l4Sum f a i.l4) == 0xFFFF)
    (l3, l4)

/-! ### Segments (R285) -/

/-- Cut a TCP frame into segments of `mss` bytes of payload: lengths, sequence numbers, IPv4 identification, flags and
both checksums. -/
def tsoSegments (f : List Byte) (l3 l4 mss : Nat) : List (List Byte) :=
  let hl := l4 + 4 * (beField f (l4 + 12) 1 / 16)
  let head := f.take hl
  let payload := f.drop hl
  let n := (payload.length + mss - 1) / mss
  (List.range n).map fun i =>
    let body := (payload.drop (i * mss)).take mss
    let h := putAt head (l4 + 4) (beBytes 4 ((beField f (l4 + 4) 4 + i * mss) % 2 ^ 32))
    let fl := beField f (l4 + 13) 1
    let fl := if i + 1 = n then fl else fl &&& 0xF6
    let fl := if i = 0 then fl else fl &&& 0x7F
    let h := putAt h (l4 + 13) (beBytes 1 fl)
    let h := if beField f l3 1 / 16 = 4 then
        putAt (putAt h (l3 + 2) (beBytes 2 (hl - l3 + body.length))) (l3 + 4) (beBytes 2 ((beField f (l3 + 4) 2 + i) % 65536))
      else putAt h (l3 + 4) (beBytes 2 (hl - l3 - 40 + body.length))
    setCsum4 (setCsum3 (h ++ body) l3) l3 l4

/-! ### Tunnels (R278–R280) -/

/-- The frame inside the template's outer headers (R279). `hash` is the CRC-32C of the inner flow key; `free` gives
the outer fields that the manual does not state (IPv4 identification and DF, IPv6 flow label).
(DESIGN CHOICE, log entry 60.) -/
def encapsulate (t : List Byte) (inner : List Byte) (hash free : Nat) : List Byte :=
  let b := fun (i : Nat) => field t i 1
  let v6 := bit (b 14) 1
  let gen := bit (b 14) 2
  let opt := if gen then (t.drop 64).take (4 * b 53) else []
  let vni := beBytes 3 (field t 50 3)
  let tun := if gen then beBytes 1 (b 53 % 64) ++ [0] ++ beBytes 2 0x6558 ++ vni ++ [0] ++ opt
    else [0x08, 0, 0, 0] ++ vni ++ [0]
  let body := tun ++ inner
  let udp := beBytes 2 (49152 + hash % 16384) ++ beBytes 2 (if gen then 6081 else 4789) ++ beBytes 2 (8 + body.length) ++
    [0, 0] ++ body
  let tc := b 49 % 64 * 4
  let ip := if v6 then
      beBytes 4 (6 * 2 ^ 28 + tc * 2 ^ 20 + free % 2 ^ 20) ++ beBytes 2 udp.length ++ [17] ++ beBytes 1 (b 48) ++
      (t.drop 16).take 32
    else
      [0x45] ++ beBytes 1 tc ++ beBytes 2 (20 + udp.length) ++ beBytes 2 (free % 65536) ++
      beBytes 2 (free / 65536 % 2 * 2 ^ 14) ++ beBytes 1 (b 48) ++ [17, 0, 0] ++ (t.drop 28).take 4 ++ (t.drop 44).take 4
  let eth := (t.take 12) ++ (if bit (b 14) 0 then beBytes 2 0x8100 ++ beBytes 2 (field t 12 2) else []) ++
    beBytes 2 (if v6 then 0x86DD else 0x0800)
  let f := eth ++ ip ++ udp
  let a := eth.length
  if v6 then setCsum4 f a (a + 40) else setCsum3 f a

/-- What a frame holds as a tunnel (R280): destination address, UDP port, VNI, the GENEVE C flag, and the inner
frame. -/
structure Tunnel where
  dst   : List Byte
  vni   : Nat
  c     : Bool
  inner : List Byte
  deriving DecidableEq, Repr

def tunnelOf (f : List Byte) : Option Tunnel :=
  match ipInfo f (l3At f) (etherType f) with
  | none => none
  | some i =>
    let port := beField f (i.l4 + 2) 2
    let h := i.l4 + 8
    if i.proto ≠ 17 ∨ i.frag then none
    else if port = 4789 then
      some { dst := (ipAddrs f (l3At f) i.v6).2, vni := beField f (h + 4) 3, c := false, inner := f.drop (h + 8) }
    else if port = 6081 then
      some { dst := (ipAddrs f (l3At f) i.v6).2, vni := beField f (h + 4) 3, c := bit (beField f (h + 1) 1) 6
             inner := f.drop (h + 8 + 4 * (beField f h 1 % 64)) }
    else none

end Sys2Proof.Machine
end

