-- ==== Sys2Proof/Machine/Network.lean ====
section
/-! DEFINITION. The network engine (R269–R290): checks, the switch, flows and meters, offloads, tokens, stalls and resets. -/

namespace Sys2Proof.Machine

/-! ### Flows and meters (R275–R277) -/

/-- Bucket of a key (R275). -/
def flowBucket (key : List Byte) : Nat := (crc32c key).toNat % 16384

def faDrop (a : Nat) : Bool := bit a 3
def faEncap (a : Nat) : Bool := bit a 2
def faRate (a : Nat) : Bool := bit a 1
def faSteer (a : Nat) : Bool := bit a 0

def State.flowOf (s : State) (key : Option (List Byte)) : Option FlowEnt :=
  key.bind fun k => s.net.flows.find? fun e => e.key == k && bit e.act 4

/-- A matched entry counts the frame. -/
def State.flowHit (s : State) (e : FlowEnt) (n : Nat) : State :=
  { s with net := { s.net with flows := s.net.flows.map fun x =>
      if x.key = e.key then { x with pkts := (x.pkts + 1) % 2 ^ 64, bytes := (x.bytes + n) % 2 ^ 64 } else x } }

def State.meter (s : State) (m : Nat) : Meter := SMap.get (fun _ => Meter.init) s.net.meters m
def State.setMeter (s : State) (m : Nat) (x : Meter) : State :=
  { s with net := { s.net with meters := SMap.put (fun _ => Meter.init) s.net.meters m x } }

/-- Police a frame of `n` bytes without its FCS (R270, R277): one that does not pass is counted against the meter.
(DEDUCED, log entry 138.) -/
def State.police (s : State) (m n : Nat) : State × Bool :=
  let x := s.meter m
  if 0 < x.level then (s.setMeter m { x with level := x.level - n }, true)
  else (s.setMeter m { x with drops := x.drops + 1 }, false)

/-- The CRC-32C of a flow key; of a frame that has none, an open value. (DESIGN CHOICE, log entry 60.) -/
def State.keyHash (s : State) (key : Option (List Byte)) : Nat × State :=
  match key with
  | some k => ((crc32c k).toNat, s)
  | none => let (h, s) := s.freeBits 32; (h.toNat, s)

/-! ### Tokens (R286–R288) -/

/-- A signed 20-bit register value, and back. -/
def remGet (n : Nat) : Int := if 2 ^ 19 ≤ n then (n : Int) - 2 ^ 20 else n
def remPut (i : Int) : Nat := (i % 2 ^ 20).toNat

def State.pool (s : State) (k : Nat) : Int := SMap.get (fun _ => 0) s.net.pools k
def State.setPool (s : State) (k : Nat) (v : Int) : State :=
  { s with net := { s.net with pools := SMap.put (fun _ => 0) s.net.pools k v } }

/-- A panel's frame may be charged: REMAIN, or an enabled POOL, is above zero. -/
def State.portOpen (s : State) (p port dir k : Nat) : Bool :=
  let r := ptokR p port dir
  decide (0 < remGet (s.fld r F.nePtok.REMAIN)) || (s.flag r F.nePtok.POOLEN && decide (0 < s.pool k))

/-- Charge REMAIN, or POOL once REMAIN is exhausted, the full cost. -/
def State.portCharge (s : State) (p port dir k cost : Nat) : State :=
  let r := ptokR p port dir
  let rem := remGet (s.fld r F.nePtok.REMAIN)
  let s := s.count p (cntPort port dir) cost
  if 0 < rem ∨ !s.flag r F.nePtok.POOLEN then s.setFld r F.nePtok.REMAIN (remPut (rem - cost))
  else s.setPool k (s.pool k - cost)

def weftPool (port dir : Nat) : Nat := 64 + 2 * port + dir

/-! ### Uplinks (R269) -/

/-- The sub-port exists in its port's mode, and the port has the Ethernet role. -/
def State.uplinkHere (s : State) (u : Nat) : Bool :=
  s.fld (pctlR (u / 4)) F.wpPctl.ROLE == 2 &&
  (match s.upMode (u / 4) with
   | 0 => u % 4 == 0
   | 1 => u % 2 == 0
   | 2 => true
   | _ => false)

def State.uplinkOn (s : State) (u : Nat) : Bool := s.uplinkHere u && s.flag (upcfgR u) F.neUpcfg.EN
def State.linkUp (s : State) (u : Nat) : Bool := bit (s.fld (ectlR (u / 4)) F.wpEctl.LINKUP) (u % 4)

/-- Byte tokens of a sub-port per stitch and direction (Table NET-1). -/
def State.upTokens (s : State) (u : Nat) : Nat :=
  if !s.uplinkHere u then 0 else
  match s.upMode (u / 4) with
  | 0 => 500000
  | 1 => 250000
  | _ => 125000

/-! ### Delivery (R284) -/

/-- Where a delivered frame came from: the source virtual port and its module, the uplink, whether it was
decapsulated, and its receive timestamp. -/
structure RxFrom where
  vp     : Nat
  module : Nat
  uplink : Option Nat
  local_ : Bool
  decap  : Bool
  ts     : Nat
  deriving DecidableEq, Repr

def rbBytes (rbsz : Nat) : Nat := 2048 * 2 ^ rbsz

/-- Take posted buffers of a bobbin: their addresses, or why not. -/
def State.rxBuffers (s : State) (b n : Nat) : Except NeAcc (Option (List Nat)) :=
  let p := s.bobPanel b
  let head := s.fld (bstatR b) F.neBstat.RQHEAD
  let sz := rbBytes (s.fld (bctlR b) F.neBctl.RBSZ)
  (List.range n).foldl (fun r i =>
    match r with
    | .error e => .error e
    | .ok none => .ok none
    | .ok (some l) =>
      let da := s.rd (rqbaseR b) + 16 * ((head + i) % s.rqSize b)
      match s.neCheck p da 16 false with
      | .ok =>
        let a := s.memNat da 8
        if a % 64 ≠ 0 ∨ s.memNat (da + 8) 8 ≠ 0 then .ok none
        else match s.neCheck p a sz true with
          | .ok => .ok (some (l ++ [a]))
          | e => .error e
      | e => .error e) (.ok (some []))

/-- Write a frame into buffers in pieces. -/
def State.fillBuffers (s : State) (p sz : Nat) (f : List Byte) : List Nat → State
  | [] => s
  | a :: as => (s.homeStore p a (f.take sz)).fillBuffers p sz (f.drop sz) as

/-- A frame fills posted buffers of a bobbin and writes one RECV completion (R284). A buffer that a check refuses, or a
descriptor out of form, is consumed with a completion that says so. -/
def State.rxBobbin (s : State) (b : Nat) (f : List Byte) (rxf tci hash src ts : Nat) : State :=
  if !s.flag (bctlR b) F.neBctl.EN || s.bobState b ≠ bRun then s.addFld (bdropR b) F.neBdrop.NOBUF 1
  else if s.cqFull b || (s.bob b).owed ≠ [] then s.addFld (bdropR b) F.neBdrop.CQFULL 1
  else
    let sz := rbBytes (s.fld (bctlR b) F.neBctl.RBSZ)
    let n := (f.length + sz - 1) / sz
    let head := s.fld (bstatR b) F.neBstat.RQHEAD
    if idxSub (s.rd (rqtailR b)) head < n then s.addFld (bdropR b) F.neBdrop.NOBUF 1
    else
      let take := fun (s : State) => s.setFld (bstatR b) F.neBstat.RQHEAD ((head + n) % 65536)
      match s.rxBuffers b n with
      | .error .errcmp => s.stopBob b 0x02
      | .error _ => (take s).owe b (complRec ts 0 head 0x02 0x01 n rxf tci hash src)
      | .ok none => (take s).owe b (complRec ts 0 head 0x02 0x03 n rxf tci hash src)
      | .ok (some as) =>
        ((take s).fillBuffers (s.bobPanel b) sz f as).owe b (complRec ts f.length head 0x02 0 n rxf tci hash src)

/-- A frame reaches virtual port `v` (R276, R284, R287): DIR 1 flow, receive tokens of an uplink, a bobbin by steering.
(DEDUCED, log entry 61.) -/
def State.deliver (s : State) (v : Nat) (f : List Byte) (r : RxFrom) : State :=
  let p := s.vpPanel v
  let key := flowKey f 1 v
  let flow := s.flowOf key
  let s := match flow with
    | some e => s.flowHit e f.length
    | none => s
  let act := (flow.map (·.act)).getD 0
  let (s, pass) := match flow with
    | some e => if faDrop e.act then (s, false) else if faRate e.act then s.police e.meter f.length else (s, true)
    | none => (s, true)
  let fund := match r.uplink with
    | some u => s.portOpen p (u / 4) 1 (2 * u + 1)
    | none => true
  if !pass || !fund then s.dropRx v else
  let s := match r.uplink with
    | some u => (s.portCharge p (u / 4) 1 (2 * u + 1) (f.length + 24)).count p cntRxUp (f.length + 4)
    | none => if r.local_ then s.count p cntRxLoc (f.length + 4) else s
  let (hash, s) := s.keyHash key
  let b := if faSteer act then (flow.map (·.target)).getD 0 % 16384
    else (s.fld (vpbobR v) F.neVpbob.DEFBOB + hash % 2 ^ s.fld (vpbobR v) F.neVpbob.RSSN) % 16384
  if s.fld (bctlR b) F.neBctl.VP ≠ v ∨ !s.flag (bctlR b) F.neBctl.EN then s.dropRx v else
  let sums := rxSums f
  let rxf := b2n sums.1 + 2 * b2n sums.2 + 4 * b2n (frTagged f) + 8 * b2n r.decap + 16 * b2n flow.isSome
  let src := if r.uplink.isSome then 0 else r.vp + r.module * 4096
  s.rxBobbin b (stripTag f) rxf (frTci f) hash src r.ts

/-! ### The switch (R272, R273) -/

/-- A virtual port belongs to a VLAN. -/
def State.vpVlan (s : State) (v vlan : Nat) : Bool :=
  s.fld (vpctlR v) F.neVpctl.PVID == vlan ||
  (s.flag (vpctlR v) F.neVpctl.TAGGED && (List.range 8).any fun k =>
    s.flag (vpvlanR v k) F.neVpvlan.V && s.fld (vpvlanR v k) F.neVpvlan.VID == vlan)

/-- The source address is one of the port's. -/
def State.vpMac (s : State) (v mac : Nat) : Bool :=
  (List.range 8).any fun k => s.flag (vpmacR v k) F.neVpmac.V && s.fld (vpmacR v k) F.neVpmac.MAC == mac

/-- The virtual ports in service of a domain and VLAN. -/
def State.vpsOf (s : State) (swd vlan : Nat) : List Nat :=
  (List.range 4096).filter fun v => s.vpUp v && s.fld (vpctlR v) F.neVpctl.SWD == swd && s.vpVlan v vlan

/-- The VLAN of a frame from virtual port `v`, when R272 passes it. -/
def State.vpCheck (s : State) (v : Nat) (f : List Byte) : Option Nat :=
  if !s.vpMac v (frSrc f) then none
  else if frTagged f then
    let vid := frTci f % 4096
    if s.flag (vpctlR v) F.neVpctl.TAGGED && (List.range 8).any fun k =>
        s.flag (vpvlanR v k) F.neVpvlan.V && s.fld (vpvlanR v k) F.neVpvlan.VID == vid then some vid else none
  else some (s.fld (vpctlR v) F.neVpctl.PVID)

/-- Where the switch sends a frame. -/
inductive SwTo where
  | local_ (v : Nat)
  | remote (m vp : Nat)
  | uplink (u : Nat)
  deriving DecidableEq, Repr

/-- MAC lookup (R273, steps 2 to 5): `up` is the uplink for misses and floods, `src` the source virtual port. -/
def State.macLookup (s : State) (swd vlan : Nat) (f : List Byte) (src up : Option Nat) : List SwTo :=
  if frGroup f then
    ((s.vpsOf swd vlan).filter fun v => src ≠ some v).map SwTo.local_ ++ (up.map SwTo.uplink).toList
  else
    match (s.vpsOf swd vlan).find? fun v => s.vpMac v (frDst f) with
    | some v => [.local_ v]
    | none =>
      match s.net.rmacs.find? fun e => e.swd == swd && e.vlan == vlan && e.mac == frDst f with
      | some e => [.remote e.module e.vp]
      | none => (up.map SwTo.uplink).toList

/-- A frame from virtual port `v` bound for an uplink: encapsulated when a template is named (R278); none when it is
too long, or the uplink carries no traffic. (DESIGN CHOICE, log entry 60.) -/
def State.toUplink (s : State) (v u tmpl : Nat) (f : List Byte) : State × Option (List Byte) :=
  if !s.uplinkOn u then (s, none)
  else if tmpl = 0 then (s, some f)
  else
    let (hash, s) := s.keyHash (flowKey f 0 v)
    let (free, s) := s.freeBits 20
    let g := encapsulate (padTo 128 (SMap.get (fun _ => []) s.net.tmpls tmpl)) f hash free.toNat
    (s, if g.length + 4 ≤ 9216 then some g else none)

/-- Switch a frame that virtual port `v` sends for send `job` of bobbin `b`: local copies are delivered, others wait to
leave. The number of frames that wait, and whether the frame was dropped. (DESIGN CHOICE, log entry 31.) -/
def State.switchOut (s : State) (b v job : Nat) (f : List Byte) : State × Nat × Bool :=
  let p := s.vpPanel v
  match (if lenOk f then s.vpCheck v f else none) with
  | none => (s.dropTx v, 0, true)
  | some vlan =>
    let c := vpctlR v
    let flow := s.flowOf (flowKey f 0 v)
    let s := match flow with
      | some e => s.flowHit e f.length
      | none => s
    let (s, pass) := match flow with
      | some e => if faDrop e.act then (s, false) else if faRate e.act then s.police e.meter f.length else (s, true)
      | none => (s, true)
    if !pass then (s.dropTx v, 0, true) else
    let up := if s.flag c F.neVpctl.UPLEN then some (s.fld c F.neVpctl.UPL) else none
    let steer := match flow with
      | some e => if faSteer e.act then some (e.target % 4096) else none
      | none => none
    let tmpl := match flow with
      | some e => if faEncap e.act then e.tmpl else s.fld c F.neVpctl.TMPL
      | none => s.fld c F.neVpctl.TMPL
    let tos := match steer with
      | some w => if s.vpUp w then [SwTo.local_ w] else []
      | none => s.macLookup (s.fld c F.neVpctl.SWD) vlan f (some v) up
    if tos = [] then (s.dropTx v, 0, true) else
    tos.foldl (fun r t =>
      let (s, n, d) := r
      match t with
      | .local_ w =>
        let (ns, s) := s.freeNat
        let s := s.count p cntTxLoc (f.length + 4)
        (s.deliver w f { vp := v, module := s.myId, uplink := none, local_ := true, decap := false
                         ts := s.stitch * 10000 + ns % 10000 }, n, d)
      | .remote m w =>
        let x : TxFrame := { bob := some b, panel := p, send := job, to_ := .fabric m w v (s.fld c F.neVpctl.SWD), data := f }
        ({ s with net := { s.net with wait := s.net.wait ++ [x] } }, n + 1, d)
      | .uplink u =>
        match s.toUplink v u tmpl f with
        | (s, some g) =>
          let x : TxFrame := { bob := some b, panel := p, send := job, to_ := .uplink u, data := g }
          ({ s with net := { s.net with wait := s.net.wait ++ [x] } }, n + 1, d)
        | (s, none) => (s.dropTx v, n, true)) (s, 0, false)

/-! ### Sending (R283, R285) -/

/-- A send descriptor (Table NET-10). -/
structure SendDesc where
  addr  : Nat
  len   : Nat
  flags : Nat
  mss   : Nat
  l3    : Nat
  l4    : Nat
  tci   : Nat
  bad   : Bool
  deriving DecidableEq, Repr

def readDesc (bs : List Byte) : SendDesc :=
  let len := field bs 8 2
  let flags := field bs 10 2
  { addr := field bs 0 8, len := len, flags := flags, mss := field bs 12 2, l3 := field bs 14 1, l4 := field bs 15 1
    tci := field bs 16 2, bad := len == 0 || decide (16384 < len) || decide (64 ≤ flags) || field bs 18 14 ≠ 0 }

/-- The posted descriptors of a bobbin's next chain, up to one with MORE clear; whether that one was found; and
whether every read was granted. -/
def State.chain (s : State) (b : Nat) : Nat → Nat → List SendDesc × Bool × NeAcc
  | 0, _ => ([], false, .ok)
  | n + 1, i =>
    let pa := s.rd (sqbaseR b) + 32 * (i % s.sqSize b)
    match s.neCheck (s.bobPanel b) pa 32 false with
    | .ok =>
      let d := readDesc (s.bytes pa 32)
      if bit d.flags 0 then
        let (l, e, a) := s.chain b n (i + 1)
        (d :: l, e, a)
      else ([d], true, .ok)
    | e => ([{ addr := 0, len := 0, flags := 0, mss := 0, l3 := 0, l4 := 0, tci := 0, bad := true }], true, e)

/-- The frames of a chain (R285): the tag inserted, checksums written, or TCP segments cut. None where the offsets or
MSS do not describe the frame. -/
def buildFrames (d : SendDesc) (f : List Byte) : Option (List (List Byte)) :=
  let ins := bit d.flags 5
  let k := if ins then 4 else 0
  let f := if ins then insertTag f d.tci else f
  let l3 := d.l3 + k
  let l4 := d.l4 + k
  let offs := decide (l3 + 20 ≤ f.length) && decide (l3 < l4) && decide (l4 + 8 ≤ f.length)
  if bit d.flags 3 then
    if !offs ∨ f.length < l4 + 20 ∨ d.mss < 64 ∨ 9000 < d.mss then none else some (tsoSegments f l3 l4 d.mss)
  else if (bit d.flags 1 || bit d.flags 2) && !offs then none
  else
    let f := if bit d.flags 2 then setCsum4 f l3 l4 else f
    some [if bit d.flags 1 then setCsum3 f l3 else f]

/-- A chain ends without a frame sent: one completion (R283). -/
def State.sendFails (s : State) (b index status : Nat) : State :=
  let x := s.bob b
  let j : SendJob := { id := s.net.nextSend, index := index, left := 0, len := 0, status := status, tsreq := false, ts := 0 }
  ({ s.setBob b { x with sends := x.sends ++ [j] } with net := { (s.setBob b { x with sends := x.sends ++ [j] }).net with
      nextSend := s.net.nextSend + 1 } }).finishSends b

/-- Read a chain's fragments: the frame, or the STATUS that stands for it. -/
def State.gather (s : State) (b : Nat) (ds : List SendDesc) : Except Nat (List Byte) :=
  ds.foldl (fun r d =>
    match r with
    | .error e => .error e
    | .ok f =>
      match s.neCheck (s.bobPanel b) d.addr d.len false with
      | .denied => .error 0x01
      | .errcmp => .error 0xFF
      | .ok =>
        if (List.range ((d.addr + d.len - 1) / 64 + 1 - d.addr / 64)).any fun i => (s.meta (d.addr / 64 + i)).poison then
          .error 0x05
        else .ok (f ++ s.bytes d.addr d.len)) (.ok [])

/-- Take the next chain of a bobbin (R283). (DESIGN CHOICE, log entry 31.) -/
def State.sendNext (s : State) (b : Nat) : State :=
  let p := s.bobPanel b
  let head := s.fld (bstatR b) F.neBstat.SQHEAD
  let posted := idxSub (s.rd (sqtailR b)) head
  let ps := s.pstate p
  if !s.flag (bctlR b) F.neBctl.EN || s.bobState b ≠ bRun || posted = 0 || !(ps == psRunning || ps == psPaused) then s
  else
    let s := s.need 424
    let (ds, ended, acc) := s.chain b posted head
    if !ended && decide (posted ≤ 16) then s else
    let s := s.setFld (bstatR b) F.neBstat.SQHEAD ((head + ds.length) % 65536)
    match acc with
    | .denied => s.sendFails b head 0x01
    | .errcmp => s.stopBob b 0x02
    | .ok =>
      if !ended ∨ 16 < ds.length ∨ ds.any (·.bad) then s.sendFails b head 0x03 else
      match s.gather b ds with
      | .error 0xFF => s.stopBob b 0x02
      | .error e =>
        let s := if e = 0x05 then s.logErr { unitId := unitId 6 0, cls := 0, code := 0x20, action := 0
                                             flags := flagPoison + flagPanel, panel := s.handle p, req := 193 } else s
        s.sendFails b head e
      | .ok f =>
        let d := ds.headD (readDesc [])
        if !bit d.flags 3 && decide (9216 < f.length + 4 + (if bit d.flags 5 then 4 else 0)) then s.sendFails b head 0x02
        else match buildFrames d f with
          | none => s.sendFails b head 0x03
          | some fs =>
            let id := s.net.nextSend
            let v := s.fld (bctlR b) F.neBctl.VP
            let s := { s with net := { s.net with nextSend := id + 1 } }
            let (s, n, dropped) := fs.foldl (fun r g =>
              let (s, n, d) := r
              let (s, m, e) := s.switchOut b v id g
              (s, n + m, d || e)) (s, 0, !s.vpUp v)
            let (ns, s) := s.freeNat
            let x := s.bob b
            let j : SendJob :=
              { id := id, index := head, left := n, len := f.length, status := if dropped then 0x04 else 0
                tsreq := bit d.flags 4, ts := if n = 0 then s.stitch * 10000 + ns % 10000 else 0 }
            (s.setBob b { x with sends := x.sends ++ [j] }).finishSends b

/-- SEND_DESCRIPTOR (R283): the engine takes the next descriptor chain of a bobbin in service whose panel is RUNNING or
PAUSED (R289). -/
def execSendDescriptor (b : Bobbin) (s : State) : Host.Outcome State Fault Refusal := .next (s.sendNext b.val)

/-- ETH cells of a frame (R274). -/
def ethCells (dst srch w vp src swd : Nat) (f : List Byte) : Nat × (Nat → Nat → Cell) :=
  let all := leBytes 2 f.length ++ leBytes 2 src ++ leBytes 12 0 ++ f
  let n := (all.length + 127) / 128
  (n, fun i seq => mkCell 0x31 dst srch seq (vp * 2 ^ 20 + swd * 2 ^ 8) (decide (i + 1 = n)) false w
    ((all.drop (128 * i)).take 128))

/-- A frame that waits may leave now (R287, R251); one whose bobbin does not run stays (R290). -/
def State.mayLeave (s : State) (x : TxFrame) : Bool :=
  (match x.bob with
   | some b => s.bobState b == bRun
   | none => true) &&
  match x.to_ with
  | .uplink u => s.linkUp u && s.uplinkHere u && s.portOpen x.panel (u / 4) 0 (2 * u)
  | .fabric .. => s.freeOut.isSome

/-- A frame that waited has left. -/
def State.frameOut' (s : State) (x : TxFrame) (ts : Nat) : State :=
  match x.bob with
  | some b => s.frameLeft b x.send ts
  | none => s

/-- FRAME_TRANSMIT (R287, R274): the first eligible frame for an uplink, or for the Weft (none), leaves, `ns` into the
stitch. A frame for a module without a route is WERR UNREACHABLE at the source (R246). -/
def execFrameTransmit (u : Option Uplink) (ns : Fin 10000) (s : State) : Host.Outcome State Fault Refusal :=
  let want := fun (x : TxFrame) => match x.to_, u with
    | .uplink k, some v => k == v.val
    | .fabric .., none => true
    | _, _ => false
  match s.net.wait.find? fun x => want x && s.mayLeave x with
  | none => .next s
  | some x =>
    let s := { s with net := { s.net with wait := s.net.wait.erase x } }
    let ts := s.stitch * 10000 + ns.val
    match x.to_ with
    | .uplink k =>
      let s := s.need (412 + k / 4)
      let s := (s.portCharge x.panel (k / 4) 0 (2 * k) (x.data.length + 24)).count x.panel cntTxUp (x.data.length + 4)
      .next ((s.emit (.ether k x.data)).frameOut' x ts)
    | .fabric m vp src swd =>
      match s.freeOut, s.wordTo m with
      | some k, some w =>
        let (n, mk) := ethCells m (s.handle x.panel) w vp src swd x.data
        let s := (s.openOut k (.eth x.bob) m 5 n mk).count x.panel cntTxFab (128 * n)
        .next (s.frameOut' x ts)
      | _, _ => .next (match x.bob with
        | some b => s.stopBob b 0x02
        | none => s)

/-- A frame discarded at its uplink is counted (R270, R280). -/
def State.dropUp (s : State) (u : Nat) : State :=
  { s with net := { s.net with upDrops := SMap.put (fun _ => 0) s.net.upDrops u (SMap.get (fun _ => 0) s.net.upDrops u + 1) } }

/-- UPLINK_FRAME (R270, R273, R280): a frame received on an uplink, without its FCS; `fcsOk` whether the FCS was good,
`ns` its time into the stitch. MAC control frames are discarded (R269). (DEDUCED, log entry 61.) -/
def execUplinkFrame (u : Uplink) (f : List Byte) (fcsOk : Bool) (ns : Fin 10000) (s : State) :
    Host.Outcome State Fault Refusal :=
  let s := (s.need 424).need (412 + u.val / 4)
  let c := upcfgR u
  if !s.uplinkOn u || !s.linkUp u then .next s
  else if !fcsOk || !lenOk f then .next (s.dropUp u)
  else if etherType f == 0x8808 then .next s else
  let swd := s.fld c F.neUpcfg.SWD
  let tun := if s.flag c F.neUpcfg.DECAP then tunnelOf f else none
  let here := fun (t : Tunnel) => (List.range 16).any fun k => SMap.find s.net.vtep k == some t.dst
  let inner := match tun with
    | some t => if here t then (SMap.get (fun _ => none) s.net.vnis t.vni).map fun d => (d, t) else none
    | none => none
  match inner with
  | some (d, t) =>
    if t.c || !lenOk t.inner then .next (s.dropUp u)
    else .next (go s d t.inner true)
  | none => .next (go s swd f false)
where
  go (s : State) (swd : Nat) (g : List Byte) (decap : Bool) : State :=
    (s.macLookup swd (frTci g % 4096) g none none).foldl (fun s t =>
      let r : RxFrom := { vp := 0, module := 0, uplink := some u.val, local_ := false, decap := decap
                          ts := s.stitch * 10000 + ns.val }
      match t with
      | .local_ v => s.deliver v g r
      | .remote m vp =>
        let x : TxFrame := { bob := none, panel := 0, send := s.net.nextSend, to_ := .fabric m vp 0 swd, data := g }
        { s with net := { s.net with wait := s.net.wait ++ [x], nextSend := s.net.nextSend + 1 } }
      | .uplink _ => s) s

/-- UPLINK_LINK_CHANGE (R269): a sub-port gains or loses link. With no link on the port, a bring-up takes the MODE that
has been set. -/
def execUplinkLinkChange (u : Uplink) (up : Bool) (s : State) : Host.Outcome State Fault Refusal :=
  let r := ectlR (u.val / 4)
  let t := if up && s.fld r F.wpEctl.LINKUP == 0 then
      { s with net := { s.net with modes := SMap.put (fun _ => 0) s.net.modes (u.val / 4) (s.fld r F.wpEctl.MODE) } }
    else s
  if !t.uplinkHere u || (up && s.unitOut 4 (u.val / 4)) then .next s else
  let s := t
  .next (s.setFld r F.wpEctl.LINKUP (setBits (s.fld r F.wpEctl.LINKUP) (u.val % 4) (u.val % 4) (b2n up)))

/-! ### Stalls and resets (R289, R290) -/

/-- The bobbins whose accesses are not yet answered, an entry each. -/
def State.bobsOpen (s : State) : List Nat :=
  s.ioReqs.filterMap fun e => if e.1 / 256 = 193 then e.2.map (·.ctx) else none

/-- The bobbin holds work that makes no progress (R290): an access not yet answered, or a completion that waits for CQ space. -/
def State.bobHolds (s : State) (b : Nat) : Bool := (s.bob b).owed ≠ [] || s.bobsOpen.contains b

/-- A bobbin's accesses in flight are abandoned and its frames that wait discarded (Table NET-14, steps 2 and 3): answers come too late. -/
def State.dropBob (s : State) (b : Nat) : State :=
  { s with
    net := { s.net with wait := s.net.wait.filter fun x => x.bob ≠ some b }
    ioReqs := SMap.mapListed (fun _ => none) s.ioReqs fun k e => e.bind fun m => if k / 256 = 193 ∧ m.ctx = b then none else some m
    weft := { s.weft with
      partials := s.weft.partials.map fun x => if x.typ = 0x30 ∧ x.arg = b then { x with buf := none } else x
      out := SMap.mapListed (fun _ => none) s.weft.out fun _ e => e.map fun x =>
        if x.use = .eth (some b) then { x with use := .eth none } else x } }

/-- The stitches of a bobbin's resets within the last 100,000, this one first. -/
def State.bobResets (s : State) (b : Nat) : List Nat :=
  (s.ticks :: SMap.get (fun _ => []) s.net.bobHits b).filter fun (t : Nat) => decide (s.ticks < t + 100000)
def State.bobHit (s : State) (b : Nat) : State :=
  { s with net := { s.net with bobHits := SMap.insert s.net.bobHits b (s.bobResets b) } }

/-- Reset a bobbin; the fourth reset within 100,000 stitches stops it with CAUSE 0x05 (R419, Table ERR-11). (DEDUCED, log entry 138.) -/
def State.recoverBob (s : State) (b cause : Nat) : State :=
  if 4 ≤ (s.bobResets b).length then
    ((s.bobHit b).setFld (bctlR b) F.neBctl.STATE bStopped).setFld (bstatR b) F.neBstat.CAUSE 0x05
  else (s.bobHit b).resetBob b cause

/-- NET_BOBSTALL (R290): the stall timeout of a bobbin has expired and resets it. -/
def execNetBobstall (b : Bobbin) (s : State) : Host.Outcome State Fault Refusal :=
  if s.bobState b = bRun && s.bobHolds b && decide (s.rd { kind := .rasTmo, i := 5 } ≤ (s.bob b).age) then
    let s := s.logErr { unitId := unitId 6 0, cls := 0, code := 0x38, action := 4, flags := flagPanel
                        panel := s.handle (s.bobPanel b), detail := s.rd { kind := .rasTmo, i := 5 } }
    .next (s.recoverBob b 0x03)
  else .next s

/-- A reset bobbin runs again (Table NET-14, steps 3 and 4). -/
def State.bobRestart (s : State) (b : Nat) : State :=
  match (s.bob b).reset with
  | none => s
  | some cause =>
    let s := (s.dropBob b).setBob b BobSt.init
    let s := (((s.wr (sqtailR b) 0).wr (rqtailR b) 0).wr (cqheadR b) 0).wr (armR b) 0
    let s := s.wr (bstatR b) (F.neBstat.CAUSE.set 0 cause)
    let s := (s.addFld (bctlR b) F.neBctl.RESETS 1).setFld (bctlR b) F.neBctl.STATE bRun
    let p := s.bobPanel b
    match s.neCheck p (s.rd (cqbaseR b)) 32 true with
    | .ok => (s.writeCompl b (complRec 0 0 0 0x04 cause 0 0 0 0 0)).raise p (s.fld (bctlR b) F.neBctl.VECTOR)
    | _ => s

/-- Boundary: bobbin resets end, and stall counters rise (R290). -/
def State.bobBoundary (s : State) : State :=
  let s := (s.net.bobs.filter fun e => e.2.reset.isSome).foldl (fun s e => s.bobRestart e.1) s
  (s.net.bobs.map (·.1) ++ s.bobsOpen).eraseDups.foldl (fun t b =>
    t.setBob b { t.bob b with age := if s.bobHolds b then (t.bob b).age + 1 else 0 }) s

/-- The panel's bobbins. -/
def State.bobsOf (s : State) (p : Nat) : List Nat :=
  (List.range 16384).filter fun b => s.flag (bctlR b) F.neBctl.EN && s.bobPanel b == p
/-- The panel's virtual ports. -/
def State.vpsOfPanel (s : State) (p : Nat) : List Nat := (List.range 4096).filter fun v => s.vpUp v && s.vpPanel v == p

/-- Entry to RESETTING resets every bobbin of the panel (R289). (DESIGN CHOICE, log entry 137.) -/
def State.panelBobsReset (s : State) (p : Nat) : State := (s.bobsOf p).foldl (fun s b => (s.bobHit b).resetBob b 0x04) s

/-- Remove a virtual port: its registers, flows and remote entries that name it go. -/
def State.vpRemove (s : State) (v : Nat) : State :=
  let s := ((s.wr (vpctlR v) 0).wr (vpbobR v) 0).wr (vpdropR v) 0
  let s := (List.range 8).foldl (fun s k => (s.wr (vpmacR v k) 0).wr (vpvlanR v k) 0) s
  { s with net := { s.net with flows := s.net.flows.filter fun e => field e.key 38 2 ≠ v } }

/-- TEARING stops and discards the panel's bobbins and removes its virtual ports (R289, R58). -/
def State.panelNetTear (s : State) (p : Nat) : State :=
  let s := (s.bobsOf p).foldl (fun s b =>
    let s := (s.dropBob b).setBob b BobSt.init
    let s := { s with net := { s.net with bobHits := SMap.remove s.net.bobHits b } }
    let s := (((s.wr (sqtailR b) 0).wr (rqtailR b) 0).wr (cqheadR b) 0).wr (armR b) 0
    (((((s.wr (bctlR b) 0).wr (bstatR b) 0).wr (bdropR b) 0).wr (sqbaseR b) 0).wr (rqbaseR b) 0).wr (cqbaseR b) 0) s
  (s.vpsOfPanel p).foldl (fun s v => s.vpRemove v) s

/-! ### Boundary (R277, R286, R288) -/

/-- Task 2: meters refill. -/
def State.meterRefill (s : State) : State :=
  { s with net := { s.net with meters := SMap.mapListed (fun _ => Meter.init) s.net.meters fun _ m =>
      { m with level := min (m.level + m.rate) m.burst } } }

/-- Task 2: REMAIN and POOL of every port and direction. (DESIGN CHOICE, log entry 64.) -/
def State.portRefill (s : State) : State :=
  let s := (List.range 512).foldl (fun s p =>
    (List.range 16).foldl (fun s j =>
      let r : Reg := { kind := .nePtok, i := p, j := j }
      let v := s.rd r
      if v = 0 then s
      else s.setFld r F.nePtok.REMAIN
        (remPut ((F.nePtok.GRANT.get v : Int) + min (remGet (F.nePtok.REMAIN.get v)) 0))) s) s
  let grants := fun (port dir : Nat) => ((List.range 512).map fun p => s.fld (ptokR p port dir) F.nePtok.GRANT).sum
  (List.range 8).foldl (fun s port =>
    (List.range 2).foldl (fun s dir =>
      let g := grants port dir
      if s.isWeft port then s.setPool (weftPool port dir) ((400000 : Int) - g)
      else (List.range 4).foldl (fun s k =>
        let u := 4 * port + k
        if s.uplinkHere u then s.setPool (2 * u + dir) ((s.upTokens u : Int) - (g * s.upTokens u / 500000 : Nat)) else s) s) s) s

/-- Bytes of frames held for tokens at a boundary, for the Cutter (R314). -/
def State.heldFrames (s : State) : State :=
  s.net.wait.foldl (fun s x => match x.to_ with
    | .uplink u => if s.mayLeave x then s else s.count x.panel (cntHeld (u / 4) 0) (x.data.length + 24)
    | .fabric .. => s) s

end Sys2Proof.Machine
end

