-- ==== Sys2Proof/Machine/OckTable.lean ====
section
/-! DEFINITION. The Ockar opcodes (Tables OCK-7 to OCK-21): target class, roles, latency class, payload length, and
whether the command changes its target. -/

namespace Sys2Proof.Machine

/-- A row of the opcode tables. -/
structure OckRow where
  op    : Nat
  /-- Target classes (Table OCK-2); empty: any. -/
  cls   : List Nat
  /-- Roles of the "By" column: panel software, host manager, operator, peer Thimble. -/
  p     : Bool
  h     : Bool
  o     : Bool
  f     : Bool
  /-- Class bound in stitches (R396). -/
  bound : Nat
  /-- Shortest and longest payload. -/
  lo    : Nat
  hi    : Nat
  query : Bool
  deriving DecidableEq, Repr

def bI : Nat := 1
def bS : Nat := 100
def bL : Nat := 1000000

def row (op : Nat) (cls : List Nat) (by_ : Nat) (bound lo hi : Nat) (query : Bool := false) : OckRow :=
  { op := op, cls := cls, p := bit by_ 0, h := bit by_ 1, o := bit by_ 2, f := bit by_ 3, bound := bound, lo := lo, hi := hi
    query := query }

def byPHO : Nat := 7
def byPH : Nat := 3
def byHO : Nat := 6
def byP : Nat := 1
def byH : Nat := 2
def byO : Nat := 4
def byF : Nat := 8

def cPort : List Nat := [4]
def cThm : List Nat := [0x0A]
def cPan : List Nat := [0x0C]
def cMod : List Nat := [0x0D]
def cNe : List Nat := [6]
def cTu : List Nat := [9]

/-- Tables OCK-7 to OCK-10. -/
def ockRows1 : List OckRow :=
  [ row 0x0101 cMod byPHO bI 0 0 true, row 0x0102 cThm byPHO bI 72 72 true, row 0x0103 [] byPHO bI 0 0 true
  , row 0x0110 cThm byO bI 32 32, row 0x0111 cThm byO bL 2 2, row 0x0112 cThm byO bI 1092 1092
  , row 0x0113 cThm byO bS 3313 3313, row 0x0114 cThm byO bI 0 0, row 0x0115 cThm byHO bI 1960 1960
  , row 0x0116 cThm byHO bS 0 3445
  , row 0x0201 cPan byH bL 64 64, row 0x0202 cPan byH bL 16 16, row 0x0203 cPan byHO bI 0 0, row 0x0204 cPan byHO bI 0 0
  , row 0x0205 cPan byHO bS 0 0, row 0x0206 cPan byHO bS 0 0, row 0x0207 cPan byPHO bI 0 0 true
  , row 0x0208 cPan byH bS 13 13, row 0x0209 cPan byH bS 4 4, row 0x0220 cPan byF bI 5 5
  , row 0x0301 cPan byH bI 64 64, row 0x0302 cPan byPHO bI 0 0 true, row 0x0303 [1] byH bI 4 4, row 0x0304 [7] byHO bI 4 4 true ]

def ockRows2 : List OckRow :=
  [ row 0x0401 cPan byH bS 8 8, row 0x0402 cPan byH bS 12 12, row 0x0403 cMod byHO bI 10 10 true
  , row 0x0404 cPan byH bL 13 13, row 0x0405 cPan byH bS 0 0, row 0x0406 cMod byH bS 12 12, row 0x0407 [2] byH bS 1 1
  , row 0x0408 [2] byH bS 1 1, row 0x0409 cMod byHO bI 1 1, row 0x040A cMod byHO bI 4 4, row 0x040B cMod byH bS 12 12
  , row 0x040C [3] byHO bI 4 4 true, row 0x040D [3] byHO bI 1 1, row 0x040E [5] byH bS 6 6, row 0x040F [5] byH bI 5 5
  , row 0x0501 cPan byH bS 96 96, row 0x0502 cPan byH bS 2 2, row 0x0503 cPan byPHO bI 2 2 true, row 0x0504 cNe byH bI 15 15
  , row 0x0505 cNe byPH bI 48 48, row 0x0506 cNe byPH bI 4 4, row 0x0507 cNe byPHO bI 4 4 true, row 0x0508 cNe byPH bI 12 12
  , row 0x0509 cNe byH bI 136 136 ]

def ockRows3 : List OckRow :=
  [ row 0x050A cPan byH bS 12 12, row 0x050B cPan byPH bS 32 32, row 0x050C cPan byPH bS 2 2, row 0x050D cPort byHO bL 6 6
  , row 0x050E cNe byH bI 32 32, row 0x050F cNe byH bI 7 7
  , row 0x0601 cMod byHO bS 16 16, row 0x0602 cPort byHO bL 4 4, row 0x0603 cPan byPH bS 9 9, row 0x0604 cPan byPH bS 4 4
  , row 0x0605 cPan byH bI 5 5, row 0x0606 cPan byH bI 6 6, row 0x0607 cPan byPH bI 1 1, row 0x0608 cMod byHO bI 2 2 true
  , row 0x0701 cTu byHO bI 4 4, row 0x0702 cTu byHO bI 12 12, row 0x0703 cTu byHO bS 12 12, row 0x0704 cTu byHO bI 4 4
  , row 0x0705 cTu byHO bI 4 4, row 0x0706 cTu byPHO bI 0 0 true
  , row 0x0801 [8] byPHO bI 16 16 true, row 0x0802 [8] byPHO bI 16 16 true ]

def ockRows4 : List OckRow :=
  [ row 0x0901 cPan byPHO bL 129 129 true, row 0x0902 cPan byP bI 0 0 true, row 0x0903 cPan byP bS 1096 1096
  , row 0x0A01 cThm byHO bL 8 8, row 0x0A02 cThm byHO bL 33 4064, row 0x0A03 cThm byHO bL 1 1, row 0x0A04 cThm byHO bS 1 1
  , row 0x0A05 cThm byHO bI 1 1, row 0x0A06 cThm byHO bL 1 1, row 0x0A07 cThm byHO bI 0 0 true, row 0x0A08 cThm byO bS 0 0
  , row 0x0A09 cThm byHO bS 0 3445
  , row 0x0B01 cMod byHO bI 3 3, row 0x0B02 cMod byHO bI 2 2
  , row 0x0C01 cMod byHO bI 9 9 true, row 0x0C02 cPan byPH bI 9 9 true, row 0x0C03 cMod byHO bI 4 4 true
  , row 0x0C04 [1, 2, 3, 4, 5, 6, 7, 8, 9, 0x0A, 0x0B] byHO bS 1 1, row 0x0D01 cMod byHO bI 6 6 true
  , row 0x0E01 cThm byHO bI 0 0, row 0x0E02 cThm byHO bS 3445 3445, row 0x0E03 cPan byP bI 32 32, row 0x0E04 cThm byHO bI 32 32
  , row 0x0E05 cThm byHO bS 0 3445, row 0x0F01 cMod byHO bI 2 2 true ]

def ockRows : List OckRow := ockRows1 ++ ockRows2 ++ ockRows3 ++ ockRows4

def ockRow (op : Nat) : Option OckRow := ockRows.find? fun r => r.op == op

/-- The number of units of a class (Table OCK-2). -/
def unitCount (cls : Nat) : Nat :=
  match cls with
  | 1 => 192 | 2 => 192 | 3 => 24 | 4 => 8 | 5 => 16 | 0x0B => 4 | 0x0C => 512
  | 6 => 1 | 7 => 1 | 8 => 1 | 9 => 1 | 0x0A => 1 | 0x0D => 1
  | _ => 0

end Sys2Proof.Machine
end

