-- ==== Sys2Proof/Machine/OckBase.lean ====
section
/-! DEFINITION. The Ockar protocol (R380–R401): packets and their checks, transports' reply paths, mailbox slots, and
how a taken request is started, answered at once, or answered later. -/

namespace Sys2Proof.Machine

/-! ### Packets (Table OCK-1) -/

def stOk : Nat := 0
def stBusy : Nat := 1
def stPending : Nat := 2
def stBadOpcode : Nat := 0x10
def stBadParam : Nat := 0x11
def stBadLength : Nat := 0x12
def stDenied : Nat := 0x20
def stNotOwner : Nat := 0x21
def stClaimed : Nat := 0x22
def stNoResource : Nat := 0x30
def stConflict : Nat := 0x40
def stStateConflict : Nat := 0x40
def stStale : Nat := 0x41
def stTimeout : Nat := 0x50
def stFaulted : Nat := 0x60
def stInternal : Nat := 0xFF

/-- A packet's header and payload with its CRC (Table OCK-1). -/
def mkPacket (flags op seq requester target status stitch : Nat) (payload : List Byte) : List Byte :=
  let h := leBytes 1 1 ++ leBytes 1 flags ++ leBytes 2 op ++ leBytes 4 seq ++ leBytes 4 requester ++ leBytes 4 target
    ++ leBytes 2 payload.length ++ leBytes 2 status ++ leBytes 8 stitch
  h ++ leBytes 4 (crc32c (h ++ payload)).toNat ++ payload

/-- The refusal payload (R383): OFFSET and DETAIL. -/
def refusal (off detail : Nat) : List Byte := leBytes 2 off ++ leBytes 2 detail
def noOff : Nat := 0xFFFF

def hdFlags (h : List Byte) : Nat := field h 1 1
def hdOp (h : List Byte) : Nat := field h 2 2
def hdSeq (h : List Byte) : Nat := field h 4 4
def hdRequester (h : List Byte) : Nat := field h 8 4
def hdTarget (h : List Byte) : Nat := field h 12 4
def hdLength (h : List Byte) : Nat := field h 16 2
def hdStitch (h : List Byte) : Nat := field h 20 8

def OckReq.op (q : OckReq) : Nat := hdOp q.head
def OckReq.target (q : OckReq) : Nat := hdTarget q.head
def OckReq.tcls (q : OckReq) : Nat := bits q.target 31 24
def OckReq.tidx (q : OckReq) : Nat := bits q.target 11 0
/-- The target as a unit ID with MODULE zero. -/
def OckReq.unit (q : OckReq) : Nat := unitId q.tcls q.tidx
/-- A field of the payload. -/
def OckReq.f (q : OckReq) (off n : Nat) : Nat := field q.payload off n
/-- The offset of a payload byte, counted from header byte 0 (R383). -/
def po (off : Nat) : Nat := 32 + off

/-- The panel whose mailbox sent the request. -/
def OckReq.panel (q : OckReq) : Option Nat := match q.via with
  | .mailbox p _ _ => if hdRequester q.head < 2 ^ 31 then some p else none
  | _ => none
def OckReq.isHost (q : OckReq) : Bool := q.panel == some 0
def OckReq.isPanel (q : OckReq) : Bool := q.panel.isSome
/-- The requester is panel software (not the host manager, whose mailbox is panel 0's). -/
def OckReq.tenant (q : OckReq) : Option Nat := if q.isHost then none else q.panel
def OckReq.session (q : OckReq) : Option Nat := match q.via with
  | .mailbox _ _ sid => sid
  | .i3c sid => sid
  | .weft _ _ sid => sid
/-- The request is an operator's: of a session, or one the manual serves without one (R391). -/
def OckReq.isOperator (q : OckReq) : Bool := decide (2 ^ 31 ≤ hdRequester q.head)
def OckReq.isPeer (q : OckReq) : Bool := match q.via with
  | .weft _ _ _ => decide (hdRequester q.head < 2 ^ 31)
  | _ => false

/-- Whether two requests come from one requester (R397). -/
def sameSender (a b : OckReq) : Bool :=
  match a.via, b.via with
  | .mailbox p _ x, .mailbox q _ y => p == q && x == y
  | .i3c x, .i3c y => x == y
  | .weft m _ x, .weft n _ y => m == n && x == y
  | _, _ => false

/-! ### Replies -/

def State.session (s : State) (sid : Nat) : Option Session := SMap.find s.thm.sessions sid
def State.setSession (s : State) (sid : Nat) (x : Session) : State :=
  { s with thm := { s.thm with sessions := SMap.insert s.thm.sessions sid x } }
def State.dropSession (s : State) (sid : Nat) : State :=
  { s with thm := { s.thm with sessions := SMap.remove s.thm.sessions sid } }

/-- The bytes of a result record in a slot: every other line first, line 0 last (R347). -/
def State.slotBytes (s : State) (p slot : Nat) (bytes : List Byte) : State :=
  let base := s.fld { kind := .mbxPage, i := p } F.mbxPage.GRANULE * 65536 + 0x1000 * (slot + 1)
  [(base + 64, bytes.drop 64), (base, bytes.take 64)].foldl (fun (s : State) (e : Nat × List Byte) => s.homeStore p e.1 e.2) s

/-- The engine writes a result record into a slot, then raises the panel's vector (R347, R388). -/
def State.slotWrite (s : State) (p slot : Nat) (bytes : List Byte) : State :=
  let page : Reg := { kind := .mbxPage, i := p }
  let s := s.slotBytes p slot bytes
  let s := { s with thm := { s.thm with
      mslots := SMap.insert s.thm.mslots (p * 8 + slot) { busy := false, seq := hdSeq bytes } } }
  if s.fld page F.mbxPage.VECTOR = 0 then s else s.raise p (s.fld page F.mbxPage.VECTOR)

/-- An Ockar message over I3C (R390, R482): MCTP message type 0x7F with IC = 0, the enterprise number, and the packet; an
IBI says that it is ready. -/
def i3cMessage (pkt : List Byte) : List Byte := (0x7F#8) :: (leBytes 4 Config.enterprise.toNat).reverse ++ pkt
def State.sendI3c (s : State) (pkt : List Byte) : State := (s.emit (.pin .i3cIbi true)).emit (.i3c (i3cMessage pkt))

/-- Send a reply the way its request came (R388, R390, R394); a reply of an open session carries a MAC and is kept,
the last 8 (R391, R393). `mac`: the reply carries one when the session has its keys; one that goes without is not
kept. A request that PENDING has answered gets no other reply (R396). (DEDUCED, log entry 142.) -/
def State.reply (s : State) (q : OckReq) (status stitch : Nat) (payload : List Byte) (mac : Bool := true) : State :=
  if q.answered then s else
  let ses := q.session.bind s.session
  let key := match ses with
    | some x => if mac && x.mrep ≠ [] then some x.mrep else none
    | none => none
  let flags := 1 + (if key.isSome then 4 else 0)
  let pkt := mkPacket flags q.op (hdSeq q.head) (hdRequester q.head) q.target status stitch payload
  let pkt := match key with
    | some k => pkt ++ Config.shake256 (k ++ pkt) 32
    | none => pkt
  let s := match q.session, ses with
    | some sid, some x => if mac then s.setSession sid { x with kept := ((hdSeq q.head, pkt) :: x.kept).take 8 } else s
    | _, _ => s
  match q.via with
  | .mailbox p slot _ => s.slotWrite p slot pkt
  | .i3c _ => s.sendI3c pkt
  | .weft src _ _ => s.ockarCells none src (s.handle 0) pkt

/-- A refusal (R383): its own payload, in the stitch of the refusal (R382). -/
def State.refuseReq (s : State) (q : OckReq) (status off detail : Nat) : State :=
  s.reply q status s.stitch (refusal off detail)

/-! ### Jobs: replies that come later (R396) -/

def State.job (s : State) (id : Nat) : Option Job := s.thm.jobs.find? fun j => j.id == id
def State.dropJob (s : State) (id : Nat) : State :=
  { s with thm := { s.thm with jobs := s.thm.jobs.filter fun j => j.id ≠ id } }
/-- Change the numbers a job works with. -/
def State.setJob (s : State) (id : Nat) (d : List Nat) : State :=
  { s with thm := { s.thm with jobs := s.thm.jobs.map fun j => if j.id = id then { j with data := d } else j } }

/-- A command ends: its reply goes out. -/
def State.endJob (s : State) (id status stitch : Nat) (payload : List Byte) : State :=
  match s.job id with
  | none => s
  | some j =>
    (s.dropJob id).reply j.q status stitch payload
/-- A command ends done, with the boundary at which its effect began (R382). -/
def State.finish (s : State) (id : Nat) (payload : List Byte) : State :=
  match s.job id with
  | some j => s.endJob id stOk j.start payload
  | none => s
def State.endCmd (s : State) (cmd : Option Nat) (status stitch : Nat) (payload : List Byte) : State :=
  match cmd with
  | some id => s.endJob id status stitch payload
  | none => s
/-- A command ends in a refusal after all. -/
def State.failCmd (s : State) (cmd : Option Nat) (status off detail : Nat) : State :=
  s.endCmd cmd status s.stitch (refusal off detail)

def Job.op (j : Job) : Nat := hdOp j.q.head
def Job.arg (j : Job) (i : Nat) : Nat := j.data.getD i 0
/-- The oldest running command of an opcode. -/
def State.jobOf (s : State) (op : Nat) (p : Job → Bool) : Option Job := s.thm.jobs.find? fun j => j.op == op && p j

/-! ### Checks (R385) -/

/-- What a request comes to. -/
inductive Ans where
  /-- Done: the reply's payload. -/
  | ok (payload : List Byte)
  /-- Refused: status, OFFSET, DETAIL. -/
  | no (status off detail : Nat)
  /-- Started: the numbers the command works with; its reply comes later. -/
  | later (data : List Nat)
  /-- Accepted; the work goes on past the bound (PENDING). -/
  | pending
  /-- The command has answered by itself. -/
  | done
  deriving DecidableEq, Repr

/-- A command that changes the unit is running on it (R397). -/
def State.unitBusy (s : State) (target : Nat) : Bool :=
  s.thm.jobs.any fun j =>
    j.q.unit == target && (match ockRow j.q.op with
      | some r => !r.query
      | none => false)

def isLifecycle (op : Nat) : Bool := decide (0x0201 ≤ op) && decide (op ≤ 0x0206)

/-- Checks 7 and 8 of R385 for the target: its unit, the requester's role, and a panel that is not panel software's own. -/
def State.whoCheck (s : State) (r : OckRow) (q : OckReq) : Option (Nat × Nat × Nat) :=
  let moduleOk := bits q.target 23 12 == (if bit (hdFlags q.head) 1 then s.myId else 0)
  if unitCount q.tcls ≤ q.tidx ∨ !moduleOk ∨ (r.cls ≠ [] ∧ q.tcls ∉ r.cls) then some (stBadParam, 12, 0)
  else if !((r.p && q.isPanel && (q.tcls ≠ 0x0C || !q.isHost || q.tidx == 0)) || (r.h && q.isHost) || (r.o && q.isOperator) || (r.f && q.isPeer)) then
    some (stDenied, noOff, 0)
  else if q.tcls = 0x0C ∧ q.isPanel ∧ !q.isHost ∧ q.panel ≠ some q.tidx then some (stNotOwner, 12, 0)
  else none

/-- Check 8 of R385 for what the payload names: the OFFSET of the first virtual port, bobbin, meter, granule or flow entry that is not
panel software's own. -/
def State.foreign (s : State) (op : Nat) (q : OckReq) : Option Nat :=
  match (if op = 0x0903 then q.panel else q.tenant) with
  | none => none
  | some p =>
    let bad := fun (off n lim : Nat) (own : Nat → Bool) =>
      if off + n ≤ q.payload.length ∧ q.f off n < lim ∧ !own (q.f off n) then [off] else []
    let vp := fun (v : Nat) => s.vpUp v && s.vpPanel v == p
    let meter := fun (m : Nat) => (s.meter m).panel == p
    let bob := fun (b : Nat) => s.flag (bctlR b) F.neBctl.EN && s.bobPanel b == p
    let flow := fun (i : Nat) => s.net.flows.any fun e => e.index == i && s.vpPanel (field e.key 38 2) == p
    let memory := fun (off n : Nat) => bad off 8 (2 ^ 64) fun a => (granulesIn a n).all (s.ownsGranule p)
    let b := q.f 0 2
    let act := q.f 40 1
    (match op with
      | 0x0503 => bad 0 2 4096 vp
      | 0x0505 => bad 38 2 4096 vp ++ (if faRate act then bad 44 2 4096 meter else []) ++
          (if faSteer act ∧ q.f 37 1 = 1 then bad 42 2 16384 bob else [])
      | 0x0506 | 0x0507 => bad 0 4 65536 flow
      | 0x0508 => bad 0 2 4096 meter
      | 0x050B => bad 0 2 16384 bob ++ memory 8 (32 * s.sqSize b) ++ memory 16 (16 * s.rqSize b) ++ memory 24 (32 * s.cqSize b)
      | 0x050C => bad 0 2 16384 bob
      | 0x0603 => memory 0 1
      | 0x0903 => memory 1088 1
      | _ => []).head?

/-- Checks 7 to 10 of R385, but for what the payload names, with R397, R400 and R401: none where the request may start; else the
refusal. -/
def State.preCheck (s : State) (r : OckRow) (q : OckReq) : Option (Nat × Nat × Nat) :=
  if let some x := s.whoCheck r q then some x
  else if hdStitch q.head ≠ 0 ∧ hdStitch q.head < q.at_ then some (stTimeout, noOff, 0)
  else if q.payload.length < r.lo ∨ r.hi < q.payload.length then some (stBadLength, 16, 0)
  else if q.unit ∈ s.thm.recon ∧ r.query then some (stStale, noOff, 0)
  else if s.unitOut q.tcls q.tidx ∧ !r.query ∧ q.op ≠ 0x0C04 then some (stFaulted, noOff, 0)
  else if !r.query ∧ s.unitBusy q.unit ∧ !isLifecycle q.op then some (stBusy, noOff, 0)
  else none

/-- A non-zero byte outside the ranges a layout names (R383): the OFFSET of the first. -/
def OckReq.stray (q : OckReq) (named : List (Nat × Nat)) : Option Nat :=
  ((List.range q.payload.length).find? fun i =>
    q.payload.getD i 0 ≠ 0 && !named.any fun r => decide (r.1 ≤ i) && decide (i < r.1 + r.2)).map po

/-- The request of an opcode that starts next (R397): the first taken one that no earlier request of the same
requester or to the same unit is ahead of. A change to a unit under reconciliation waits (R401). -/
def nextReq (op : Nat) (recon : List Nat) : List OckReq → List OckReq → Option OckReq
  | _, [] => none
  | before, q :: rest =>
    let waits := match ockRow op with
      | some r => !r.query && decide (q.unit ∈ recon)
      | none => false
    if q.op = op ∧ !before.any (fun b => sameSender b q || b.unit == q.unit) ∧ !waits then some q
    else nextReq op recon (before ++ [q]) rest

/-- Run a command (R385, R397): the request taken off the list, checked, and started. `named` are the payload ranges
its layout names; `f` carries out checks 11 and the command. (DESIGN CHOICE, log entry 76.) -/
def State.ockar (s : State) (op : Nat) (named : List (Nat × Nat)) (f : OckReq → State → State × Ans) : State :=
  match nextReq op s.thm.recon [] s.thm.taken, ockRow op with
  | some q, some r =>
    let s := { s with thm := { s.thm with taken := s.thm.taken.erase q } }
    let foreign := (s.foreign op q).map fun off => (stNotOwner, po off, 0)
    match ((s.whoCheck r q).or foreign).or (s.preCheck r q) with
    | some (st, off, d) => s.refuseReq q st off d
    | none =>
      match q.stray named with
      | some off => s.refuseReq q stBadParam off 0
      | none =>
        match f q s with
        | (t, .ok p) => t.reply q stOk t.stitch p
        | (_, .no st off d) => s.refuseReq q st off d
        | (t, .later d) =>
          { t with thm := { t.thm with jobs := t.thm.jobs ++ [{ id := t.thm.nextJob, q := q, data := d, start := t.stitch }]
                                       nextJob := t.thm.nextJob + 1 } }
        | (t, .pending) => t.reply q stPending t.stitch []
        | (t, .done) => t
  | _, _ => s

/-- The job number a command gets that answers later. -/
def State.jobId (s : State) : Option Nat := some s.thm.nextJob

/-! ### Transports: the first six checks of R385, and R387, R389, R391–R394 -/

/-- Checks 1 to 3. -/
def badPacket (pkt : List Byte) : Option (Nat × Nat) :=
  let h := pkt.take 32
  let n := hdLength h
  let payload := (pkt.drop 32).take n
  let want := 32 + n + (if bit (hdFlags h) 2 then 32 else 0)
  if pkt.length < 32 ∨ 4064 < n ∨ pkt.length < want then some (stBadLength, 16)
  else if field h 28 4 ≠ (crc32c (h.take 28 ++ payload)).toNat then some (stBadParam, 28)
  else if field h 0 1 ≠ 1 then some (stBadParam, 0)
  else if bit (hdFlags h) 0 ∨ 8 ≤ hdFlags h then some (stBadParam, 1)
  else if field h 18 2 ≠ 0 then some (stBadParam, 18)
  else none

/-- Opcodes served without a session (R391, R379): INFO, CERT_FETCH, the set-up steps, KEY_STAGE, and OPKEY_REGISTER
for a first registration. -/
def State.openOp (s : State) (op len : Nat) : Bool :=
  op == 0x0101 || op == 0x0102 || op == 0x0110 || op == 0x0111 || op == 0x0112 || op == 0x0115 ||
  (op == 0x0116 && len == 0)

/-- Opcodes of recovery (R379). -/
def recoveryOp (op : Nat) : Bool :=
  op == 0x0101 || op == 0x0102 || op == 0x0103 || op == 0x0F01 ||
  (decide (0x0A01 ≤ op) && decide (op ≤ 0x0A05))

/-- The opcodes that SAFE_HOLD serves over I3C: INFO, TEST_REPORT, DBG_NONCE, DBG_OPEN, SWATCH_READ (R472). -/
def safeHoldOp (op : Nat) : Bool := op == 0x0101 || op == 0x0F01 || op == 0x0E01 || op == 0x0E02 || op == 0x0D01

def State.safeHold (s : State) : Bool := s.flag { kind := .hubBoot } F.hubBoot.SAFEHOLD

/-- The request as Thimble takes it. -/
def mkReq (via : Via) (now tick : Nat) (pkt : List Byte) : OckReq :=
  let h := pkt.take 32
  let n := hdLength h
  { via := via, head := padTo 32 h, payload := (pkt.drop 32).take n
    mac := if bit (hdFlags h) 2 then (pkt.drop (32 + n)).take 32 else [], at_ := now, tick := tick, answered := false }

/-- The MAC of a request verifies in its session (R393). -/
def Session.macOk (x : Session) (q : OckReq) : Bool :=
  x.mreq ≠ [] && q.mac == Config.shake256 (x.mreq ++ q.head ++ q.payload) 32

/-- A bad MAC: DENIED without a MAC; the third in a row closes the session (R393). -/
def State.badMac (s : State) (q : OckReq) (sid : Nat) (x : Session) : State :=
  let s := s.reply q stDenied s.stitch (refusal noOff 0) false
  if 2 ≤ x.bad then s.dropSession sid
  else match s.session sid with
    | some y => s.setSession sid { y with bad := x.bad + 1 }
    | none => s

/-- Thimble takes a request. -/
def State.take (s : State) (q : OckReq) : State := { s with thm := { s.thm with taken := s.thm.taken ++ [q] } }

/-- Requests of a sender that are outstanding. -/
def State.outstanding (s : State) (q : OckReq) : Nat :=
  (s.thm.taken.filter (sameSender q)).length + (s.thm.jobs.filter fun j => sameSender q j.q).length

/-- The SEQUENCE of a mailbox request is in use: outstanding, or of a reply in a HELD slot (R389). -/
def State.seqInUse (s : State) (p : Nat) (q : OckReq) : Bool :=
  let n := hdSeq q.head
  s.thm.taken.any (fun r => sameSender q r && hdSeq r.head == n) ||
  s.thm.jobs.any (fun j => sameSender q j.q && hdSeq j.q.head == n) ||
  (List.range 8).any fun k =>
    bit (s.fld { kind := .mbxSlot, i := p } F.mbxSlot.HELD) k &&
    (match SMap.find s.thm.mslots (p * 8 + k) with
     | some m => !m.busy && m.seq == n
     | none => false)

/-- Take a request of an open or half-open session (R387, R391). -/
def State.takeInSession (s : State) (q : OckReq) (sid : Nat) (x : Session) : State :=
  let n := hdSeq q.head
  let x := { x with last := if x.step = 4 then s.ticks else x.last, bad := 0 }
  let s := s.setSession sid x
  match x.kept.find? fun k => k.1 == n with
  | some k => match q.via with
    | .mailbox p slot _ => s.slotWrite p slot k.2
    | .i3c _ => s.sendI3c k.2
    | .weft src _ _ => s.ockarCells none src (s.handle 0) k.2
  | none =>
    if x.seq.any fun m => decide (n ≤ m) then s.refuseReq q stStale noOff 0
    else if 8 ≤ s.outstanding q then s.refuseReq q stNoResource noOff 0
    else (s.setSession sid { x with seq := some n }).take q

/-- Forward an operator packet (R394); an unreachable target is WERR UNREACHABLE at once (R246). SRCH names the requester's panel
(R262). -/
def State.forwardReq (s : State) (via : Via) (pkt : List Byte) : State :=
  let m := bits (hdTarget pkt) 23 12
  if (s.wordTo m).isNone then s.refuseReq (mkReq via s.stitch s.ticks pkt) stTimeout noOff 0x01 else
  let t := s.thm.nextTag
  ({ s with thm := { s.thm with
      nextTag := (t + 1) % 65536
      forwards := s.thm.forwards ++ [(t, via, pkt.take 32, s.ticks)] } }).ockarCells
    (some t) m (s.handle (match via with | .mailbox p _ _ => p | _ => 0)) pkt

/-- A packet reaches Thimble. A session that is not open takes its SESSION_AUTH alone, and an operator's packet comes over I3C, from
panel 0's mailbox with FWD, or from the module that passed it on (R381, R391, R394). (DEDUCED, log entry 142.) `srcOk`: the header's REQUESTER names the true source when it is a handle (R381);
`hostSide`: it came over I3C or panel 0's mailbox; `i3c`: over I3C. (DEDUCED, log entry 142.) -/
def State.takePacket (s : State) (mk : Option Nat → Via) (srcOk : Nat → Bool) (hostSide i3c local_ : Bool) (pkt : List Byte) :
    State :=
  let h := padTo 32 pkt
  let req := hdRequester h
  let op := hdOp h
  let oper := decide (2 ^ 31 ≤ req)
  let sid := if oper then some (req % 65536) else none
  let ses := sid.bind s.session
  let via := mk (if ses.isSome then sid else none)
  let q := mkReq via s.stitch s.ticks pkt
  let fwd := bit (hdFlags h) 1
  let mac := bit (hdFlags h) 2
  let operWay := i3c || (hostSide && fwd) || !local_
  let unserved := (ockRow op).isNone || (s.safeHold && !s.thm.recovery && !safeHoldOp op) || (s.thm.recovery && !recoveryOp op)
  match badPacket pkt with
  | some (st, off) => s.refuseReq q st off 0
  | none =>
    if fwd ∧ bits (hdTarget h) 23 12 ≠ s.myId ∧ local_ then
      if hostSide ∧ (mac ∨ (0x0110 ≤ op ∧ op ≤ 0x0113) ∨ op = 0x0101 ∨ op = 0x0102) then s.forwardReq via pkt
      else s.refuseReq q stDenied noOff 0
    else if oper ∧ !mac ∧ (!(s.openOp op (hdLength h) || (s.thm.recovery && recoveryOp op) || (s.safeHold && safeHoldOp op)) ||
        (ses.any fun x => x.step == 4)) then
      s.reply q stDenied s.stitch (refusal noOff 0) false
    else if mac then
      match sid, ses with
      | some sid, some x =>
        if !x.macOk q then s.badMac q sid x
        else if (x.step ≠ 4 ∧ op ≠ 0x0113) ∨ !operWay then s.refuseReq q stDenied noOff 0
        else if unserved then s.refuseReq q stBadOpcode noOff 0
        else s.takeInSession q sid x
      | _, _ => s.reply q stDenied s.stitch (refusal noOff 0) false
    else if !oper && !srcOk req then s.refuseReq q stDenied noOff 0
    else if oper && !operWay then s.refuseReq q stDenied noOff 0
    else if unserved then s.refuseReq q stBadOpcode noOff 0
    else match via with
      | .mailbox p _ none => if s.seqInUse p q then s.refuseReq q stConflict 4 0 else s.take q
      | _ => s.take q

end Sys2Proof.Machine
end

