-- ==== Sys2Proof/Machine/Mailbox.lean ====
section
/-! DEFINITION. The mailboxes (R345–R348, R388, R389): a ring copies a request, Thimble takes it, and results go to
slots that stay held until released. -/

namespace Sys2Proof.Machine

def mbxPageR (p : Nat) : Reg := { kind := .mbxPage, i := p }
def mbxDbR (p : Nat) : Reg := { kind := .mbxDb, i := p }
def mbxSlotR (p : Nat) : Reg := { kind := .mbxSlot, i := p }

def dbIdle : Nat := 0
def dbCopying : Nat := 1
def dbQueued : Nat := 2

/-- STATUS of the last ring, and back to IDLE. -/
def State.ringDone (s : State) (p status : Nat) : State :=
  (s.setFld (mbxDbR p) F.mbxDb.STATUS status).setFld (mbxDbR p) F.mbxDb.STATE dbIdle

/-- The mailbox page may be read and written for the panel (R346, R218). -/
def State.pageOk (s : State) (p : Nat) : Bool :=
  let e := s.potFor 192 (s.fld (mbxPageR p) F.mbxPage.GRANULE)
  potKind e == kOwned && potPanel e == p && potR e && potW e

/-- The placeholder of a reserved slot (R388). -/
def State.placeholder (s : State) (p slot : Nat) : State :=
  let seq := match SMap.find s.thm.mslots (p * 8 + slot) with
    | some m => m.seq
    | none => 0
  let base := s.fld (mbxPageR p) F.mbxPage.GRANULE * 65536 + 0x1000 * (slot + 1)
  let pkt := mkPacket 1 0 seq (s.handle p) 0 stBusy s.stitch (refusal noOff 0)
  let s := s.homeStore p base pkt
  { s with thm := { s.thm with mslots := SMap.insert s.thm.mslots (p * 8 + slot) { busy := true, seq := seq } } }

def State.engine (s : State) (m : Nat) : List (Nat × Nat × List Byte) := SMap.get (fun _ => []) s.thm.engines m
def State.setEngine (s : State) (m : Nat) (l : List (Nat × Nat × List Byte)) : State :=
  { s with thm := { s.thm with engines := SMap.put (fun _ => []) s.thm.engines m l } }

/-- A ring of MBX.DB (R345, R346): ignored unless the mailbox is in service and IDLE. -/
def State.ring (s : State) (p : Nat) : State :=
  if !s.flag (mbxPageR p) F.mbxPage.EN || s.fld (mbxDbR p) F.mbxDb.STATE ≠ dbIdle then s else
  let held := s.fld (mbxSlotR p) F.mbxSlot.HELD
  match (List.range 8).find? fun k => !bit held k with
  | none => s.ringDone p stNoResource
  | some slot =>
    if !s.pageOk p then s.ringDone p stDenied else
    let s := s.setFld (mbxSlotR p) F.mbxSlot.HELD (held + 2 ^ slot)
    let s := s.setFld (mbxDbR p) F.mbxDb.SLOT slot
    let s := s.placeholder p slot
    let pkt := s.bytes (s.fld (mbxPageR p) F.mbxPage.GRANULE * 65536) 4096
    let l := s.engine (p % 64)
    let s := s.setFld (mbxDbR p) F.mbxDb.STATE (if l = [] then dbQueued else dbCopying)
    s.setEngine (p % 64) (l ++ [(p, slot, pkt)])

/-- Panel software releases slots (R347): a slot whose result has not been written stays held. -/
def State.releaseSlots (s : State) (p mask : Nat) : State :=
  let held := s.fld (mbxSlotR p) F.mbxSlot.HELD
  let busy := fun (k : Nat) => match SMap.find s.thm.mslots (p * 8 + k) with
    | some m => m.busy
    | none => false
  let keep := (List.range 8).foldl (fun (m : Nat) k =>
    if bit held k && (!bit mask k || busy k) then m + 2 ^ k else m) 0
  s.setFld (mbxSlotR p) F.mbxSlot.HELD keep

/-- MBX_DB_RING (R345, R346): panel `p` rings its doorbell. (DESIGN CHOICE, log entry 75.) -/
def execMbxDbRing (p : Panel) (s : State) : Host.Outcome State Fault Refusal := .next (s.ring p.val)

/-- MBX_SLOT (R347): a write to MBX.SLOT. -/
def execMbxSlot (p : Panel) (mask : Byte) (s : State) : Host.Outcome State Fault Refusal :=
  .next (s.releaseSlots p.val mask.toNat)

/-- The panel an engine serves after `p` (R346): engine 0 serves panel 0 first; else round robin. -/
def nextServed (m p : Nat) (l : List (Nat × Nat × List Byte)) : Option (Nat × Nat × List Byte) :=
  match (if m = 0 then l.find? fun e => e.1 == 0 else none) with
  | some e => some e
  | none =>
    let sorted := sortBy (fun (a b : Nat × Nat × List Byte) => decide (a.1 < b.1)) l
    match sorted.find? fun e => decide (p < e.1) with
    | some e => some e
    | none => sorted.head?

/-- Take the request of a mailbox engine: the engine is free, STATE is IDLE and STATUS PENDING; Thimble checks it
(R346, R385). -/
def State.mbtake (s : State) (m : Nat) : State :=
  match s.engine m with
  | [] => s
  | (p, slot, pkt) :: rest =>
    let s := s.ringDone p stPending
    let s := match nextServed m p rest with
      | none => s.setEngine m []
      | some e => (s.setEngine m (e :: rest.erase e)).setFld (mbxDbR e.1) F.mbxDb.STATE dbQueued
    s.takePacket (Via.mailbox p slot) (fun h => h == s.handle p) (p == 0) false true pkt

/-- MBTAKE (R346): Thimble writes the number of an engine whose request it has copied.
(DESIGN CHOICE, log entry 75; DESIGN CHOICE, log entry 76.) -/
def execMbtake (m : Fin 64) (s : State) : Host.Outcome State Fault Refusal := .next (s.mbtake m.val)

/-- MBDONE (R347, Table THM-3): the engine delivers LENGTH bytes of its result buffer into the named slot; a LENGTH of
0 or above 4,096 or a non-zero reserved bit has no effect, nor has a slot that is not reserved. -/
def State.mbdone (s : State) (v : Nat) : State :=
  let p := bits v 8 0
  let slot := bits v 11 9
  let n := bits v 31 19
  if n = 0 ∨ 4096 < n ∨ bits v 18 12 ≠ 0 then s
  else if !(match SMap.find s.thm.mslots (p * 8 + slot) with
      | some m => m.busy
      | none => false) then s
  else s.slotWrite p slot (s.bytes (mbWindow (p % 64) + 0x1000) n)

def execMbdone (v : BitVec 32) (s : State) : Host.Outcome State Fault Refusal := .next (s.mbdone v.toNat)

/-- Panel reset and teardown discard the panel's queued request and clear HELD (Table THM-8, Table OCK-6). -/
def State.mailboxClear (s : State) (p : Nat) : State :=
  let m := p % 64
  let l := s.engine m
  let first := l.head?
  let l' := l.filter fun e => e.1 ≠ p
  let s := s.setEngine m l'
  let s := match l'.head? with
    | some e => if some e = first then s else s.setFld (mbxDbR e.1) F.mbxDb.STATE dbQueued
    | none => s
  let s := (s.wr (mbxSlotR p) 0).wr (mbxDbR p) 0
  let mine := fun (q : OckReq) => q.panel == some p
  { s with thm := { s.thm with
      mslots := s.thm.mslots.filter fun e => e.1 / 8 ≠ p
      taken := s.thm.taken.filter fun q => !mine q
      jobs := s.thm.jobs.map fun j => if mine j.q then { j with q := { j.q with answered := true } } else j } }

end Sys2Proof.Machine
end

