-- ==== Sys2Proof/Machine/Flags.lean ====
section
/-! DEFINITION. Floating-point results and the FFLAGS each gives (R79): IEEE 754-2019 arithmetic on
bit patterns, computed exactly on integers and rounded once. -/

namespace Sys2Proof.Machine

/-- A binary interchange format: exponent bits and fraction bits. -/
structure FFmt where
  eb : Nat
  mb : Nat
  deriving DecidableEq, Repr

/-- The format of a VFP width code (R78): 01 binary16, 10 binary32, 11 binary64. -/
def fmtOf : Nat → FFmt
  | 1 => ⟨5, 10⟩
  | 2 => ⟨8, 23⟩
  | _ => ⟨11, 52⟩

/-- FFLAGS in STATUS order (Table ISA-10): IV, ZD, OV, UN, IX from bit 0. -/
def flIV : Nat := 1
def flZD : Nat := 2
def flOV : Nat := 4
def flUN : Nat := 8
def flIX : Nat := 16

def FFmt.width (f : FFmt) : Nat := 1 + f.eb + f.mb
def FFmt.bias (f : FFmt) : Int := 2 ^ (f.eb - 1) - 1
/-- The least exponent of a normal number. -/
def FFmt.emin (f : FFmt) : Int := 1 - f.bias
def FFmt.infBits (f : FFmt) : Nat := (2 ^ f.eb - 1) * 2 ^ f.mb
def FFmt.signBit (f : FFmt) (s : Bool) : Nat := if s then 2 ^ (f.eb + f.mb) else 0
def FFmt.frac (f : FFmt) (x : Nat) : Nat := x % 2 ^ f.mb
def FFmt.expf (f : FFmt) (x : Nat) : Nat := x / 2 ^ f.mb % 2 ^ f.eb
def FFmt.sign (f : FFmt) (x : Nat) : Bool := x.testBit (f.eb + f.mb)
def FFmt.isNaN (f : FFmt) (x : Nat) : Bool := f.expf x == 2 ^ f.eb - 1 && f.frac x != 0
def FFmt.isSNaN (f : FFmt) (x : Nat) : Bool := f.isNaN x && !x.testBit (f.mb - 1)
def FFmt.isInf (f : FFmt) (x : Nat) : Bool := f.expf x == 2 ^ f.eb - 1 && f.frac x == 0
def FFmt.isZero (f : FFmt) (x : Nat) : Bool := f.expf x == 0 && f.frac x == 0
/-- The integer significand of a finite number. -/
def FFmt.mant (f : FFmt) (x : Nat) : Nat :=
  if f.expf x = 0 then f.frac x else 2 ^ f.mb + f.frac x
/-- The exponent of the significand's last place. -/
def FFmt.expo (f : FFmt) (x : Nat) : Int :=
  f.emin - f.mb + (if f.expf x = 0 then (0 : Int) else (f.expf x : Int) - 1)
/-- The invalid operation's result on operands that hold no NaN (R79). -/
def FFmt.defNaN (f : FFmt) : Nat := 2 ^ f.width - 1
def FFmt.quiet (f : FFmt) (x : Nat) : Nat := x ||| 2 ^ (f.mb - 1)
def FFmt.inf (f : FFmt) (s : Bool) : Nat := f.signBit s + f.infBits
def FFmt.zero (f : FFmt) (s : Bool) : Nat := f.signBit s

/-- Drop `d` low bits of a magnitude under a rounding mode (FRM): the rounded value and inexactness. -/
def roundShift (mode : Nat) (neg : Bool) (m d : Nat) : Nat × Bool :=
  if d = 0 then (m, false) else
  let q := m >>> d
  let r := m % 2 ^ d
  let half := 2 ^ (d - 1)
  let up := match mode with
    | 0 => decide (half < r) || (r == half && q % 2 == 1)
    | 1 => decide (0 < r) && !neg
    | 2 => decide (0 < r) && neg
    | 3 => false
    | _ => decide (half ≤ r)
  (if up then q + 1 else q, r != 0)

/-- The nearest representable number to ±m·2^e under the rounding mode, with its flags. (DESIGN CHOICE, log entry 17.) -/
def roundPack (f : FFmt) (mode : Nat) (neg : Bool) (m : Nat) (e : Int) : Nat × Nat :=
  if m = 0 then (f.zero neg, 0) else
  let top : Int := e + Nat.log2 m
  let q : Int := max (top - f.mb) (f.emin - f.mb)
  let (n, ix) := if q ≤ e then (m <<< (e - q).toNat, false) else roundShift mode neg m (q - e).toNat
  let packed := (q + f.mb - f.emin).toNat * 2 ^ f.mb + n
  if f.infBits ≤ packed then
    let toInf := match mode with
      | 1 => !neg
      | 2 => neg
      | 3 => false
      | _ => true
    (f.signBit neg + (if toInf then f.infBits else f.infBits - 1), flOV + flIX)
  else
    let qu : Int := top - f.mb
    let nu := if qu ≤ e then m <<< (e - qu).toNat else (roundShift mode neg m (qu - e).toNat).1
    let tinyAfter := decide (top < f.emin) && !(decide (top + 1 = f.emin) && nu == 2 ^ (f.mb + 1))
    let tiny := if Config.tininessAfterRounding then tinyAfter else decide (top < f.emin)
    (f.signBit neg + packed,
      (if ix then flIX else 0) + (if ix && tiny then flUN else 0))

/-- The NaN rule of R79: the first NaN among the operands, quieted, and IV for a signalling one. -/
def nanOf (f : FFmt) (ops : List Nat) : Option (Nat × Nat) :=
  match ops.find? f.isNaN with
  | none => none
  | some x => some (f.quiet x, if ops.any f.isSNaN then flIV else 0)

/-- The exact signed sum of two scaled magnitudes, with the sign of an exact zero. -/
def addExact (mode : Nat) (s1 : Bool) (m1 : Nat) (e1 : Int) (s2 : Bool) (m2 : Nat) (e2 : Int) :
    Bool × Nat × Int :=
  let e := min e1 e2
  let a : Int := (m1 <<< (e1 - e).toNat : Nat)
  let b : Int := (m2 <<< (e2 - e).toNat : Nat)
  let r : Int := (if s1 then -a else a) + (if s2 then -b else b)
  if r = 0 then ((if s1 == s2 then s1 else mode == 2), 0, e)
  else (decide (r < 0), r.natAbs, e)

/-- −x for an operand already known not to be a NaN. -/
def FFmt.neg (f : FFmt) (x : Nat) : Nat :=
  if f.sign x then x - f.signBit true else x + f.signBit true

/-- a + b (VFADD; VFSUB passes the negated second operand as `b` and the operand itself for NaNs). -/
def fAddCore (f : FFmt) (mode a b : Nat) : Nat × Nat :=
  if f.isInf a then
    if f.isInf b && (f.sign a != f.sign b) then (f.defNaN, flIV) else (a, 0)
  else if f.isInf b then (b, 0)
  else
    let (s, m, e) := addExact mode (f.sign a) (f.mant a) (f.expo a) (f.sign b) (f.mant b) (f.expo b)
    roundPack f mode s m e

def fAdd (f : FFmt) (mode a b : Nat) : Nat × Nat :=
  (nanOf f [a, b]).getD (fAddCore f mode a b)

def fSub (f : FFmt) (mode a b : Nat) : Nat × Nat :=
  (nanOf f [a, b]).getD (fAddCore f mode a (f.neg b))

def fMul (f : FFmt) (mode a b : Nat) : Nat × Nat :=
  (nanOf f [a, b]).getD <|
    let s := f.sign a != f.sign b
    if f.isInf a || f.isInf b then
      if f.isZero a || f.isZero b then (f.defNaN, flIV) else (f.inf s, 0)
    else roundPack f mode s (f.mant a * f.mant b) (f.expo a + f.expo b)

/-- Division: the quotient is formed with enough places below the last and a sticky bit. -/
def fDiv (f : FFmt) (mode a b : Nat) : Nat × Nat :=
  (nanOf f [a, b]).getD <|
    let s := f.sign a != f.sign b
    if f.isInf a then (if f.isInf b then (f.defNaN, flIV) else (f.inf s, 0))
    else if f.isInf b then (f.zero s, 0)
    else if f.isZero b then (if f.isZero a then (f.defNaN, flIV) else (f.inf s, flZD))
    else
      let k := 2 * f.mb + 4
      let n := f.mant a <<< k
      let q := n / f.mant b
      let st := if n % f.mant b = 0 then 0 else 1
      roundPack f mode s (2 * q + st) (f.expo a - f.expo b - k - 1)

/-- The integer square root by binary digits from bit `i` down. -/
def isqrtFrom (n : Nat) : Nat → Nat → Nat
  | 0, r => r
  | i + 1, r =>
    let c := r + 2 ^ i
    isqrtFrom n i (if c * c ≤ n then c else r)

def fSqrt (f : FFmt) (mode a : Nat) : Nat × Nat :=
  (nanOf f [a]).getD <|
    if f.isZero a then (a, 0)
    else if f.sign a then (f.defNaN, flIV)
    else if f.isInf a then (a, 0)
    else
      let odd : Nat := (f.expo a % 2).toNat
      let k := f.mb + 4
      let n := f.mant a <<< (2 * k + odd)
      let r := isqrtFrom n (f.mb + k + 2) 0
      let st := if r * r = n then 0 else 1
      roundPack f mode false (2 * r + st) ((f.expo a - odd) / 2 - k - 1)

/-- ±(a × b) ± c rounded once (VFMA, VFMS, VFNMA). (DESIGN CHOICE, log entry 17.) -/
def fFma (f : FFmt) (mode : Nat) (negProd negAdd : Bool) (a b c : Nat) : Nat × Nat :=
  let infZero := (f.isInf a && f.isZero b) || (f.isZero a && f.isInf b)
  match nanOf f [a, b, c] with
  | some (x, fl) => (x, if infZero && Config.fmaInfZeroNaNInvalid then flIV else fl)
  | none =>
    let sp := (f.sign a != f.sign b) != negProd
    let sc := f.sign c != negAdd
    if infZero then (f.defNaN, flIV)
    else if f.isInf a || f.isInf b then
      if f.isInf c && sc != sp then (f.defNaN, flIV) else (f.inf sp, 0)
    else if f.isInf c then (f.inf sc, 0)
    else
      let (s, m, e) := addExact mode sp (f.mant a * f.mant b) (f.expo a + f.expo b)
        sc (f.mant c) (f.expo c)
      roundPack f mode s m e

/-- A total order key of non-NaN patterns in which −0 is below +0. -/
def FFmt.key (f : FFmt) (x : Nat) : Int :=
  if f.sign x then - ((x - f.signBit true : Nat) : Int) - 1 else x

/-- Minimum and maximum: a NaN operand is propagated (R79), −0 is below +0. -/
def fMin (f : FFmt) (a b : Nat) : Nat × Nat :=
  (nanOf f [a, b]).getD (if f.key b < f.key a then b else a, 0)

def fMax (f : FFmt) (a b : Nat) : Nat × Nat :=
  (nanOf f [a, b]).getD (if f.key a < f.key b then b else a, 0)

/-- The numeric value as an integer key in which both zeros agree. -/
def FFmt.cmpKey (f : FFmt) (x : Nat) : Int := if f.isZero x then 0 else
  if f.sign x then - ((x - f.signBit true : Nat) : Int) else x

/-- VFCMPEQ: quiet, so only a signalling NaN sets IV. (DESIGN CHOICE, log entry 113.) -/
def fCmpEq (f : FFmt) (a b : Nat) : Bool × Nat :=
  if f.isNaN a || f.isNaN b then (false, if f.isSNaN a || f.isSNaN b then flIV else 0)
  else (f.cmpKey a == f.cmpKey b, 0)

/-- VFCMPLT and VFCMPLE: signalling, so any NaN sets IV. (DESIGN CHOICE, log entry 113.) -/
def fCmpLt (f : FFmt) (a b : Nat) : Bool × Nat :=
  if f.isNaN a || f.isNaN b then (false, flIV) else (decide (f.cmpKey a < f.cmpKey b), 0)

/-- (DESIGN CHOICE, log entry 113.) -/
def fCmpLe (f : FFmt) (a b : Nat) : Bool × Nat :=
  if f.isNaN a || f.isNaN b then (false, flIV) else (decide (f.cmpKey a ≤ f.cmpKey b), 0)

/-- Two's complement value of the low `w` bits. -/
def toSigned (w n : Nat) : Int := if n.testBit (w - 1) then (n % 2 ^ w : Nat) - 2 ^ w else (n % 2 ^ w : Nat)

/-- The low `w` bits of an integer. -/
def ofSigned (w : Nat) (i : Int) : Nat := (i % 2 ^ w).toNat

/-- VFCVTFI (R79): to a signed integer of the same width; saturates, 0 for NaN, IV in each case. -/
def fToInt (f : FFmt) (mode a : Nat) : Nat × Nat :=
  let w := f.width
  if f.isNaN a then (0, flIV)
  else if f.isInf a then (if f.sign a then 2 ^ (w - 1) else 2 ^ (w - 1) - 1, flIV)
  else
    let s := f.sign a
    let (n, ix) := if 0 ≤ f.expo a then (f.mant a <<< (f.expo a).toNat, false)
      else roundShift mode s (f.mant a) (-(f.expo a)).toNat
    if s then
      if 2 ^ (w - 1) < n then (2 ^ (w - 1), flIV) else (ofSigned w (-(n : Int)), if ix then flIX else 0)
    else
      if 2 ^ (w - 1) - 1 < n then (2 ^ (w - 1) - 1, flIV) else (n, if ix then flIX else 0)

/-- VFCVTIF: a signed integer of the width to the format of the width. -/
def fOfInt (f : FFmt) (mode n : Nat) : Nat × Nat :=
  let i := toSigned f.width n
  roundPack f mode (decide (i < 0)) i.natAbs 0

/-- VFCVTW (R79): change of format; a NaN keeps its sign and the high-order payload bits that fit. -/
def fChange (src dst : FFmt) (mode a : Nat) : Nat × Nat :=
  if src.isNaN a then
    let fr := if dst.mb ≤ src.mb then src.frac a >>> (src.mb - dst.mb) else src.frac a <<< (dst.mb - src.mb)
    (dst.quiet (dst.signBit (src.sign a) + dst.infBits + fr), if src.isSNaN a then flIV else 0)
  else if src.isInf a then (dst.inf (src.sign a), 0)
  else roundPack dst mode (src.sign a) (src.mant a) (src.expo a)

end Sys2Proof.Machine
end

