-- ==== Sys2Proof/Machine/Operands.lean ====
section
/-! DEFINITION. Integer results (R66, R67, Table ISA-3 to ISA-5), instruction words (R64, Table ISA-1) and the
elements of vector and mask registers (R78). -/

namespace Sys2Proof.Machine

/-- A 32-bit result sign-extended (R66, W = 1). -/
def sext32 (x : BitVec 32) : Word := x.signExtend 64

/-- Apply an operation at 64 bits, or at 32 with the result sign-extended (R66). -/
def aluW (w : Bool) (f64 : Word → Word → Word) (f32 : BitVec 32 → BitVec 32 → BitVec 32) (a b : Word) : Word :=
  if w then sext32 (f32 (a.setWidth 32) (b.setWidth 32)) else f64 a b

/-- The low `k` bits of a shift operand, as a count. -/
def shCount {n : Nat} (k : Nat) (b : BitVec n) : Nat := b.toNat % 2 ^ k

def aluSll (w : Bool) := aluW w (fun a b => a <<< shCount 6 b) (fun a b => a <<< shCount 5 b)
def aluSrl (w : Bool) := aluW w (fun a b => a >>> shCount 6 b) (fun a b => a >>> shCount 5 b)
def aluSra (w : Bool) := aluW w (fun a b => a.sshiftRight (shCount 6 b)) (fun a b => a.sshiftRight (shCount 5 b))
def aluRor (w : Bool) := aluW w (fun a b => a.rotateRight (shCount 6 b)) (fun a b => a.rotateRight (shCount 5 b))

/-- A comparison as 1 or 0. -/
def ofBool (b : Bool) : Word := if b then 1 else 0

def mulHigh (a b : Int) : Word := BitVec.ofInt 64 (a * b / 2 ^ 64)

/-- DIV (R67): rounded toward zero; zero divisor gives all ones; the overflow case gives the dividend. -/
def divS {n : Nat} (a b : BitVec n) : BitVec n :=
  if b = 0 then BitVec.allOnes n else BitVec.ofInt n (a.toInt.tdiv b.toInt)
/-- REM (R67): sign of the dividend; zero divisor gives the dividend. -/
def remS {n : Nat} (a b : BitVec n) : BitVec n :=
  if b = 0 then a else BitVec.ofInt n (a.toInt.tmod b.toInt)
def divU {n : Nat} (a b : BitVec n) : BitVec n := if b = 0 then BitVec.allOnes n else a / b
def remU {n : Nat} (a b : BitVec n) : BitVec n := if b = 0 then a else a % b

/-- Leading zeros, counted from bit `i − 1` down. -/
def clzFrom (x : Word) : Nat → Nat
  | 0 => 0
  | i + 1 => if x.getLsbD i then 0 else 1 + clzFrom x i
/-- Trailing zeros of the bits from `64 − i` up. -/
def ctzFrom (x : Word) : Nat → Nat
  | 0 => 0
  | i + 1 => if x.getLsbD (63 - i) then 0 else 1 + ctzFrom x i
/-- Set bits among the low `i`. -/
def popFrom (x : Word) : Nat → Nat
  | 0 => 0
  | i + 1 => popFrom x i + b2n (x.getLsbD i)

def clz (x : Word) : Word := BitVec.ofNat 64 (clzFrom x 64)
def ctz (x : Word) : Word := BitVec.ofNat 64 (ctzFrom x 64)
def popc (x : Word) : Word := BitVec.ofNat 64 (popFrom x 64)
/-- BSWAP: byte order reversed. -/
def bswap (x : Word) : Word := BitVec.ofNat 64 (ofLeBytes (leBytes 8 x.toNat).reverse)

def minS {n : Nat} (a b : BitVec n) : BitVec n := if a.slt b then a else b
def maxS {n : Nat} (a b : BitVec n) : BitVec n := if a.slt b then b else a
def minU {n : Nat} (a b : BitVec n) : BitVec n := if a.ult b then a else b
def maxU {n : Nat} (a b : BitVec n) : BitVec n := if a.ult b then b else a

/-- The number of elements of a width code (R78). -/
def elemCount (w : Nat) : Nat := 32 / 2 ^ w
/-- The element width in bits of a width code (R78). -/
def elemBits (w : Nat) : Nat := 8 * 2 ^ w
/-- Element `i` of a vector register at width code `w`. -/
def elem (w : Nat) (x : VWord) (i : Nat) : Nat := x.toNat >>> (elemBits w * i) % 2 ^ elemBits w
/-- A vector register made of elements at width code `w`, element 0 lowest. -/
def ofElems (w : Nat) (es : List Nat) : VWord :=
  BitVec.ofNat 256 (es.foldr (fun e acc => e % 2 ^ elemBits w + 2 ^ elemBits w * acc) 0)
/-- Elements under a mask: active ones computed, the others zeroed or kept (R78). -/
def masked (w : Nat) (mask : Word) (z : Bool) (old : VWord) (f : Nat → Nat) : VWord :=
  ofElems w ((List.range (elemCount w)).map fun i =>
    if mask.getLsbD i then f i else if z then 0 else elem w old i)
/-- A mask register value: bits at and above the element count are zero (R78). -/
def maskN (w : Nat) (v : Word) : Word := BitVec.ofNat 64 (v.toNat % 2 ^ elemCount w)

/-- A mask result under a mask (R78); bits at and above n are zero. -/
def maskedK (n : Nat) (mask : Word) (z : Bool) (old : Word) (f : Nat → Bool) : Word :=
  BitVec.ofNat 64 (((List.range n).map fun i =>
    (if (if mask.getLsbD i then f i else if z then false else old.getLsbD i) then 2 ^ i else 0)).sum)

/-- Clamp an integer to the signed range of `w` bits (VADDSAT, VSUBSAT). -/
def satSigned (w : Nat) (i : Int) : Int := max (-(2 ^ (w - 1))) (min (2 ^ (w - 1) - 1) i)

/-- An S-format word of major 0x30 (Table ISA-1, ISA-6). -/
def encodeS (rd ra sfn crn : Nat) : IWord :=
  BitVec.ofNat 32 (0x30 * 2 ^ 26 + rd * 2 ^ 21 + ra * 2 ^ 16 + sfn * 2 ^ 12 + crn)
/-- A V-format word (Table ISA-1). -/
def encodeV (major vd va vb k : Nat) (z : Bool) (w op : Nat) : IWord :=
  BitVec.ofNat 32 (major * 2 ^ 26 + vd * 2 ^ 21 + va * 2 ^ 16 + vb * 2 ^ 11 + k * 2 ^ 8 + b2n z * 2 ^ 7 + w * 2 ^ 5 + op)

end Sys2Proof.Machine
end

