-- ==== Sys2Proof/Machine/Caches.lean ====
section
/-! DEFINITION. A core's caches (R130–R132, R142–R144, R147, R148, R151, R156, R164, R170, R171): what an access of the core
finds in its L1s and its L2, the requests it makes of a line's home, and the snoops that reach the L2. -/

namespace Sys2Proof.Machine

/-! ### Snoops at an L2 (Table COH-9) -/

/-- An L2's answer to a snoop. -/
def State.snoopAns (s : State) (t line htid : Nat) (op : WarpOp) (poison : Bool) : State :=
  match s.homeOf line with
  | some h => s.emit (.warp op t (homeEnd h) htid line poison [])
  | none => s

/-- The home records the L2 as the owner of a line held in M (R180). -/
def State.recorded (s : State) (t line : Nat) : Bool :=
  match s.homeOf line with
  | some h => (s.dirEnt h line).st == .em && (s.dirEnt h line).owner == t
  | none => false

/-- The state a snoop leaves a stable line in. -/
def SnpKind.next : SnpKind → L2St → L2St
  | .sh, _ => .sh
  | .cpy, x => x
  | _, _ => .i

/-- A snoop is applied at an L2: SM_A moves to IM_D on an invalidation, a selvedge entry answers SNPRESP_WBPEND (R168), and a
stable line answers as Table COH-9 gives; SNP_DROP returns no data. -/
def State.snoopNow (s : State) (t line htid : Nat) (k : SnpKind) : State :=
  let e := s.l2 t line
  let inval : Bool := match k with | .inv | .drop => true | _ => false
  match e.st with
  | .isD | .imD => s.snoopAns t line htid .snprespI false
  | .smA => (if inval then s.setL2 t line { e with st := .imD } else s).snoopAns t line htid .snprespI false
  | .sh => (if inval then s.setL2 t line L2Line.none else s).snoopAns t line htid (if inval then .snprespI else .snprespS) false
  | .e | .m =>
    if e.st = .m ∧ s.recorded t line = false then s.cohProtocol t 0x10 htid 0xFF t line
    else
      let s := if k.next e.st = .i then s.setL2 t line L2Line.none else s.setL2 t line { e with st := k.next e.st }
      s.snoopAns t line htid (if k = .drop then .snprespI else if e.st = .m then .snprespD else .snprespC) e.poison
  | .i =>
    if (s.tile t).selv.any (fun x => x.line == line) then
      (s.forceSelv t line).snoopAns t line htid .snprespWbpend false
    else s.snoopAns t line htid .snprespI false

/-- The Warp opcode of a snoop. -/
def SnpKind.op : SnpKind → WarpOp
  | .sh => .snpSh
  | .inv => .snpInv
  | .drop => .snpDrop
  | .cpy => .snpCpy

/-- No snoop is applied to a line that has just been filled until the access that caused the fill has been performed (R170), nor
to an array that is being invalidated (R151). -/
def State.snoopHeld (s : State) (t line : Nat) : Bool :=
  decide (line ∈ (s.tile t).fresh) || s.cacheOn t F.wrpCctl.INV_L2

/-- A snoop reaches an L2: disabled, it answers "not present" whatever the array holds (R147); a snoop that is held waits in the
snoop queue, or in the network while that is full. -/
def State.snoop (s : State) (t line htid : Nat) (k : SnpKind) : State :=
  if !s.boltUp (s.boltOf t) then s else
  let s := s.need t
  if !s.cacheOn t F.wrpCctl.L2_EN then s.snoopAns t line htid .snprespI false
  else if s.snoopHeld t line then
    (if (s.tile t).snpQ.length < 16 then
      s.modTile t fun x => { x with snpQ := x.snpQ ++ [{ line := line, htid := htid, kind := k }] }
    else match s.homeOf line with
      | some h => s.emit (.warp k.op (homeEnd h) t htid line false [])
      | none => s)
  else s.snoopNow t line htid k

/-- The snoops the queue holds for a line are applied, oldest first. -/
def State.snoopsGo (s : State) (t line : Nat) : State :=
  let (now, later) := (s.tile t).snpQ.partition fun e => e.line == line
  now.foldl (fun s e => s.snoopNow t e.line e.htid e.kind) (s.modTile t fun x => { x with snpQ := later })

/-- The hold on a line ends (R170). (DESIGN CHOICE, log entry 123.) -/
def State.endHold (s : State) (t line : Nat) : State :=
  if line ∈ (s.tile t).fresh then
    let s := s.modTile t fun x => { x with fresh := x.fresh.filter (· ≠ line) }
    if s.snoopHeld t line then s else s.snoopsGo t line
  else s

/-- Every hold of a tile ends: 64 core cycles have passed (R170). (DESIGN CHOICE, log entry 123.) -/
def State.endHolds (s : State) (t : Nat) : State := (s.tile t).fresh.foldl (fun s l => s.endHold t l) s

/-! ### Writebacks -/

/-- A home takes a writeback (R162, R165, R168, R169): alone it goes into the slice, or to memory; while the line is BUSY with a
transaction that snoops its owner it is kept for it, or discarded for a full-line write. One whose key tag names a panel that is
being torn down is discarded (R178), and any other source is a protocol error (R180). `ack`: the L2 awaits WBACK. -/
def State.takeWb (s : State) (h src line tag : Nat) (poison ack : Bool) : State :=
  let s := s.need (192 + h)
  let e := s.dirEnt h line
  let done := fun (s : State) => if ack then s.wback h src line else s
  let from_ := if ack then some src else none
  if e.st = .em ∧ e.owner = src then
    match e.busy with
    | none =>
      let s := (s.setDir h line DirEnt.free).starveAll h
      if s.pstate e.ktag = psTearing then done s else
      match s.sliceFill h e.ktag line { valid := true, dirty := true, poison := poison } with
      | some (s, out) => done (s.castOut h out)
      | none => (s.dropSector h line).writeAlone h line e.ktag poison from_
    | some id =>
      match s.tx h id with
      | some x =>
        if x.op = .wrf then s.onTx h id { x with wbHere := true, wbFrom := from_ }
        else s.onTx h id { x with wbHere := true, dirty := true, poison := x.poison || poison, wbFrom := from_ }
      | none => s.cohProtocol h 0x26 id 0xFF src line
  else if s.pstate tag = psTearing ∨ s.pstate tag = psEmpty ∧ tag ≠ 0 then done s
  else s.cohProtocol h 0x26 0xFF 0xFF src line

/-- Write a line of an L2 back at once, for a drain that waits for it (R51, R143, R152). (DESIGN CHOICE, log entry 125.) -/
def State.settle (s : State) (t line tag : Nat) (poison : Bool) : State :=
  match s.homeOf line with
  | some h => if s.boltUp (s.boltOf h) then s.takeWb h t line tag poison false else s
  | none => s

/-- Drain the selvedge buffer (R51, R143, R152): every writeback that has not left is made now; one under way keeps its entry until
WBACK. (DESIGN CHOICE, log entry 125.) -/
def State.drainSelvedge (s : State) (t : Nat) : State :=
  let (left, here) := (s.tile t).selv.partition fun e => e.left
  here.foldl (fun s e => s.settle t e.line e.tag e.poison) (s.modTile t fun x => { x with selv := left })

/-- Both L1s are invalidated, unless they are disabled (R147). -/
def State.clearL1 (s : State) (t : Nat) : State :=
  let keep := fun (f : Fld) (l : List Nat) => if s.cacheOn t f then [] else l
  s.modTile t fun x => { x with l1i := keep F.wrpCctl.L1I_EN x.l1i, l1d := keep F.wrpCctl.L1D_EN x.l1d }

/-- Write back every dirty L2 line and invalidate the L2, with the L1s under it (R48, R152); an L2 that is disabled keeps what it
holds (R147). Requests that are open stay open. (DESIGN CHOICE, log entry 125.) -/
def State.flushL2 (s : State) (t : Nat) : State :=
  let s := s.drainSelvedge t
  if !s.cacheOn t F.wrpCctl.L2_EN then s else
  let ms := (s.tile t).l2.filter fun e => e.2.st == .m
  let s := ms.foldl (fun s e => s.settle t e.1 e.2.tag e.2.poison) s
  (s.clearL1 t).modTile t fun x => { x with l2 := x.l2.filter fun e => !e.2.st.stable }

/-! ### Invalidation of arrays (R147) -/

def cctlR (t : Nat) : Reg := { kind := .wrpCctl, i := t }

/-- Lines of a tile's L2 and selvedge buffer whose newest data is there. -/
def TileSt.dirtyL2 (x : TileSt) : List Nat :=
  ((x.l2.filter fun e => e.2.st == .m).map (·.1)) ++ ((x.selv.filter fun e => !e.left).map (·.line))

/-- Dirty sectors of a slice in the ways of a mask. -/
def TileSt.dirtyL3 (x : TileSt) (ways : Nat) : List Cast :=
  x.l3.flatMap fun e => if bit ways e.2.way then e.2.casts e.1 else []

/-- Invalidate the directory (R147). -/
def State.invDir (s : State) (t : Nat) : State :=
  (s.setFld (cctlR t) F.wrpCctl.INV_DIR 1).modTile t fun x => { x with dir := [] }
/-- Invalidate the slice, locked ways included; a dirty sector that no L2 holds newer data of is lost. -/
def State.invL3 (s : State) (t : Nat) : State :=
  let lost := (((s.tile t).dirtyL3 0xFFFF).map (·.line)).filter fun l => !s.tiles.any fun e => e.2.owns l
  let s := lost.foldl (fun s l => s.loseLine l) s
  (s.setFld (cctlR t) F.wrpCctl.INV_L3 1).modTile t fun x => { x with l3 := [] }
/-- Invalidate the L2 and the selvedge buffer without writeback, and with the L2 the L1s (R130); dirty lines are lost. -/
def State.invL2 (s : State) (t : Nat) : State :=
  let s := ((s.tile t).dirtyL2).foldl (fun s l => s.loseLine l) s
  ((s.setFld (cctlR t) F.wrpCctl.INV_L2 1).clearL1 t).modTile t fun x =>
    { x with l2 := x.l2.filter (fun e => !e.2.st.stable), selv := x.selv.filter (·.left), fresh := [] }
/-- Invalidate the L1I and the L1D. (DESIGN CHOICE, log entry 21.) -/
def State.invL1 (s : State) (t : Nat) : State :=
  (s.setFld (cctlR t) F.wrpCctl.INV_L1 1).modTile t fun x => { x with l1i := [], l1d := [] }

/-! ### Requests of an L2 -/

/-- WB accesses of a core to a line use its caches: the L2 is enabled, and the line's home bolt is the core's own, which runs
(R147, R156). -/
def State.cachedLine (s : State) (t line : Nat) : Bool :=
  s.cacheOn t F.wrpCctl.L2_EN && s.boltUp (s.boltOf t) && s.homeBolt line == s.boltOf t

/-- The L2 can issue a request for the line: no array it needs is being invalidated, and none for the line is open. -/
def State.l2Ready (s : State) (t line : Nat) : Bool :=
  s.cachedLine t line && !s.cacheOn t F.wrpCctl.INV_L2 &&
    !((s.tile t).miss.any fun e => match e.2 with | some m => m.line == line | none => false)

/-- A miss looks into the selvedge buffer first (R143): a QUEUED entry of the same panel comes back in M, and its writeback is
cancelled; any other entry holds the access, a QUEUED one forced to SENT. True when the request may go on to the home. -/
def State.missSelv (s : State) (t line : Nat) : State × Bool :=
  match (s.tile t).selv.find? fun e => e.line == line with
  | none => (s, true)
  | some e =>
    if e.sent then (s, false)
    else if e.tag = s.corePanel t then
      match (s.modTile t fun x => { x with selv := x.selv.erase e }).fillL2 t line .m e.tag e.poison with
      | (s', true) => (s', false)
      | (_, false) => (s, false)
    else (s.forceSelv t line, false)

/-- A line tagged for another panel is evicted before the request (R132); a dirty one waits while the selvedge buffer is full. -/
def State.evictForeign (s : State) (t line : Nat) : State :=
  let e := s.l2 t line
  if e.st.stable ∧ e.tag ≠ s.corePanel t ∧ (e.st ≠ .m ∨ (s.tile t).selv.length < 16) then s.evict t line else s

/-- An L2 miss or upgrade: the entry is reserved, the line goes transient, and the home takes the request. -/
def State.l2Request (s : State) (t line ctx : Nat) (op : HomeOp) (want transient : L2St) : State :=
  if !s.l2Ready t line then s else
  let s := s.evictForeign t line
  if (s.l2 t line).st ≠ want then s else
  let (s, go) := if want = .i then s.missSelv t line else (s, true)
  if !go then s else
  match s.freeReq t with
  | none => s
  | some _ =>
    let old := s.l2 t line
    let s := s.setL2 t line { old with st := transient, tag := s.corePanel t }
    s.newReq t { op := op, line := line, rcnt := 0, rsv := false, retry := false, ctx := ctx, age := 0
                 tag := s.corePanel t, bolt := s.boltOf t }

/-! ### Accesses of a core -/

/-- What an access of a core finds: it waits, it is performed, or it hits a copy that coherence no longer knows (Table CCH-6). -/
inductive Reach where
  | wait | hit | stale
  deriving DecidableEq, Repr

def Reach.and : Reach → Reach → Reach
  | .wait, _ => .wait
  | _, .wait => .wait
  | .stale, _ => .stale
  | _, r => r

/-- The home knows that the L2 holds the line: it records it, or grants it now. -/
def State.known (s : State) (t line : Nat) : Bool :=
  match s.homeOf line with
  | none => false
  | some h =>
    let e := s.dirEnt h line
    decide (t ∈ s.holders h e) || (match e.busy.bind (s.tx h) with | some x => x.agent == t | none => false)

/-- A line enters an L1 (R131): of 8 ways; the victim of a full set is not given: free. (DESIGN CHOICE, log entry 124.) -/
def l1Add (l : List Nat) (line pick : Nat) : List Nat :=
  let set := l.filter fun x => x % 128 == line % 128 && x ≠ line
  line :: (l.filter fun x => x ≠ line && (set.length < 8 || x ≠ set.getD (pick % 8) 0))

/-- (DESIGN CHOICE, log entry 124.) -/
def State.l1Fill (s : State) (t line : Nat) (code : Bool) : State :=
  if !s.cacheOn t (if code then F.wrpCctl.L1I_EN else F.wrpCctl.L1D_EN) then s else
  let (k, s) := s.freeNat
  s.modTile t fun x => if code then { x with l1i := l1Add x.l1i line k } else { x with l1d := l1Add x.l1d line k }

/-- An L1 holds the line and is enabled; the L1 bits count as 0 while the L2 is disabled (R147). -/
def State.l1Hit (s : State) (t line : Nat) (code : Bool) : Bool :=
  if code then s.cacheOn t F.wrpCctl.L1I_EN && decide (line ∈ (s.tile t).l1i)
  else s.cacheOn t F.wrpCctl.L1D_EN && decide (line ∈ (s.tile t).l1d)

/-- A WB access of a core to a line (R131, R132, R164, R171): `own` for a store or AMO, `code` for a fetch. An access the caches do
not serve is performed at the home (R147), a store dropping every cached copy, once the line is not BUSY. A load hits the L1, or
the L2 in S, E or M under the core's panel; a store or AMO needs M, and takes E to M. Any other access waits: the L2 asks the
home (RDS, RDX, UPG), and the instruction is executed again. (DESIGN CHOICE, log entry 123.) -/
def State.reachLine (s : State) (t line ctx : Nat) (own code : Bool) : State × Reach :=
  if !s.cachedLine t line then
    if !own then (s, .hit)
    else if (match s.homeOf line with | some h => (s.dirEnt h line).busy.isSome | none => false) then (s, .wait)
    else (s.recall line, .hit)
  else if s.cacheOn t F.wrpCctl.INV_L2 || s.cacheOn t F.wrpCctl.INV_L1 then (s, .wait)
  else if !own && s.l1Hit t line code then
    (s, if (s.l2 t line).st.stable then .hit else .stale)
  else
    let serve := fun (s : State) =>
      let e := s.l2 t line
      let s := s.modTile t fun x => { x with tick := x.tick + 1 }
      let s := s.setL2 t line { e with used := (s.tile t).tick, st := if own then .m else e.st }
      (if own then s else s.l1Fill t line code, if s.known t line then Reach.hit else .stale)
    let mine := fun (s : State) => (s.l2 t line).tag == s.corePanel t
    match (s.l2 t line).st, mine s with
    | .m, true | .e, true => serve s
    | .sh, true => if own then (s.l2Request t line ctx .upg .sh .smA, .wait) else serve s
    | _, _ =>
      let s := s.l2Request t line ctx (if own then .rdx else .rds) .i (if own then .imD else .isD)
      -- a QUEUED selvedge entry has come back in M (R143)
      if (s.l2 t line).st = .m && mine s then serve s else (s, .wait)

/-- A prefetch (R114): after an access that hits, the L2 may ask for another line of its 4 KiB page, the next one for a fetch, where
the thread's enable is set and the TLB holds the page as WB; whether it does, and for which line, is free.
(DESIGN CHOICE, log entry 147.) -/
def State.prefetch (s : State) (t line ctx : Nat) (code : Bool) : State :=
  let on := (s.thr (2 * t + ctx)).crFld 0x031 (if code then F.crIFCTL.IPFEN else F.crIFCTL.DPFEN) == 1
  if !(on && (s.core t).tlb.any fun e => e.mt == .wb && line * 64 / 2 ^ e.size == e.pa) then s else
  let (k, s) := s.freeNat
  let next := if code then line + 1 else line / 64 * 64 + k / 2 % 64
  if k % 2 = 0 ∨ next / 64 ≠ line / 64 ∨ (s.l2 t next).st ≠ .i then s else s.l2Request t next ctx .rds .i .isD

/-- An access to several lines; every line it lacks is asked for. When it can be performed, the holds it ends are over (R170), and a
load or fetch may be followed by prefetches. (DESIGN CHOICE, log entry 123.) -/
def State.reachLines (s : State) (t ctx : Nat) (own code : Bool) (ls : List Nat) : State × Reach :=
  let (s, r) := ls.foldl (fun (a : State × Reach) l =>
    match a.1.reachLine t l ctx own code with
    | (s, r) => (s, a.2.and r)) (s, .hit)
  if r = .wait then (s, r) else
    let s := ls.foldl (fun s l => s.endHold t l) s
    (if own then s else ls.foldl (fun s l => s.prefetch t l ctx code) s, r)

end Sys2Proof.Machine
end

