-- ==== Sys2Proof/Machine/Exc.lean ====
section
/-! DEFINITION. Taking an exception and returning from one (R82–R84), machine checks (R409, R410), and what
every retired instruction does (R85, R415, R429): the one frame all instruction meanings run in. -/

namespace Sys2Proof.Machine

/-! ### Entry and return -/

/-- The number of a banked register for a level: S bank at 0x101–0x105, H bank at 0x001–0x005 (Table ISA-9). -/
def bankNo (lvl n : Nat) : Nat := if lvl = 2 then n else n + 0x100
def crEPC : Nat := 1
def crECAUSE : Nat := 2
def crEADDR : Nat := 3
def crEVEC : Nat := 4
def crMCHK : Nat := 0x050
def crTWIN : Nat := 0x060
def crPWRMODE : Nat := 0x020
def crTHREAD : Nat := 0x011

/-- The level a cause raised at `pl` is taken at (R82). -/
def takenAt (pl : Nat) : Nat := if pl = 2 then 2 else 1

/-- ECAUSE from its fields (Table ISA-11). -/
def mkEcause (cause sub code : Nat) (nest sec : Bool) : Word :=
  BitVec.ofNat 64 (code % 4096 * 2 ^ 20 + b2n sec * 2 ^ 17 + b2n nest * 2 ^ 16 + sub % 256 * 256 + cause % 256)

/-- Handler offset (R83 step 4). -/
def vecOffset (cause : Nat) : Nat :=
  if cause = 0x20 then 0x100 else if cause = 0x10 then 0x200 else if cause = 0x11 then 0x300 else 0

def exlOf (lvl : Nat) : Fld := if lvl = 2 then F.crSTATUS.HEXL else F.crSTATUS.SEXL

/-- The STATUS value after entry at a level (R83 steps 2 and 3). -/
def enterStatus (lvl st : Nat) : Nat :=
  let pl := F.crSTATUS.PL.get st
  let ie := F.crSTATUS.IE.get st
  let st := if lvl = 2 then
      F.crSTATUS.HEXL.set (F.crSTATUS.HPIE.set (F.crSTATUS.HPP.set st pl) ie) 1
    else
      F.crSTATUS.SEXL.set (F.crSTATUS.SPIE.set (F.crSTATUS.SPP.set st pl) ie) 1
  F.crSTATUS.PL.set (F.crSTATUS.IE.set st 0) lvl

/-- Exception entry to a level, in one step (R83). -/
def Thread.enter (x : Thread) (lvl cause sub code : Nat) (sec : Bool) (epc eaddr : Word) : Thread :=
  let nest := x.st (exlOf lvl) == 1
  let st := (x.cr0 0).toNat
  let x := x.setCr (bankNo lvl crEPC) (epc &&& ~~~3#64)
  let x := x.setCr (bankNo lvl crECAUSE) (mkEcause cause sub code nest sec)
  let x := x.setCr (bankNo lvl crEADDR) eaddr
  let x := x.setCr 0 (BitVec.ofNat 64 (enterStatus lvl st))
  let base := x.cr0 (bankNo lvl crEVEC) &&& ~~~0xFFF#64
  { x with pc := base + BitVec.ofNat 64 (vecOffset cause), retired := true, noRetire := 0, waiting := false }

/-- The STATUS value after ERET at a level (R84); the code 0b11 of HPP goes into PL as it stands. (DESIGN CHOICE, log
entry 112.) (DESIGN CHOICE, log entry 112.) -/
def eretStatus (lvl st : Nat) : Nat :=
  if lvl = 2 then
    F.crSTATUS.HEXL.set (F.crSTATUS.IE.set (F.crSTATUS.PL.set st (F.crSTATUS.HPP.get st)) (F.crSTATUS.HPIE.get st)) 0
  else
    F.crSTATUS.SEXL.set (F.crSTATUS.IE.set (F.crSTATUS.PL.set st (F.crSTATUS.SPP.get st)) (F.crSTATUS.SPIE.get st)) 0

/-- ERET (R84): pc, level and IE from the level's bank; its EXL bit cleared. -/
def Thread.eret (x : Thread) : Thread :=
  let lvl := takenAt x.pl
  { x.setCr 0 (BitVec.ofNat 64 (eretStatus lvl (x.cr0 0).toNat)) with
    pc := x.cr0 (bankNo lvl crEPC) &&& ~~~3#64 }

/-- Take an exception raised at the thread's own level (R82, R83). -/
def State.except (s : State) (th cause sub code : Nat) (epc eaddr : Word) : State :=
  if th = thmThread then s.thmExcept cause sub epc eaddr else
  let x := s.thr th
  s.setThr th (x.enter (takenAt x.pl) cause sub code false epc eaddr)

/-! ### Machine checks -/

/-- The thread can take a machine check at its level (R410). -/
def Thread.canCheck (x : Thread) : Bool :=
  !(x.st (exlOf (takenAt x.pl)) == 1 && x.crFld crMCHK F.crMCHK.VALID == 1)

/-- MCHK as a check writes it (R410): OVF is set when VALID was 1. -/
def mkMchk (old : Nat) (code ucls uidx : Nat) (poison precise : Bool) : Word :=
  let ovf := b2n (bit old 0 || bit old 3)
  BitVec.ofNat 64 (code * 2 ^ 48 + ucls * 2 ^ 40 + uidx * 2 ^ 16 + ovf * 8 + b2n precise * 4 + b2n poison * 2 + 1)

def Thread.check (x : Thread) (code ucls uidx : Nat) (poison precise : Bool) (eaddr : Word) : Thread :=
  let x := x.setCr crMCHK (mkMchk (x.cr0 crMCHK).toNat code ucls uidx poison precise)
  x.enter (takenAt x.pl) 0x10 0 0 false x.pc eaddr

/-! ### Signatures -/

/-- One bit step of CRC-64 with generator 0x42F0_E1EB_A9EA_3693, most significant bit first (R429). -/
def crc64Bits : Nat → Nat → Nat
  | 0, c => c
  | n + 1, c =>
    crc64Bits n (if c.testBit 63 then ((c <<< 1) ^^^ 0x42F0E1EBA9EA3693) % 2 ^ 64 else (c <<< 1) % 2 ^ 64)

/-- The signature after further bytes (R429). -/
def crc64 (c : Nat) (bs : List Byte) : Nat :=
  bs.foldl (fun c b => crc64Bits 8 (c ^^^ (b.toNat <<< 56))) c

/-! ### Twin-needle roles -/

/-- The core is a member of a pair this stitch (Table TWN-1). -/
def State.paired (s : State) (c : Nat) : Bool :=
  decide (c < 192) && s.flag { kind := .wrpTwpair, i := c } F.wrpTwpair.EN
def State.isChecker (s : State) (c : Nat) : Bool :=
  s.paired c && s.flag { kind := .wrpTwpair, i := c } F.wrpTwpair.CHK
def State.isMain (s : State) (c : Nat) : Bool :=
  s.paired c && !s.flag { kind := .wrpTwpair, i := c } F.wrpTwpair.CHK
def State.partnerOf (s : State) (c : Nat) : Nat := s.fld { kind := .wrpTwpair, i := c } F.wrpTwpair.PARTNER
/-- The partner's thread of the same index. -/
def State.partnerThr (s : State) (th : Nat) : Nat := 2 * s.partnerOf (th / 2) + th % 2

/-- Send records toward the checker's queue (R427). -/
def State.lvqPush (s : State) (th : Nat) (rs : List LvqRec) : State :=
  let x := s.thr th
  s.setThr th { x with lvq := x.lvq ++ rs }

/-- An entry at an instruction boundary (R83); on a main core it is recorded for the checker (Table TWN-3). `mchk`: the
new MCHK of a machine check. -/
def State.enterAt (s : State) (th lvl cause sub code : Nat) (sec : Bool) (eaddr : Word) (mchk : Option Word) : State :=
  let x := s.thr th
  let y := match mchk with
    | some m => x.setCr crMCHK m
    | none => x
  let s := s.setThr th (y.enter lvl cause sub code sec x.pc eaddr)
  if s.isMain (th / 2) then s.lvqPush th [.entry x.sinceCmp lvl cause sub code sec eaddr mchk] else s

/-- A record is an entry due at this count. -/
def LvqRec.dueAt (n : Nat) : LvqRec → Bool
  | .entry k _ _ _ _ _ _ _ => k == n
  | _ => false

/-- The checker takes an entry that the main core took at this instruction count (R427). -/
def State.replay (s : State) (th : Nat) : State :=
  let x := s.thr th
  match x.lvq with
  | .entry k lvl cause sub code sec eaddr mchk :: rest =>
    if k = x.sinceCmp then (s.setThr th { x with lvq := rest }).enterAt th lvl cause sub code sec eaddr mchk else s
  | _ => s

/-- No panel but 0 holds level H: the privilege field is forced to S or U (R5, R55). -/
def Thread.forced' (x : Thread) (p : Nat) : Thread :=
  if p ≠ 0 ∧ 2 ≤ x.pl then x.setSt F.crSTATUS.PL 1 else x

/-- A debugger's change to a thread of panel `p` (R438); on a pair it enters the signature. -/
def Thread.debugChange (x : Thread) (p kind idx v : Nat) (pair : Bool) : Thread :=
  let w : Word := BitVec.ofNat 64 v
  let x := match kind with
    | 0 => x.setGr idx w
    | 1 => { x with pc := w &&& ~~~3#64 }
    | 2 => (x.setCr idx w).forced' p
    | _ => x
  if pair then { x with sig := crc64 x.sig (leBytes 8 v) } else x

/-- A record is a debugger's change due at this count. -/
def LvqRec.debugAt (n : Nat) : LvqRec → Bool
  | .debug k _ _ _ => k == n
  | _ => false

/-- The checker applies the debugger's change that has arrived for its count. -/
def State.applyDebug (s : State) (th : Nat) : State :=
  let x := s.thr th
  match x.lvq with
  | .debug k kind idx v :: rest =>
    if s.isChecker (th / 2) ∧ k = x.sinceCmp then s.setThr th ({ x with lvq := rest }.debugChange (s.panelOf th) kind idx v true) else s
  | _ => s

/-- A checker stays behind its main core, and takes a recorded entry or a debugger's change before it goes on. -/
def State.behind (s : State) (th : Nat) : Bool :=
  let x := s.thr th
  let y := s.thr (s.partnerThr th)
  decide (x.sinceCmp < y.sinceCmp) &&
    !(x.lvq ++ y.lvq).any fun r => r.dueAt x.sinceCmp || r.debugAt x.sinceCmp

/-- A thread consumes an error (R403, R409, R410): the machine check, or FAULTED when it cannot be taken. -/
def State.machineCheck (s : State) (th code : Nat) (poison precise : Bool) (eaddr : Word) (pa : Option Nat) : State :=
  let x := s.thr th
  let p := s.panelOf th
  let c := th / 2
  let e : ErrEvt :=
    { unitId := unitId 0x01 c, cls := 1, code := code, action := 1,
      flags := flagPanel + (if poison then flagPoison else 0) + (if precise then flagPrecise else 0) +
        (if pa.isSome then flagPaddr else 0)
      paddr := pa.getD 0 / 64 * 64, panel := s.handle p, req := c }
  if x.canCheck then
    (s.logErr e).enterAt th (takenAt x.pl) 0x10 0 0 false eaddr (some (mkMchk (x.cr0 crMCHK).toNat code 0x01 c poison precise))
  else s.panelError p 0x02 { e with action := 6 }

/-- What a failed access does to the thread (R85, R409). -/
def State.accFault (s : State) (th : Nat) (f : AccFault) : State :=
  match f with
  | .exc cause sub eaddr => s.except th cause sub 0 (s.thr th).pc eaddr
  | .poison eaddr pa => s.machineCheck th 0x20 true true eaddr (some pa)

/-! ### Compare points -/

/-- A compare point has been reached: the thread retires no more until the compare passes (R430, R432). -/
def Thread.atCompare (x : Thread) : Bool := x.forced || decide (4096 ≤ x.sinceCmp)

/-! ### Retirement -/

def pmcNo (i : Nat) : Nat := 0x080 + i

/-- Add to a performance counter. -/
def Thread.pmcAdd (x : Thread) (i n : Nat) : Thread :=
  x.setCr (pmcNo i) (x.cr0 (pmcNo i) + BitVec.ofNat 64 n)

/-- An instruction retires: the pc moves on, PMC1 counts it, PMC0 and PMC3–PMC6 advance by free amounts (time and
cache hits are outside the model), a paired thread's signature takes the items of R429, and a pending
TWIN.CMPREQ forces a compare (R430). (DESIGN CHOICE, log entry 18.) -/
def State.retire (s : State) (th : Nat) (pc : Word) (items : List Byte) : State :=
  if th = thmThread then s.thmRetire pc else
  let x := s.thr th
  let f := fun i => Config.freeNat (s.fresh + i)
  let x := ((((((x.pmcAdd 1 1).pmcAdd 0 (f 0)).pmcAdd 3 (f 1)).pmcAdd 4 (f 2)).pmcAdd 5 (f 3)).pmcAdd 6 (f 4))
  let x := { x with pc := pc, retired := true, noRetire := 0 }
  let x := if s.paired (th / 2) then
      let req := x.crFld crTWIN F.crTWIN.CMPREQ == 1
      { x with sig := crc64 x.sig items, sinceCmp := x.sinceCmp + 1, forced := x.forced || req || x.stepping }
    else x
  let x := if x.stepping then { x with stepping := false, halted := true } else x
  { s with fresh := s.fresh + 5 }.setThr th x

/-- The items of a written general register (R429); g0 is not written. -/
def gprItem (rd : Nat) (v : Word) : List Byte := if rd = 0 then [] else leBytes 8 v.toNat

/-- Write `rd` and retire at the next instruction. -/
def State.retireGpr (s : State) (th rd : Nat) (v : Word) : State :=
  let x := s.thr th
  (s.setThr th (x.setGr rd v)).retire th (x.pc + 4) (gprItem rd v)

/-! ### Running an instruction -/

/-- The core's domain is ON with its clock running (R447). -/
def State.coreOn (s : State) (c : Nat) : Bool :=
  let r : Reg := { kind := .pwrDstat, i := c }
  s.fld r F.pwrDstat.CUR == 0 && !s.flag r F.pwrDstat.GATED

/-- The thread can execute now: its core is ON and runs a seat in a bolt that runs, and the thread is started, not in
WAIT, not held by a debugger, not waiting for an outside answer, and not at a compare point.
(DESIGN CHOICE, log entry 90.) -/
def State.live (s : State) (th : Nat) : Bool :=
  let c := s.core (th / 2)
  let x := s.thr th
  c.seat.isSome && x.started && !x.waiting && !x.halted && x.stall.isNone &&
    !(s.paired (th / 2) && x.atCompare) && (!s.isChecker (th / 2) || s.behind th) && s.coreOn (th / 2) &&
    s.boltState (s.boltOf (th / 2)) == 1

/-- A fetch from a line of which the thread's own write-combining buffers hold bytes waits until they are visible (R127). -/
def State.fetchWait (s : State) (th pa : Nat) : State :=
  let x := s.thr th
  let mine := x.wc.filter fun e => e.1 / 64 == pa / 64
  mine.foldl (fun s e => s.homeStore (s.lineOwner (e.1 / 64)) e.1 [e.2])
    (if mine = [] then s else s.setThr th { x with wc := x.wc.filter fun e => e.1 / 64 ≠ pa / 64 })

/-- The fetch reads its line through the L1I and the L2 (R130, R147). -/
def State.fetchReach (s : State) (th : Nat) (a : Xlat) : State × Reach :=
  if a.target.owned then s.reachLines (th / 2) (th % 2) false true [a.pa / 64] else (s, .hit)

/-- An imprecise machine check is due to thread `k` of a seat for a store that failed (R258, R409): where the seat runs, or when it
next does. -/
def State.storeFault (s : State) (seat : Option (Nat × Nat)) (k : Nat) : State :=
  match seat with
  | none => s
  | some (p, n) =>
    match (List.range 192).find? fun c => (s.core c).seat == some (p, n) && !s.isChecker c with
    | some c => s.setThr (2 * c + k) { s.thr (2 * c + k) with imprecise := some 0x26 }
    | none =>
      let r := s.seat p n
      if !r.valid then s
      else s.setSeat p n (if k = 0 then { r with thr0 := { r.thr0 with imprecise := some 0x26 } }
        else { r with thr1 := { r.thr1 with imprecise := some 0x26 } })

/-- Run an instruction of a thread (R85): an imprecise check that is due comes first, then the fetch (R95, R409),
then the instruction itself. An interrupt that is pending is not yet presented (R89 gives it 100 ns): it is taken at its own
row. (DESIGN CHOICE, log entry 120.) A fetch from a line in the held-store buffer forces a compare first (Table TWN-4); one that
misses the core's caches waits for its line, and the instruction is executed again (DESIGN CHOICE, log entry 123).
A thread that cannot execute is left as it is. On the Thimble core an interrupt that is due comes first (R341), and only the fetch can fail (R340).
(DESIGN CHOICE, log entry 5; DESIGN CHOICE, log entry 6; DESIGN CHOICE, log entry 70.) -/
def State.runInstr (s : State) (th : Nat) (body : State → State) : State :=
  if th = thmThread then s.thmRun body else
  let s := s.applyDebug th
  if !s.live th then s else
  let x := s.thr th
  match x.imprecise with
  | some code =>
    (s.setThr th { x with imprecise := none }).machineCheck th code false false 0 none
  | none =>
    match s.translate th .fetch x.pc true with
    | (s, .error f) => s.accFault th f
    | (s, .ok a) =>
      if s.poisoned a.pa 4 then s.accFault th (.poison x.pc a.pa)
      else if (s.core (th / 2)).held.any (fun h => h.thread == th % 2 && h.pa / 64 == a.pa / 64) then
        s.setThr th { s.thr th with forced := true }
      else match (s.fetchWait th a.pa).fetchReach th a with
        | (s, .wait) => s
        | (s, _) => body s

/-- The illegal instruction exception: EADDR holds the word (Table ISA-21). -/
def State.illegal (s : State) (th : Nat) (sub : Nat) (w : IWord) : State :=
  s.except th 0x02 sub 0 (s.thr th).pc (w.setWidth 64)

/-- An integer instruction: `rd` receives a function of the thread's registers. -/
def State.alu (s : State) (th rd : Nat) (f : Thread → Word) : State :=
  s.runInstr th fun s => s.retireGpr th rd (f (s.thr th))

end Sys2Proof.Machine
end

