-- ==== Sys2Proof/Machine/HioAccess.lean ====
section
/-! DEFINITION. What a core's access to a root port's configuration space or window starts (R294–R297, R310). -/

namespace Sys2Proof.Machine

/-- The unit of Table OCK-2 whose register block holds an address (R15). -/
def State.unitOfAddr (s : State) (pa : Nat) : Nat :=
  match s.target pa with
  | .reg r => match r.kind with
    | .mcCtrl | .mcStatus | .mcScrub | .mcCecnt | .mcPool | .mcRegion | .mcKvalid | .mcSpare | .mcTok | .mcMirmap
    | .mcPri | .mcAlt | .mcSel => unitId 3 r.i
    | .wpPctl | .wpPstat | .wpLcnt | .wpLdly | .wpEctl => unitId 4 r.i
    | .neUpcfg | .nePtok | .neVpctl | .neVpbob | .neVpmac | .neVpvlan | .neVpdrop | .neBctl | .neSqbase | .neRqbase
    | .neCqbase | .neBstat | .neBdrop | .dbSqtail | .dbRqtail | .dbCqhead | .dbArm => unitId 6 0
    | .cutCtrl | .cutCore | .cutOvr | .cutContract | .cutPstat => unitId 7 0
    | .tapeStat | .tapeLive => unitId 8 0
    | .tuCtrl | .tuStatus | .tuTodS | .tuTodNs | .tuStitch | .tuFreqadj | .tuOffset | .tuPpsdly | .tuUtcofs | .tuDrop =>
      unitId 9 0
    | .mbxPage | .mbxDb | .mbxSlot => unitId 0x0A 0
    | .wrpRstat | .wrpTdly | .wrpCctl | .wrpCerrcnt | .wrpCohcnt | .wrpL3way | .wrpTwpair | .wrpTwcnt | .tilePri | .tileAlt
    | .tileSel => unitId 2 r.i
    | _ => unitId 0x0D 0
  | .ecam r _ => unitId 5 r
  | .window r _ => unitId 5 r
  | _ => unitId 0x0D 0

/-- The record of a refused register access (R15). -/
def State.regDenied (s : State) (req p pa : Nat) : State :=
  s.logErr { unitId := s.unitOfAddr pa, cls := 0, code := 0x25, action := 0, flags := flagPaddr + flagPanel, paddr := pa
             panel := s.handle p, req := req }

def func0R (k e : Nat) : Reg := { kind := .hpFunc0, i := k, j := e }
def func1R (k e : Nat) : Reg := { kind := .hpFunc1, i := k, j := e }
def rpctlR (r : Nat) : Reg := { kind := .hpRpctl, i := r }
def rpstatR (r : Nat) : Reg := { kind := .hpRpstat, i := r }

def rpDown : Nat := 0
def rpTraining : Nat := 1
def rpUp : Nat := 2
def rpDpc : Nat := 3
def rpNoflit : Nat := 4

/-- The valid entries of a root port: controller and entry. -/
def State.funcs (s : State) (r : Nat) : List Nat :=
  (List.range 512).filter fun e =>
    s.flag (func0R (r / 4) e) F.hpFunc0.V && s.fld (func0R (r / 4) e) F.hpFunc0.RP == r

/-- The entry of a function, by root port and requester ID (R297). -/
def State.funcOf (s : State) (r rid : Nat) : Option Nat :=
  (s.funcs r).find? fun e => s.fld (func0R (r / 4) e) F.hpFunc0.RID == rid

def State.funcPanel (s : State) (r e : Nat) : Nat := s.fld (func0R (r / 4) e) F.hpFunc0.PANEL

/-- The function whose window range holds a window offset (R295). -/
def State.windowFunc (s : State) (r off : Nat) : Option Nat :=
  (s.funcs r).find? fun e =>
    decide (s.fld (func1R (r / 4) e) F.hpFunc1.WBASE ≤ off / 65536) &&
    decide (off / 65536 ≤ s.fld (func1R (r / 4) e) F.hpFunc1.WLIMIT)

/-- The root port serves requests. -/
def State.rpServes (s : State) (r : Nat) : Bool :=
  s.flag (rpctlR r) F.hpRpctl.EN && s.fld (rpstatR r) F.hpRpstat.STATE == rpUp

/-- The function behind an ECAM offset has a function-level reset in progress (R310). -/
def State.inFlr (s : State) (r : Nat) (e : Option Nat) : Bool :=
  match e with
  | some e => s.flag (func0R (r / 4) e) F.hpFunc0.FLR
  | none => false

/-- Panel `p` may reach the address (R295); the host manager may reach every one. -/
def State.pcieOk (s : State) (p : Nat) (cfg : Bool) (r off : Nat) : Bool :=
  match (if cfg then s.funcOf r (off / 4096 % 65536) else s.windowFunc r off) with
  | some e => s.funcPanel r e == p
  | none => false

def touches (off n a m : Nat) : Bool := decide (off < a + m) && decide (a < off + n)

/-- Configuration writes that the root port discards from panel software: BARs, Bus Master Enable, bus numbers and the
SR-IOV capability (R295). A write that covers the command register is discarded where it changes Bus Master Enable,
which is set while the function is assigned. -/
def panelCfgDrop (r rid off n : Nat) (data : List Byte) : Bool :=
  let br := Config.bridgeFn r rid
  let sr := Config.sriovAt r rid
  touches off n 0x10 (if br then 8 else 24) || (br && touches off n 0x18 3) ||
  (touches off n 4 1 && !bit (data.getD (4 - off) 0).toNat 2) ||
  (sr ≠ 0 && touches off n sr 64)

/-- Below a root port with functions of more than one panel, what it discards from the host manager: clearing an ACS
control, changing a bus number, or placing a BAR inside another panel's window range (R295). -/
def State.hostCfgDrop (s : State) (r rid off n : Nat) (data : List Byte) : Bool :=
  let panels := dedupNat ((s.funcs r).map (s.funcPanel r))
  let br := Config.bridgeFn r rid
  let acs := Config.acsAt r rid
  let mine := (s.funcOf r rid).map (s.funcPanel r)
  let v := ofLeBytes data
  decide (1 < panels.length) &&
    ((acs ≠ 0 && touches off n (acs + 6) 1 && (data.getD (acs + 6 - off) 0).toNat % 128 ≠ 0x7F) ||
     (br && touches off n 0x18 3) ||
     (touches off n 0x10 (if br then 8 else 24) &&
      (match s.windowFunc r (v % 2 ^ 34) with
       | some e => mine ≠ some (s.funcPanel r e)
       | none => false)))

/-- A load of a window or configuration space: a value at once, or a request whose completion the thread waits for. With the link
down, configuration space but the root port's own reads as all ones, and a window load waits for its timeout (R296).
(DEDUCED, log entry 140.) -/
def State.pcieLoad (s : State) (th : Nat) (cfg : Bool) (r off n : Nat) : State × Option Nat :=
  let s := s.need (420 + r / 4)
  let rid := off / 4096 % 65536
  let e := if cfg then s.funcOf r rid else s.windowFunc r off
  let serves := s.rpServes r || (cfg && rid == 0 && s.flag (rpctlR r) F.hpRpctl.EN)
  if s.inFlr r e || (cfg && !serves) then (s, some (2 ^ (8 * n) - 1))
  else
    let q : PcieReq := { th := th, rp := r, cfg := cfg, off := off, n := n, age := 0 }
    let s := { s with hio := { s.hio with reqs := s.hio.reqs ++ [q] } }
    (if serves then s.emit (.pcie r (if cfg then .cfgRead off n th else .memRead off n th)) else s, none)

/-- A store to a window or configuration space: accepted, or discarded and counted. `host`: by the host manager.
(DEDUCED, log entry 140.) -/
def State.pcieStore (s : State) (host cfg : Bool) (r off : Nat) (data : List Byte) : State :=
  let s := s.need (420 + r / 4)
  let rid := off / 4096 % 65536
  let e := if cfg then s.funcOf r rid else s.windowFunc r off
  let serves := s.rpServes r || (cfg && rid == 0 && s.flag (rpctlR r) F.hpRpctl.EN)
  if !serves || (!cfg && s.inFlr r e) then s
  else if cfg then
    let o := off % 4096
    if (if host then s.hostCfgDrop r rid o data.length data else panelCfgDrop r rid o data.length data) then
      s.addFld (rpstatR r) F.hpRpstat.URCNT 1
    else s.emit (.pcie r (.cfgWrite off data))
  else s.emit (.pcie r (.memWrite off data))

end Sys2Proof.Machine
end

