-- ==== Sys2Proof/Machine/TimeUnit.lean ====
section
/-! DEFINITION. The Time Unit (R17–R39, R493–R495): samples, the discipline step, reference loss, elections, fabric
time and the PTP service. Offsets are measured outside the model and come with the commands, local minus reference. -/

namespace Sys2Proof.Machine

def tuCtrlR : Reg := { kind := .tuCtrl }
def tuStatusR : Reg := { kind := .tuStatus }

def tsFree : Nat := 0
def tsAcquiring : Nat := 1
def tsLocked : Nat := 2
def tsHoldover : Nat := 3

def State.tuState (s : State) : Nat := s.fld tuStatusR F.tuStatus.STATE
def State.ownState (s : State) : Nat := s.fld tuStatusR F.tuStatus.OWNSTATE
def State.refsel (s : State) : Nat := s.fld tuCtrlR F.tuCtrl.REFSEL
def State.committed (s : State) : Bool := s.flag tuStatusR F.tuStatus.COMMITTED
def State.isMaster (s : State) : Bool := s.flag tuStatusR F.tuStatus.IS_MASTER

/-- The module takes part in fabric time and is not its master: it follows the fabric master (R493). -/
def State.follower (s : State) : Bool :=
  s.flag tuCtrlR F.tuCtrl.FABTIME && s.flag fcfgR F.wpFcfg.EN && !s.isMaster

def State.setTime (s : State) (f : TimeSt → TimeSt) : State := { s with time := f s.time }

/-- Move STATE; OWNSTATE equals it while the module is not a follower (Table TIM-5). Leaving LOCKED starts the
holdover count. -/
def State.setTuState (s : State) (v : Nat) : State :=
  let old := s.tuState
  let s := s.setFld tuStatusR F.tuStatus.STATE v
  let s := if s.follower then s else s.setFld tuStatusR F.tuStatus.OWNSTATE v
  if old = tsLocked ∧ v ≠ tsLocked then s.setTime fun x => { x with sinceLock := 0, class52 := false } else s

/-- Set the time: TOD and the stitch number (R17). -/
def State.setTod (s : State) (ns : Nat) : State :=
  let s := s.wr { kind := .tuTodS } (ns / 1000000000)
  let s := s.wr { kind := .tuTodNs } (ns % 1000000000 * 65536)
  s.wr { kind := .tuStitch } (ns / 10000)

/-- TAI nanoseconds of TOD. -/
def State.tod (s : State) : Nat :=
  s.rd { kind := .tuTodS } % 2 ^ 48 * 1000000000 + bits (s.rd { kind := .tuTodNs }) 47 16

/-- Set a fault flag; its change from 0 to 1 writes one TIME_FAULT record, whose DETAIL bit names it (R26). -/
def State.timeFlag (s : State) (f : Fld) (n : Nat) : State :=
  if s.flag tuStatusR f then s
  else (s.setFld tuStatusR f 1).logErr { unitId := unitId 9 0, cls := 0, code := 0x03, action := 0, detail := 2 ^ n }

/-! ### Loss of a reference (Table TIM-6) -/

def lossTo (st : Nat) (fromHold : Bool) : Nat :=
  if st = tsLocked then tsHoldover
  else if st = tsAcquiring then (if fromHold then tsHoldover else tsFree)
  else st

/-- A signed value of a 32-bit register. -/
def toI32 (n : Nat) : Int := (BitVec.ofNat 32 n).toInt
def ofI32 (i : Int) : Nat := (BitVec.ofInt 32 i).toNat

/-- The average frequency correction of the last 1,024 stitches (R29). -/
def TimeSt.meanFreq (x : TimeSt) : Int := if x.freqs = [] then 0 else x.freqs.sum / (x.freqs.length : Int)

/-- The followed reference is lost: REF_LOST, and the state moves; HOLDOVER keeps the averaged correction. -/
def State.loseMain (s : State) : State :=
  let st := s.tuState
  let dest := lossTo st s.time.main.fromHold
  let s := if st = tsLocked then s.setTime fun x => { x with heldFreq := x.meanFreq } else s
  let s := if dest = tsHoldover ∧ st ≠ tsHoldover then s.wr { kind := .tuFreqadj } (ofI32 s.time.heldFreq) else s
  let s := s.setTuState dest
  let s := s.setTime fun x => { x with main := { x.main with good := 0, samples := [] } }
  s.timeFlag F.tuStatus.REF_LOST 2

/-- A follower's own reference is lost: only OWNSTATE moves (R493). -/
def State.loseOwn (s : State) : State :=
  let s := s.setFld tuStatusR F.tuStatus.OWNSTATE (lossTo s.ownState s.time.own.fromHold)
  s.setTime fun x => { x with own := { x.own with good := 0, samples := [] } }

/-- The module's own reference is lost. -/
def State.loseRef (s : State) : State := if s.follower then s.loseOwn else s.loseMain

/-- The module's own reference becomes the one it follows: the track it monitored is STATE's (R493). -/
def State.takeOwn (s : State) : State :=
  (s.setTime fun x => { x with main := x.own, own := Track.init }).setTuState s.ownState

/-- The fabric master becomes the reference followed: the track of its own reference is OWNSTATE's, and STATE moves as at a
loss (R493). -/
def State.takeFabric (s : State) : State :=
  let st := lossTo s.tuState s.time.main.fromHold
  (s.setTime fun x => { x with own := x.main, main := { Track.init with fromHold := x.main.fromHold } }).setTuState st

/-- After a change of what makes a follower. -/
def State.retrack (s : State) (was : Bool) : State :=
  if was && !s.follower then s.takeOwn else if !was && s.follower then s.takeFabric else s

/-- A write of TU.CTRL: a change of REFSEL, or of PTP_UPL under REFSEL = 10, is a loss of the reference, and another domain
has other masters (R28, R493). -/
def State.setTuCtrl (s : State) (v : Nat) : State :=
  let old := s.rd tuCtrlR
  let was := s.follower
  let s := (s.wr tuCtrlR v).retrack was
  let new := s.rd tuCtrlR
  let sel := F.tuCtrl.REFSEL.get new ≠ F.tuCtrl.REFSEL.get old ||
    (F.tuCtrl.REFSEL.get new == 2 && F.tuCtrl.PTP_UPL.get new ≠ F.tuCtrl.PTP_UPL.get old)
  let s := if sel || F.tuCtrl.PTPDOM.get new ≠ F.tuCtrl.PTPDOM.get old then s.setTime fun x => { x with masters := [] } else s
  if sel then (s.setTime fun x => { x with badEdges := 0 }).loseRef else s

def Track.add (x : Track) (v : Sample) : Track := { x with samples := x.samples ++ [v] }

/-- A sample of the module's own reference arrives, or fails to. -/
def State.ownSample (s : State) (v : Sample) : State :=
  if s.follower then s.setTime fun x => { x with own := x.own.add v }
  else s.setTime fun x => { x with main := x.main.add v }

/-! ### PPS_IN and REF10M_IN (R27) -/

/-- An edge rejected or missing: the third in a row loses the reference. -/
def State.badEdge (s : State) : State :=
  let s := (s.ownSample .broken).setTime fun x => { x with badEdges := x.badEdges + 1 }
  if 3 ≤ s.time.badEdges then s.loseRef else s

/-- PPS_IN (R27, R29): a rising edge, `edge` ns after the nearest start of a second of the local time. After lock an
edge more than 1 µs from its expected instant is rejected. -/
def execPpsIn (edge : Int) (s : State) : Host.Outcome State Fault Refusal :=
  if s.refsel ≠ 1 ∨ !s.time.ref10m then .next s else
  let off := edge + toI32 (s.rd { kind := .tuPpsdly })
  if s.ownState = tsLocked ∧ 1000 < off.natAbs then .next s.badEdge
  else .next ((s.ownSample (.offset off)).setTime fun x => { x with badEdges := 0 })

/-- PPS_IN_MISSING (R27): an expected edge does not arrive. -/
def execPpsInMissing (s : State) : Host.Outcome State Fault Refusal :=
  if s.refsel ≠ 1 then .next s else .next s.badEdge

/-- REF10M_IN_LOSS (R27): REF10M_IN has been missing for 10 stitches. (DESIGN CHOICE, log entry 103.) -/
def execRef10mInLoss (s : State) : Host.Outcome State Fault Refusal :=
  let s' := s.setTime fun x => { x with ref10m := false }
  if s.refsel = 1 ∧ s.time.ref10m then .next s'.loseRef else .next s'

/-- REF10M_IN_RETURN (R27): REF10M_IN is there again. (DESIGN CHOICE, log entry 103.) -/
def execRef10mInReturn (s : State) : Host.Outcome State Fault Refusal :=
  .next (s.setTime fun x => { x with ref10m := true })

/-! ### The PTP client (R28, R29) -/

/-- The uplink exists in its port's role and mode (Table NET-1). -/
def State.uplinkExists (s : State) (u : Nat) : Bool :=
  let p := u / 4
  let sub := u % 4
  s.fld (pctlR p) F.wpPctl.ROLE == 2 &&
  (match s.upMode p with
   | 0 => sub == 0
   | 1 => sub % 2 == 0
   | 2 => true
   | _ => false)

/-- The client listens on this uplink. -/
def State.ptpClient (s : State) (u : Nat) : Bool :=
  s.refsel == 2 && s.fld tuCtrlR F.tuCtrl.PTP_UPL == u && s.uplinkExists u

/-- The values compared, most significant first (IEEE 1588-2019, default best master clock algorithm). -/
def annKey (a : Announce) : List Nat :=
  [a.prio1.toNat, a.cls.toNat, a.accuracy.toNat, a.variance.toNat, a.prio2.toNat, a.gm.toNat, a.steps.toNat, a.sender.toNat]

def lexLt : List Nat → List Nat → Bool
  | x :: xs, y :: ys => decide (x < y) || (x == y && lexLt xs ys)
  | _, _ => false

/-- The chosen master. -/
def bestMaster (l : List Announce) : Option Announce := (sortBy (fun a b => lexLt (annKey a) (annKey b)) l).head?

/-- Four announce intervals of the default profile, 2 s each, in stitches. (PRESUMED, log entry 104.) -/
def foreignWindow : Nat := 800000
/-- The masters that qualify: two Announce messages within the window. (PRESUMED, log entry 104.) -/
def State.qualified (s : State) : List Announce :=
  (s.time.masters.filter fun m => m.prev.any fun t => decide (s.ticks ≤ t + foreignWindow)).map (·.ann)
/-- The master that the client follows. -/
def State.ptpMaster (s : State) : Option Announce := bestMaster s.qualified

/-- PTP_ANNOUNCE (R28): an Announce message of the module's domain arrives on the client's uplink. -/
def execPtpAnnounce (u : Uplink) (domain : Byte) (a : Announce) (s : State) : Host.Outcome State Fault Refusal :=
  if s.ptpClient u ∧ domain.toNat = s.fld tuCtrlR F.tuCtrl.PTPDOM then
    .next (s.setTime fun x =>
      let prev := (x.masters.find? fun b => b.ann.sender == a.sender).map (·.at_)
      { x with masters := x.masters.filter (fun b => b.ann.sender ≠ a.sender) ++ [⟨a, s.ticks, prev⟩] })
  else .next s

/-- ANNOUNCE_RECEIPT_TIMEOUT (R28): no master is heard any more. -/
def execAnnounceReceiptTimeout (s : State) : Host.Outcome State Fault Refusal :=
  if s.refsel = 2 then .next (s.setTime fun x => { x with masters := [] }).loseRef else .next s

/-- PTP_SYNC (R28, R29): a Sync message arrives; it is a sample when its domain is the module's and its sender the chosen
master. -/
def execPtpSync (u : Uplink) (sender : PtpSender) (offset : Int) (s : State) :
    Host.Outcome State Fault Refusal :=
  if s.ptpClient u ∧ sender.domain.toNat = s.fld tuCtrlR F.tuCtrl.PTPDOM ∧ s.ptpMaster.map (·.sender) = some sender.id then
    .next ((s.ownSample (.offset offset)).setTime fun x => { x with sincePtp := 0 })
  else .next s

/-- A Sync message has failed to come when this many stitches pass without one: the default profile's interval of 1 s and the
30 % that IEEE 1588 allows around it. (PRESUMED, log entry 104.) -/
def ptpSyncDue : Nat := 130000

/-- An expected sample that has not come by a boundary breaks the count (R29): a SYNC cell every 16 stitches after the stitch
of the last one, a Sync message of the chosen PTP master every second. (PRESUMED, log entry 104.) -/
def State.missedSamples (s : State) : State :=
  let s := if s.follower && s.time.followed && decide (17 ≤ s.time.sinceSync) && s.time.sinceSync % 16 == 1 then
    s.setTime fun x => { x with main := x.main.add .broken } else s
  if s.refsel == 2 && s.ptpMaster.isSome && decide (0 < s.time.sincePtp) && s.time.sincePtp % ptpSyncDue == 0 then
    s.ownSample .broken else s

/-! ### The discipline step (R18, R29, R30, R31, Table TIM-6) -/

/-- One sample through Table TIM-6: state and track. -/
def tableStep (st : Nat) (x : Track) (v : Sample) : Nat × Track :=
  match v with
  | .broken => (st, { x with good := 0 })
  | .offset o =>
    let ok := decide (o.natAbs ≤ 100)
    if st = tsFree ∨ st = tsHoldover then
      (tsAcquiring, { x with fromHold := decide (st = tsHoldover), good := b2n ok })
    else if st = tsAcquiring then
      let g := if ok then x.good + 1 else 0
      if g = 16 then (tsLocked, { x with good := g }) else (st, { x with good := g })
    else (st, x)

/-- The last offset of a list of samples. -/
def lastOffset (l : List Sample) : Option Int :=
  l.foldl (fun (a : Option Int) v => match v with
    | .offset o => some o
    | .broken => a) none

/-- TU.OFFSET, saturating at ±(2^31 − 1). -/
def State.setOffset (s : State) (o : Int) : State :=
  s.wr { kind := .tuOffset } (ofI32 (max (-2147483647) (min 2147483647 o)))

/-- The most a discipline step slews, in 2^-16 ns, so that slew and frequency correction change the stitch by at most
2 ns (R18). -/
def slewLimit (freq : Int) : Int := 131072 - ((freq.natAbs + 99999) / 100000 : Nat)

/-- An election key is lower (R32). -/
def ElectKey.lt (a b : ElectKey) : Bool := lexLt [a.prio1, a.qual, a.modid] [b.prio1, b.qual, b.modid]

/-- QUAL (R32). -/
def State.qual (s : State) : Nat :=
  if s.refsel = 0 ∨ s.ownState = tsFree then 2 else if s.ownState = tsLocked then 0 else 1

def State.ownKey (s : State) : ElectKey :=
  { prio1 := s.fld tuCtrlR F.tuCtrl.PRIO1, qual := s.qual, modid := s.myId }

/-- The next SEQ of a time cell type. -/
def State.timeSeq (s : State) (typ : Nat) : Nat × State :=
  let n := SMap.get (fun _ => 0) s.time.seqs typ % 65536
  (n, s.setTime fun x => { x with seqs := SMap.put (fun _ => 0) x.seqs typ ((n + 1) % 65536) })

/-- A time cell (Table TIM-7): type, key fields, SEQ, origin stitch, CORR, HOPS, TAI ns of origin. -/
def State.timeCell (s : State) (typ qual prio modid seq stitch corr hops ns : Nat) : Cell :=
  mkLocal 0x01 s.myId (s.handle 0) 0 0
    (leBytes 1 typ ++ leBytes 1 qual ++ leBytes 1 prio ++ leBytes 1 0 ++ leBytes 2 modid ++ leBytes 2 seq ++
     leBytes 8 stitch ++ leBytes 8 corr ++ leBytes 8 (ns / 1000000000) ++ leBytes 4 (ns % 1000000000) ++ leBytes 2 0 ++
     leBytes 2 hops)

/-- Flood the best key seen (R33). -/
def State.sendElect (s : State) (k : ElectKey) (except : Option Nat) (hops : Nat) : State :=
  let (n, s) := s.timeSeq 2
  s.flood (s.timeCell 2 k.qual k.prio1 k.modid n s.stitch 0 hops s.tod) except

/-- An election starts here (R33), unless one is open. -/
def State.startElection (s : State) : State :=
  if !s.flag tuCtrlR F.tuCtrl.FABTIME || s.time.electing.isSome then s else
  let own := if s.flag tuCtrlR F.tuCtrl.MASTER_ELIG then some s.ownKey else none
  let s := s.setTime fun x => { x with electing := some 0, best := own }
  match own with
  | some k => s.sendElect k none 0
  | none => s

/-- The sample steps TOD before commitment (R30): TOD becomes the reference's time. With PPS_IN the nanoseconds are aligned,
and the seconds that TOD holds are kept unless Ockar has set a time. (DESIGN CHOICE, log entry 105.) -/
def State.stepTod (s : State) (o : Int) : State :=
  let t := (s.tod : Int) - o
  if !s.follower && s.refsel == 1 && !s.time.ockarSet then
    s.setTod (s.tod / 1000000000 * 1000000000 + (t % 1000000000).toNat)
  else s.setTod t.toNat

/-- What the samples of the followed reference do; a follower too steps before commitment (R30, R35). The frequency correction
continues from the one in force, Thimble's if it has written one (R25). (DESIGN CHOICE, log entry 31; DESIGN CHOICE,
log entry 105.) -/
def State.discipline (s : State) : State :=
  let x := s.time.main
  let (st, t) := x.samples.foldl (fun (a : Nat × Track) v => tableStep a.1 a.2 v) (s.tuState, { x with samples := [] })
  let o := lastOffset x.samples
  let s := s.setTime fun y => { y with main := t }
  let s := if st = s.tuState then s else s.setTuState st
  match o with
  | none => s
  | some o =>
    let s := if s.follower ∧ s.refsel ≠ 0 then s else s.setOffset o
    let (f, s) := s.freeBits 32
    let s := s.wr { kind := .tuFreqadj } ((s.rd { kind := .tuFreqadj } + f.toNat) % 2 ^ 32)
    if !s.committed ∧ 1000 < o.natAbs then (s.stepTod o).setTime fun y => { y with slew := 0 }
    else
      let s := if s.committed ∧ 10000000 < o.natAbs then s.timeFlag F.tuStatus.TIME_FAULT 0 else s
      s.setTime fun y => { y with slew := -o * 65536 }

/-- What the samples of a follower's own reference do (R493). -/
def State.monitorOwn (s : State) : State :=
  if !s.follower then s else
  let x := s.time.own
  let (st, t) := x.samples.foldl (fun (a : Nat × Track) v => tableStep a.1 a.2 v) (s.ownState, { x with samples := [] })
  let s := (s.setTime fun y => { y with own := t }).setFld tuStatusR F.tuStatus.OWNSTATE st
  match lastOffset x.samples with
  | some o => s.setOffset o
  | none => s

/-- The task has been dropped in this stitch, or is done (R21). -/
def TimeSt.over (x : TimeSt) (task : Nat) : Bool := x.dropped.contains task || x.done.contains task

/-- A task completes in this stitch, which ends a run of drops (R22). -/
def State.taskDone (s : State) (task : Nat) : State :=
  s.setTime fun x => { x with done := task :: x.done, drops := SMap.remove x.drops task }

/-- DISCIPLINE_STEP (R18, R21, R29–R31, Table TIM-6): task 6, once in a stitch that has not dropped it, applies the samples
since the last step and slews. A master whose QUAL has worsened starts an election (R33). -/
def execDisciplineStep (s : State) : Host.Outcome State Fault Refusal :=
  if s.time.over 6 then .next s else
  let s := (s.taskDone 6).discipline.monitorOwn
  let f := toI32 (s.rd { kind := .tuFreqadj })
  let lim := slewLimit f
  let step := max (-lim) (min lim s.time.slew)
  let s := s.setTime fun x => { x with slew := x.slew - step, freqs := (f :: x.freqs).take 1024 }
  let q := s.qual
  let worse := s.isMaster && decide (s.time.lastQual < q)
  let s := s.setTime fun x => { x with lastQual := q }
  .next (if worse then s.startElection else s)

/-- HOLDOVER_LIMIT (R37, Table TIM-6): 8 hours since the Time Unit last left LOCKED. -/
def execHoldoverLimit (s : State) : Host.Outcome State Fault Refusal :=
  if s.tuState = tsHoldover ∧ 2880000000 ≤ s.time.sinceLock then .next (s.setTime fun x => { x with class52 := true })
  else .next s

/-- A task is abandoned for the stitch (R21, R22): its counter, a DROP record, and at every 100th consecutive drop a
PERSISTENT_DROP record beside it; a plan of the Cutter's is given up. -/
def State.dropTask (s : State) (n : Nat) : State :=
  let u := if n = 5 ∨ n = 8 then unitId 7 0 else if n = 9 then unitId 0x0A 0 else if n = 10 then unitId 0x0D 0 else unitId 9 0
  let k := SMap.get (fun _ => 0) s.time.drops n + 1
  let s := s.addFld { kind := .tuDrop, i := n } F.tuDrop.COUNT 1
  let s := s.setTime fun x => { x with drops := SMap.insert x.drops n k, dropped := x.dropped ++ [n] }
  let s := if n = 5 ∨ n = 8 then { s with cut := { s.cut with plan := none } } else s
  let s := s.logErr { unitId := u, cls := 0, code := 0x01, action := 0, detail := n }
  if k % 100 = 0 then s.logErr { unitId := u, cls := 0, code := 0x02, action := 0, detail := k * 2 ^ 32 + n } else s

/-- DROPPED_STITCH (R21, R22): a task that is not done reaches the end of its window. Tasks 0 to 4 cannot overrun; the boundary
that sends no SYNC cell drops task 7 itself. (DESIGN CHOICE, log entry 106.) -/
def execDroppedStitch (task : Fin 16) (s : State) : Host.Outcome State Fault Refusal :=
  let n := task.val
  if n < 5 ∨ n = 7 ∨ 10 < n ∨ s.time.over n then .next s else .next (s.dropTask n)

/-! ### Fabric time (R32–R36, R495) -/

/-- ELECT (R33): a key arrives; it is kept and forwarded only if it beats the best seen. (DEDUCED, log entry 33.) -/
def execElect (p : Port) (c : Cell) (s : State) : Host.Outcome State Fault Refusal :=
  if !s.portUp p || !s.flag tuCtrlR F.tuCtrl.FABTIME then .next s else
  let k : ElectKey := { prio1 := cd c 2 1, qual := cd c 1 1, modid := cd c 4 2 % 4096 }
  let s := s.startElection
  let better := match s.time.best with
    | some b => k.lt b
    | none => true
  if better then .next ((s.setTime fun x => { x with best := some k }).sendElect k (some p.val) (cd c 38 2 + 1))
  else .next s

/-- The winner of an election, or the sender of a first SYNC cell, is the master; the module itself where it is eligible.
Without one MASTER_ID names the module, which is no master (R495). -/
def State.setMaster (s : State) (k : Option ElectKey) : State :=
  let was := s.follower
  let me := k.any fun k => k.modid == s.myId && s.flag tuCtrlR F.tuCtrl.MASTER_ELIG
  let k := k.filter fun k => k.modid ≠ s.myId
  let s := s.setFld tuStatusR F.tuStatus.MASTER_ID (match k with
    | some k => k.modid
    | none => s.myId)
  let s := s.setFld tuStatusR F.tuStatus.IS_MASTER (b2n me)
  let s := s.setTime fun x => { x with known := me || k.isSome, masterPrio := match k with
    | some k => k.prio1
    | none => x.masterPrio }
  let s := s.retrack was
  if me then s.setTime fun x => { x with lastQual := s.qual } else s

/-- ELECTION_END (R33, R495): 128 stitches after it started here, the best key's module is master; without a key the
module has none. -/
def execElectionEnd (s : State) : Host.Outcome State Fault Refusal :=
  match s.time.electing with
  | none => .next s
  | some n =>
    if n < 128 then .next s else
    .next ((s.setTime fun x => { x with electing := none, best := none, sinceSync := 0 }).setMaster s.time.best)

/-- A candidate whose PRIO1 is lower than the master's joins: it starts an election (R33). -/
def State.joinElection (s : State) (prio : Nat) : State :=
  if s.flag tuCtrlR F.tuCtrl.MASTER_ELIG ∧ s.fld tuCtrlR F.tuCtrl.PRIO1 < prio then s.startElection else s

/-- A follower whose PRIO1 is now lower than its master's. -/
def State.outrank (s : State) : State := if s.follower ∧ s.time.known then s.joinElection s.time.masterPrio else s

/-- SYNC (R33–R35, R495): a SYNC cell arrives by a port; a new one is passed on with this hop's correction added, the link's
measured delay (WP.LDLY, in 1/16 ns) and the residence time, and taken as a sample when it is the master's. A module without a
master takes its sender as master; a candidate with a lower PRIO1 than the sender's starts an election. (DEDUCED, log
entry 33.) (DEDUCED, log entry 33.) -/
def execSync (p : Port) (c : Cell) (residence : BitVec 64) (offset : Int) (s : State) : Host.Outcome State Fault Refusal :=
  if !s.portUp p || !s.flag tuCtrlR F.tuCtrl.FABTIME then .next s else
  let m := cd c 4 2 % 4096
  let prio := cd c 2 1
  let seq := cd c 6 2
  let fresh := match SMap.find s.time.syncSeen m with
    | some old => decide ((seq + 65536 - old) % 65536 < 32768) && seq ≠ old
    | none => true
  if m = s.myId ∨ !fresh then .next s else
  let s := s.setTime fun x => { x with syncSeen := SMap.insert x.syncSeen m seq }
  let delay := s.fld { kind := .wpLdly, i := p.val } F.wpLdly.DELAY * 4096
  let corr := (cd c 16 8 + delay + residence.toNat) % 2 ^ 64
  let fwd := mkLocal 0x01 s.myId (cf c cSRCH) 0 0
    ((cellBytes c).take 16 ++ leBytes 8 corr ++ ((cellBytes c).drop 24).take 14 ++ leBytes 2 (cd c 38 2 + 1))
  let s := s.flood fwd (some p.val)
  let s := if s.follower ∧ !s.time.known then s.setMaster (some { prio1 := prio, qual := cd c 1 1, modid := m }) else s
  let s := if s.follower ∧ s.fld tuStatusR F.tuStatus.MASTER_ID = m then
      let s := s.setTime fun x => { x with main := x.main.add (.offset offset), sinceSync := 0, followed := true, masterPrio := prio }
      if 1000 < offset.natAbs then s.timeFlag F.tuStatus.ALIGN_FAULT 1 else s
    else s
  .next (s.joinElection prio)

/-- MASTER_LOSS (R34): no SYNC cell of the master in the 64 stitches after the stitch of the last one. A module that has been
given a master which sends none, or an eligible one with an UP port and no master, starts an election alike; there is no
reference to lose. (DESIGN CHOICE, log entry 107.) -/
def execMasterLoss (s : State) : Host.Outcome State Fault Refusal :=
  if s.follower ∧ 65 ≤ s.time.sinceSync then
    if s.time.followed then .next ((s.loseMain.setTime fun x => { x with followed := false }).startElection)
    else if s.time.known ∨ (s.flag tuCtrlR F.tuCtrl.MASTER_ELIG ∧ s.upPorts ≠ []) then .next s.startElection
    else .next s
  else .next s

/-- LINK_DELAY_MEASUREMENT (R34): a link starts its delay exchange, 1,024 stitches after the last. -/
def execLinkDelayMeasurement (p : Port) (s : State) : Host.Outcome State Fault Refusal :=
  if (s.portUp p ∨ s.linkState p = lsHello) ∧ 1024 ≤ SMap.get (fun _ => 0) s.time.sinceDelay p.val then
    let (n, s) := s.timeSeq 3
    let s := s.setTime fun x => { x with delayReq := SMap.insert x.delayReq p.val n, sinceDelay := SMap.remove x.sinceDelay p.val }
    .next (s.sendLocal p.val (s.timeCell 3 s.qual (s.fld tuCtrlR F.tuCtrl.PRIO1) s.myId n s.stitch 0 0 s.tod))
  else .next s

/-- DELAY_REQ (R34, R36): answered with the residence time in CORR. The answer names the sender and has its own SEQ: the port's
open exchange is the one it belongs to. (DEDUCED, log entry 130.) -/
def execDelayReq (p : Port) (c : Cell) (residence : BitVec 64) (s : State) : Host.Outcome State Fault Refusal :=
  if s.portUp p ∨ s.linkState p = lsHello then
    let (n, s) := s.timeSeq 4
    .next (s.sendLocal p.val (s.timeCell 4 s.qual (s.fld tuCtrlR F.tuCtrl.PRIO1) s.myId n s.stitch residence.toNat 0 s.tod))
  else .next s

/-! ### The PTP service (R37, R38) -/

/-- The clockClass advertised (R37). -/
def State.clockClass (s : State) : Nat :=
  if s.tuState = tsLocked then 6
  else if s.tuState = tsHoldover then (if s.time.class52 then 52 else 7)
  else 248

/-- PTP is served there: not on the client's own uplink, where the module is a slave. -/
def State.ptpServed (s : State) : PtpPort → Bool
  | .vp v => s.flag tuCtrlR F.tuCtrl.PTP_VP && s.flag { kind := .neVpctl, i := v } F.neVpctl.EN
  | .uplink u => s.flag tuCtrlR F.tuCtrl.PTP_UPLINK && s.uplinkExists u && !s.ptpClient u

/-- PTP_DELAY_REQ (R37): a client's Delay_Req, or Pdelay_Req under P2P, is answered with its receive timestamp; a two-step
Pdelay_Resp is followed by its departure time. -/
def execPtpDelayReq (at_ : PtpPort) (client : BitVec 80) (seq : BitVec 16) (rxNs : BitVec 80) (p2p : Bool) (s : State) :
    Host.Outcome State Fault Refusal :=
  if s.ptpServed at_ ∧ p2p = s.flag tuCtrlR F.tuCtrl.PTP_P2P then
    let s := s.emit (.ptp at_ (if p2p then 0x3 else 0x9) [seq.toNat, client.toNat, rxNs.toNat])
    .next (if p2p ∧ s.flag tuCtrlR F.tuCtrl.PTP_2STEP then s.emit (.ptp at_ 0xA [seq.toNat, client.toNat, s.tod]) else s)
  else .next s

/-- The data set that Announce messages carry (R37): domain, clockClass, TU.UTCOFS, both priorities, the grandmaster's identity
and the steps to it: on a boundary clock those of its master, on a grandmaster its own with the default profile's
priorities. (PRESUMED, log entry 104.) -/
def State.announceFields (s : State) : List Nat :=
  let head := [s.fld tuCtrlR F.tuCtrl.PTPDOM, s.clockClass, s.rd { kind := .tuUtcofs }]
  match (if s.refsel = 2 then s.ptpMaster else none) with
  | some a => head ++ [a.prio1.toNat, a.prio2.toNat, a.gm.toNat, a.steps.toNat + 1]
  | none => head ++ [128, 128, Config.clockIdentity.toNat, 0]

/-- PTP_SERVICE_MESSAGE (R37): Announce with the module's data set, then Sync, with a Follow_Up under two-step. -/
def execPtpServiceMessage (at_ : PtpPort) (s : State) : Host.Outcome State Fault Refusal :=
  if !s.ptpServed at_ then .next s else
  let s := s.emit (.ptp at_ 0xB s.announceFields)
  if s.flag tuCtrlR F.tuCtrl.PTP_2STEP then .next (s.emits [.ptp at_ 0x0 [], .ptp at_ 0x8 [s.tod]])
  else .next (s.emit (.ptp at_ 0x0 [s.tod]))

/-- A read of TU.TOD_S latches the nanoseconds of the same instant for the next read of TU.TOD_NS (R26). -/
def State.latchTod (s : State) : State := s.setTime fun x => { x with latched := some (s.rd { kind := .tuTodNs }) }

def execTuTodS (s : State) : Host.Outcome State Fault Refusal := .next s.latchTod

end Sys2Proof.Machine
end

