-- ==== Sys2Proof/Machine/Warp.lean ====
section
/-! DEFINITION. The Warp network (R186–R202): how a router or switch handles a flit, virtual channels and
arbitration, link failures, and the pattern tables. -/

namespace Sys2Proof.Machine

/-! ### Layout (R186–R188) -/

/-- Ring position of a column and of a row, and back (Table WRP-1). -/
def xPos (c : Nat) : Nat := [0, 7, 1, 6, 2, 5, 3, 4].getD c 0
def yPos (r : Nat) : Nat := [0, 5, 1, 4, 2, 3].getD r 0
def colAt (x : Nat) : Nat := [0, 2, 4, 6, 7, 5, 3, 1].getD x 0
def rowAt (y : Nat) : Nat := [0, 2, 4, 5, 3, 1].getD y 0

/-- Number of a router or switch: tile t is t, the bridge of die d is 192 + d, the hub switch is 196. -/
def nodeNum : WarpNode → Nat
  | .tile t => t.val
  | .bridge d => 192 + d.val
  | .hub => 196

/-- Ports of a tile router: +X, −X, +Y, −Y, the gate, and the tile's own interface. -/
def portGate : Nat := 4
def portNi : Nat := 5

/-- The neighbour through torus port 0–3, and whether the link crosses its ring's dateline (R190). -/
def torusStep (t dir : Nat) : Nat × Bool :=
  let die := t / 48
  let r := t % 48 / 8
  let c := t % 8
  let x := xPos c
  let y := yPos r
  match dir with
  | 0 => (die * 48 + r * 8 + colAt ((x + 1) % 8), x == 7)
  | 1 => (die * 48 + r * 8 + colAt ((x + 7) % 8), x == 0)
  | 2 => (die * 48 + rowAt ((y + 1) % 6) * 8 + c, y == 5)
  | _ => (die * 48 + rowAt ((y + 5) % 6) * 8 + c, y == 0)

/-- The far end of a link: node and input port; none where an agent stands (Table WRP-2). -/
def linkEnd (n port : Nat) : Option (Nat × Nat) :=
  if n < 192 then
    if port < 4 then some ((torusStep n port).1, port ^^^ 1)
    else if port = portGate ∧ n % 48 < 8 then some (192 + n / 48, n % 48)
    else none
  else if n < 196 then
    if port < 8 then some (48 * (n - 192) + port, portGate)
    else if port = 14 then some (196, n - 192)
    else none
  else if port < 4 then some (192 + port, 14)
  else none

/-- The endpoint ID behind an agent port (R188). -/
def endpointAt (n port : Nat) : Nat :=
  if n < 192 then n
  else if n < 196 then (if port = 15 then 226 + (n - 192) else 200 + 6 * (n - 192) + (port - 8))
  else if port ≤ 11 then 188 + port else 212 + port

/-- Where an interface injects: node, port and its endpoint ID. -/
def niPlace : Ni → Nat × Nat
  | .tile t => (t.val, portNi)
  | .hub a => (196, 4 + a.val)
  | .mc c => (192 + c.val / 6, 8 + c.val % 6)
def niEndpoint (i : Ni) : Nat := endpointAt (niPlace i).1 (niPlace i).2

/-! ### Flit headers (Tables WRP-3 and WRP-4) -/

def hXS : Fld := ⟨35, 32⟩
def hYS : Fld := ⟨39, 36⟩
def hEXIT : Fld := ⟨40, 40⟩
def hBP1 : Fld := ⟨44, 41⟩
def hHP : Fld := ⟨49, 45⟩
def hBP2 : Fld := ⟨53, 50⟩
def hYD : Fld := ⟨57, 54⟩
def hCLASS : Fld := ⟨30, 28⟩
def hPH : Fld := ⟨27, 27⟩
def hDL : Fld := ⟨26, 26⟩
def hPAIR : Fld := ⟨24, 24⟩
def hOPCODE : Fld := ⟨23, 16⟩
def hSRC : Fld := ⟨15, 8⟩
def hTID : Fld := ⟨7, 0⟩

/-- What a stage does with a flit. -/
inductive Hop where
  /-- The route cannot be obeyed (R191). -/
  | bad
  /-- Out through a port with the header given. -/
  | out (port head : Nat)
  deriving DecidableEq, Repr

/-- One hop of a torus leg: direction and count in a leg field, DL as R190 gives. -/
def legHop (t inPort h : Nat) (f : Fld) (base : Nat) : Hop :=
  let v := f.get h
  let dir := base + v / 8
  let dl := if inPort / 2 = base / 2 ∧ inPort < 4 then hDL.get h else 0
  let dl := if (torusStep t dir).2 then 1 else dl
  .out dir (hDL.set (f.set h (v - 1)) dl)

/-- How a stage handles a flit (R190, R191). -/
def hop (n inPort h : Nat) : Hop :=
  let xs := hXS.get h % 8
  let ys := hYS.get h % 8
  let yd := hYD.get h % 8
  if 4 < xs ∨ 3 < ys ∨ 3 < yd then .bad
  else if n < 192 then
    if hPH.get h = 0 then
      if 0 < xs then legHop n inPort h hXS 0
      else if 0 < ys then legHop n inPort h hYS 2
      else if hEXIT.get h = 1 then (if n % 48 < 8 then .out portGate (hDL.set h 0) else .bad)
      else if hBP1.get h = 0 ∧ hHP.get h = 0 ∧ hBP2.get h = 0 then .out portNi h
      else .bad
    else if 0 < yd then legHop n inPort h hYD 2
    else .out portNi h
  else if n < 196 then
    let p := if inPort = 14 then hBP2.get h else hBP1.get h
    if inPort < 8 ∧ p < 8 then .bad
    else .out p (hDL.set (if p < 8 ∨ p = 14 then hPH.set h 1 else h) 0)
  else
    let p := hHP.get h
    if 14 ≤ p then .bad else .out p (hDL.set h 0)

/-! ### Failed links (R200) -/

/-- The fail bit of the link a node sees through a port: register and field. -/
def linkBit (n port : Nat) : Option (Reg × Fld) :=
  if n < 192 then
    if port < 5 then some ({ kind := .wrpRstat, i := n }, ⟨port, port⟩) else none
  else if n < 196 ∧ port < 8 then some ({ kind := .wrpBctl, i := n - 192 }, ⟨port, port⟩)
  else none

def State.linkFailed (s : State) (n port : Nat) : Bool :=
  match linkBit n port with
  | some (r, f) => s.flag r f
  | none => false

def State.failEnd (s : State) (n port : Nat) : State :=
  match linkBit n port with
  | some (r, f) => s.setFld r f 1
  | none => s

/-- The unit a Warp record names: the tile, or the module for a bridge or the hub switch.
(DESIGN CHOICE, log entry 56.) -/
def warpUnit (n : Nat) : Nat := if n < 192 then unitId 2 n else unitId 0x0D 0

/-! ### Pattern tables (R196, R197) -/

def niPri : Ni → Nat → Reg
  | .tile t, e => { kind := .tilePri, i := t.val, j := e }
  | .hub a, e => { kind := .hubPri, i := a.val, j := e }
  | .mc c, e => { kind := .mcPri, i := c.val, j := e }
def niAlt : Ni → Nat → Reg
  | .tile t, e => { kind := .tileAlt, i := t.val, j := e }
  | .hub a, e => { kind := .hubAlt, i := a.val, j := e }
  | .mc c, e => { kind := .mcAlt, i := c.val, j := e }
def niSel : Ni → Nat → Reg
  | .tile t, e => { kind := .tileSel, i := t.val, j := e }
  | .hub a, e => { kind := .hubSel, i := a.val, j := e }
  | .mc c, e => { kind := .mcSel, i := c.val, j := e }

def fSEL : Fld := ⟨0, 0⟩
def fPEND : Fld := ⟨1, 1⟩

/-- The route word in use toward an endpoint (R197): the old one while PEND is set, for every flit; the new one after the switch. -/
def State.routeWord (s : State) (ni : Ni) (e : Nat) : Nat :=
  let v := s.rd (niSel ni e)
  if (fSEL.get v + fPEND.get v) % 2 = 1 then s.rd (niAlt ni e) else s.rd (niPri ni e)

/-- Thimble writes SEL of an entry: a change sets PEND; going back to the word in use leaves nothing waiting (R197). -/
def State.selWord (s : State) (r : Reg) (sel : Nat) : State :=
  let v := s.rd r
  if fSEL.get v = sel then s else s.wr r (sel + 2 * (1 - fPEND.get v))
def State.selRoute (s : State) (ni : Ni) (e : Nat) (sel : Bool) : State := s.selWord (niSel ni e) (b2n sel)

/-- The links of a route: nodes and the ports they leave by. -/
def routeLinks (n port h : Nat) : Nat → List (Nat × Nat)
  | 0 => []
  | fuel + 1 =>
    match hop n port h with
    | .bad => []
    | .out p h' =>
      match linkEnd n p with
      | none => []
      | some (m, q) => (n, p) :: routeLinks m q h' fuel

def allNis : List Ni :=
  (List.finRange 192).map Ni.tile ++ (List.finRange 10).map Ni.hub ++ (List.finRange 24).map Ni.mc

/-- Thimble switches every entry whose chosen word crosses a failed link to the other word (R200).
(DEDUCED, log entry 80.) -/
def State.routeAround (s : State) (n port : Nat) : State :=
  let far := linkEnd n port
  allNis.foldl (fun s ni =>
    (List.range 256).foldl (fun s e =>
      let alt := fSEL.get (s.rd (niSel ni e))
      let w := if alt = 1 then s.rd (niAlt ni e) else s.rd (niPri ni e)
      if bit w 31 ∧ (routeLinks (niPlace ni).1 (niPlace ni).2 (w <<< 32) 24).any (fun l => l == (n, port) || some l == far)
      then s.selRoute ni e (alt == 0) else s) s) s

/-- One end of a failed link: its fail bit is set and a corrected event reported (R200). -/
def State.endFails (s : State) (n port : Nat) : State :=
  (s.failEnd n port).logErr { unitId := warpUnit n, cls := 0, code := 0x2B, action := 0 }

/-- A link fails at its sender `n` through `port` (R200). -/
def State.failLink (s : State) (n port : Nat) : State :=
  let s := s.endFails n port
  let s := match linkEnd n port with
    | some (m, q) => s.endFails m q
    | none => s
  s.routeAround n port

/-! ### Channels and arbitration (R192, R167) -/

/-- The key of an input channel: node, port, class, phase, dateline. -/
def chanKey (n port cls ph dl : Nat) : Nat := ((n * 32 + port) * 8 + cls) * 4 + ph * 2 + dl
def keyOf (n port h : Nat) : Nat := chanKey n port (hCLASS.get h) (hPH.get h) (hDL.get h)
def keyPort (k : Nat) : Nat := k / 32 % 32
def keyClass (k : Nat) : Nat := k / 4 % 8

def State.chanBuf (s : State) (k : Nat) : List Flit := SMap.get (fun _ => []) s.warp.bufs k
def State.setChan (s : State) (k : Nat) (l : List Flit) : State :=
  { s with warp := { s.warp with bufs := SMap.put (fun _ => []) s.warp.bufs k l } }

/-- The channel a flit enters next, or none where an agent sinks it. -/
def nextChan (n port h : Nat) : Option Nat :=
  match linkEnd n port with
  | some (m, q) => some (keyOf m q h)
  | none => none

/-- The flit may be sent: its link stands, its next channel has a free credit and is not taken by another's pair. -/
def State.canSend (s : State) (n port h inKey : Nat) : Bool :=
  match nextChan n port h with
  | none => true
  | some k =>
    decide ((s.chanBuf k).length < 2) &&
    (match SMap.find s.warp.pairs k with
     | some o => o == inKey
     | none => true)

/-- The flits that wait at a node for an output and could be sent: their input channels and classes.
(DESIGN CHOICE, log entry 101.) -/
def State.contenders (s : State) (n port : Nat) : List (Nat × Nat) :=
  s.warp.bufs.filterMap fun e =>
    if e.1 / 1024 ≠ n then none else
    match e.2 with
    | [] => none
    | f :: _ =>
      match hop n (keyPort e.1) f.head.toNat with
      | .out p h => if p = port ∧ s.canSend n p h e.1 then some (e.1, keyClass e.1) else none
      | .bad => none

/-! ### Forwarding -/

/-- A bad route (R191): the flit is discarded, counted and reported with its SRC and OPCODE. -/
def State.badFlit (s : State) (n h : Nat) : State :=
  let s := if n < 192 then s.addFld { kind := .wrpRstat, i := n } F.wrpRstat.BADHDR 1 else s
  s.logErr { unitId := warpUnit n, cls := 0, code := 0x2A, action := 0, req := hSRC.get h, detail := hOPCODE.get h }

/-- Resends of one flit on a link: counted at the receiving router, and each a corrected event (R200). -/
def State.resends (s : State) (n port k : Nat) : State :=
  let m := match linkEnd n port with
    | some (m, _) => m
    | none => n
  let s := if m < 192 then s.addFld { kind := .wrpRstat, i := m } F.wrpRstat.RETRY k else s
  (List.range k).foldl (fun s _ => s.logErr { unitId := warpUnit m, cls := 0, code := 0x2B, action := 0 }) s

/-- A die's gates are fenced (R201). -/
def State.fenced (s : State) (n : Nat) : Bool := s.flag { kind := .wrpBctl, i := n - 192 } F.wrpBctl.FENCE

/-- The fence at a bridge (R181): requests toward a fenced gate are answered ERRCMP, responses either way discarded;
true where the flit stops here. -/
def State.fenceStops (s : State) (n inPort port h : Nat) : State × Bool :=
  if n < 192 ∨ n = 196 ∨ !s.fenced n then (s, false)
  else
    let c := hCLASS.get h
    if port < 8 ∧ 3 ≤ c then (s.emit (.warp .errcmp (226 + (n - 192)) (hSRC.get h) (hTID.get h) 0 false []), true)
    else if (port < 8 ∨ inPort < 8) ∧ (c = 1 ∨ c = 2) then (s, true)
    else (s, false)

/-- Send a flit out of a node by a port: into the next channel, or to the agent there. A flit sunk at a tile in RET
wakes it (R202). -/
def State.sendOut (s : State) (n port h inKey : Nat) (f : Flit) : State :=
  let f := { f with head := BitVec.ofNat 64 h }
  match nextChan n port h with
  | none =>
    let s := if n < 192 then s.need (192 + n) else s
    s.emit (.flit (endpointAt n port) f)
  | some k =>
    let s := s.setChan k (s.chanBuf k ++ [f])
    { s with warp := { s.warp with
        pairs := if hPAIR.get h = 1 then SMap.insert s.warp.pairs k inKey else SMap.remove s.warp.pairs k } }

/-- Handle a flit that stands first in an input channel, or is injected under its key: `pop` takes it out of there. -/
def State.forward (s : State) (n inPort inKey : Nat) (f : Flit) (fails : Nat) (pop : State → State) : State :=
  let h := f.head.toNat
  match hop n inPort h with
  | .bad => (pop s).badFlit n h
  | .out port h' =>
    let (s1, stops) := s.fenceStops n inPort port h
    if stops then pop s1
    else if s.linkFailed n port then pop s
    else if !s.canSend n port h' inKey || !s.warp.arb.mayGo (n * 32 + port) (s.contenders n port) inKey (hCLASS.get h) then s
    else
      let arb := s.warp.arb.served (n * 32 + port) inKey (hCLASS.get h) (s.contenders n port)
      let s := if n < 192 ∨ n = 196 then s else s.need (384 + (n - 192))
      let s := pop s
      let s := { s with warp := { s.warp with arb := arb } }
      let s := s.resends n port (min 4 fails)
      if fails = 5 then s.failLink n port else s.sendOut n port h' inKey f

/-- An interface puts a flit into its channel of the router's or switch's input port, when it has room there (R192). -/
def State.inject (s : State) (ni : Ni) (f : Flit) : State :=
  let (n, port) := niPlace ni
  let k := keyOf n port f.head.toNat
  let e := niEndpoint ni
  if 2 ≤ (s.chanBuf k).length then s else
    let s := s.setChan k (s.chanBuf k ++ [f])
    let first := hPAIR.get f.head.toNat = 1
    { s with warp := { s.warp with
        mid := if first then e :: s.warp.mid.filter (· ≠ e)
          else if hCLASS.get f.head.toNat = 2 then s.warp.mid.filter (· ≠ e) else s.warp.mid } }

/-- FLIT_FORWARD (R190–R196, R200): the router or switch handles one flit, of which `fails` transmissions on the link it leaves by
fail their check: each is sent again, and a fourth resend that fails too fails the link; a flit that cannot be sent now stays.
An interface copies the route word in use into what it sends, which then waits at its input port like any other flit; a
request to an endpoint whose word has V = 0 it answers ERRCMP itself. -/
def execFlitForward (node : WarpNode) (src : FlitFrom) (fails : Fin 6) (s : State) : Host.Outcome State Fault Refusal :=
  match src with
  | .link port cls ph dl =>
    let k := chanKey (nodeNum node) port.val cls.val (b2n ph) (b2n dl)
    match s.chanBuf k with
    | [] => .next s
    | f :: rest => .next (s.forward (nodeNum node) port.val k f fails.val fun s => s.setChan k rest)
  | .agent ni dst f =>
    let n := (niPlace ni).1
    if n ≠ (nodeNum node) then .next s else
    let h := f.head.toNat
    let cls := hCLASS.get h
    let w := s.routeWord ni dst.val
    if !bit w 31 then
      let s := s.logErr { unitId := warpUnit n, cls := 0, code := 0x2A, action := 0, req := (niEndpoint ni), detail := hOPCODE.get h }
      .next (if 3 ≤ cls then s.emit (.warp .errcmp (niEndpoint ni) (niEndpoint ni) (hTID.get h) 0 false []) else s)
    else
      let h := hSRC.set (hDL.set (hPH.set (setBits (setBits h 63 32 w) 31 31 0) 0) 0) (niEndpoint ni)
      .next (s.inject ni { f with head := BitVec.ofNat 64 h })

/-! ### Pattern table commands -/

/-- WRP_PATTERN_SEL (R197): Thimble writes SEL of a pattern table entry. -/
def execWrpPatternSel (ni : Ni) (e : Fin 256) (sel : Bool) (s : State) : Host.Outcome State Fault Refusal :=
  .next (s.selRoute ni e.val sel)

/-- A request the agent of an interface has open toward an endpoint: of class 4 at a home, or of class 5 at a host-port controller or
the Weft engine. -/
def State.openToward (s : State) (ni : Ni) (e : Nat) : Bool :=
  let a := niEndpoint ni
  (decide (a < 200) && (List.range (reqSlots a)).any fun k =>
    match s.req a k with
    | some m => s.homeIn m.bolt m.line == some e
    | none => false) ||
  s.hio.reqs.any (fun q => q.th / 2 == a && 194 + q.rp / 4 == e) ||
  (e == 198 && (s.weft.apq.any (fun q => q.th / 2 == a) || s.weft.out.any fun x => match x.2 with
    | some y => (match y.use with | .load th | .store th _ => th / 2 == a | _ => false)
    | none => false))

/-- PATTERN_SWITCH (R197): every request sent on the old word has been answered or has timed out; the interface
switches at a pair boundary and clears PEND. -/
def execPatternSwitch (ni : Ni) (e : Fin 256) (s : State) : Host.Outcome State Fault Refusal :=
  if fPEND.get (s.rd (niSel ni e.val)) = 1 ∧ !s.openToward ni e.val ∧ niEndpoint ni ∉ s.warp.mid then
    .next (s.setFld (niSel ni e.val) fPEND 0)
  else .next s

/-! ### The time grid at the tiles (R198, R199) -/

/-- BOUNDARY (R198): the flit for a coming boundary reaches a tile, which stores its copy and, up to the fifth hop from
the rim, forwards it +Y with the waiting time accumulated so far. (DESIGN CHOICE, log entry 108.) -/
def execBoundary (t : Tile) (stitch : Word) (corr : FlitCorr) (s : State) : Host.Outcome State Fault Refusal :=
  let s := s.modTile t.val fun x => { x with bnd := stitch.toNat }
  if yPos (t.val % 48 / 8) < 5 then
    .next (s.emit (.warp .boundary t.val (torusStep t.val 2).1 0 0 false [stitch.toNat, (corr.corr + corr.wait).toNat, 256]))
  else .next s

/-- WRP_MISSB (R199): no BOUNDARY flit has come for the tile's next boundary; it applies it by count. -/
def execWrpMissb (t : Tile) (s : State) : Host.Outcome State Fault Refusal :=
  if s.stitch ≤ (s.tile t.val).bnd then .next s
  else
    let s := s.modTile t.val fun x => { x with bnd := x.bnd + 1, missed := x.missed + 1 }
    let s := s.addFld { kind := .wrpRstat, i := t.val } F.wrpRstat.MISSB 1
    .next (s.logErr { unitId := unitId 2 t.val, cls := 0, code := 0x2D, action := 0 })

end Sys2Proof.Machine
end

