-- ==== Sys2Proof/Machine/RegAccess.lean ====
section
/-! DEFINITION. Access to memory-mapped registers (R13–R15, R492): who may reach what, access codes, what a write or
a read sets going; and a core's device accesses of every kind (R119, R254, R294–R296). -/

namespace Sys2Proof.Machine

/-! ### Owners -/

/-- The panel whose copy a register is, for registers that panel software may reach. -/
def State.regPanel (s : State) (r : Reg) : Option Nat :=
  match r.kind with
  | .hubPstate | .hubPwdog | .hubPwkick | .hubPfault | .cutPstat | .cutContract | .tapeLive | .mbxPage | .mbxDb
  | .mbxSlot | .icVec => some r.i
  | .wpBar | .wpBarcnt => some (s.fld (barR r.i) F.wpBar.PANEL)
  | .neVpctl | .neVpbob | .neVpmac | .neVpvlan | .neVpdrop => some (s.vpPanel r.i)
  | .neBctl | .neSqbase | .neRqbase | .neCqbase | .neBstat | .neBdrop | .dbSqtail | .dbRqtail | .dbCqhead | .dbArm =>
    some (s.bobPanel r.i)
  | _ => none

/-- On whose code panel `p` at level `pl` accesses a register: the host manager is panel 0 at level H (R5, R492). -/
def State.ownerAt (s : State) (p pl : Nat) (r : Reg) : Owner :=
  if p = 0 ∧ pl = 2 then (if s.regPanel r = some 0 then .hostOnPanel0 else .host) else .panelSw

/-- The access column lists the owner for this copy (R15, R282). -/
def State.regListed (s : State) (p : Nat) (o : Owner) (r : Reg) : Bool :=
  r.kind.listed o && (o ≠ .panelSw || s.regPanel r == some p)

/-! ### Effects of a write (R13) -/

/-- A self-reset request (R45): for panel 0 a warm reset at the next boundary, which is no fault. -/
def State.selfReset (s : State) (p : Nat) : State :=
  let s := s.setFld { kind := .hubPstate, i := p } F.hubPstate.SELFRESET 1
  if p = 0 then
    (s.logErr { unitId := unitId 0x0D 0, cls := 0, code := 0x4E, action := 9, flags := flagPanel, panel := s.handle 0 }).resetAt
      .warm
  else s.trigger p .selfReset

/-- A kick of the panel watchdog: 0xA5 reloads REMAIN (Table PNL-12). -/
def State.kick (s : State) (p v : Nat) : State :=
  let r : Reg := { kind := .hubPwdog, i := p }
  if v = 0xA5 then s.setFld r F.hubPwdog.REMAIN (s.fld r F.hubPwdog.PERIOD) else s

/-- RAS.TMOn outside its range is not written (R414, Table ERR-4). -/
def tmoRange (n v : Nat) : Bool :=
  match n with
  | 0 => decide (1 ≤ v) && decide (v ≤ 4)
  | 1 => decide (2 ≤ v) && decide (v ≤ 20)
  | 2 => decide (4 ≤ v) && decide (v ≤ 50)
  | 3 => decide (10 ≤ v) && decide (v ≤ 1000)
  | 4 => decide (50 ≤ v) && decide (v ≤ 10000)
  | _ => decide (100 ≤ v) && decide (v ≤ 100000)

/-- A write of a whole register by its access codes: `v` the value, `ones` the bits written as 1 by this access. -/
def State.regPut (s : State) (o : Owner) (r : Reg) (v ones : Nat) : State :=
  let old := s.rd r
  let new := (r.kind.fields.map fun f => match f.writeAcc o with
    | .rw | .wo => v &&& f.mask
    | .w1s => (old ||| ones) &&& f.mask
    | .w1c => (old - (old &&& ones)) &&& f.mask
    | _ => old &&& f.mask).sum
  s.wr r new

/-- Whether the owner's write reaches a field. -/
def wrote (o : Owner) (r : Reg) (f : Fld) : Bool :=
  r.kind.fields.any fun x => x.hi == f.hi && x.lo == f.lo && (x.writeAcc o).writes

/-- A write of a vector (R88, Table ISA-24): outside panel 0 HLVL is reserved, and a seat that the panel lacks clears EN.
(DEDUCED, log entry 25.) -/
def State.icVecWrite (s : State) (o : Owner) (r : Reg) (v ones : Nat) : State :=
  let s := s.regPut o r v ones
  let s := if r.i = 0 then s else s.setFld r F.icVec.HLVL 0
  if (s.panel r.i).seats ≤ s.fld r F.icVec.SEAT then s.setFld r F.icVec.EN 0 else s

/-- A write of the Time Unit's clock (R25): only before commitment. A write of the nanoseconds ends what a read of TU.TOD_S has
latched. (DESIGN CHOICE, log entry 110.) -/
def State.clockWrite (s : State) (o : Owner) (r : Reg) (v ones : Nat) : State :=
  if s.committed then s
  else
    let s := s.regPut o r v ones
    if r.kind = .tuTodNs then s.setTime fun x => { x with latched := none } else s

/-- A register write (R13, R14) with what it sets going. (DESIGN CHOICE, log entry 47.) -/
def State.regStore (s : State) (o : Owner) (r : Reg) (v ones : Nat) : State :=
  match r.kind with
  | .hubPwkick => s.kick r.i (v % 256)
  | .wpPctl => (s.keepInUse r.i).regPut o r v ones
  | .hubPstate =>
    if wrote o r F.hubPstate.SELFRESET && o ≠ .thimble then (if bit ones 8 then s.selfReset r.i else s)
    else s.regPut o r v ones
  | .mbxDb => if wrote o r F.mbxDb.RING && o ≠ .thimble then (if F.mbxDb.RING.get ones ≠ 0 then s.ring r.i else s)
    else s.regPut o r v ones
  | .mbxSlot => if o ≠ .thimble && wrote o r F.mbxSlot.HELD then s.releaseSlots r.i (F.mbxSlot.HELD.get ones)
    else s.regPut o r v ones
  | .wpBar =>
    let arrive := wrote o r F.wpBar.ARRIVE && o ≠ .thimble && F.wpBar.ARRIVE.get ones == 1
    let old := s.fld r F.wpBar.ARRIVE
    let s := s.regPut o r v ones
    if arrive then (s.setFld r F.wpBar.ARRIVE old).barArrive r.i else s
  | .dbSqtail => s.tailWrite r.i true (v % 65536)
  | .dbRqtail => s.tailWrite r.i false (v % 65536)
  | .dbCqhead => s.cqheadWrite r.i (v % 65536)
  | .dbArm => s.armWrite r.i (bit v 0)
  | .icVec => s.icVecWrite o r v ones
  | .mcScrub =>
    let n := F.mcScrub.PERIOD.get v
    let old := s.fld r F.mcScrub.PERIOD
    let s := s.regPut o r v ones
    if 1 ≤ n ∧ n ≤ 168 then s else s.setFld r F.mcScrub.PERIOD old
  | .tuTodS | .tuTodNs | .tuStitch => s.clockWrite o r v ones
  | .tuCtrl => (s.setTuCtrl ((s.regPut o r v ones).rd r)).outrank
  | .rasMwdog =>
    let s := if wrote o r F.rasMwdog.KICK then s.kickModule (F.rasMwdog.KICK.get v) else s
    if wrote o r F.rasMwdog.REMAIN then s.setFld r F.rasMwdog.REMAIN (F.rasMwdog.REMAIN.get v) else s
  | .rasTmo => if tmoRange r.i (F.rasTmo.VALUE.get v) then s.regPut o r v ones else s
  | .rasNote =>
    let s := s.regPut o r v ones
    if s.fld r F.rasNote.VECTOR = 2047 then s.setFld r F.rasNote.VECTOR 0 else s
  | .tileSel | .hubSel | .mcSel => s.selWord r (fSEL.get ((s.regPut o r v ones).rd r))
  | .wrpL3way => s.putWays r.i r.j ((s.regPut o r v ones).rd r)
  | .wrpCctl =>
    let s := s.regPut o r v ones
    let go := fun (s : State) (f : Fld) (g : State → Nat → State) => if wrote o r f && f.get ones == 1 then g s r.i else s
    go (go (go (go s F.wrpCctl.INV_L1 State.invL1) F.wrpCctl.INV_L2 State.invL2) F.wrpCctl.INV_L3 State.invL3) F.wrpCctl.INV_DIR
      State.invDir
  | _ => s.regPut o r v ones

/-- The bits of a register that `n` bytes at `pa` cover. (DESIGN CHOICE, log entry 109.) -/
def covered (r : Reg) (pa n : Nat) : Nat :=
  ofLeBytes ((List.range (r.width / 8)).map fun i => if pa ≤ r.addr + i ∧ r.addr + i < pa + n then 0xFF else 0)

/-- A read of a register's bits `seen` (R13, R26): its value, and RC fields cleared; a read of TU.TOD_S latches the
nanoseconds that the next read of TU.TOD_NS returns. -/
def State.regLoad (s : State) (o : Owner) (r : Reg) (seen : Nat) : State × Nat :=
  match r.kind with
  | .tuTodS => let s := s.latchTod; (s, r.kind.readValue o (s.rd r))
  | .tuTodNs => (s, r.kind.readValue o (s.time.latched.getD (s.rd r)))
  | _ =>
    let v := s.rd r
    (s.wr r (r.kind.afterRead o seen v), r.kind.readValue o v)

/-! ### Accesses by address -/

/-- The registers that hold the bytes of an access. -/
def State.regsAt (s : State) (pa n : Nat) : List Reg :=
  ((List.range n).filterMap fun i => match s.target (pa + i) with
    | .reg r => some r
    | _ => none).eraseDups

/-- Bytes of a register value that an access covers, placed at the access. -/
def overlap (r : Reg) (pa n v : Nat) : Nat :=
  if pa ≤ r.addr then v * 2 ^ (8 * (r.addr - pa)) % 2 ^ (8 * n) else v / 2 ^ (8 * (pa - r.addr)) % 2 ^ (8 * n)

/-- A register's value after an access stores `data` over some of its bytes, starting from `old`. -/
def merged (r : Reg) (pa : Nat) (data : List Byte) (old : Nat) : Nat :=
  ofLeBytes ((List.range (r.width / 8)).map fun i =>
    if pa ≤ r.addr + i ∧ r.addr + i < pa + data.length then data.getD (r.addr + i - pa) 0
    else BitVec.ofNat 8 (old / 2 ^ (8 * i)))

/-- The answer of a device access: a value, an answer still to come from outside the module, or an error completion. -/
inductive DevAns where
  | value (n : Nat)
  | wait
  | refused
  | error
  deriving DecidableEq, Repr

/-- Whether R15 or R295 refuses a core's access. -/
def State.devDenied (s : State) (th pa n : Nat) (tg : Target) : Bool :=
  let p := s.panelOf th
  let pl := (s.thr th).pl
  let host := p == 0 && pl == 2
  match tg with
  | .reg _ => (s.regsAt pa n).any fun r => !s.regListed p (s.ownerAt p pl r) r
  | .ecam r off => !host && !s.pcieOk p true r off
  | .window r off => !host && !s.pcieOk p false r off
  | .intMsg => true
  | .noReg => !host
  | _ => false

/-- A core's load from what is not memory. -/
def State.devLoad (s : State) (th pa n : Nat) (tg : Target) : State × DevAns :=
  let p := s.panelOf th
  let pl := (s.thr th).pl
  if s.devDenied th pa n tg then (s.regDenied (th / 2) p pa, .refused) else
  match tg with
  | .reg _ =>
    (s.regsAt pa n).foldl (fun a r =>
      let (s, v) := a.1.regLoad (s.ownerAt p pl r) r (covered r pa n)
      match a.2 with
      | .value w => (s, .value (w ||| overlap r pa n v))
      | x => (s, x)) (s, .value 0)
  | .ecam r off => match s.pcieLoad th true r off n with
    | (s, some v) => (s, .value v)
    | (s, none) => (s, .wait)
  | .window r off => match s.pcieLoad th false r off n with
    | (s, some v) => (s, .value v)
    | (s, none) => (s, .wait)
  | .aperture m off =>
    let q : ApReq := { th := th, seat := (s.core (th / 2)).seat, store := false, m := m, off := off, n := n, data := [] }
    ({ s with weft := { s.weft with apq := s.weft.apq ++ [q] } }, .wait)
  | .noReg => (s, .value 0)
  | _ => (s, .error)

/-- A core's store to what is not memory. -/
def State.devStore (s : State) (th pa : Nat) (data : List Byte) (tg : Target) : State × DevAns :=
  let p := s.panelOf th
  let pl := (s.thr th).pl
  let n := data.length
  if s.devDenied th pa n tg then (s.regDenied (th / 2) p pa, .refused) else
  match tg with
  | .reg _ =>
    ((s.regsAt pa n).foldl (fun s r =>
      s.regStore (s.ownerAt p pl r) r (merged r pa data (s.rd r)) (merged r pa data 0)) s, .value 0)
  | .ecam r off => (s.pcieStore (p == 0 && pl == 2) true r off data, .value 0)
  | .window r off => (s.pcieStore (p == 0 && pl == 2) false r off data, .value 0)
  | .aperture m off =>
    let q : ApReq := { th := th, seat := (s.core (th / 2)).seat, store := true, m := m, off := off, n := n, data := data }
    ({ s with weft := { s.weft with apq := s.weft.apq ++ [q] } }, .value 0)
  | .noReg => (s, .value 0)
  | _ => (s, .error)

/-! ### Register commands -/

/-- IC_VEC (R88): panel software, or the host manager on panel 0, writes a vector's configuration. -/
def execIcVec (p : Panel) (v : Vec) (value : Word) (s : State) : Host.Outcome State Fault Refusal :=
  let r : Reg := { kind := .icVec, i := p, j := v }
  .next (s.regStore .panelSw r value.toNat value.toNat)

/-- HUB_PWKICK (R56): a write to the panel's HUB.PWKICK. -/
def execHubPwkick (p : Panel) (v : Byte) (s : State) : Host.Outcome State Fault Refusal := .next (s.kick p v.toNat)

/-- HUB_PSTATE_SELFRESET (R45): panel software of a panel, or the host manager on panel 0, writes 1. -/
def execHubPstateSelfreset (p : Panel) (s : State) : Host.Outcome State Fault Refusal := .next (s.selfReset p)

/-- BAR_ARRIVE (R260): panel software writes 1 to ARRIVE of a context. -/
def execBarArrive (n : Fin 256) (s : State) : Host.Outcome State Fault Refusal := .next (s.barArrive n)

end Sys2Proof.Machine
end

