-- ==== Sys2Proof/Machine/Data.lean ====
section
/-! DEFINITION. Loads, stores and atomics of a thread (R68, R71, R72, R80, R115–R126): split accesses, memory
types, write-combining buffers, device accesses, poison, and the twin-needle rules for each (R427–R432). -/

namespace Sys2Proof.Machine

/-! ### Write-combining buffers -/

/-- The lines a thread's write-combining buffers hold. -/
def wcLines (m : SMap Byte) : List Nat := dedupNat (m.map (fun e => e.1 / 64))

/-- The contiguous runs of a byte table, as (address, bytes). -/
def runs : SMap Byte → List (Nat × List Byte)
  | [] => []
  | (a, b) :: m =>
    match runs m with
    | (a', bs) :: rest => if a' = a + 1 ∧ a / 64 = a' / 64 then (a, b :: bs) :: rest else (a, [b]) :: (a', bs) :: rest
    | [] => [(a, [b])]

/-! ### Cross-bolt accesses (R156) -/

/-- A WB or WC part of an access whose line is homed in another bolt (R156). -/
def State.crossHalf (s : State) (th : Nat) (h : Half) : Bool :=
  h.x.target.owned && h.x.mt != .dev && h.x.bolt != s.boltOf (th / 2)

/-- A cross-bolt store of the thread awaits its CMP, or an aperture store its acceptance by the Weft engine (R119, R156, R254): the
thread's later accesses wait, in program order. -/
def State.crossOpen (s : State) (th : Nat) : Bool :=
  let seat := (s.core (th / 2)).seat
  ((s.tile (th / 2)).miss.any fun e => match e.2 with
    | some m => (m.op == .wrf || m.op == .wrp) && m.ctx == th % 2 && m.seat == seat
    | none => false) ||
  s.weft.apq.any fun q => q.store && q.th == th && q.seat == seat

/-- The entry of a cross-bolt request of a thread. -/
def State.crossReq (s : State) (th : Nat) (op : HomeOp) (pa : Nat) (data : List Byte) : MissEnt :=
  { op := op, line := pa / 64, rcnt := 0, rsv := false, retry := false, ctx := th % 2, age := 0, tag := s.panelOf th
    seat := (s.core (th / 2)).seat, bolt := s.granuleBolt (pa / 65536), data := data.zipIdx.map fun e => (pa + e.2, e.1) }

/-- Write bytes of one line past the core's caches, for a store already checked: to memory at its home, to another bolt as WRF or
WRP (R156), or to a device. An error completion gives an imprecise machine check (R409). -/
def State.perform (s : State) (th pa : Nat) (data : List Byte) : State :=
  match s.target pa with
  | .prot | .cxl _ =>
    if s.granuleBolt (pa / 65536) = s.boltOf (th / 2) ∨ (s.freeReq (th / 2)).isNone then s.homeStore (s.lineOwner (pa / 64)) pa data
    else s.newReq (th / 2) (s.crossReq th (if data.length = 64 then .wrf else .wrp) pa data)
  | tg =>
    match s.devStore th pa data tg with
    | (s, .error) => s.setThr th { s.thr th with imprecise := some 0x26 }
    | (s, _) => s

/-- Write bytes of a line that the core's L2 may hold: in M when it does, else at the home. -/
def State.performHeld (s : State) (th pa : Nat) (data : List Byte) : State :=
  let t := th / 2
  let e := s.l2 t (pa / 64)
  if s.cachedLine t (pa / 64) && (e.st == .e || e.st == .m) && e.tag == s.corePanel t then
    (s.setL2 t (pa / 64) { e with st := .m }).visible (s.lineOwner (pa / 64)) pa data
  else s.perform th pa data

/-- Write out the write-combining buffers whose line satisfies `p` (R118). -/
def State.drainWc (s : State) (th : Nat) (p : Nat → Bool) : State :=
  let x := s.thr th
  let out := x.wc.filter (fun e => p (e.1 / 64))
  let s := s.setThr th { x with wc := x.wc.filter (fun e => !p (e.1 / 64)) }
  (runs out).foldl (fun s r => s.perform th r.1 r.2) s

/-- Write out every buffer of the thread. -/
def State.drainAll (s : State) (th : Nat) : State := s.drainWc th (fun _ => true)

/-- Buffers a thread may use: 8, or 4 when the other thread is active too (Table COR-1, R97). -/
def State.wcLimit (s : State) (th : Nat) : Nat :=
  let y := s.thr (if th % 2 = 0 then th + 1 else th - 1)
  if y.started && !y.waiting then 4 else 8

/-- A WC store enters the buffers: a full line is written out, and older buffers when a new one is needed, until the
thread holds fewer than its limit (R97, R118). -/
def State.wcStore (s : State) (th pa : Nat) (data : List Byte) : State :=
  let line := pa / 64
  let x := s.thr th
  let held := wcLines x.wc
  let out := if line ∈ held then [] else held.take (held.length + 1 - s.wcLimit th)
  let s := if out = [] then s else s.drainWc th (fun l => decide (l ∈ out))
  let x := s.thr th
  let wc := (data.zipIdx).foldl (fun m e => SMap.insert m (pa + e.2) e.1) x.wc
  let s := s.setThr th { x with wc := wc }
  if (wc.filter (fun e => e.1 / 64 == line)).length = 64 then s.drainWc th (fun l => l == line) else s

/-! ### Reading -/

/-- A byte as the thread reads it: its own held stores first (R431), then its write-combining buffers (R118),
then memory. -/
def State.threadByte (s : State) (th a : Nat) : Byte :=
  match ((s.core (th / 2)).held.reverse.find? fun h =>
      h.thread == th % 2 && !h.dev && decide (h.pa ≤ a) && decide (a < h.pa + h.data.length)) with
  | some h => h.data.getD (a - h.pa) 0
  | none =>
    match SMap.find (s.thr th).wc a with
    | some b => b
    | none => s.byte a

def State.threadBytes (s : State) (th a : Nat) : Nat → List Byte
  | 0 => []
  | n + 1 => s.threadByte th a :: s.threadBytes th (a + 1) n

/-! ### Checking an access and its halves -/

/-- Bytes of an access that lie in the line of its first byte (R122). -/
def lowPart (va : Word) (n : Nat) : Nat := min n (64 - va.toNat % 64)

/-- Translate and check both halves before either is performed (R122, R123). -/
def State.checkAccess (s : State) (th : Nat) (acc : Access) (va : Word) (n : Nat) (aligned : Bool) :
    State × Except AccFault (List Half) :=
  let n1 := lowPart va n
  let al := aligned && n1 == n
  match s.translate th acc va al with
  | (_, .error f) => (s, .error f)
  | (s1, .ok x1) =>
    if n1 = n then (s1, .ok [⟨va, x1, n⟩]) else
    let va2 := va + BitVec.ofNat 64 n1
    match s1.translate th acc va2 false with
    | (_, .error f) => (s, .error f)
    | (s2, .ok x2) => (s2, .ok [⟨va, x1, n1⟩, ⟨va2, x2, n - n1⟩])

/-- Whether a half is a device access in the sense of R119 and Table TWN-4. -/
def Half.isDev (h : Half) : Bool :=
  match h.x.target with
  | .prot | .cxl _ => h.x.mt == .dev
  | .aperture _ _ => true
  | _ => true

/-! ### Destinations -/

/-- Write a load's value to its destination, with the items of R429. -/
def Thread.deliver (x : Thread) (d : LoadDest) (bs : List Byte) : Thread × List Byte :=
  match d with
  | .gpr rd size sg =>
    let v : Word := if sg then (BitVec.ofInt 64 (toSigned (8 * size) (ofLeBytes bs))) else BitVec.ofNat 64 (ofLeBytes bs)
    (x.setGr rd v, gprItem rd v)
  | .kreg kd w =>
    let v := maskN w (BitVec.ofNat 64 (ofLeBytes bs))
    (x.setKr kd v, if kd = 0 then [] else leBytes 8 v.toNat)
  | .vreg vd w mask z =>
    let sz := elemBits w / 8
    let rank (i : Nat) : Nat := ((List.range i).filter fun j => mask.getLsbD j).length
    let v := masked w mask z (x.vr vd) fun i => field bs (sz * rank i) sz
    (x.setVr vd v, leBytes 32 v.toNat)
  | .bcast vd w mask z =>
    let v := masked w mask z (x.vr vd) fun _ => field bs 0 (elemBits w / 8)
    (x.setVr vd v, leBytes 32 v.toNat)

/-- Records a value takes in the load-value queue (R428). -/
def lvqCount : LoadDest → Nat
  | .vreg .. | .bcast .. => 4
  | _ => 1

def lvqRecords (d : LoadDest) (bs : List Byte) : List LvqRec :=
  (List.range (lvqCount d)).map fun i => .value (field bs (8 * i) 8)

def LvqRec.val : LvqRec → Nat
  | .value v => v
  | _ => 0
def lvqBytes (rs : List LvqRec) : List Byte := rs.flatMap (fun r => leBytes 8 r.val)

/-- The main core has credit for `n` more records (R428). -/
def State.lvqRoom (s : State) (th n : Nat) : Bool :=
  decide ((s.thr th).lvq.length + (s.thr (s.partnerThr th)).lvq.length + n ≤ 2048)

/-- Force a compare before the thread goes on (R432). -/
def State.force (s : State) (th : Nat) : State := s.setThr th { s.thr th with forced := true }
/-- Force the second compare of an access that has been performed (R432, R436). -/
def State.forceDone (s : State) (th : Nat) : State := s.setThr th { s.thr th with forced := true, second := true }

/-- Deliver a loaded value and retire, with further signature items; on a main core the value goes to the queue. -/
def State.finishLoad (s : State) (th : Nat) (d : LoadDest) (bs : List Byte) (more : List Byte) : State :=
  let s := if s.isMain (th / 2) then s.lvqPush th (lvqRecords d bs) else s
  let x := s.thr th
  let (y, items) := x.deliver d bs
  (s.setThr th y).retire th (x.pc + 4) (items ++ more)

/-! ### Loads -/

/-- Read the parts of a load in order (R119, R120): memory at once, a register at once, and what lies in another bolt (RDIO, R156)
or outside the module by a request whose answer the thread waits for. `dev`: the load is a device access of Table TWN-4. -/
def State.loadParts (s : State) (th : Nat) (d : LoadDest) (dev : Bool) (pa : Nat) : List Half → List Byte → State
  | [], got =>
    let s := s.finishLoad th d got (if dev then leBytes 8 pa else [])
    if dev && s.paired (th / 2) then s.forceDone th else s
  | h :: rest, got =>
    match h.x.target with
    | .prot | .cxl _ =>
      if s.crossHalf th h && (s.freeReq (th / 2)).isSome then
        (s.setThr th { s.thr th with stall := some ⟨some d, pa, h, got, rest⟩ }).newReq (th / 2) (s.crossReq th .rdio h.x.pa [])
      else s.loadParts th d dev pa rest (got ++ s.threadBytes th h.x.pa h.n)
    | tg =>
      match s.devLoad th h.x.pa h.n tg with
      | (s, .value v) => s.loadParts th d dev pa rest (got ++ leBytes h.n v)
      | (s, .wait) => s.setThr th { s.thr th with stall := some ⟨some d, pa, h, got, rest⟩ }
      | (s, .refused) => s.except th 0x04 0x07 0 (s.thr th).pc (BitVec.ofNat 64 h.x.pa)
      | (s, .error) => s.machineCheck th 0x26 false true h.va (some h.x.pa)

/-- The checker's load: its value comes from the queue (R427); with none there, it waits. -/
def State.loadChecker (s : State) (th : Nat) (d : LoadDest) (dev : Bool) (pa : Nat) : State :=
  let x := s.thr th
  if dev && x.sinceCmp ≠ 0 then s.force th
  else if x.lvq.length < lvqCount d then s
  else
    let bs := lvqBytes (x.lvq.take (lvqCount d))
    let s := s.setThr th { x with lvq := x.lvq.drop (lvqCount d) }
    let s := s.finishLoad th d bs (if dev then leBytes 8 pa else [])
    if dev then s.forceDone th else s

/-- The lines an access reaches through the core's caches: WB and WC memory of its own bolt. -/
def State.cacheLines (s : State) (th : Nat) (hs : List Half) : List Nat :=
  (hs.filter fun h => h.x.target.owned && h.x.mt != .dev && !s.crossHalf th h).map fun h => h.x.pa / 64

/-- A load already checked (R124, R409, R119, R156): a refused register and poison come before anything is read, a device or
cross-bolt load waits until every older store is visible, and a load that misses the core's caches waits for its lines. One that
hits a copy out of date returns old data: free (Table CCH-6). (DESIGN CHOICE, log entry 123.) -/
def State.loadChecked (s : State) (th : Nat) (d : LoadDest) (hs : List Half) : State :=
  let dev := hs.any Half.isDev
  let pa := (hs.map fun h => h.x.pa).headD 0
  let cross := hs.any (s.crossHalf th)
  if s.isChecker (th / 2) then s.loadChecker th d dev pa
  else if s.crossOpen th then s
  else if s.isMain (th / 2) && !s.lvqRoom th (lvqCount d) then s
  else if dev && s.paired (th / 2) && (s.thr th).sinceCmp ≠ 0 then s.force th
  else
    match hs.find? (fun h => s.devDenied th h.x.pa h.n h.x.target) with
    | some h => (s.regDenied (th / 2) (s.panelOf th) h.x.pa).except th 0x04 0x07 0 (s.thr th).pc (BitVec.ofNat 64 h.x.pa)
    | none =>
      match hs.find? (fun h => h.x.target.owned && s.poisoned h.x.pa h.n) with
      | some h => s.accFault th (.poison h.va h.x.pa)
      | none =>
        let s := if dev || cross then s.drainAll th
          else s.drainWc th (fun l => hs.any fun h => h.x.mt == .wb && h.x.pa / 64 == l)
        if (dev || cross) && s.crossOpen th then s else
        match s.reachLines (th / 2) (th % 2) false false (s.cacheLines th hs) with
        | (s, .wait) => s
        | (s, .hit) => s.loadParts th d dev pa hs []
        | (s, .stale) =>
          let n := (hs.map (·.n)).sum
          let old := (List.range n).map fun i => Config.freeBits 8 (s.fresh + i)
          { s with fresh := s.fresh + n }.finishLoad th d old []

/-- The answer to the access a thread waits for (R119, R156, R250): the bytes, and the load goes on; or an error completion
(R181, R258, R296), or poison, a precise machine check. -/
def State.resumeLoad (s : State) (th : Nat) (answer : Except Bool (List Byte)) : State :=
  let x := s.thr th
  match x.stall with
  | some ⟨some d, pa, h, got, rest⟩ =>
    let s := s.setThr th { x with stall := none }
    match answer with
    | .ok bs => s.loadParts th d h.isDev pa rest (got ++ padTo h.n bs)
    | .error poison => s.machineCheck th (if poison then 0x20 else 0x26) poison true h.va (some h.x.pa)
  | _ => s

/-- A load of the Thimble core (R339, Table THM-2): naturally aligned, within one range. The subcause of a misaligned or
forbidden access is not given: free. (DESIGN CHOICE, log entry 71.) -/
def State.thmLoad (s : State) (th : Nat) (va : Word) (n : Nat) (d : LoadDest) : State :=
  let a := va.toNat
  let x := s.thr th
  let (k, s) := s.freeNat
  if a % n ≠ 0 then s.except th 0x04 (k % 256) 0 x.pc va
  else if inRom a n || inSram a n || inMailbox a n then
    (s.setThr th (x.deliver d (s.thmBytes a n)).1).retire th (x.pc + 4) []
  else s.except th 0x04 0x06 0 x.pc va

/-- A store of the Thimble core. (DESIGN CHOICE, log entry 71; DESIGN CHOICE, log entry 72.) -/
def State.thmStore (s : State) (th : Nat) (va : Word) (data : List Byte) : State :=
  let a := va.toNat
  let n := data.length
  let x := s.thr th
  let (k, s) := s.freeNat
  if a % n ≠ 0 || inRom a n then s.except th 0x05 (k % 256) 0 x.pc va
  else if inSram a n || inMailbox a n then (s.setSram a data).retire th (x.pc + 4) []
  else s.except th 0x05 0x06 0 x.pc va

/-- A scalar or mask load of `n` bytes at `va` (R68, R121–R126), within a running instruction. -/
def State.load (s : State) (th : Nat) (va : Word) (n : Nat) (d : LoadDest) : State :=
  if th = thmThread then s.thmLoad th va n d else
  match s.checkAccess th .load va n (va.toNat % n == 0) with
  | (s, .error f) => s.accFault th f
  | (s, .ok hs) => s.loadChecked th d hs

/-- Check the parts of a vector access in ascending element order (R80): address, bytes, alignment. -/
def State.checkAll (s : State) (th : Nat) (acc : Access) : List (Word × Nat × Bool) → State × Except AccFault (List Half)
  | [] => (s, .ok [])
  | (va, n, al) :: es =>
    match s.checkAccess th acc va n al with
    | (s, .error f) => (s, .error f)
    | (s, .ok hs) =>
      match s.checkAll th acc es with
      | (s, .error f) => (s, .error f)
      | (s, .ok hs') => (s, .ok (hs ++ hs'))

/-- A vector load (R80): all active addresses are translated and checked before any element is performed. -/
def State.loadVec (s : State) (th : Nat) (es : List (Word × Nat × Bool)) (d : LoadDest) : State :=
  match s.checkAll th .load es with
  | (_, .error f) => s.accFault th f
  | (s, .ok hs) => s.loadChecked th d hs

/-! ### Stores -/

/-- Whether holding further stores would take the buffer past 64 lines (R431). -/
def State.heldFull (s : State) (th : Nat) (hs : List Half) : Bool :=
  let mine := (s.core (th / 2)).held.filter (fun h => h.thread == th % 2)
  let old := mine.map (fun h : HeldStore => h.pa / 64)
  let new := hs.map (fun h : Half => h.x.pa / 64)
  decide (64 < (dedupNat (old ++ new)).length)

def State.hold (s : State) (th pa : Nat) (data : List Byte) (dev : Bool) : State :=
  let c := s.core (th / 2)
  s.setCore (th / 2) { c with held := c.held ++ [⟨th % 2, pa, data, dev, false⟩] }

/-- The store items of R429: physical address and bytes, per half. -/
def storeItems (parts : List (Half × List Byte)) : List Byte :=
  parts.flatMap fun p => leBytes 8 p.1.x.pa ++ p.2 ++ (if p.1.isDev then leBytes 8 p.1.x.pa else [])

/-- Cut the data of an access at its halves. -/
def cutData : List Half → List Byte → List (Half × List Byte)
  | [], _ => []
  | h :: hs, bs => (h, bs.take h.n) :: cutData hs (bs.drop h.n)

/-- One half's bytes, by memory type (R118, R119); a line homed in another bolt is written there in program order (R156). A WB store
writes the L2 (R131), whose line has been brought to M. -/
def State.storePart (s : State) (th : Nat) (h : Half) (bs : List Byte) : State :=
  if s.crossHalf th h then (s.drainAll th).perform th h.x.pa bs else
  match h.x.mt with
  | .wb =>
    if h.x.target.owned then
      (s.drainWc th (fun l => l == h.x.pa / 64)).visible (s.lineOwner (h.x.pa / 64)) h.x.pa bs
    else (s.drainWc th (fun l => l == h.x.pa / 64)).perform th h.x.pa bs
  | .wc => s.wcStore th h.x.pa bs
  | .dev => (s.drainAll th).perform th h.x.pa bs

/-- Stores already checked: performed, held until a compare (R431), or left to the main core (R427). -/
def State.storeParts (s : State) (th : Nat) (parts : List (Half × List Byte)) : State :=
  let dev := parts.any fun p => p.1.isDev
  if s.isChecker (th / 2) then (if dev then s.force th else s)
  else if s.isMain (th / 2) then
    let s := parts.foldl (fun s p => s.hold th p.1.x.pa p.2 p.1.isDev) s
    if dev then s.force th else s
  else parts.foldl (fun s p => s.storePart th p.1 p.2) s

/-- Stores already translated: a refused register comes first (R15); WB lines are brought to M (R164), the instruction waiting for
them (DESIGN CHOICE, log entry 123); then the bytes in order (R80, R125). -/
def State.storeChecked (s : State) (th : Nat) (hs : List Half) (data : List Byte) : State :=
  match hs.find? (fun h => s.devDenied th h.x.pa h.n h.x.target) with
  | some h => (s.regDenied (th / 2) (s.panelOf th) h.x.pa).except th 0x05 0x07 0 (s.thr th).pc (BitVec.ofNat 64 h.x.pa)
  | none =>
    if s.isMain (th / 2) && s.heldFull th hs then s.force th else
    let parts := cutData hs data
    let go := fun (s : State) => (s.storeParts th parts).retire th ((s.thr th).pc + 4) (storeItems parts)
    if s.isChecker (th / 2) then go s
    else if s.crossOpen th then s
    else match (s.drainWc th fun l => hs.any fun h => h.x.mt == .wb && h.x.pa / 64 == l).reachLines (th / 2) (th % 2) true false (s.cacheLines th (hs.filter fun h => h.x.mt == .wb)) with
      | (s, .wait) => s
      | (s, _) => go s

/-- A scalar or mask store of bytes at `va` (R68, R122, R125), within a running instruction. -/
def State.store (s : State) (th : Nat) (va : Word) (data : List Byte) : State :=
  if th = thmThread then s.thmStore th va data else
  match s.checkAccess th .store va data.length (va.toNat % data.length == 0) with
  | (s, .error f) => s.accFault th f
  | (s, .ok hs) => s.storeChecked th hs data

/-- A vector store of active elements (R80): the elements' bytes follow one another in `data`. -/
def State.storeVec (s : State) (th : Nat) (es : List (Word × Nat × Bool)) (data : List Byte) : State :=
  match s.checkAll th .store es with
  | (_, .error f) => s.accFault th f
  | (s, .ok hs) => s.storeChecked th hs data

/-! ### Atomics -/

/-- An AMO of `n` bytes (R71, R72): `f` gives the value written from the old one, `rd` receives the old value
through `dst`. Every AMO drains the write-combining buffers first (R72, R118), and is performed on a line in M (R171). -/
def State.amo (s : State) (th : Nat) (va : Word) (n : Nat) (f : Nat → Nat)
    (dst : Thread → Nat → Thread × List Byte) : State :=
  if va.toNat % n ≠ 0 then s.except th 0x03 0x00 0 (s.thr th).pc va else
  match s.translate th .amo va true with
  | (_, .error e) => s.accFault th e
  | (s, .ok x) =>
    if s.paired (th / 2) && (s.thr th).sinceCmp ≠ 0 then s.force th
    else if s.isChecker (th / 2) then
      let t := s.thr th
      let k := if n = 16 then 2 else 1
      if t.lvq.length < k then s else
      let old := ofLeBytes ((lvqBytes (t.lvq.take k)).take n)
      let (y, items) := dst { t with lvq := t.lvq.drop k } old
      ((s.setThr th y).retire th (t.pc + 4) (items ++ leBytes 8 x.pa)).forceDone th
    else if s.poisoned x.pa n then s.accFault th (.poison va x.pa)
    else
      let s := s.drainAll th
      if s.crossOpen th then s else
      match s.reachLines (th / 2) (th % 2) true false (if x.target.owned then [x.pa / 64] else []) with
      | (s, .wait) => s
      | (s, _) =>
      let old := s.memNat x.pa n
      let s := s.visible (s.lineOwner (x.pa / 64)) x.pa (leBytes n (f old))
      let s := if s.isMain (th / 2) then
          s.lvqPush th ((List.range (if n = 16 then 2 else 1)).map fun i => LvqRec.value (field (leBytes 16 old) (8 * i) 8))
        else s
      let t := s.thr th
      let (y, items) := dst t old
      let more := if s.paired (th / 2) then leBytes 8 x.pa else []
      let s := (s.setThr th y).retire th (t.pc + 4) (items ++ more)
      if s.paired (th / 2) then s.forceDone th else s

end Sys2Proof.Machine
end

