-- ==== Sys2Proof/Machine/Illegal.lean ====
section
/-! DEFINITION. Which instruction words are illegal, and with which subcause of cause 0x02 (R64, R65, R73, R81,
R497), and the access each level has to each control register (Table ISA-9). -/

namespace Sys2Proof.Machine

/-- What a level may do with a control register (Table ISA-9). -/
inductive CrAcc where
  | unlisted | no | ro | wo | rw
  deriving DecidableEq, Repr

/-- Table ISA-9: number, level (0 U, 1 S, 2 H), STATUS.UTR and STATUS.UCTR. -/
def crAccess (n pl : Nat) (utr uctr : Bool) : CrAcc :=
  let sh : CrAcc := if pl = 0 then .no else .rw
  if n ≤ 0x005 then sh
  else if n = 0x006 then .rw
  else if n = 0x010 then .ro
  else if n = 0x011 then (if pl = 0 then .ro else .rw)
  else if n = 0x012 ∨ n = 0x013 then (if pl = 0 ∧ utr = false then .no else .ro)
  else if n = 0x020 ∨ n = 0x021 ∨ n = 0x030 ∨ n = 0x031 ∨ n = 0x040 ∨ n = 0x050 ∨ n = 0x060 then sh
  else if n = 0x041 then (if pl = 2 then .rw else .no)
  else if n = 0x070 then (if pl = 0 then .no else .ro)
  else if n = 0x071 then (if pl = 0 then .no else .wo)
  else if 0x080 ≤ n ∧ n ≤ 0x087 then (if pl = 0 then (if uctr then .ro else .no) else .rw)
  else if 0x101 ≤ n ∧ n ≤ 0x105 then (if pl = 2 then .rw else .no)
  else .unlisted

/-- The major opcode of a word (R64). -/
def wMajor (n : Nat) : Nat := bits n 31 26
def wRd (n : Nat) : Nat := bits n 25 21
def wRa (n : Nat) : Nat := bits n 20 16
def wRb (n : Nat) : Nat := bits n 15 11
def wFn (n : Nat) : Nat := bits n 10 0
def wSfn (n : Nat) : Nat := bits n 15 12
def wCrn (n : Nat) : Nat := bits n 11 0
def wK (n : Nat) : Nat := bits n 10 8
def wZ (n : Nat) : Nat := bits n 7 7
def wW (n : Nat) : Nat := bits n 6 5
def wOp (n : Nat) : Nat := bits n 4 0

/-- Whether an ALU selection exists, and whether it allows W = 1 (Table ISA-3). -/
def aluListed (fn : Nat) : Bool :=
  let op := fn % 1024
  let known := decide (op ≤ 0x017) || (decide (0x020 ≤ op) && decide (op ≤ 0x023))
  let wOk := op == 0 || op == 1 || (decide (6 ≤ op) && decide (op ≤ 9)) || op == 0x010 ||
    (decide (0x014 ≤ op) && decide (op ≤ 0x017))
  known && (fn / 1024 == 0 || wOk)

/-- Whether an AMO operation exists at a size (Table ISA-5); bits [10:6] are judged apart. -/
def amoListed (fn : Nat) : Bool :=
  let size := bits fn 5 4
  let op := bits fn 3 0
  if op = 9 then size == 1 || size == 2 else decide (op ≤ 8) && decide (size ≤ 1)

/-- Subcause 0x00: a reserved encoding, or an unlisted control register number (R65, R81, R497); the width code 00 of
VFCVTW's source too. (DESIGN CHOICE, log entry 114.) -/
def wordReserved (n : Nat) : Bool :=
  let m := wMajor n
  if n = 0 ∨ n = 0xFFFFFFFF then true
  else if m = 0x01 then !aluListed (wFn n)
  else if (0x02 ≤ m ∧ m ≤ 0x0A) ∨ (0x10 ≤ m ∧ m ≤ 0x16) ∨ (0x18 ≤ m ∧ m ≤ 0x1B) ∨ (0x20 ≤ m ∧ m ≤ 0x28) then false
  else if m = 0x29 then !amoListed (wFn n)
  else if m = 0x30 then
    decide (0xD < wSfn n) || (decide (wSfn n ≤ 4) && crAccess (wCrn n) 2 true true == .unlisted)
  else if m = 0x38 then decide (18 < wOp n)
  else if m = 0x39 then decide (15 < wOp n) || wW n == 0 || (wOp n == 15 && wRb n % 4 == 0)
  else if m = 0x3A then decide (6 < wOp n)
  else if m = 0x3B then decide (14 < wOp n) || (wOp n == 13 && wW n == 0)
  else true

/-- Subcause 0x02: a field the operation does not use, or that is marked zero, is not zero (R64); the upper bits of ka and
kb too. (DESIGN CHOICE, log entry 115.) -/
def wordNonZero (n : Nat) : Bool :=
  let m := wMajor n
  let hiK (r : Nat) : Bool := decide (8 ≤ r)
  let kz : Bool := wK n != 0 || wZ n != 0
  if m = 0x01 then decide (0x020 ≤ wFn n % 1024) && wRb n != 0
  else if m = 0x08 ∨ m = 0x09 then wRa n != 0
  else if m = 0x0A then bits n 15 9 != 0 || (bit n 8 && bit n 5)
  else if m = 0x26 then bit n 25
  else if m = 0x29 then bits n 10 6 != 0
  else if m = 0x30 then
    let s := wSfn n
    if s = 0 then wRa n != 0
    else if s = 1 then wRd n != 0
    else if s ≤ 4 then false
    else if s = 5 ∨ s = 6 then wRd n != 0 || wRa n != 0
    else if s ≤ 0xC then wRd n != 0 || wRa n != 0 || wCrn n != 0
    else wRd n != 0 || decide (8 ≤ wCrn n) || (wCrn n % 4 == 0 && wRa n != 0)
  else if m = 0x38 then decide (16 ≤ wOp n) && hiK (wRd n)
  else if m = 0x39 then
    (wOp n == 4 && wRb n != 0) || ((wOp n == 13 || wOp n == 14) && wRb n != 0) ||
    (wOp n == 15 && decide (4 ≤ wRb n)) || (decide (10 ≤ wOp n) && decide (wOp n ≤ 12) && hiK (wRd n))
  else if m = 0x3A then (wOp n == 5 || wOp n == 6) && (kz || hiK (wRd n))
  else if m = 0x3B then
    let o := wOp n
    if o ≤ 3 then kz || wW n != 0 || hiK (wRd n) || hiK (wRa n) || hiK (wRb n) || (o == 3 && wRb n != 0)
    else if o = 4 then kz || wW n != 0 || hiK (wRa n) || wRb n != 0
    else if o = 5 then kz || wW n != 0 || hiK (wRd n) || wRb n != 0
    else if o = 6 then false
    else if o = 7 then wRb n != 0
    else if o = 8 ∨ o = 9 then kz
    else wRb n != 0
  else false

/-- Subcause 0x03: a 16-byte CAS whose register pairs break R71. -/
def wordBadPair (n : Nat) : Bool :=
  wMajor n == 0x29 && bits n 5 4 == 2 && bits n 3 0 == 9 &&
    (wRd n % 2 == 1 || wRd n == 0 || wRb n % 2 == 1 || wRb n == 0)

/-- Subcause 0x01: a level rule broken (R73, R74, R81, R82). -/
def wordLevel (n pl : Nat) (panel0 utr uctr : Bool) : Bool :=
  wMajor n == 0x30 &&
    (let s := wSfn n
     if s = 0 then crAccess (wCrn n) pl utr uctr == .no
     else if s ≤ 4 then
       let a := crAccess (wCrn n) pl utr uctr
       a == .no || a == .ro
     else if s = 5 then pl == 2
     else if s = 6 then !panel0
     else (s == 7 || s == 8 || s == 0xD) && pl == 0)

/-- Subcause 0x04: a floating-point operation under a reserved FRM (R79), of every VFP operation whether it rounds or not.
(DESIGN CHOICE, log entry 116.) -/
def wordFrm (n frm : Nat) : Bool :=
  (wMajor n == 0x39 || (wMajor n == 0x3B && wOp n == 13)) && decide (4 < frm)

/-- The subcause an instruction word takes, in the order of R497; none when the word is legal. -/
def illegalSub (n pl : Nat) (panel0 utr uctr : Bool) (frm : Nat) : Option Nat :=
  if wordReserved n then some 0x00
  else if wordNonZero n then some 0x02
  else if wordBadPair n then some 0x03
  else if wordLevel n pl panel0 utr uctr then some 0x01
  else if wordFrm n frm then some 0x04
  else none

end Sys2Proof.Machine
end

