-- ==== Sys2Proof/Machine/IsaScalar.lean ====
section
/-! DEFINITION. Integer, memory, branch and atomic instructions (R66–R72): one meaning per row, over the shared
operations of Operands.lean and Data.lean. -/

namespace Sys2Proof.Machine

/-- The effective address ra + sext(disp16) (R67). -/
def ea (s : State) (th ra : Nat) (disp : BitVec 16) : Word := (s.thr th).gr ra + disp.signExtend 64

/-! ### Branches and jumps -/

/-- Bits [14:2] of a branch address (R100). (DESIGN CHOICE, log entry 22.) -/
def ovrIndex (pc : Word) : Nat := bits pc.toNat 14 2
/-- Bits [13:2] of a JALR address (R103). -/
def itcIndex (pc : Word) : Nat := bits pc.toNat 13 2

/-- The prediction of a conditional branch (R100). (DESIGN CHOICE, log entry 22.) -/
def predictTaken (c : Core) (x : Thread) (pc : Word) (h : Bool) : Bool :=
  let e := SMap.get (fun _ => (0, 0)) c.overrides (ovrIndex pc)
  if x.crFld 0x030 F.crHINTCTL.OVREN = 1 ∧ e.2 = c.pgen then (h != decide (4 ≤ e.1)) else h

/-- Training of the override entry (R101). -/
def trainOverride (c : Core) (x : Thread) (pc : Word) (h taken : Bool) : Core :=
  if x.crFld 0x030 F.crHINTCTL.OVREN ≠ 1 then c else
  let e := SMap.get (fun _ => (0, 0)) c.overrides (ovrIndex pc)
  let cnt := if e.2 = c.pgen then e.1 else 0
  let cnt := if taken == h then cnt - 1 else min (cnt + 1) 7
  { c with overrides := SMap.put (fun _ => (0, 0)) c.overrides (ovrIndex pc) (cnt, c.pgen) }

/-! ### Wrong paths (R104, R109–R113) -/

/-- A load or fetch of a wrong-path instruction (Table COR-6): it fills the TLB from a leaf whose A bit is 1 already (R113) and the
caches, of WB and WC memory of the core's bolt alone (R111); what is refused raises nothing.
(DESIGN CHOICE, log entry 22.) -/
def State.wrongAccess (s : State) (th : Nat) (code : Bool) (va : Word) : State :=
  match s.translate th (if code then .fetch else .load) va true with
  | (t, .ok x) =>
    if t.mem ≠ s.mem then s else
    let c := th / 2
    let s := s.setCore c { s.core c with tlb := (t.core c).tlb }
    if x.target.owned && x.mt != .dev && x.bolt == s.boltOf c then (s.reachLine c (x.pa / 64) (th % 2) false code).1 else s
  | (_, .error _) => s

/-- A wrong path has overwritten an entry below the top of the return stack, which the redirect restores (R104). -/
def Thread.overwrite (x : Thread) (j v : Nat) : Thread :=
  if x.crFld 0x030 F.crHINTCTL.RSEN = 1 then
    { x with retStack := (x.retStack ++ List.replicate (j + 1 - x.retStack.length) (0, false)).set j (v, true) }
  else x

/-- One effect of a wrong path (Table COR-6): it trains an override or an indirect target (R101, R103), moves the return stack, loads,
unless NOSPECLD = 1 (R112), or fetches; which, and where, is free. `low`: the first entry below the restored top of the return stack.
(DESIGN CHOICE, log entry 22.) -/
def State.wrongStep (s : State) (th low : Nat) : State :=
  let (k, s) := s.freeNat
  let (v, s) := s.freeNat
  let c := s.core (th / 2)
  let x := s.thr th
  let a := BitVec.ofNat 64 v
  match k % 5 with
  | 0 => s.setCore (th / 2) (trainOverride c x a (bit k 3) (bit k 4))
  | 1 =>
    if x.crFld 0x030 F.crHINTCTL.ITCEN = 1 then
      s.setCore (th / 2) { c with itc := SMap.put (fun _ => none) c.itc (itcIndex a) (some (k / 8 % 2 ^ 55, c.pgen)) }
    else s
  | 2 => s.setThr th (x.overwrite (low + v % min 31 (32 - low)) (k / 8 % 2 ^ 55))
  | 3 => if x.crFld 0x031 F.crIFCTL.NOSPECLD = 1 then s else s.wrongAccess th false a
  | _ => s.wrongAccess th true a

/-- The wrong path after a mispredicted control transfer of a thread (R109, R110): any number of effects that the reorder buffer has
room for (Table COR-1). (DESIGN CHOICE, log entry 22.) -/
def State.wrongPath (s : State) (th low : Nat) : State :=
  let (n, s) := s.freeNat
  (List.range (n % 384)).foldl (fun s _ => s.wrongStep th low) s

/-- A control transfer resolves: after a wrong prediction the wrong path has left its traces.
(DESIGN CHOICE, log entry 22.) -/
def State.resolve (s : State) (th low : Nat) (miss : Bool) : State := if miss && th ≠ thmThread then s.wrongPath th low else s

/-- A conditional branch (R69, R100, R101): training, the misprediction count (PMC2), and the target. -/
def State.branch (s : State) (th ra rb : Nat) (h : Bool) (disp : BitVec 15) (f : Word → Word → Bool) : State :=
  let x := s.thr th
  let taken := f (x.gr ra) (x.gr rb)
  let target := x.pc + (disp.signExtend 64 <<< 2)
  let miss := predictTaken (s.core (th / 2)) x x.pc h != taken
  let s := s.resolve th 1 miss
  let s := s.setCore (th / 2) (trainOverride (s.core (th / 2)) x x.pc h taken)
  let s := s.setThr th (if miss then (s.thr th).pmcAdd 2 1 else s.thr th)
  s.retire th (if taken then target else x.pc + 4)
    (if taken then (1 : Byte) :: leBytes 8 target.toNat else [0])

/-- Push a return address (R104): 32 entries, the oldest overwritten. -/
def Thread.push (x : Thread) (ret : Word) : Thread :=
  if x.crFld 0x030 F.crHINTCTL.RSEN = 1 then
    { x with retStack := ((bits ret.toNat 56 2, true) :: x.retStack).take 32 }
  else x

def Thread.pop (x : Thread) : Thread :=
  if x.crFld 0x030 F.crHINTCTL.RSEN = 1 then { x with retStack := x.retStack.tail } else x

/-- J (R70). -/
def State.jump (s : State) (th : Nat) (disp : BitVec 25) : State :=
  let target := (s.thr th).pc + (disp.signExtend 64 <<< 2)
  s.retire th target (leBytes 8 target.toNat)

/-- JAL (R70): g1 receives PC + 4; with H = 0 it is pushed. -/
def State.jumpLink (s : State) (th : Nat) (h : Bool) (disp : BitVec 25) : State :=
  let x := s.thr th
  let target := x.pc + (disp.signExtend 64 <<< 2)
  let ret := x.pc + 4
  let y := x.setGr 1 ret
  (s.setThr th (if h then y else y.push ret)).retire th target (gprItem 1 ret ++ leBytes 8 target.toNat)

/-- The predicted target of a JALR, bits [56:2]: the top of the return stack for a return (R104), else the indirect target cache's
(R103). With none, fetch stops until it executes. (DESIGN CHOICE, log entry 22.) -/
def predictJump (c : Core) (x : Thread) (isRet : Bool) : Option Nat :=
  if isRet then
    match x.crFld 0x030 F.crHINTCTL.RSEN, x.retStack with
    | 1, (t, true) :: _ => some t
    | _, _ => none
  else
    match x.crFld 0x030 F.crHINTCTL.ITCEN, SMap.get (fun _ => none) c.itc (itcIndex x.pc) with
    | 1, some (t, g) => if g = c.pgen then some t else none
    | _, _ => none

/-- JALR (R70, R103, R104). -/
def State.jumpReg (s : State) (th rd ra : Nat) (imm : BitVec 16) : State :=
  let x := s.thr th
  let target := (x.gr ra + imm.signExtend 64) &&& ~~~3#64
  let ret := x.pc + 4
  let isRet := rd == 0 && ra == 1 && imm == 0
  let s := s.resolve th (if rd = 1 then 0 else if isRet then 2 else 1) ((predictJump (s.core (th / 2)) x isRet).any (· ≠ bits target.toNat 56 2))
  let c := s.core (th / 2)
  let s := if !isRet && x.crFld 0x030 F.crHINTCTL.ITCEN == 1 then
      s.setCore (th / 2) { c with itc := SMap.put (fun _ => none) c.itc (itcIndex x.pc) (some (bits target.toNat 56 2, c.pgen)) }
    else s
  let y := (s.thr th).setGr rd ret
  let y := if rd = 1 then y.push ret else if isRet then y.pop else y
  (s.setThr th y).retire th target (gprItem rd ret ++ leBytes 8 target.toNat)

/-! ### Atomics -/

/-- An AMO of 4 or 8 bytes (R71): a 4-byte old value is sign-extended into `rd`. -/
def State.amoOp (s : State) (th rd ra rb : Nat) (wide : Bool) (f64 : Word → Word → Word)
    (f32 : BitVec 32 → BitVec 32 → BitVec 32) : State :=
  let x := s.thr th
  let b := x.gr rb
  s.amo th (x.gr ra) (if wide then 8 else 4)
    (fun old => if wide then (f64 (BitVec.ofNat 64 old) b).toNat
      else (f32 (BitVec.ofNat 32 old) (b.setWidth 32)).toNat)
    (fun y old =>
      let v : Word := if wide then BitVec.ofNat 64 old else sext32 (BitVec.ofNat 32 old)
      (y.setGr rd v, gprItem rd v))

/-- AMO CAS (R71): 8 bytes, or 16 with the pairs rd, rd+1 and rb, rb+1. A 16-byte form whose pairs break R71
takes subcause 0x03. -/
def State.amoCas (s : State) (th rd ra rb : Nat) (wide : Bool) : State :=
  let x := s.thr th
  if wide && (rd % 2 == 1 || rd == 0 || rb % 2 == 1 || rb == 0) then
    s.illegal th 0x03 (BitVec.ofNat 32 (0x29 * 2 ^ 26 + rd * 2 ^ 21 + ra * 2 ^ 16 + rb * 2 ^ 11 + 0x29))
  else
    let two (r : Nat) : Nat := (x.gr r).toNat + (if wide then (x.gr (r + 1)).toNat * 2 ^ 64 else 0)
    s.amo th (x.gr ra) (if wide then 16 else 8)
      (fun old => if old = two rd then two rb else old)
      (fun y old =>
        let lo : Word := BitVec.ofNat 64 old
        let hi : Word := BitVec.ofNat 64 (old / 2 ^ 64)
        if wide then ((y.setGr rd lo).setGr (rd + 1) hi, gprItem rd lo ++ gprItem (rd + 1) hi)
        else (y.setGr rd lo, gprItem rd lo))

/-- rd receives ra + rb. (R66) -/
def execAdd (th : AnyThr) (rd ra rb : GIdx) (w : Bool) (s : State) : Host.Outcome State Fault Refusal :=
  .next (s.alu th rd fun x => let a := x.gr ra; let b := x.gr rb; aluW w (· + ·) (· + ·) a b)

/-- rd receives ra − rb. (R66) -/
def execSub (th : AnyThr) (rd ra rb : GIdx) (w : Bool) (s : State) : Host.Outcome State Fault Refusal :=
  .next (s.alu th rd fun x => let a := x.gr ra; let b := x.gr rb; aluW w (· - ·) (· - ·) a b)

/-- rd receives ra & rb. (R66) -/
def execAnd (th : AnyThr) (rd ra rb : GIdx) (s : State) : Host.Outcome State Fault Refusal :=
  .next (s.alu th rd fun x => let a := x.gr ra; let b := x.gr rb; a &&& b)

/-- rd receives ra | rb. (R66) -/
def execOr (th : AnyThr) (rd ra rb : GIdx) (s : State) : Host.Outcome State Fault Refusal :=
  .next (s.alu th rd fun x => let a := x.gr ra; let b := x.gr rb; a ||| b)

/-- rd receives ra ^ rb. (R66) -/
def execXor (th : AnyThr) (rd ra rb : GIdx) (s : State) : Host.Outcome State Fault Refusal :=
  .next (s.alu th rd fun x => let a := x.gr ra; let b := x.gr rb; a ^^^ b)

/-- rd receives ra & ~rb. (R66) -/
def execAndn (th : AnyThr) (rd ra rb : GIdx) (s : State) : Host.Outcome State Fault Refusal :=
  .next (s.alu th rd fun x => let a := x.gr ra; let b := x.gr rb; a &&& ~~~b)

/-- rd receives ra shifted left by rb. (R66) -/
def execSll (th : AnyThr) (rd ra rb : GIdx) (w : Bool) (s : State) : Host.Outcome State Fault Refusal :=
  .next (s.alu th rd fun x => let a := x.gr ra; let b := x.gr rb; aluSll w a b)

/-- rd receives ra shifted right logically by rb. (R66) (DEDUCED, log entry 15.) -/
def execSrl (th : AnyThr) (rd ra rb : GIdx) (w : Bool) (s : State) : Host.Outcome State Fault Refusal :=
  .next (s.alu th rd fun x => let a := x.gr ra; let b := x.gr rb; aluSrl w a b)

/-- rd receives ra shifted right arithmetically by rb. (R66) (DEDUCED, log entry 15.) -/
def execSra (th : AnyThr) (rd ra rb : GIdx) (w : Bool) (s : State) : Host.Outcome State Fault Refusal :=
  .next (s.alu th rd fun x => let a := x.gr ra; let b := x.gr rb; aluSra w a b)

/-- rd receives ra rotated right by rb. (R66) (DEDUCED, log entry 15.) -/
def execRor (th : AnyThr) (rd ra rb : GIdx) (w : Bool) (s : State) : Host.Outcome State Fault Refusal :=
  .next (s.alu th rd fun x => let a := x.gr ra; let b := x.gr rb; aluRor w a b)

/-- rd receives 1 if ra < rb signed. (R66) -/
def execSlt (th : AnyThr) (rd ra rb : GIdx) (s : State) : Host.Outcome State Fault Refusal :=
  .next (s.alu th rd fun x => let a := x.gr ra; let b := x.gr rb; ofBool (a.slt b))

/-- rd receives 1 if ra < rb unsigned. (R66) -/
def execSltu (th : AnyThr) (rd ra rb : GIdx) (s : State) : Host.Outcome State Fault Refusal :=
  .next (s.alu th rd fun x => let a := x.gr ra; let b := x.gr rb; ofBool (a.ult b))

/-- rd receives the signed minimum of ra and rb. (R66) -/
def execMin (th : AnyThr) (rd ra rb : GIdx) (s : State) : Host.Outcome State Fault Refusal :=
  .next (s.alu th rd fun x => let a := x.gr ra; let b := x.gr rb; minS a b)

/-- rd receives the signed maximum of ra and rb. (R66) -/
def execMax (th : AnyThr) (rd ra rb : GIdx) (s : State) : Host.Outcome State Fault Refusal :=
  .next (s.alu th rd fun x => let a := x.gr ra; let b := x.gr rb; maxS a b)

/-- rd receives the unsigned minimum of ra and rb. (R66) -/
def execMinu (th : AnyThr) (rd ra rb : GIdx) (s : State) : Host.Outcome State Fault Refusal :=
  .next (s.alu th rd fun x => let a := x.gr ra; let b := x.gr rb; minU a b)

/-- rd receives the unsigned maximum of ra and rb. (R66) -/
def execMaxu (th : AnyThr) (rd ra rb : GIdx) (s : State) : Host.Outcome State Fault Refusal :=
  .next (s.alu th rd fun x => let a := x.gr ra; let b := x.gr rb; maxU a b)

/-- rd receives the low 64 bits of ra × rb. (R66) -/
def execMul (th : AnyThr) (rd ra rb : GIdx) (w : Bool) (s : State) : Host.Outcome State Fault Refusal :=
  .next (s.alu th rd fun x => let a := x.gr ra; let b := x.gr rb; aluW w (· * ·) (· * ·) a b)

/-- rd receives the high 64 bits of the signed product. (R66) -/
def execMulh (th : AnyThr) (rd ra rb : GIdx) (s : State) : Host.Outcome State Fault Refusal :=
  .next (s.alu th rd fun x => let a := x.gr ra; let b := x.gr rb; mulHigh a.toInt b.toInt)

/-- rd receives the high 64 bits of the unsigned product. (R66) -/
def execMulhu (th : AnyThr) (rd ra rb : GIdx) (s : State) : Host.Outcome State Fault Refusal :=
  .next (s.alu th rd fun x => let a := x.gr ra; let b := x.gr rb; mulHigh a.toNat b.toNat)

/-- rd receives the high 64 bits of signed ra times unsigned rb. (R66) -/
def execMulhsu (th : AnyThr) (rd ra rb : GIdx) (s : State) : Host.Outcome State Fault Refusal :=
  .next (s.alu th rd fun x => let a := x.gr ra; let b := x.gr rb; mulHigh a.toInt b.toNat)

/-- rd receives the signed quotient, with the fixed results for zero and overflow. (R67) -/
def execDiv (th : AnyThr) (rd ra rb : GIdx) (w : Bool) (s : State) : Host.Outcome State Fault Refusal :=
  .next (s.alu th rd fun x => let a := x.gr ra; let b := x.gr rb; aluW w divS divS a b)

/-- rd receives the unsigned quotient. (R67) -/
def execDivu (th : AnyThr) (rd ra rb : GIdx) (w : Bool) (s : State) : Host.Outcome State Fault Refusal :=
  .next (s.alu th rd fun x => let a := x.gr ra; let b := x.gr rb; aluW w divU divU a b)

/-- rd receives the signed remainder. (R67) -/
def execRem (th : AnyThr) (rd ra rb : GIdx) (w : Bool) (s : State) : Host.Outcome State Fault Refusal :=
  .next (s.alu th rd fun x => let a := x.gr ra; let b := x.gr rb; aluW w remS remS a b)

/-- rd receives the unsigned remainder. (R67) -/
def execRemu (th : AnyThr) (rd ra rb : GIdx) (w : Bool) (s : State) : Host.Outcome State Fault Refusal :=
  .next (s.alu th rd fun x => let a := x.gr ra; let b := x.gr rb; aluW w remU remU a b)

/-- rd receives the leading zeros of ra. (R67) -/
def execClz (th : AnyThr) (rd ra : GIdx) (s : State) : Host.Outcome State Fault Refusal :=
  .next (s.alu th rd fun x => let a := x.gr ra; clz a)

/-- rd receives the trailing zeros of ra. (R67) -/
def execCtz (th : AnyThr) (rd ra : GIdx) (s : State) : Host.Outcome State Fault Refusal :=
  .next (s.alu th rd fun x => let a := x.gr ra; ctz a)

/-- rd receives the number of set bits of ra. (R66) -/
def execPopc (th : AnyThr) (rd ra : GIdx) (s : State) : Host.Outcome State Fault Refusal :=
  .next (s.alu th rd fun x => let a := x.gr ra; popc a)

/-- rd receives ra with its byte order reversed. (R66) -/
def execBswap (th : AnyThr) (rd ra : GIdx) (s : State) : Host.Outcome State Fault Refusal :=
  .next (s.alu th rd fun x => let a := x.gr ra; bswap a)

/-- rd receives ra plus the sign-extended immediate. (R67) -/
def execAddi (th : AnyThr) (rd ra : GIdx) (imm : BitVec 16) (s : State) : Host.Outcome State Fault Refusal :=
  .next (s.alu th rd fun x => x.gr ra + imm.signExtend 64)

/-- rd receives ra AND the zero-extended immediate. (R67) -/
def execAndi (th : AnyThr) (rd ra : GIdx) (imm : BitVec 16) (s : State) : Host.Outcome State Fault Refusal :=
  .next (s.alu th rd fun x => x.gr ra &&& imm.setWidth 64)

/-- rd receives ra OR the zero-extended immediate. (R67) -/
def execOri (th : AnyThr) (rd ra : GIdx) (imm : BitVec 16) (s : State) : Host.Outcome State Fault Refusal :=
  .next (s.alu th rd fun x => x.gr ra ||| imm.setWidth 64)

/-- rd receives ra XOR the zero-extended immediate. (R67) -/
def execXori (th : AnyThr) (rd ra : GIdx) (imm : BitVec 16) (s : State) : Host.Outcome State Fault Refusal :=
  .next (s.alu th rd fun x => x.gr ra ^^^ imm.setWidth 64)

/-- rd receives 1 if ra is below the immediate, signed. (R67) -/
def execSlti (th : AnyThr) (rd ra : GIdx) (imm : BitVec 16) (s : State) : Host.Outcome State Fault Refusal :=
  .next (s.alu th rd fun x => ofBool ((x.gr ra).slt (imm.signExtend 64)))

/-- rd receives 1 if ra is below the sign-extended immediate, unsigned. (R67) -/
def execSltiu (th : AnyThr) (rd ra : GIdx) (imm : BitVec 16) (s : State) : Host.Outcome State Fault Refusal :=
  .next (s.alu th rd fun x => ofBool ((x.gr ra).ult (imm.signExtend 64)))

/-- rd receives the sign-extended immediate shifted left by 16. (R67) -/
def execLui (th : AnyThr) (rd : GIdx) (imm : BitVec 16) (s : State) : Host.Outcome State Fault Refusal :=
  .next (s.alu th rd fun _ => imm.signExtend 64 <<< 16)

/-- rd receives PC plus the sign-extended immediate shifted left by 16. (R67) -/
def execAddpc (th : AnyThr) (rd : GIdx) (imm : BitVec 16) (s : State) : Host.Outcome State Fault Refusal :=
  .next (s.alu th rd fun x => x.pc + (imm.signExtend 64 <<< 16))

/-- rd receives ra shifted left by a constant. (R67) -/
def execShiSll (th : AnyThr) (rd ra : GIdx) (amount : ShiftAmount) (s : State) : Host.Outcome State Fault Refusal :=
  .next (s.alu th rd fun x => aluSll amount.w (x.gr ra) amount.count)

/-- rd receives ra shifted right logically by a constant. (R67) -/
def execShiSrl (th : AnyThr) (rd ra : GIdx) (amount : ShiftAmount) (s : State) : Host.Outcome State Fault Refusal :=
  .next (s.alu th rd fun x => aluSrl amount.w (x.gr ra) amount.count)

/-- rd receives ra shifted right arithmetically by a constant. (R67) -/
def execShiSra (th : AnyThr) (rd ra : GIdx) (amount : ShiftAmount) (s : State) : Host.Outcome State Fault Refusal :=
  .next (s.alu th rd fun x => aluSra amount.w (x.gr ra) amount.count)

/-- rd receives ra rotated right by a constant. (R67) -/
def execShiRor (th : AnyThr) (rd ra : GIdx) (amount : ShiftAmount) (s : State) : Host.Outcome State Fault Refusal :=
  .next (s.alu th rd fun x => aluRor amount.w (x.gr ra) amount.count)

/-- Load a byte, sign-extended. (R68) -/
def execLb (th : AnyThr) (rd ra : GIdx) (disp : BitVec 16) (s : State) : Host.Outcome State Fault Refusal :=
  .next (s.runInstr th fun s => s.load th (ea s th ra disp) 1 (.gpr rd 1 true))

/-- Load two bytes, sign-extended. (R68) -/
def execLh (th : AnyThr) (rd ra : GIdx) (disp : BitVec 16) (s : State) : Host.Outcome State Fault Refusal :=
  .next (s.runInstr th fun s => s.load th (ea s th ra disp) 2 (.gpr rd 2 true))

/-- Load four bytes, sign-extended. (R68) -/
def execLw (th : AnyThr) (rd ra : GIdx) (disp : BitVec 16) (s : State) : Host.Outcome State Fault Refusal :=
  .next (s.runInstr th fun s => s.load th (ea s th ra disp) 4 (.gpr rd 4 true))

/-- Load eight bytes. (R68) -/
def execLd (th : AnyThr) (rd ra : GIdx) (disp : BitVec 16) (s : State) : Host.Outcome State Fault Refusal :=
  .next (s.runInstr th fun s => s.load th (ea s th ra disp) 8 (.gpr rd 8 false))

/-- Load a byte, zero-extended. (R68) -/
def execLbu (th : AnyThr) (rd ra : GIdx) (disp : BitVec 16) (s : State) : Host.Outcome State Fault Refusal :=
  .next (s.runInstr th fun s => s.load th (ea s th ra disp) 1 (.gpr rd 1 false))

/-- Load two bytes, zero-extended. (R68) -/
def execLhu (th : AnyThr) (rd ra : GIdx) (disp : BitVec 16) (s : State) : Host.Outcome State Fault Refusal :=
  .next (s.runInstr th fun s => s.load th (ea s th ra disp) 2 (.gpr rd 2 false))

/-- Load four bytes, zero-extended. (R68) -/
def execLwu (th : AnyThr) (rd ra : GIdx) (disp : BitVec 16) (s : State) : Host.Outcome State Fault Refusal :=
  .next (s.runInstr th fun s => s.load th (ea s th ra disp) 4 (.gpr rd 4 false))

/-- Store the low byte of rs. (R68) -/
def execSb (th : AnyThr) (rs ra : GIdx) (disp : BitVec 16) (s : State) : Host.Outcome State Fault Refusal :=
  .next (s.runInstr th fun s => s.store th (ea s th ra disp) (leBytes 1 ((s.thr th).gr rs).toNat))

/-- Store the low two bytes of rs. (R68) -/
def execSh (th : AnyThr) (rs ra : GIdx) (disp : BitVec 16) (s : State) : Host.Outcome State Fault Refusal :=
  .next (s.runInstr th fun s => s.store th (ea s th ra disp) (leBytes 2 ((s.thr th).gr rs).toNat))

/-- Store the low four bytes of rs. (R68) -/
def execSw (th : AnyThr) (rs ra : GIdx) (disp : BitVec 16) (s : State) : Host.Outcome State Fault Refusal :=
  .next (s.runInstr th fun s => s.store th (ea s th ra disp) (leBytes 4 ((s.thr th).gr rs).toNat))

/-- Store all eight bytes of rs. (R68) -/
def execSd (th : AnyThr) (rs ra : GIdx) (disp : BitVec 16) (s : State) : Host.Outcome State Fault Refusal :=
  .next (s.runInstr th fun s => s.store th (ea s th ra disp) (leBytes 8 ((s.thr th).gr rs).toNat))

/-- Branch if ra equals rb. (R69) -/
def execBeq (th : AnyThr) (ra rb : GIdx) (hint : Bool) (disp : BitVec 15) (s : State) : Host.Outcome State Fault Refusal :=
  .next (s.runInstr th fun s => s.branch th ra rb hint disp fun a b => a == b)

/-- Branch if ra differs from rb. (R69) -/
def execBne (th : AnyThr) (ra rb : GIdx) (hint : Bool) (disp : BitVec 15) (s : State) : Host.Outcome State Fault Refusal :=
  .next (s.runInstr th fun s => s.branch th ra rb hint disp fun a b => a != b)

/-- Branch if ra is less than rb, signed. (R69) -/
def execBlt (th : AnyThr) (ra rb : GIdx) (hint : Bool) (disp : BitVec 15) (s : State) : Host.Outcome State Fault Refusal :=
  .next (s.runInstr th fun s => s.branch th ra rb hint disp fun a b => a.slt b)

/-- Branch if ra is at least rb, signed. (R69) -/
def execBge (th : AnyThr) (ra rb : GIdx) (hint : Bool) (disp : BitVec 15) (s : State) : Host.Outcome State Fault Refusal :=
  .next (s.runInstr th fun s => s.branch th ra rb hint disp fun a b => !a.slt b)

/-- Branch if ra is less than rb, unsigned. (R69) -/
def execBltu (th : AnyThr) (ra rb : GIdx) (hint : Bool) (disp : BitVec 15) (s : State) : Host.Outcome State Fault Refusal :=
  .next (s.runInstr th fun s => s.branch th ra rb hint disp fun a b => a.ult b)

/-- Branch if ra is at least rb, unsigned. (R69) -/
def execBgeu (th : AnyThr) (ra rb : GIdx) (hint : Bool) (disp : BitVec 15) (s : State) : Host.Outcome State Fault Refusal :=
  .next (s.runInstr th fun s => s.branch th ra rb hint disp fun a b => !a.ult b)

/-- Jump PC-relative. (R70) -/
def execJ (th : AnyThr) (disp : BitVec 25) (s : State) : Host.Outcome State Fault Refusal :=
  .next (s.runInstr th fun s => s.jump th disp)

/-- Write PC + 4 to g1 and jump, pushing the return stack when H = 0. (R70) -/
def execJal (th : AnyThr) (hint : Bool) (disp : BitVec 25) (s : State) : Host.Outcome State Fault Refusal :=
  .next (s.runInstr th fun s => s.jumpLink th hint disp)

/-- Jump to the register target, writing PC + 4 to rd. (R70) -/
def execJalr (th : AnyThr) (rd ra : GIdx) (imm : BitVec 16) (s : State) : Host.Outcome State Fault Refusal :=
  .next (s.runInstr th fun s => s.jumpReg th rd ra imm)

/-- Atomically write rb and return the old value. (R71) -/
def execAmoSwap (th : Thr) (rd ra rb : GIdx) (wide : Bool) (s : State) : Host.Outcome State Fault Refusal :=
  .next (s.runInstr th fun s => s.amoOp th rd ra rb wide (fun _ b => b) (fun _ b => b))

/-- Atomically add rb and return the old value. (R71) -/
def execAmoAdd (th : Thr) (rd ra rb : GIdx) (wide : Bool) (s : State) : Host.Outcome State Fault Refusal :=
  .next (s.runInstr th fun s => s.amoOp th rd ra rb wide ((· + ·)) ((· + ·)))

/-- Atomically AND rb and return the old value. (R71) -/
def execAmoAnd (th : Thr) (rd ra rb : GIdx) (wide : Bool) (s : State) : Host.Outcome State Fault Refusal :=
  .next (s.runInstr th fun s => s.amoOp th rd ra rb wide ((· &&& ·)) ((· &&& ·)))

/-- Atomically OR rb and return the old value. (R71) -/
def execAmoOr (th : Thr) (rd ra rb : GIdx) (wide : Bool) (s : State) : Host.Outcome State Fault Refusal :=
  .next (s.runInstr th fun s => s.amoOp th rd ra rb wide ((· ||| ·)) ((· ||| ·)))

/-- Atomically XOR rb and return the old value. (R71) -/
def execAmoXor (th : Thr) (rd ra rb : GIdx) (wide : Bool) (s : State) : Host.Outcome State Fault Refusal :=
  .next (s.runInstr th fun s => s.amoOp th rd ra rb wide ((· ^^^ ·)) ((· ^^^ ·)))

/-- Atomically store the signed minimum and return the old value. (R71) -/
def execAmoMin (th : Thr) (rd ra rb : GIdx) (wide : Bool) (s : State) : Host.Outcome State Fault Refusal :=
  .next (s.runInstr th fun s => s.amoOp th rd ra rb wide (minS) (minS))

/-- Atomically store the signed maximum and return the old value. (R71) -/
def execAmoMax (th : Thr) (rd ra rb : GIdx) (wide : Bool) (s : State) : Host.Outcome State Fault Refusal :=
  .next (s.runInstr th fun s => s.amoOp th rd ra rb wide (maxS) (maxS))

/-- Atomically store the unsigned minimum and return the old value. (R71) -/
def execAmoMinu (th : Thr) (rd ra rb : GIdx) (wide : Bool) (s : State) : Host.Outcome State Fault Refusal :=
  .next (s.runInstr th fun s => s.amoOp th rd ra rb wide (minU) (minU))

/-- Atomically store the unsigned maximum and return the old value. (R71) -/
def execAmoMaxu (th : Thr) (rd ra rb : GIdx) (wide : Bool) (s : State) : Host.Outcome State Fault Refusal :=
  .next (s.runInstr th fun s => s.amoOp th rd ra rb wide (maxU) (maxU))

/-- Atomically compare with rd and write rb on equality, 8 or 16 bytes. (R71) -/
def execAmoCas (th : Thr) (rd ra rb : GIdx) (wide : Bool) (s : State) : Host.Outcome State Fault Refusal :=
  .next (s.runInstr th fun s => s.amoCas th rd ra rb wide)

end Sys2Proof.Machine
end

