-- ==== Sys2Proof/Machine/IsaSystem.lean ====
section
/-! DEFINITION. System operations and control registers (R73–R77, R81–R84), interrupts and secure interrupts
(R85–R90), and the illegal instruction exception (R64, R65, R497). -/

namespace Sys2Proof.Machine

/-! ### Field rows of the control registers -/

def crRows.STATUS : List FldRow :=
  [FldRow.mk 63 25 Acc.no Acc.ro Acc.ro,
   FldRow.mk 24 20 Acc.no Acc.rw Acc.rw,
   FldRow.mk 19 17 Acc.no Acc.rw Acc.rw,
   FldRow.mk 16 16 Acc.no Acc.rw Acc.rw,
   FldRow.mk 15 15 Acc.no Acc.rw Acc.rw,
   FldRow.mk 14 14 Acc.no Acc.rw Acc.rw,
   FldRow.mk 13 10 Acc.no Acc.rw Acc.rw,
   FldRow.mk 9 9 Acc.no Acc.rw Acc.ro,
   FldRow.mk 8 8 Acc.no Acc.rw Acc.rw,
   FldRow.mk 7 7 Acc.no Acc.rw Acc.ro,
   FldRow.mk 6 6 Acc.no Acc.rw Acc.rw,
   FldRow.mk 5 5 Acc.no Acc.rw Acc.rw,
   FldRow.mk 4 3 Acc.no Acc.rw Acc.ro,
   FldRow.mk 2 2 Acc.no Acc.rw Acc.rw,
   FldRow.mk 1 0 Acc.no Acc.ro Acc.ro]
def crRows.EPC : List FldRow :=
  [FldRow.mk 63 2 Acc.no Acc.rw Acc.rw,
   FldRow.mk 1 0 Acc.no Acc.ro Acc.ro]
def crRows.ECAUSE : List FldRow :=
  [FldRow.mk 63 32 Acc.no Acc.ro Acc.ro,
   FldRow.mk 31 20 Acc.no Acc.rw Acc.rw,
   FldRow.mk 19 18 Acc.no Acc.ro Acc.ro,
   FldRow.mk 17 17 Acc.no Acc.rw Acc.rw,
   FldRow.mk 16 16 Acc.no Acc.rw Acc.rw,
   FldRow.mk 15 8 Acc.no Acc.rw Acc.rw,
   FldRow.mk 7 0 Acc.no Acc.rw Acc.rw]
def crRows.EVEC : List FldRow :=
  [FldRow.mk 63 12 Acc.no Acc.rw Acc.rw,
   FldRow.mk 11 0 Acc.no Acc.ro Acc.ro]
def crRows.THREAD : List FldRow :=
  [FldRow.mk 63 32 Acc.no Acc.rw Acc.rw,
   FldRow.mk 31 17 Acc.no Acc.ro Acc.ro,
   FldRow.mk 16 16 Acc.no Acc.ro Acc.ro,
   FldRow.mk 15 8 Acc.no Acc.ro Acc.ro,
   FldRow.mk 7 0 Acc.no Acc.ro Acc.ro]
def crRows.PWRMODE : List FldRow :=
  [FldRow.mk 63 11 Acc.no Acc.ro Acc.ro,
   FldRow.mk 10 10 Acc.no Acc.rw Acc.rw,
   FldRow.mk 9 9 Acc.no Acc.rw Acc.rw,
   FldRow.mk 8 8 Acc.no Acc.rw Acc.rw,
   FldRow.mk 7 3 Acc.no Acc.ro Acc.ro,
   FldRow.mk 2 2 Acc.no Acc.w1c Acc.w1c,
   FldRow.mk 1 0 Acc.no Acc.rw Acc.rw]
def crRows.CLKSEL : List FldRow :=
  [FldRow.mk 63 2 Acc.no Acc.ro Acc.ro,
   FldRow.mk 1 1 Acc.no Acc.ro Acc.ro,
   FldRow.mk 0 0 Acc.no Acc.rw Acc.rw]
def crRows.HINTCTL : List FldRow :=
  [FldRow.mk 63 3 Acc.no Acc.ro Acc.ro,
   FldRow.mk 2 2 Acc.no Acc.rw Acc.rw,
   FldRow.mk 1 1 Acc.no Acc.rw Acc.rw,
   FldRow.mk 0 0 Acc.no Acc.rw Acc.rw]
def crRows.IFCTL : List FldRow :=
  [FldRow.mk 63 3 Acc.no Acc.ro Acc.ro,
   FldRow.mk 2 2 Acc.no Acc.rw Acc.rw,
   FldRow.mk 1 1 Acc.no Acc.rw Acc.rw,
   FldRow.mk 0 0 Acc.no Acc.rw Acc.rw]
def crRows.PTBASE : List FldRow :=
  [FldRow.mk 63 52 Acc.no Acc.rw Acc.rw,
   FldRow.mk 51 12 Acc.no Acc.rw Acc.rw,
   FldRow.mk 11 1 Acc.no Acc.ro Acc.ro,
   FldRow.mk 0 0 Acc.no Acc.rw Acc.rw]
def crRows.MCHK : List FldRow :=
  [FldRow.mk 63 56 Acc.no Acc.ro Acc.ro,
   FldRow.mk 55 48 Acc.no Acc.ro Acc.ro,
   FldRow.mk 47 40 Acc.no Acc.ro Acc.ro,
   FldRow.mk 39 16 Acc.no Acc.ro Acc.ro,
   FldRow.mk 15 4 Acc.no Acc.ro Acc.ro,
   FldRow.mk 3 3 Acc.no Acc.w1c Acc.w1c,
   FldRow.mk 2 2 Acc.no Acc.ro Acc.ro,
   FldRow.mk 1 1 Acc.no Acc.ro Acc.ro,
   FldRow.mk 0 0 Acc.no Acc.w1c Acc.w1c]
def crRows.TWIN : List FldRow :=
  [FldRow.mk 63 32 Acc.no Acc.ro Acc.ro,
   FldRow.mk 31 2 Acc.no Acc.ro Acc.ro,
   FldRow.mk 1 1 Acc.no Acc.w1s Acc.w1s,
   FldRow.mk 0 0 Acc.no Acc.ro Acc.ro]
/-- The field rows of a control register by number (Tables ISA-10 to ISA-19); EADDR, SCRATCH and PMCs are plain. -/
def crRows (n : Nat) : List FldRow :=
  if n = 0x000 then crRows.STATUS
  else if n = 0x001 ∨ n = 0x101 then crRows.EPC
  else if n = 0x002 ∨ n = 0x102 then crRows.ECAUSE
  else if n = 0x004 ∨ n = 0x104 then crRows.EVEC
  else if n = 0x011 then crRows.THREAD
  else if n = 0x020 then crRows.PWRMODE
  else if n = 0x021 then crRows.CLKSEL
  else if n = 0x030 then crRows.HINTCTL
  else if n = 0x031 then crRows.IFCTL
  else if n = 0x040 ∨ n = 0x041 then crRows.PTBASE
  else if n = 0x050 then crRows.MCHK
  else if n = 0x060 then crRows.TWIN
  else [FldRow.mk 63 0 Acc.no Acc.rw Acc.rw]

/-! ### Access to control registers -/

def Thread.utr (x : Thread) : Bool := x.st F.crSTATUS.UTR == 1
def Thread.uctr (x : Thread) : Bool := x.st F.crSTATUS.UCTR == 1

/-- The access a thread's level has to a number (Table ISA-9). -/
def Thread.crAcc (x : Thread) (n : Nat) : CrAcc := crAccess n x.pl x.utr x.uctr

/-- The stored register behind a number at a level: the banked numbers 0x001–0x005 (Table ISA-9). -/
def crSlot (pl n : Nat) : Nat := if 1 ≤ n ∧ n ≤ 5 then bankNo (if pl = 2 then 2 else 1) n else n

/-- FPCTL as a view of STATUS: FRM in [2:0], FFLAGS in [12:8]. -/
def Thread.fpctl (x : Thread) : Word :=
  BitVec.ofNat 64 (x.st F.crSTATUS.FRM + x.st F.crSTATUS.FFLAGS * 256)

/-- TAI nanoseconds since the PTP epoch, from the time of day (R19, Table TIM-3). (DESIGN CHOICE, log entry 111.) -/
def State.taiNs (s : State) : Nat :=
  s.fld { kind := .tuTodS } F.tuTodS.SECONDS * 1000000000 + s.fld { kind := .tuTodNs } F.tuTodNs.NS

/-! ### Interrupt selection -/

/-- A vector is deliverable (R89): EN = 1, PEND = 1, ACTIVE = 0. -/
def deliverable (v : Nat) : Bool :=
  F.icVec.EN.get v == 1 && F.icVec.PEND.get v == 1 && F.icVec.ACTIVE.get v == 0

/-- The vector's target level: H for a panel 0 vector with HLVL = 1, else S (R89). -/
def vecLevel (p v : Nat) : Nat := if p = 0 ∧ F.icVec.HLVL.get v = 1 then 2 else 1

/-- The vector of twin mismatches, delivered at H in panel 0 (R82). -/
def isTwinVec (p j : Nat) : Bool := p == 0 && j == 2047
/-- The level at which vector `e.1` of panel `p`, configured as `e.2`, is delivered. -/
def deliveryLevel (p : Nat) (e : Nat × Nat) : Nat := if isTwinVec p e.1 then 2 else vecLevel p e.2

/-- The vectors of panel `p` directed to a seat's thread, listed ones only (an unlisted vector has EN = 0). -/
def State.vectorsFor (s : State) (p n t : Nat) : List (Nat × Nat) :=
  ((List.range 2048).map fun j => (j, s.rd { kind := .icVec, i := p, j := j })).filter fun e =>
    deliverable e.2 && F.icVec.SEAT.get e.2 == n && F.icVec.THR.get e.2 == t

/-- The vector with the highest PRIO, the lowest number among equals (R89). -/
def bestVector : List (Nat × Nat) → Option (Nat × Nat)
  | [] => none
  | e :: es =>
    match bestVector es with
    | none => some e
    | some b => if F.icVec.PRIO.get b.2 > F.icVec.PRIO.get e.2 then some b else some e

/-- The seat a thread runs. -/
def State.seatOf (s : State) (th : Nat) : Option (Nat × Nat) := (s.core (th / 2)).seat

/-- The vector to take of those that can be taken: a twin mismatch precedes every other (R85), then PRIO decides. -/
def firstVector (p : Nat) (l : List (Nat × Nat)) : Option (Nat × Nat) :=
  match l.find? fun e => isTwinVec p e.1 with
  | some e => some e
  | none => bestVector l

/-- The vector thread `t` of seat `n` of panel `p`, in state `x`, would take (R89): PRIO ≥ IPL, IE = 1, level no higher
than the vector's target. -/
def State.takeableFor (s : State) (p n t : Nat) (x : Thread) : Option (Nat × Nat) :=
  if x.st F.crSTATUS.IE ≠ 1 then none else
  firstVector p ((s.vectorsFor p n t).filter fun e =>
    decide (x.st F.crSTATUS.IPL ≤ F.icVec.PRIO.get e.2) && decide (x.pl ≤ deliveryLevel p e))

/-- The vector a thread on a core would take now. -/
def State.takeable (s : State) (th : Nat) : Option (Nat × Nat) :=
  match s.seatOf th with
  | none => none
  | some (p, n) => s.takeableFor p n (th % 2) (s.thr th)

/-- A read of IACK (R90): the highest deliverable vector of the level of the read, made active. That of vector 2047 of panel 0
ends the mismatch reported; the next one, if any, makes it pending again. -/
def State.iack (s : State) (th : Nat) : State × Word :=
  match s.seatOf th with
  | none => (s, BitVec.ofNat 64 (2 ^ 31))
  | some (p, n) =>
    let lvl := takenAt (s.thr th).pl
    match bestVector ((s.vectorsFor p n (th % 2)).filter fun e => deliveryLevel p e == lvl) with
    | none => (s, BitVec.ofNat 64 (2 ^ 31))
    | some (j, v) =>
      let r : Reg := { kind := .icVec, i := p, j := j }
      let s := if isTwinVec p j then { s with twinEvents := s.twinEvents.drop 1 } else s
      let more := isTwinVec p j && s.twinEvents ≠ []
      ((s.setFld r F.icVec.PEND (b2n more)).setFld r F.icVec.ACTIVE 1, BitVec.ofNat 64 (F.icVec.PRIO.get v * 2 ^ 16 + j))

/-- A write to IEOI (R90): clears ACTIVE of the vector named in bits [10:0]. -/
def State.ieoi (s : State) (th : Nat) (v : Word) : State :=
  s.setFld { kind := .icVec, i := s.panelOf th, j := v.toNat % 2048 } F.icVec.ACTIVE 0

/-! ### Reads and writes -/

/-- The value of a control register as a thread reads it (R81). (DESIGN CHOICE, log entry 111.) -/
def State.crRead (s : State) (th n : Nat) : State × Word :=
  let x := s.thr th
  if n = 0x006 then (s, x.fpctl)
  else if n = 0x010 then (s, BitVec.ofNat 64 (s.handle (s.panelOf th)))
  else if n = 0x012 then (s, BitVec.ofNat 64 (s.tile (th / 2)).bnd)
  else if n = 0x013 then (s, BitVec.ofNat 64 ((s.tile (th / 2)).bnd * 10000))
  else if n = 0x060 then (s, BitVec.ofNat 64 (F.crTWIN.PAIRED.set (x.cr0 n).toNat (b2n (s.paired (th / 2)))))
  else if n = 0x070 then s.iack th
  else if n = 0x071 then (s, 0)
  else (s, x.cr0 (crSlot x.pl n))

/-- How an operation changes a control register (R74). -/
inductive CrOp where
  /-- CRSET, CRSWP: through the access codes. -/
  | write
  /-- CRBS: sets named bits of RW and W1S fields. -/
  | setBits
  /-- CRBC: clears named bits of RW and W1C fields. -/
  | clearBits
  deriving DecidableEq, Repr

/-- The stored value after an operation, field by field (R13, R74). -/
def crNext (op : CrOp) (rows : List FldRow) (hostLevel : Bool) (old v : Nat) : Nat :=
  (rows.map fun f =>
    let a := if hostLevel then f.h else f.p
    let o := old &&& f.mask
    let w := v &&& f.mask
    match op, a with
    | .write, .rw => w
    | .write, .wo => w
    | .write, .w1s => o ||| w
    | .write, .w1c => o - (o &&& w)
    | .setBits, .rw => o ||| w
    | .setBits, .w1s => o ||| w
    | .clearBits, .rw => o - (o &&& w)
    | .clearBits, .w1c => o - (o &&& w)
    | _, _ => o).sum

/-- A write to FPCTL is a write to STATUS.FRM and STATUS.FFLAGS. -/
def Thread.setFpctl (x : Thread) (v : Nat) : Thread :=
  (x.setSt F.crSTATUS.FRM (bits v 2 0)).setSt F.crSTATUS.FFLAGS (bits v 12 8)

/-- Change a control register (R74, R81). On a pair an IEOI write is held until its compare (Table TWN-4). Writing CMPREQ on
an unpaired seat has no effect (R430). IEOI has no stored bits: CRBC writes it as zero. (DESIGN CHOICE, log entry 119.) -/
def State.crWrite (s : State) (th n : Nat) (op : CrOp) (old v : Word) : State :=
  let x := s.thr th
  if n = 0x006 then
    let w := match op with
      | .write => v
      | .setBits => old ||| v
      | .clearBits => old &&& ~~~v
    s.setThr th (x.setFpctl w.toNat)
  else if n = 0x071 then
    let v := match op with
      | .clearBits => 0
      | _ => v
    if s.isChecker (th / 2) then s
    else if s.isMain (th / 2) then
      let c := s.core (th / 2)
      s.setCore (th / 2) { c with held := c.held ++ [⟨th % 2, 0, leBytes 8 v.toNat, true, true⟩] }
    else s.ieoi th v
  else
    let k := crSlot x.pl n
    let w := crNext op (crRows k) (x.pl == 2) (x.cr0 k).toNat v.toNat
    let w := if k = 0x060 ∧ !s.paired (th / 2) then F.crTWIN.CMPREQ.set w 0 else w
    s.setThr th (x.setCr k (BitVec.ofNat 64 w))

/-- The shared frame of the control-register operations: the illegal cases (R74, R81, R497), then the access. -/
def State.crOp (s : State) (th : Nat) (word : IWord) (n : Nat) (body : State → State) : State :=
  let x := s.thr th
  match illegalSub word.toNat x.pl (s.panelOf th == 0) x.utr x.uctr (x.st F.crSTATUS.FRM) with
  | some sub => s.illegal th sub word
  | none =>
    -- a paired main core compares before an IACK read (Table TWN-4)
    if n = 0x070 && s.paired (th / 2) && x.sinceCmp ≠ 0 then s.force th else body s

/-- Whether a read's value goes through the load-value queue (Table TWN-3). -/
def liveRead (n : Nat) : Bool := n == 0x012 || n == 0x013 || n == 0x070

/-- The value a control-register read delivers, on a pair through the load-value queue (R427); `none` while the
checker's queue is empty or the main core has no credit. -/
def State.crValue (s : State) (th n : Nat) : Option (State × Word) :=
  if liveRead n && s.isChecker (th / 2) then
    match (s.thr th).lvq with
    | .value v :: rest => some (s.setThr th { s.thr th with lvq := rest }, BitVec.ofNat 64 v)
    | _ => none
  else if liveRead n && s.isMain (th / 2) then
    if s.lvqRoom th 1 then
      let (s, v) := s.crRead th n
      some (s.lvqPush th [.value v.toNat], v)
    else none
  else some (s.crRead th n)

/-- Finish a control-register operation: `rd`, retirement, and the forced compare after an IACK or IEOI access. -/
def State.crFinish (s : State) (th n rd : Nat) (v : Word) : State :=
  let s := s.retireGpr th rd v
  if !s.paired (th / 2) then s else if n = 0x070 then s.forceDone th else if n = 0x071 then s.force th else s

/-- Read, then change (CRSWP, CRBS, CRBC), or only one of them. -/
def State.crAccessOp (s : State) (th sfn rd ra n : Nat) (read : Bool) (op : Option CrOp) : State :=
  s.crOp th (encodeS rd ra sfn n) n fun s =>
    let v := (s.thr th).gr ra
    match (if read then s.crValue th n else some (s, 0)) with
    | none => s
    | some (s, old) =>
      let s := match op with
        | some o => s.crWrite th n o old v
        | none => s
      if read then s.crFinish th n rd old else s.crFinish th n 0 0

/-- A read of IACK returns the highest deliverable vector and marks it active. (R90) -/
def execIack (th : Thr) (rd : GIdx) (s : State) : Host.Outcome State Fault Refusal :=
  .next (s.runInstr th fun s => s.crAccessOp th 0 rd 0 0x070 true none)
/-- A write to IEOI clears ACTIVE of the named vector. (R90) -/
def execIeoi (th : Thr) (ra : GIdx) (s : State) : Host.Outcome State Fault Refusal :=
  .next (s.runInstr th fun s => s.crAccessOp th 1 0 ra 0x071 false (some .write))

/-! ### Calls and returns -/

/-- A system operation under its level rule (R73, R82, R497). -/
def State.sysOp (s : State) (th : Nat) (word : IWord) (body : State → State) : State :=
  let x := s.thr th
  match illegalSub word.toNat x.pl (s.panelOf th == 0) x.utr x.uctr (x.st F.crSTATUS.FRM) with
  | some sub => s.illegal th sub word
  | none => body s

/-- SYSCALL and HOSTCALL count as retired, then enter the handler level with EPC the next instruction (Table ISA-21). -/
def State.callEntry (s : State) (th lvl cause code : Nat) : State :=
  let pc := (s.thr th).pc + 4
  let s := s.retire th pc []
  s.setThr th ((s.thr th).enter lvl cause 0 code false pc 0)

/-- Take cause 0x08 at S with CODE from crn. (R82) -/
def execSyscall (th : Thr) (code : BitVec 12) (s : State) : Host.Outcome State Fault Refusal :=
  .next (s.runInstr th fun s => s.sysOp th (encodeS 0 0 5 code.toNat) fun s => s.callEntry th 1 0x08 code.toNat)
/-- Take cause 0x09 at H in panel 0; illegal elsewhere. (R73) -/
def execHostcall (th : Thr) (code : BitVec 12) (s : State) : Host.Outcome State Fault Refusal :=
  .next (s.runInstr th fun s => s.sysOp th (encodeS 0 0 6 code.toNat) fun s => s.callEntry th 2 0x09 code.toNat)
/-! ### Barriers -/

/-- Every older store becomes visible, on a pair at a compare, and the instruction retires; it waits for the CMP of a cross-bolt
store (R156). -/
def State.orderStores (s : State) (th : Nat) : State :=
  let s := s.drainAll th
  if s.crossOpen th then s else
  let s := s.retire th ((s.thr th).pc + 4) []
  if s.paired (th / 2) then s.force th else s

/-- Order all earlier accesses before later ones and drain write-combining buffers. (R75)
(DESIGN CHOICE, log entry 24.) -/
def execFence (th : AnyThr) (s : State) : Host.Outcome State Fault Refusal :=
  .next (s.runInstr th fun s => s.orderStores th)
/-- Wait until every older store is visible and refetch younger instructions. (R129) (DESIGN CHOICE, log entry 24.) -/
def execIfsync (th : AnyThr) (s : State) : Host.Outcome State Fault Refusal :=
  .next (s.runInstr th fun s => s.orderStores th)

/-- Clear the shared prediction tables and set PGEN to 0 (R105). -/
def Core.clearTables (c : Core) : Core := { c with overrides := [], itc := [], pgen := 0 }
/-- PFLUSH's effect: the tables and both return stacks (R107). -/
def Core.flushPrediction (c : Core) : Core :=
  { c.clearTables with thr0 := { c.thr0 with retStack := [] }, thr1 := { c.thr1 with retStack := [] } }

/-- Invalidate the thread's return stack and increment PGEN at retirement. (R106) (DESIGN CHOICE, log entry 24.) -/
def execPbar (th : AnyThr) (s : State) : Host.Outcome State Fault Refusal :=
  .next (s.runInstr th fun s =>
    let s := s.setThr th { s.thr th with retStack := [] }
    let c := s.core (th.val / 2)
    let s := s.setCore (th.val / 2) (if c.pgen = 7 then c.clearTables else { c with pgen := c.pgen + 1 })
    s.retire th ((s.thr th).pc + 4) [])
/-- Clear the override table, target cache and return stacks and zero PGEN. (R107) (DESIGN CHOICE, log entry 24.) -/
def execPflush (th : AnyThr) (s : State) : Host.Outcome State Fault Refusal :=
  .next (s.runInstr th fun s =>
    let s := s.setCore (th.val / 2) (s.core (th.val / 2)).flushPrediction
    s.retire th ((s.thr th).pc + 4) [])

/-! ### TLB invalidation -/

/-- Keep a core's TLB entries that satisfy `p`. -/
def State.tlbKeep (s : State) (c : Nat) (p : TlbEntry → Bool) : State :=
  let x := s.core c
  s.setCore c { x with tlb := x.tlb.filter p }

/-- The cores a TLBINV reaches (Table ISA-7): this one, or every core that runs the panel. -/
def State.tlbCores (s : State) (th : Nat) (all : Bool) : List Nat :=
  if all then (List.range 192).filter fun c => (s.core c).seat.isSome && (s.core c).panel == s.panelOf th
  else [th / 2]

/-- TLBINV (R76): `kill` names the entries that go. -/
def State.tlbinv (s : State) (th mode ra : Nat) (all : Bool) (kill : TlbEntry → Bool) : State :=
  s.sysOp th (encodeS 0 ra 0xD (mode + if all then 4 else 0)) fun s =>
    let s := (s.tlbCores th all).foldl (fun s c => s.tlbKeep c fun t => !kill t) s
    s.retire th ((s.thr th).pc + 4) []

/-- Invalidate every TLB and page-walk cache entry, locally or on every core of the panel. (R76) -/
def execTlbinvAll (th : Thr) (all : Bool) (s : State) : Host.Outcome State Fault Refusal :=
  .next (s.runInstr th fun s => s.tlbinv th 0 0 all fun _ => true)
/-- Invalidate non-global entries of one ASID, locally or broadcast. (R76) -/
def execTlbinvAsid (th : Thr) (ra : GIdx) (all : Bool) (s : State) : Host.Outcome State Fault Refusal :=
  .next (s.runInstr th fun s => s.tlbinv th 1 ra all fun t => !t.glob && t.asid == ((s.thr th).gr ra).toNat % 4096)
/-- Invalidate entries translating one virtual address in every ASID, locally or broadcast. (R76) -/
def execTlbinvVa (th : Thr) (ra : GIdx) (all : Bool) (s : State) : Host.Outcome State Fault Refusal :=
  .next (s.runInstr th fun s => s.tlbinv th 2 ra all fun t => ((s.thr th).gr ra).toNat / 2 ^ t.size == t.va)
/-- Invalidate entries translating one address in the current ASID and global ones. (R76) -/
def execTlbinvVaAsid (th : Thr) (ra : GIdx) (all : Bool) (s : State) : Host.Outcome State Fault Refusal :=
  .next (s.runInstr th fun s => s.tlbinv th 3 ra all fun t =>
    let x := s.thr th
    ((x.gr ra).toNat / 2 ^ t.size == t.va) &&
      (t.glob || t.asid == x.crFld (if x.pl = 2 then 0x041 else 0x040) F.crPTBASE.ASID))

/-! ### Interrupts -/

/-- The thread may take an event at an instruction boundary: its core runs it. A thread in WAIT wakes first (R454). -/
def State.canTake (s : State) (th : Nat) : Bool :=
  let x := s.thr th
  (s.core (th / 2)).seat.isSome && x.started && !x.waiting && !x.halted && x.stall.isNone && s.coreOn (th / 2) &&
    s.boltState (s.boltOf (th / 2)) == 1

/-- The level a secure interrupt is entered at (R82, R87). -/
def sintLevel (p : Nat) : Nat := if p = 0 then 2 else 1

/-- The first secure interrupt that waits for a thread. -/
def State.sintFor (s : State) (th : Nat) : Option (Nat × Nat × Nat × Nat) :=
  match s.seatOf th with
  | none => none
  | some (p, n) => s.sint.find? fun e => e.1 == p && e.2.1 == n && e.2.2.1 == th % 2

/-- Take a secure interrupt (R87); it is consumed when taken. On a pair, a compare of the older instructions comes
first (Table TWN-4). -/
def State.takeSint (s : State) (th : Nat) (e : Nat × Nat × Nat × Nat) : State :=
  let x := s.thr th
  if s.paired (th / 2) && x.sinceCmp ≠ 0 then s.force th else
  let s := { s with sint := s.sint.filter (· ≠ e) }
  s.enterAt th (sintLevel e.1) 0x20 0 e.2.2.2 true 0 none

/-- The secure interrupt that a thread can take now (R87): not while the target level's EXL bit is 1, nor for S at H. -/
def State.sintReady (s : State) (th : Nat) : Option (Nat × Nat × Nat × Nat) :=
  (s.sintFor th).filter fun e =>
    (s.thr th).st (exlOf (sintLevel e.1)) ≠ 1 && decide ((s.thr th).pl ≤ sintLevel e.1)

/-- At an instruction boundary a thread takes its first event (R85): a secure interrupt, a twin mismatch, cause 0x11 with CODE
the panel (R82), or its highest deliverable vector as cause 0x20 (R89); IACK changes PEND and ACTIVE (R90). A checker takes
what its main core took (R427). (DESIGN CHOICE, log entry 120.) -/
def execInterruptEntry (th : Thr) (s : State) : Host.Outcome State Fault Refusal :=
  .next (if !s.canTake th then s else if s.isChecker (th / 2) then s.replay th else
    match s.sintReady th with
    | some e => s.takeSint th e
    | none =>
      match s.takeable th with
      | none => s
      | some (j, v) =>
        let p := s.panelOf th
        if isTwinVec p j then s.enterAt th 2 0x11 0 (s.twinEvents.headD 0) false 0 none
        else s.enterAt th (vecLevel p v) 0x20 0 0 false 0 none)

/-- A pending secure interrupt is taken regardless of IE and IPL (R87), unless the target level's EXL bit is 1 or it
is for S while the thread runs at H. (DESIGN CHOICE, log entry 120.) -/
def execSecureInterruptEntry (th : Thr) (s : State) : Host.Outcome State Fault Refusal :=
  .next (if !s.canTake th then s else if s.isChecker (th / 2) then s.replay th else
    match s.sintReady th with
    | none => s
    | some e => s.takeSint th e)

/-- A secure interrupt held by EXL for 4,096 cycles is taken, with NEST = 1 if the bit is still 1. (R87) -/
def execSecureInterruptWaitExpiry (th : Thr) (s : State) : Host.Outcome State Fault Refusal :=
  .next (if !s.canTake th then s else if s.isChecker (th / 2) then s.replay th else
    match s.sintFor th with
    | none => s
    | some e => if sintLevel e.1 < (s.thr th).pl then s else s.takeSint th e)

end Sys2Proof.Machine
end

