-- ==== Sys2Proof/Machine/Hem.lean ====
section
/-! DEFINITION. The hem (R50–R55): saving the outgoing seat, clearing what the core holds, restoring the incoming
seat; and the caches' own operations that hems, resets and cache commands share (R47–R49, R142, R150). -/

namespace Sys2Proof.Machine

/-! ### Caches of a tile -/

/-- Drop the L2 lines and QUEUED selvedge entries of a panel without writeback (R58). -/
def State.dropL2 (s : State) (t p : Nat) : State :=
  let x := s.tile t
  s.setTile t { x with l2 := x.l2.filter (fun e => e.2.tag ≠ p)
                       selv := x.selv.filter (fun e => e.tag ≠ p || e.sent) }

/-- Whether an L2 holds a line of a panel other than `p` (R48, R49). -/
def State.l2Foreign (s : State) (t p : Nat) : Bool :=
  (s.tile t).l2.any fun e => e.2.st ≠ .i && e.2.tag ≠ p

/-! ### Saving and restoring -/

/-- A thread as its seat record holds it (Table PNL-8): the architectural state; what the hem clears is gone. A
thread in WAIT is saved with its pc at the WAIT (R77), and the Cutter knows that it waits (R314). -/
def Thread.saved (x : Thread) : Thread :=
  { x with stall := none, retired := false, noRetire := 0, retStack := [], wc := [],
           sig := 0, sinceCmp := 0, forced := false, second := false, lvq := [] }

/-! ### Seat records in memory (R54, Table PNL-7, Table PNL-8) -/

/-- The control registers of a thread's state, in the order of Table PNL-8 from offset 0x548. -/
def savedCrs : List Nat :=
  [0x000, 0x101, 0x102, 0x103, 0x104, 0x105, 0x001, 0x002, 0x003, 0x004, 0x005, crTHREAD, 0x020, 0x021, 0x030, 0x031, 0x040,
   0x041, crMCHK, crTWIN]

/-- A thread's state as bytes (Table PNL-8). -/
def Thread.image (x : Thread) : List Byte :=
  let word := fun (v : Word) => leBytes 8 v.toNat
  (List.range 32).flatMap (fun r => word (x.gr r)) ++ (List.range 32).flatMap (fun r => leBytes 32 (x.vr r).toNat) ++
  (List.range 8).flatMap (fun r => word (x.kr r)) ++ word x.pc ++ savedCrs.flatMap (fun n => word (x.cr0 n)) ++
  leBytes 24 0 ++ (List.range 8).flatMap (fun i => word (x.cr0 (0x080 + i))) ++ leBytes 384 0

/-- A seat record as bytes (Table PNL-7). -/
def SeatRec.image (r : SeatRec) (n : Nat) : List Byte :=
  leBytes 2 n ++ leBytes 2 (b2n r.valid + 2 * b2n r.started + 4 * b2n r.twin) ++ leBytes 4 0 ++ leBytes 8 r.stitch ++
  leBytes 8 r.gen ++ leBytes 40 0 ++ r.thr0.image ++ r.thr1.image ++ leBytes 64 0

/-- A thread with the state that lies in memory at `a`; what Table PNL-8 does not list (whether the thread is started) is the
record's own. -/
def State.threadAt (s : State) (x : Thread) (a : Nat) : Thread :=
  let word := fun (off : Nat) => BitVec.ofNat 64 (s.memNat (a + off) 8)
  let x := { x with pc := word 0x540 }
  let x := (List.range 32).foldl (fun (x : Thread) r => x.setGr r (word (8 * r))) x
  let x := (List.range 32).foldl (fun (x : Thread) r => x.setVr r (BitVec.ofNat 256 (s.memNat (a + 0x100 + 32 * r) 32))) x
  let x := (List.range 8).foldl (fun (x : Thread) r => x.setKr r (word (0x500 + 8 * r))) x
  let x := savedCrs.zipIdx.foldl (fun (x : Thread) e => x.setCr e.1 (word (0x548 + 8 * e.2))) x
  (List.range 8).foldl (fun (x : Thread) i => x.setCr (0x080 + i) (word (0x600 + 8 * i))) x

/-- First byte of a seat's record, where the panel has a save area. -/
def State.seatBase (s : State) (p n : Nat) : Option Nat := (s.panel p).saveBase.map (· + n * 0x1000)

/-- Write a seat record: 64 full-line writes to the save area under the panel's key (Table PNL-5 step 4). -/
def State.writeSeat (s : State) (p n : Nat) (r : SeatRec) : State :=
  let s := s.setSeat p n r
  match s.seatBase p n with
  | none => s
  | some a =>
    { s.setBlock a (r.image n) with
      lineMeta := (List.range 64).foldl (fun m i => SMap.put (fun _ => LineMeta.init) m (a / 64 + i) { ktag := p, poison := false })
        s.lineMeta
      dirty := s.dirty.filter fun e => decide (e.1 < a / 64) || decide (a / 64 + 64 ≤ e.1) }

/-- Read a seat record from the save area (Table PNL-5 step 5). -/
def State.readSeat (s : State) (p n : Nat) : SeatRec :=
  let r := s.seat p n
  match s.seatBase p n with
  | none => r
  | some a =>
    let f := s.memNat (a + 2) 2
    { valid := bit f 0, started := bit f 1, twin := bit f 2, stitch := s.memNat (a + 8) 8, gen := s.memNat (a + 16) 8
      thr0 := s.threadAt r.thr0 (a + 0x40), thr1 := s.threadAt r.thr1 (a + 0x800) }

/-- A seat record becomes invalid (R52). -/
def State.voidSeat (s : State) (p n : Nat) : State := s.writeSeat p n { s.seat p n with valid := false }

/-- Save the seat a core runs (Table PNL-5 steps 2 and 4): its buffers drain, GEN counts the save. On a main core the
last compared checkpoint is saved, and held stores are discarded (R437). -/
def State.saveSeat (s : State) (c p n : Nat) : State :=
  let s := if s.isMain c then s else (s.drainAll (2 * c)).drainAll (2 * c + 1)
  let x := s.core c
  let (a, b) := match s.isMain c, x.ckpt with
    | true, some k => k
    | _, _ => (x.thr0, x.thr1)
  let r := s.seat p n
  s.writeSeat p n { r with valid := true, started := true, twin := s.paired c, stitch := s.stitch, gen := r.gen + 1,
                           thr0 := a.saved, thr1 := b.saved }

/-- What every hem clears of a core (Table PNL-6): threads, prediction state, TLBs, held stores. -/
def Core.cleared (x : Core) : Core :=
  { Core.init with hangs := x.hangs, testing := x.testing, pll := x.pll }

/-- The accesses a core's threads wait for are squashed with the instructions they belong to (Table PNL-5, step 2):
their answers are discarded (the entry of a cross-bolt load belongs to no thread any more). (DESIGN CHOICE, log entry 122.) -/
def State.dropWaits (s : State) (c : Nat) : State :=
  let gone := fun (m : MissEnt) => if m.op = .rdio then { m with ctx := 2 } else m
  let s := s.modTile c fun x => { x with miss := SMap.mapListed (fun _ => none) x.miss fun _ e => e.map gone }
  { s with
    hio := { s.hio with reqs := s.hio.reqs.filter fun q => q.th / 2 ≠ c }
    weft := { s.weft with
      apq := s.weft.apq.filter fun q => q.store || q.th / 2 ≠ c
      out := SMap.mapListed (fun _ => none) s.weft.out fun _ e => e.map fun x => match x.use with
        | .load th => if th / 2 = c then { x with use := .gone } else x
        | _ => x } }

/-- What every hem does to the caches (Table PNL-6): no snoop is held any longer, both L1s are invalidated, and the selvedge buffer
drains. -/
def State.hemCaches (s : State) (c : Nat) : State :=
  ((s.endHolds c).clearL1 c).drainSelvedge c

/-- The core leaves its seat and waits as panel 0 idle. -/
def State.idleCore (s : State) (c : Nat) : State :=
  ((s.dropWaits c).setCore c (s.core c).cleared).hemCaches c

/-- CLKSEL.PLLOK of a thread shows its core's PLL (Table ISA-14). -/
def Thread.withPll (x : Thread) (ok : Bool) : Thread := x.setCrFld 0x021 F.crCLKSEL.PLLOK (b2n ok)

/-- Install a seat record on a core (R55, Table PNL-5 steps 5–7). -/
def State.restoreSeat (s : State) (c p n : Nat) : State :=
  let s := s.dropWaits c
  let r := s.readSeat p n
  let x := (s.core c).cleared
  let a := { (r.thr0.forced' p).withPll x.pll with waiting := false }
  let b := { (r.thr1.forced' p).withPll x.pll with waiting := false }
  s.setCore c { x with seat := some (p, n), thr0 := a, thr1 := b, ckpt := some (a, b), ckptAt := (s.stitch, s.stitch) }

/-- A failed save (R52): the outgoing panel goes FAULTED and its seat record is invalid. -/
def State.hemSaveFail (s : State) (c p n : Nat) : State :=
  let s := s.voidSeat p n
  s.panelError p 0x05 { unitId := unitId 0x01 c, cls := 1, code := 0x22, action := 6, flags := flagPanel,
                        panel := s.handle p, req := c }

/-- A failed restore (R52): the incoming panel goes FAULTED, and the core completes into panel 0 idle. -/
def State.hemRestoreFail (s : State) (c p : Nat) : State :=
  (s.idleCore c).panelError p 0x05
    { unitId := unitId 0x01 c, cls := 1, code := 0x22, action := 6, flags := flagPanel, panel := s.handle p, req := c }

/-- The outgoing half of a hem: the seat saved, the core cleared. -/
def State.hemOut (s : State) (c : Nat) (saveFails : Bool) : State :=
  match (s.core c).seat with
  | none => s
  | some (p, n) =>
    if s.isChecker c then s.idleCore c
    else if saveFails then (s.hemSaveFail c p n).idleCore c
    else (s.saveSeat c p n).idleCore c

/-- A seat's save lines hold poison, so its restore fails (R52). -/
def State.savePoisoned (s : State) (p n : Nat) : Bool :=
  match s.seatBase p n with
  | none => false
  | some a => (List.range 64).any fun i => (s.meta (a / 64 + i)).poison

/-- The incoming half: the record restored when VALID, or the failure. A core whose panel and seat stay does none. -/
def State.hemIn (s : State) (c p n : Nat) (restoreFails : Bool) : State :=
  if (s.seat p n).valid = false then s
  else if restoreFails || s.savePoisoned p n then s.hemRestoreFail c p
  else if (s.readSeat p n).valid = false then s
  else s.restoreSeat c p n

/-- A core that stays with its panel takes another seat (R50): steps 1, 2, 4, 5 and 7 of Table PNL-5, without step 3, so
prediction state, return stacks and TLB stay, and the selvedge buffer does not drain. Its old seat has been saved. -/
def State.hemMove (s : State) (c p n : Nat) (restoreFails : Bool) : State :=
  let x := s.core c
  let s := ((s.dropWaits c).setCore c x.cleared).hemIn c p n restoreFails
  let y := s.core c
  if y.seat = some (p, n) then
    s.setCore c { y with pgen := x.pgen, overrides := x.overrides, itc := x.itc, tlb := x.tlb
                         thr0 := { y.thr0 with retStack := x.thr0.retStack }, thr1 := { y.thr1 with retStack := x.thr1.retStack } }
  else s

/-- The save of a seat that a core leaves for another of the same panel. A checker has nothing to save. -/
def State.moveOut (s : State) (c : Nat) (saveFails : Bool) : State :=
  match (s.core c).seat with
  | none => s
  | some (p, n) =>
    if s.isChecker c then s else if saveFails then (s.hemSaveFail c p n).idleCore c else s.saveSeat c p n

/-! ### Seat start -/

/-- The state of a thread at seat start (Table ISA-9, Reset), with THREAD naming its seat and index. -/
def Thread.atSeatStart (n t : Nat) : Thread :=
  Thread.init.setCr crTHREAD (BitVec.ofNat 64 (t * 2 ^ 16 + n))

/-- A seat record at start: thread 0 of seat 0 starts at the entry address at level S, or at H for panel 0 at module
start; every other thread waits until it is started (R43, Table ISA-10). -/
def SeatRec.atStart (n : Nat) (entry : Option Word) (atH : Bool) (twin : Bool) : SeatRec :=
  let a := Thread.atSeatStart n 0
  let a := match entry with
    | some e => { (if atH then a.setSt F.crSTATUS.PL 2 else a) with pc := e &&& ~~~3#64, started := true }
    | none => a
  { valid := entry.isSome, started := entry.isSome, twin := twin, stitch := 0, gen := 0,
    thr0 := a, thr1 := Thread.atSeatStart n 1 }

/-- Every seat of a panel cleared to VALID = 0 (Table PNL-14); the count of saves since build stays (Table PNL-7). -/
def State.clearSeats (s : State) (p : Nat) : State :=
  (s.seats.filter fun e => e.1 / 256 = p).foldl
    (fun s e => s.writeSeat p (e.1 % 256) { SeatRec.init with gen := e.2.gen }) s

/-- Every seat of a panel destroyed, with its build (Table PNL-14). -/
def State.dropSeats (s : State) (p : Nat) : State :=
  { s with seats := s.seats.filter (fun e => e.1 / 256 ≠ p) }

/-- Restart seat 0 thread 0 at the contract's entry address (R43, Table PNL-14). -/
def State.startSeat0 (s : State) (p : Nat) : State :=
  s.writeSeat p 0 { SeatRec.atStart 0 (some (BitVec.ofNat 64 (s.ct p 32 8))) (p == 0) (bit (s.ct p 6 1) 1) with
                    gen := (s.seat p 0).gen }

end Sys2Proof.Machine
end

