-- ==== Sys2Proof/Machine/Cutter.lean ====
section
/-! DEFINITION. The Cutter: what it measures (R314), the allocation of cores, tokens, ways and frequencies
(R315–R324, R425, R426, R496), its staging (R325) and what the boundary makes of it (R326, R327). -/

namespace Sys2Proof.Machine

/-! ### Contracts and availability -/

/-- A field of a contract in a snapshot of the contract words (Table CUT-1). -/
def conField (m : RegFile) (p off n : Nat) : Nat :=
  RegFile.read m { kind := .cutContract, i := p, j := off / 8 } / 2 ^ (8 * (off % 8)) % 2 ^ (8 * n)

/-- What the Cutter reads of a contract. -/
structure Con where
  panel  : Nat
  minc   : Nat
  maxc   : Nat
  weight : Nat
  sealed : Bool
  twin   : Bool
  sclass : Nat
  fmax   : Nat
  minl   : Nat
  minw   : Nat
  bolt   : Nat
  nmin   : Nat → Nat
  nmax   : Nat → Nat

def Con.of (m : RegFile) (p : Nat) : Con :=
  let f := conField m p
  { panel := p, minc := f 0 2, maxc := f 2 2, weight := f 4 2, sealed := bit (f 6 1) 0, twin := bit (f 6 1) 1,
    sclass := f 7 1 % 4, fmax := f 7 1 / 4 % 8, minl := f 16 2, minw := f 18 1, bolt := f 19 1
    nmin := fun d => f (if d = 0 then 20 else 24) 2
    nmax := fun d => f (if d = 0 then 22 else 26) 2 }

/-- Ascending SCLASS, then ascending panel number (R318). -/
def Con.before (a b : Con) : Bool := a.sclass < b.sclass || (a.sclass == b.sclass && a.panel < b.panel)

/-- Every panel that is not EMPTY, in ascending order. -/
def State.panels' (s : State) : List Nat := (List.range 512).filter fun p => s.pstate p ≠ psEmpty

def cutCoreR (c : Nat) : Reg := { kind := .cutCore, i := c }
def cutOvrR (c : Nat) : Reg := { kind := .cutOvr, i := c }

/-- A command that disables or enables a private cache of the core withholds it (R149). -/
def State.cacheHeld (s : State) (c : Nat) : Bool :=
  s.thm.jobs.any fun j =>
    (field j.q.head 2 2 == 0x0407 || field j.q.head 2 2 == 0x0408) && j.data.getD 0 0 == c && decide (j.data.getD 1 0 < 3)

/-- The Cutter can grant the core (R316), overrides aside. -/
def State.coreOk (s : State) (c : Nat) : Bool :=
  s.coreIn c && !s.cacheHeld c && s.flag { kind := .wrpCctl, i := c } F.wrpCctl.L2_EN &&
    s.fld { kind := .pwrDstat, i := c } F.pwrDstat.CUR ≠ 2 &&
    !s.flag { kind := .pwrDstat, i := c } F.pwrDstat.BUSY && (s.core c).testing.isNone

/-- The core is available for the next stitch (R316); a pair counts as one unit (R426). -/
def State.available (s : State) (c : Nat) : Bool :=
  let ok := fun c => s.coreOk c && !s.flag (cutOvrR c) F.cutOvr.EN
  ok c && (!s.paired c || ok (s.partnerOf c))

/-! ### Demand (R314) -/

/-- A wake source enabled in a thread's PWRMODE is asserted: a deliverable interrupt, the stitch-boundary wake, port
activity for panel 0, or a secure interrupt (R77, R314, R454). -/
def State.wakes (s : State) (p n t : Nat) (x : Thread) (boundary : Bool) : Bool :=
  (x.crFld crPWRMODE F.crPWRMODE.IRQW == 1 && !(s.vectorsFor p n t).isEmpty) ||
  (x.crFld crPWRMODE F.crPWRMODE.STITCHW == 1 && boundary) ||
  (p == 0 && x.crFld crPWRMODE F.crPWRMODE.PORTW == 1 &&
    (List.range 8).any fun k =>
      let r : Reg := { kind := .pwrPortdet, i := k }
      s.flag r F.pwrPortdet.STICKY && s.flag r F.pwrPortdet.SEEN) ||
  s.sint.any fun e => e.1 == p && e.2.1 == n && e.2.2.1 == t

/-- The core that runs a seat now, the main core of a pair first. -/
def State.coreOf (s : State) (p n : Nat) : Option Nat :=
  (s.cores.find? fun e => e.2.seat == some (p, n) && !s.isChecker e.1).map (·.1)

/-- A started seat is runnable (R314), but for one under the mismatch sequence (R434). -/
def State.runnable (s : State) (p n : Nat) : Bool :=
  let r := s.seat p n
  let (a, b) := match s.coreOf p n with
    | some c => ((s.core c).thr0, (s.core c).thr1)
    | none => (r.thr0, r.thr1)
  let up := fun (t : Nat) (x : Thread) => x.started && (!x.waiting || s.wakes p n t x true)
  r.started && (up 0 a || up 1 b) && !s.cut.twin.any fun t => t.seat == some (p, n)

/-- Seats of a panel: MAXC, or MAXC / 2 for a twin-needle panel (R54). -/
def Con.seats (k : Con) : Nat := if k.twin then k.maxc / 2 else k.maxc
/-- Cores a seat takes. -/
def Con.unit (k : Con) : Nat := if k.twin then 2 else 1

/-- The runnable seats of every RUNNING panel, as the boundary captures them. -/
def State.captureRunnable (s : State) : List Nat :=
  (s.seats.filter fun e =>
    s.pstate (e.1 / 256) == psRunning && s.runnable (e.1 / 256) (e.1 % 256)).map (·.1)

/-- Runnable seats of a panel in the last capture, in ascending order. -/
def CutSt.seatsOf (x : CutSt) (p : Nat) : List Nat :=
  (x.runnable.filter fun k => k / 256 == p).map (· % 256)

/-- Dp (R314). -/
def Con.demand (k : Con) (x : CutSt) : Nat := min k.maxc ((x.seatsOf k.panel).length * k.unit)

/-! ### Cores (R317–R320, R496) -/

/-- Seats a panel keeps under R317: available cores that hold one of its seats for fewer than 10 stitches, in
ascending core order; a checker counts with its main core. -/
def State.keptSeats (s : State) (k : Con) (cores : List Nat) : List Nat :=
  let cs := cores.filter fun c =>
    s.available c && !s.isChecker c && s.flag (cutCoreR c) F.cutCore.G &&
      s.fld (cutCoreR c) F.cutCore.PANEL == k.panel && decide (s.fld (cutCoreR c) F.cutCore.RUN < 10)
  (cs.map fun c => s.fld (cutCoreR c) F.cutCore.SEAT).take (k.maxc / k.unit)

/-- A panel in the core count: its contract, demand, kept seats, count so far. -/
structure Cand where
  con  : Con
  d    : Nat
  kept : List Nat
  rise : Nat
  a    : Nat

/-- Meet the guarantees in order while cores remain (R318). -/
def guarantee : Nat → List Cand → List Cand
  | _, [] => []
  | left, c :: cs =>
    let k := c.kept.length * c.con.unit
    let g := min c.con.minc c.d
    let extra := min (g - k) left / c.con.unit * c.con.unit
    { c with a := k + extra } :: guarantee (left - extra) cs

/-- The candidate to receive the next surplus core (R319): lowest count over weight, lower SCLASS, longest without
rising, lower panel number. -/
def Cand.before (x y : Cand) : Bool :=
  let l := x.a * y.con.weight
  let r := y.a * x.con.weight
  l < r || (l == r && (x.con.sclass < y.con.sclass || (x.con.sclass == y.con.sclass &&
    (x.rise < y.rise || (x.rise == y.rise && x.con.panel < y.con.panel)))))

def pickBest (xs : List Cand) : Option Cand :=
  xs.foldl (fun b c => match b with
    | none => some c
    | some y => if c.before y then some c else some y) none

/-- Give surplus cores one at a time, or in pairs (R319). -/
def surplus : Nat → Nat → List Cand → List Cand
  | 0, _, cs => cs
  | fuel + 1, left, cs =>
    match pickBest (cs.filter fun c => decide (c.a + c.con.unit ≤ c.d) && decide (c.con.unit ≤ left)) with
    | none => cs
    | some b =>
      surplus fuel (left - b.con.unit)
        (cs.map fun c => if c.con.panel = b.con.panel then { c with a := c.a + c.con.unit } else c)

/-- The core counts of a bolt's panels. -/
def State.coreCounts (s : State) (cons : List Con) (cores : List Nat) : List Cand :=
  let total := (cores.filter s.available).length
  let cands := (sortBy Con.before cons).map fun k =>
    let kept := s.keptSeats k cores
    { con := k, d := k.demand s.cut, kept := kept, rise := SMap.get (fun _ => 0) s.cut.lastRise k.panel,
      a := kept.length * k.unit : Cand }
  let keptAll := (cands.map (·.a)).sum
  let cands := guarantee (total - keptAll) cands
  surplus 192 (total - (cands.map (·.a)).sum) cands

/-- The seats that hold cores (R496): kept ones first, the others by the last stitch they held a core. -/
def Cand.chosen (c : Cand) (x : CutSt) : List Nat :=
  let n := c.a / c.con.unit
  let held := fun k => SMap.get (fun _ => 0) x.lastHeld (seatKey c.con.panel k)
  let rest := sortBy (fun a b => held a < held b || (held a == held b && a < b))
    ((x.seatsOf c.con.panel).filter fun k => k ∉ c.kept)
  (c.kept ++ rest).take n

/-! ### Placement (R320, R425) -/

abbrev Placed := SMap CoreUse
def Placed.free (m : Placed) (c : Nat) : Bool := (SMap.find m c).isNone
def Placed.set (m : Placed) (c : Nat) (u : CoreUse) : Placed := SMap.insert m c u

/-- The L2 of a core will be empty at the boundary: a sealed hem now, or nothing in it (R49, R320). -/
def State.emptyL2 (s : State) (c : Nat) : Bool :=
  s.flag (cutCoreR c) F.cutCore.SH || ((s.tile c).l2.all (fun e => e.2.st == .i) && (s.tile c).selv.isEmpty)

/-- Place the main core of a seat (R320 steps 2 and 3): the core, or the core given a sealed hem first. -/
def State.pickMain (s : State) (k : Con) (n : Nat) (free : List Nat) : Option Nat :=
  if k.sealed then free.find? s.emptyL2
  else
    match SMap.find s.cut.lastCore (seatKey k.panel n) with
    | some c1 => if c1 - 1 ∈ free then some (c1 - 1) else later
    | none => later
where
  later : Option Nat :=
    match free.find? fun c => SMap.get (fun _ => 0) s.cut.lastPanel c == k.panel + 1 with
    | some c => some c
    | none => free.head?

/-- The checkers a main core may take, in order (R425). -/
def State.checkersFor (s : State) (c : Nat) (free : List Nat) : List Nat :=
  let b := c / s.boltTiles
  let dies := s.boltTiles / 48
  let d := c % s.boltTiles / 48
  let same := (List.range (dies - 1)).map fun i => b * s.boltTiles + (d + 1 + i) % dies * 48 + c % 48
  same.filter (· ∈ free) ++ free.filter fun x => x / 48 ≠ c / 48 && x ∉ same

/-- Place one chosen seat; a seat that cannot be placed waits, after a sealed hem where it needs one. -/
def State.place (s : State) (cores : List Nat) (m : Placed) (kn : Con × Nat) : Placed :=
  let (k, n) := kn
  if m.any (fun e => match e.2 with | .seat p q _ => p == k.panel && q == n | _ => false) then m else
  let free := cores.filter fun c => s.available c && m.free c
  match s.pickMain k n free with
  | none => if k.sealed then (match free.head? with | some c => m.set c .hem | none => m) else m
  | some c =>
    if k.twin then
      let cands := s.checkersFor c (free.filter (· ≠ c))
      match cands.find? fun x => !k.sealed || s.emptyL2 x with
      | some x => (m.set c (.seat k.panel n (some (false, x)))).set x (.seat k.panel n (some (true, c)))
      | none => if k.sealed then (match cands.head? with | some x => m.set x .hem | none => m) else m
    else m.set c (.seat k.panel n none)

/-- Chosen seats that hold an available core stay on it (R320 step 1). -/
def State.stay (s : State) (cores : List Nat) (chosen : List (Con × Nat)) : Placed :=
  cores.foldl (fun m c =>
    let r := cutCoreR c
    if s.available c && s.flag r F.cutCore.G &&
        chosen.any (fun kn => kn.1.panel == s.fld r F.cutCore.PANEL && kn.2 == s.fld r F.cutCore.SEAT) then
      let tw := if s.paired c then some (s.isChecker c, s.partnerOf c) else none
      m.set c (.seat (s.fld r F.cutCore.PANEL) (s.fld r F.cutCore.SEAT) tw)
    else m) []

/-- A contract marks the panel sealed. -/
def State.isSealed (s : State) (p : Nat) : Bool := bit (s.ct p 6 1) 0

/-- Cores that leave a sealed panel spend the next stitch in a sealed hem (R48). -/
def State.leaveHems (s : State) (cores : List Nat) (m : Placed) : Placed :=
  cores.foldl (fun m c =>
    let r := cutCoreR c
    if m.free c && s.flag r F.cutCore.G && s.isSealed (s.fld r F.cutCore.PANEL) then m.set c .hem else m) m

/-- The allocation of one bolt's cores, and the panels left short. -/
def State.allocBolt (s : State) (cons : List Con) (b : Nat) : Placed × List Nat :=
  let cores := s.boltCores b
  let cands := s.coreCounts (cons.filter fun k => k.bolt == b && s.pstate k.panel == psRunning) cores
  let seats := cands.map fun c => (c, c.chosen s.cut)
  let all := seats.flatMap fun cs => cs.2.map fun n => (cs.1.con, n)
  let m := s.leaveHems cores (s.stay cores all)
  let first := seats.flatMap fun cs =>
    (cs.2.take (min cs.1.con.minc cs.1.d / cs.1.con.unit)).map fun n => (cs.1.con, n)
  let m := (first ++ all).foldl (s.place cores) m
  let held := fun p => (m.filter fun e => match e.2 with | .seat q _ _ => q == p | _ => false).length
  (m, (cands.filter fun c => decide (held c.con.panel < min c.con.minc c.d)).map (·.con.panel))

/-! ### Tokens (R321, R322) -/

/-- One party to a water-filling: panel, SCLASS, weight, amount so far, limit. -/
structure Share where
  panel  : Nat
  sclass : Nat
  weight : Nat
  a      : Nat
  top    : Nat

def Share.before (x y : Share) : Bool :=
  let l := x.a * y.weight
  let r := y.a * x.weight
  l < r || (l == r && (x.sclass < y.sclass || (x.sclass == y.sclass && x.panel < y.panel)))

/-- Give `n` units one at a time, each to the lowest amount over weight below its limit (R321). -/
def waterFill : Nat → List Share → List Share
  | 0, xs => xs
  | n + 1, xs =>
    match (xs.filter fun x => decide (x.a < x.top)).foldl (fun (b : Option Share) x => match b with
        | none => some x
        | some y => if x.before y then some x else some y) none with
    | none => xs
    | some b => waterFill n (xs.map fun x => if x.panel = b.panel then { x with a := x.a + 1 } else x)

/-- Guarantees met as far as `cap` allows, in ascending SCLASS and then ascending panel number (R312): amounts by panel.
(DEDUCED, log entry 141.) -/
def meetAll (cap : Nat) (wants : List (Con × Nat)) : SMap Nat :=
  ((sortBy (fun (a b : Con × Nat) => a.1.before b.1) wants).foldl (fun (acc : SMap Nat × Nat) e =>
    (SMap.insert acc.1 e.1.panel (min e.2 acc.2), acc.2 - e.2)) ([], cap)).1
def SMap.of (m : SMap Nat) (p : Nat) : Nat := SMap.get (fun _ => 0) m p
/-- The panels whose guarantees are not met. -/
def leftShort (m : SMap Nat) (wants : List (Con × Nat)) : List Nat :=
  (wants.filter fun e => decide (SMap.of m e.1.panel < e.2)).map (·.1.panel)

/-- Line tokens of channel `ch`, or of CXL root port `ch` − 24 (R229, R308). -/
def State.lineTokens (s : State) (ch : Nat) : Nat :=
  if ch < 24 then (if ch ∈ s.clist then 17500 else 0)
  else
    let r : Reg := { kind := .hpRpstat, i := ch - 24 }
    if s.flag r F.hpRpstat.CXL then
      (match s.fld r F.hpRpstat.WIDTH with | 4 => 16000 | 3 => 8000 | 2 => 4000 | _ => 0)
    else 0

/-- Grants of one channel or CXL root port (R321), and the panels left short (R312). -/
def State.lineGrants (s : State) (cons : List Con) (ch : Nat) : List (Nat × Nat) × List Nat :=
  let top := s.lineTokens ch - 1024
  let wants := cons.map fun k => (k, k.minl)
  let met := meetAll top wants
  let parts := (cons.map fun k =>
    let d := bankGet s.tape.usage k.panel (cntLine ch) + bankGet s.tape.usage k.panel (cntWait ch)
    { panel := k.panel, sclass := k.sclass, weight := k.weight, a := SMap.of met k.panel, top := d : Share }).filter fun x =>
      decide (x.a < x.top)
  let full := waterFill (top - (met.map (·.2)).sum) parts
  if s.lineTokens ch = 0 then ([], []) else
  (cons.map fun k => (k.panel, match full.find? (·.panel == k.panel) with | some x => x.a | none => SMap.of met k.panel),
   leftShort met wants)

/-- Byte tokens of a port per stitch and direction, all sub-ports together (Table NET-1, R288). -/
def State.portTokens (s : State) (p : Nat) : Nat :=
  if unitId 4 p ∈ s.outUnits then 0 else
  match s.fld { kind := .wpPctl, i := p } F.wpPctl.ROLE with
  | 1 => if s.fld { kind := .wpPstat, i := p } F.wpPstat.STATE = 4 then 400000 else 0
  | 2 => 500000
  | _ => 0

/-- Spread a minimum over the ports in proportion to the last 100 stitches' bytes, whole bytes, what is left over to
the lowest port; a panel that sent nothing has it on its virtual ports' uplink, or nowhere without a virtual port (R322).
(DEDUCED, log entry 141.) -/
def spreadMin (total : Nat) (hist : List Nat) (home : Option Nat) : List Nat :=
  let sum := hist.sum
  if sum = 0 then (List.range 8).map fun i => if home = some i then total else 0
  else
    let parts := hist.map fun h => total * h / sum
    let left := total - parts.sum
    let k := (hist.findIdx? (0 < ·)).getD 0
    parts.zipIdx.map fun e => if e.2 = k then e.1 + left else e.1

/-- The port of the uplink of a panel's lowest virtual port that names one. -/
def State.homePort (s : State) (p : Nat) : Option Nat :=
  ((List.range 4096).find? fun v =>
      let r : Reg := { kind := .neVpctl, i := v }
      s.flag r F.neVpctl.EN && s.fld r F.neVpctl.PANEL == p).map fun v =>
    s.fld { kind := .neVpctl, i := v } F.neVpctl.UPL / 4

/-- Grants of one direction: minimums spread, met as far as 95 % of each port's tokens allow, then each port's surplus by
weight up to demand under both limits; and the panels left short (R312, R322). -/
def State.portGrants (s : State) (cons : List Con) (dir : Nat) : SMap (Bool × Nat) × List Nat :=
  let base := cons.map fun k =>
    let hist := (List.range 8).map fun port =>
      (s.cut.portHist.map fun m => SMap.get (fun _ => 0) m (k.panel * 16 + 2 * port + dir)).sum
    (k, spreadMin (k.nmin dir * 125) hist (s.homePort k.panel))
  let cap := fun port => s.portTokens port * 95 / 100
  let wants := fun port => base.map fun kb => (kb.1, kb.2.getD port 0)
  let met := (List.range 8).map fun port => (port, meetAll (cap port) (wants port))
  let start : SMap Nat := met.foldl (fun m e =>
    e.2.foldl (fun m g => SMap.insert m (g.1 * 16 + 2 * e.1 + dir) g.2) m) []
  let get := fun (m : SMap Nat) p port => SMap.get (fun _ => 0) m (p * 16 + 2 * port + dir)
  let total := fun (m : SMap Nat) p => ((List.range 8).map (get m p)).sum
  let grants := (List.range 8).foldl (fun m port =>
    let used := (cons.map fun k => get m k.panel port).sum
    let parts := (cons.map fun k =>
      let d := bankGet s.tape.usage k.panel (cntPort port dir) + bankGet s.tape.usage k.panel (cntHeld port dir)
      let room := k.nmax dir * 125 - total m k.panel
      let g := get m k.panel port
      { panel := k.panel, sclass := k.sclass, weight := k.weight, a := g, top := min d (g + room) : Share }).filter
        fun x => decide (x.a < x.top)
    (waterFill (cap port - used) parts).foldl (fun m x => SMap.insert m (x.panel * 16 + 2 * port + dir) x.a) m) start
  (grants.map fun e =>
    let p := e.1 / 16
    let k := (cons.find? (·.panel == p)).map fun k => k.nmax dir * 125
    (e.1, (decide (total grants p < k.getD 0), e.2)),
   met.flatMap fun e => leftShort e.2 (wants e.1))

/-! ### Ways (R323) -/

/-- Largest-remainder division of `n` whole ways over weights; ties go to the earlier party. -/
def largestRemainder (n : Nat) (ws : List Nat) : List Nat :=
  let w := ws.sum
  if w = 0 then ws.map fun _ => 0 else
  let base := ws.map fun x => n * x / w
  let rem := (ws.map fun x => n * x % w).zipIdx
  let order := sortBy (fun (a b : Nat × Nat) => b.1 < a.1 || (a.1 == b.1 && a.2 < b.2)) rem
  let lucky := (order.take (n - base.sum)).map (·.2)
  base.zipIdx.map fun e => if e.2 ∈ lucky then e.1 + 1 else e.1

/-- The lowest `n` ways of a mask, as a mask. -/
def lowWays (mask n : Nat) : Nat :=
  (((List.range 16).filter fun i => bit mask i).take n).foldl (fun m i => m + 2 ^ i) 0

/-- The ways guaranteed to a bolt's sealed panels and to its shared region, met as far as `n` ways allow in the order of R312: ways
by sealed panel, ways of the region, and the panels left short. (DEDUCED, log entry 141.) -/
def meetWays (n : Nat) (cons : List Con) : SMap Nat × Nat × List Nat :=
  let r := (sortBy Con.before cons).foldl (fun (a : SMap Nat × Nat × List Nat × Nat) k =>
    let (m, shared, short, left) := a
    let want := if k.sealed then k.minw else k.minw - shared
    let g := min want left
    let short := if g < want then short ++ [k.panel] else short
    if k.sealed then (SMap.insert m k.panel g, shared, short, left - g) else (m, shared + g, short, left - g)) ([], 0, [], n)
  (r.1, r.2.1, r.2.2.1)

/-- The way masks of a bolt (R323): sealed blocks from way 0 upward in panel order, the rest shared; and the panels left short. -/
def State.boltMasks (s : State) (cons : List Con) (b : Nat) : SMap Nat × List Nat :=
  let tiles := s.boltCores b
  let inBolt := cons.filter fun k => k.bolt == b
  let locked := tiles.foldl (fun m t =>
    (inBolt.foldl (fun m k => m ||| s.fld { kind := .wrpL3way, i := t, j := k.panel } F.wrpL3way.LOCK) m)
      ||| (s.tile t).cleaning) 0
  let freeMask := 0xFFFF - locked
  let nFree := ((List.range 16).filter fun i => bit freeMask i).length
  let sealed := inBolt.filter (·.sealed)
  let shared := inBolt.filter fun k => !k.sealed
  let (met, region, short) := meetWays nFree inBolt
  let spare := nFree - (met.map (·.2)).sum - region
  let miss := fun (k : Con) => (tiles.map fun t => SMap.get (fun _ => 0) s.cut.misses (k.panel * 192 + t)).sum
  let ws := (shared.map fun k => k.weight * miss k).sum :: sealed.map fun k => k.weight * miss k
  let ws := if ws.sum = 0 then (shared.map (·.weight)).sum :: sealed.map (·.weight) else ws
  let extra := largestRemainder spare ws
  let blocks := (sealed.zip (extra.drop 1)).foldl (fun (acc : List (Nat × Nat) × Nat) ke =>
    let m := lowWays acc.2 (SMap.of met ke.1.panel + ke.2)
    (acc.1 ++ [(ke.1.panel, m)], acc.2 - m)) ([], freeMask)
  ((blocks.1 ++ shared.map fun k => (k.panel, blocks.2)).foldl
    (fun m e => SMap.insert m (b * 512 + e.1) e.2) [], short)

/-! ### Frequency (R324) -/

/-- Lower one core by 100 MHz: highest SCLASS, then highest frequency, then highest core, never below 1.2 GHz. -/
def lowerOne (xs : List (Nat × Nat × Nat)) : List (Nat × Nat × Nat) :=
  match (xs.filter fun x => decide (12 < x.2.2)).foldl (fun (b : Option (Nat × Nat × Nat)) x => match b with
      | none => some x
      | some y => if y.2.1 < x.2.1 || (y.2.1 == x.2.1 && (y.2.2 < x.2.2 || (y.2.2 == x.2.2 && y.1 < x.1)))
                  then some x else some y) none with
  | none => xs
  | some b => xs.map fun x => if x.1 = b.1 then (x.1, x.2.1, x.2.2 - 1) else x

def lowerN : Nat → List (Nat × Nat × Nat) → List (Nat × Nat × Nat)
  | 0, xs => xs
  | n + 1, xs => lowerN n (lowerOne xs)

/-- Frequency targets of granted cores: the class cap, a rise of at most 400 MHz, lowered as often as the power
estimate asks. `steps` is that number: the estimate is measured power, which the manual gives no value. -/
def State.freqTargets (s : State) (cons : List Con) (m : Placed) (steps : Nat) : SMap Nat :=
  let start := m.filterMap fun e => match e.2 with
    | .seat p _ _ =>
      let k := cons.find? (·.panel == p)
      let cap := 20 + 2 * ((k.map (·.fmax)).getD 0)
      some (e.1, (k.map (·.sclass)).getD 0, min cap (s.fld (cutCoreR e.1) F.cutCore.TARGET + 4))
    | _ => none
  (lowerN (steps % (192 * 24)) start).map fun x => (x.1, x.2.2)

/-! ### The window and the staging -/

/-- The allocation of the cutter window (R315), and the panels left short of any guarantee (R312, R318).
(DEDUCED, log entry 141.) -/
def State.allocate (s : State) (steps : Nat) : Alloc :=
  let cons := s.panels'.map (Con.of s.cut.contracts)
  let bolts := List.range s.nBolts
  let cores := bolts.foldl (fun (acc : Placed × List Nat) b =>
    let r := s.allocBolt cons b
    (acc.1 ++ r.1, acc.2 ++ r.2)) ([], [])
  let lines := (List.range 32).map fun ch => (ch, s.lineGrants cons ch)
  let tx := s.portGrants cons 0
  let rx := s.portGrants cons 1
  let masks := if s.stitch % 1000 = 0 then bolts.map (s.boltMasks cons) else []
  { cores := cores.1
    short := dedupNat (cores.2 ++ (lines.flatMap fun e => e.2.2) ++ tx.2 ++ rx.2 ++ masks.flatMap (·.2))
    lineTok := lines.flatMap fun e => e.2.1.map fun g => (e.1 * 512 + g.1, g.2)
    portTok := tx.1.foldl (fun m e => SMap.insert m e.1 e.2) rx.1
    masks := if s.stitch % 1000 = 0 then some (masks.flatMap (·.1)) else none
    freq := s.freqTargets cons cores.1 steps }

/-- CUTTER_ALLOCATION (R315): task 5 computes the allocation for the next stitch, while CUT.CTRL.EN = 1 and the
stitch has not dropped it (R21).
(DESIGN CHOICE, log entry 41; DEDUCED, log entry 43.) -/
def execCutterAllocation (s : State) : Host.Outcome State Fault Refusal :=
  if s.time.over 5 then .next s else
  let s := s.taskDone 5
  if s.flag { kind := .cutCtrl } F.cutCtrl.EN then
    let (steps, s) := s.freeNat
    .next { s with cut := { s.cut with plan := some (s.allocate steps) } }
  else .next s

/-- COMMIT_STAGING (R321, R322, R325): task 8 writes the GRANT registers and stages the rest; overrides written
later apply a stitch later (R326). (DEDUCED, log entry 43.) -/
def execCommitStaging (s : State) : Host.Outcome State Fault Refusal :=
  if s.time.over 8 then .next s else
  let s := s.taskDone 8
  let s := { s with cut := { s.cut with
    ovr := some (s.regs.keep fun a _ => decide ((cutOvrR 0).addr ≤ a) && decide (a ≤ (cutOvrR 191).addr)) } }
  match s.cut.plan with
  | none => .next s
  | some x =>
    let s := x.lineTok.foldl (fun s e =>
      let ch := e.1 / 512
      if ch < 24 then s.setFld { kind := .mcTok, i := ch, j := e.1 % 512 } F.mcTok.GRANT e.2
      else s.setFld { kind := .hpCtok, i := ch - 24, j := e.1 % 512 } F.hpCtok.GRANT e.2) s
    let s := x.portTok.foldl (fun s e =>
      let r : Reg := { kind := .nePtok, i := e.1 / 16, j := e.1 % 16 }
      (s.setFld r F.nePtok.POOLEN (b2n e.2.1)).setFld r F.nePtok.GRANT e.2.2) s
    .next { s with cut := { s.cut with staged := some x, plan := none } }

/-! ### What the boundary makes of it -/

/-- The override word in force for a core (R326). -/
def State.ovrWord (s : State) (c : Nat) : Nat := RegFile.read (s.cut.ovr.getD s.regs) (cutOvrR c)

/-- What a core does in the stitch that begins, before the sealed-hem rules: the staged use, or the use of the
stitch that ends when nothing was staged (R21, R327); then override, panel state and availability.
(DEDUCED, log entry 121.) -/
def State.coreWish (s : State) (c : Nat) : CoreUse :=
  let r := cutCoreR c
  let keep : CoreUse :=
    if s.flag r F.cutCore.G then
      .seat (s.fld r F.cutCore.PANEL) (s.fld r F.cutCore.SEAT)
        (if s.paired c then some (s.isChecker c, s.partnerOf c) else none)
    else .idle
  let u := match s.cut.staged with
    | none => keep
    | some x => (SMap.find x.cores c).getD .idle
  let w := s.ovrWord c
  let held := F.cutOvr.EN.get w == 1
  let pinned := fun p n => (List.range 192).any fun d =>
    d ≠ c && F.cutOvr.EN.get (s.ovrWord d) == 1 && F.cutOvr.WITHHOLD.get (s.ovrWord d) == 0 &&
      F.cutOvr.PANEL.get (s.ovrWord d) == p && F.cutOvr.SEAT.get (s.ovrWord d) == n
  let u := if held then
      (if F.cutOvr.WITHHOLD.get w = 1 then CoreUse.idle
       else CoreUse.seat (F.cutOvr.PANEL.get w) (F.cutOvr.SEAT.get w) none)
    else match u with
      | .seat p n (some (k, d)) =>
        if F.cutOvr.EN.get (s.ovrWord d) = 1 || !s.coreOk d || pinned p n then CoreUse.idle else CoreUse.seat p n (some (k, d))
      | .seat p n none => if pinned p n then CoreUse.idle else u
      | _ => u
  match u with
  | .seat p n t => if s.pstate p = psRunning ∧ s.coreOk c ∧ s.panelBolt p = s.boltOf c then .seat p n t else .idle
  | .hem => if s.coreOk c then .hem else .idle
  | .idle => .idle

/-- The sealed-hem rules (R48, R49): a core that leaves a sealed panel not in TEARING, or would enter a sealed panel
with foreign lines in its L2, spends the stitch in a sealed hem; a core whose panel has entered TEARING enters panel 0
idle (R58). -/
def State.hemRules (s : State) (c : Nat) (u : CoreUse) : CoreUse :=
  let r := cutCoreR c
  let p := s.fld r F.cutCore.PANEL
  let holds := (s.core c).seat.isSome && s.flag r F.cutCore.G
  let leaves := holds && s.isSealed p && s.pstate p ≠ psEmpty
  if holds && s.pstate p = psTearing then .idle else
  match u with
  | .seat q n t =>
    if leaves && p ≠ q then .hem
    else if s.isSealed q && (s.fld r F.cutCore.G == 0 || p ≠ q) && s.l2Foreign c q && !s.flag r F.cutCore.SH then .hem
    else .seat q n t
  | .hem => .hem
  | .idle => if leaves then .hem else .idle

/-- What a core does in the stitch that begins. -/
def State.coreUse (s : State) (c : Nat) : CoreUse := s.hemRules c (s.coreWish c)

/-- A core pinned to a seat of a twin-needle panel takes its partner with it, or a checker that R425 gives it; a pair that cannot be
completed takes no core (R424–R426). (DEDUCED, log entry 144.) -/
def State.pairPins (s : State) (uses : SMap CoreUse) : SMap CoreUse :=
  uses.foldl (fun us e =>
    match e.2 with
    | .seat p n none =>
      if !bit (s.ct p 6 1) 1 then us else
      let c := e.1
      let ok := fun (x : Nat) => s.coreOk x && F.cutOvr.EN.get (s.ovrWord x) == 0
      let single := fun (x : Nat) => match SMap.get (fun _ => CoreUse.idle) us x with
        | .seat _ _ (some _) => false
        | _ => !s.paired x
      let mate := if s.paired c && (s.core c).seat == some (p, n) then some (s.isChecker c, s.partnerOf c)
        else ((s.checkersFor c ((s.boltCores (s.boltOf c)).filter fun x => ok x && single x)).head?).map fun d => (false, d)
      match mate with
      | none => SMap.insert us c .idle
      | some (chk, d) =>
        if !ok d then SMap.insert us c .idle else
        let wait := fun (u : CoreUse) => if u = .hem then CoreUse.hem else .idle
        match s.hemRules c (.seat p n (some (chk, d))), s.hemRules d (.seat p n (some (!chk, c))) with
        | .seat q m t, .seat q' m' t' => SMap.insert (SMap.insert us c (.seat q m t)) d (.seat q' m' t')
        | a, b => SMap.insert (SMap.insert us c (wait a)) d (wait b)
    | _ => us) uses

/-- Write CUT.COREc and WRP.TWPAIR for the stitch that begins (Table CUT-5, Table TWN-1). -/
def State.writeCoreUse (s : State) (c : Nat) (u : CoreUse) (freq : Option Nat) : State :=
  let r := cutCoreR c
  let old := s.rd r
  let wh := b2n (!s.coreOk c || (F.cutOvr.EN.get (s.ovrWord c) == 1))
  let ovr := F.cutOvr.EN.get (s.ovrWord c)
  let base := F.cutCore.OVR.set (F.cutCore.WH.set 0 wh) ovr
  let target := match freq with | some f => f | none => F.cutCore.TARGET.get old
  let base := F.cutCore.TARGET.set (F.cutCore.FREQ.set base (F.cutCore.FREQ.get old)) target
  let tw : Reg := { kind := .wrpTwpair, i := c }
  match u with
  | .seat p n t =>
    let same := F.cutCore.G.get old == 1 && F.cutCore.PANEL.get old == p && F.cutCore.SEAT.get old == n
    let run := if same then min 15 (F.cutCore.RUN.get old + 1) else 1
    let s := s.wr r (F.cutCore.RUN.set (F.cutCore.SEAT.set (F.cutCore.PANEL.set (F.cutCore.G.set base 1) p) n) run)
    match t with
    | some (chk, d) =>
      s.wr tw (F.wrpTwpair.SEAT.set (F.wrpTwpair.PANEL.set (F.wrpTwpair.PARTNER.set
        (F.wrpTwpair.CHK.set (F.wrpTwpair.EN.set 0 1) (b2n chk)) d) p) n)
    | none => s.wr tw 0
  | .hem => (s.wr r (F.cutCore.SH.set base 1)).wr tw 0
  | .idle => (s.wr r base).wr tw 0

/-- TWIN.PAIRED of both threads of a core (Table ISA-19). -/
def State.setPaired (s : State) (c : Nat) : State :=
  let v := b2n (s.paired c)
  let f := fun (x : Thread) => x.setCrFld crTWIN F.crTWIN.PAIRED v
  let x := s.core c
  if x.seat.isSome then s.setCore c { x with thr0 := f x.thr0, thr1 := f x.thr1 } else s

/-- The outgoing half of a core's change (R50, R58): the seat saved; but not for a panel that has entered TEARING, whose lines
are dropped, nor for one in RESETTING, whose seats are cleared (Table PNL-14). -/
def State.coreOut (s : State) (c : Nat) (u : CoreUse) (saveFails : Bool) : State :=
  match (s.core c).seat with
  | none => if u = .hem then s.flushL2 c else s
  | some (p, n) =>
    let leave := fun (_ : Unit) =>
      if s.pstate p = psTearing then (s.idleCore c).dropL2 c p
      else if s.pstate p = psResetting then s.idleCore c else s.hemOut c saveFails
    match u with
    | .seat q m _ => if p = q ∧ n = m then s else if p = q then s.moveOut c saveFails else leave ()
    | .hem => (leave ()).flushL2 c
    | .idle => leave ()

/-- The incoming half. -/
def State.coreIn' (s : State) (c : Nat) (u : CoreUse) (restoreFails : Bool) : State :=
  match u with
  | .seat p n _ =>
    match (s.core c).seat with
    | some (q, m) => if q = p ∧ m = n then s else s.hemMove c p n restoreFails
    | none => s.hemIn c p n restoreFails
  | _ => s

/-- The frequency target a core takes (R51, R324): the staged one; on a core pinned by override, a step toward its panel's. -/
def State.targetFor (s : State) (c : Nat) (u : CoreUse) : Option Nat :=
  match u, F.cutOvr.EN.get (s.ovrWord c) with
  | .seat p _ _, 1 =>
    some (min (20 + 2 * (Con.of s.cut.contracts p).fmax) (s.fld (cutCoreR c) F.cutCore.TARGET + 4))
  | _, _ => s.cut.staged.bind fun x => SMap.find x.freq c

/-- RAS.TMO3. -/
def State.hangLimit (s : State) : Nat := s.fld { kind := .rasTmo, i := 3 } F.rasTmo.VALUE

/-- A started thread whose no-retirement counter has reached TMO3 (R415). -/
def Thread.hangs (x : Thread) (tmo : Nat) : Bool := x.started && decide (tmo ≤ x.noRetire)

/-- A core on which a thread hangs, or the partner of one in a pair. -/
def State.hung (s : State) (c : Nat) : Bool :=
  let one := fun (k : Nat) =>
    let x := s.core k
    x.seat.isSome && (x.thr0.hangs s.hangLimit || x.thr1.hangs s.hangLimit)
  one c || (s.paired c && one (s.partnerOf c))

/-- A panel whose seats are cleared or dropped at this boundary. -/
def State.seatsGone (s : State) (p : Nat) : Bool := s.pstate p == psTearing || s.pstate p == psResetting

/-- What cores do at the boundary (Table ERR-2): a hung core that would hem keeps its seat, which the recovery saves in the hem's
place; its incoming seat waits, and so does its own seat elsewhere. (DEDUCED, log entry 143.) -/
def State.coreUses (s : State) : List (Nat × CoreUse) :=
  let uses := s.pairPins ((List.range 192).map fun c => (c, s.coreUse c))
  let keeps := fun (c : Nat) => s.hung c && (s.core c).seat.any fun e => !s.seatsGone e.1
  let kept := uses.filterMap fun e => if keeps e.1 then ((s.core e.1).seat).map fun q => (q, e.1) else none
  (uses.filter fun e => !keeps e.1).map fun e => match e.2 with
    | .seat p n _ => if kept.any fun k => k.1 == (p, n) then (e.1, .idle) else e
    | _ => e

/-- Apply the allocation at the boundary (R325–R327): outgoing seats are saved before incoming ones are read. -/
def State.applyCores (s : State) (saveFails restoreFails : List Nat) : State :=
  let uses := s.coreUses
  let s := uses.foldl (fun s e => s.coreOut e.1 e.2 (e.1 ∈ saveFails)) s
  let s := uses.foldl (fun s e => s.writeCoreUse e.1 e.2 (s.targetFor e.1 e.2)) s
  let s := uses.foldl (fun s e => (s.coreIn' e.1 e.2 (e.1 ∈ restoreFails)).setPaired e.1) s
  let now := s.stitch
  uses.foldl (fun s e => match e.2 with
    | .seat p n t =>
      let k := seatKey p n
      let x := s.cut
      { s with cut := { x with
        lastCore := if (match t with | some (true, _) => true | _ => false) then x.lastCore
                    else SMap.insert x.lastCore k (e.1 + 1)
        lastPanel := SMap.insert x.lastPanel e.1 (p + 1)
        lastHeld := SMap.insert x.lastHeld k (now + 1) } }
    | .hem => { s with cut := { s.cut with lastPanel := SMap.remove s.cut.lastPanel e.1 } }
    | .idle => s) s

/-- CUT.PSTAT of every panel for the stitch that begins (Table CUT-7), and the shortfalls of R318. -/
def State.writePstat (s : State) : State :=
  let short := match s.cut.staged with | some x => x.short | none => []
  s.panels'.foldl (fun s p =>
    let r : Reg := { kind := .cutPstat, i := p }
    let n := ((List.range 192).filter fun c =>
      s.flag (cutCoreR c) F.cutCore.G && s.fld (cutCoreR c) F.cutCore.PANEL == p).length
    let d := (Con.of s.cut.contracts p).demand s.cut
    let rose := decide (F.cutPstat.CORES.get (s.rd r) < n)
    let v := F.cutPstat.SHORT.set (F.cutPstat.DEMAND.set (F.cutPstat.CORES.set 0 n) d) (b2n (p ∈ short))
    let s := s.wr r v
    { s with
      cut := if rose then { s.cut with lastRise := SMap.insert s.cut.lastRise p s.stitch } else s.cut
      sw := if p ∈ short then { s.sw with short := SMap.insert s.sw.short p (SMap.get (fun _ => 0) s.sw.short p + 1) }
            else s.sw }) s

/-- The staged masks take effect in every slice of their bolt (R323). -/
def State.applyMasks (s : State) : State :=
  match s.cut.staged.bind (·.masks) with
  | none => s
  | some m => m.foldl (fun s e => (s.boltCores (e.1 / 512)).foldl (fun s t =>
      let r : Reg := { kind := .wrpL3way, i := t, j := e.1 % 512 }
      s.putWays t (e.1 % 512) (F.wrpL3way.ALLOC.set (s.rd r) e.2)) s) s

end Sys2Proof.Machine
end

