-- ==== Sys2Proof/Machine/Cxl.lean ====
section
/-! DEFINITION. CXL memory (R304–R308): requests of homes at a CXL root port, their tokens and the device's answers. -/

namespace Sys2Proof.Machine

def State.cxlOf (s : State) (r : Nat) : CxlSt := SMap.get (fun _ => CxlSt.init) s.cxl r
def State.setCxl (s : State) (r : Nat) (x : CxlSt) : State :=
  { s with cxl := SMap.put (fun _ => CxlSt.init) s.cxl r x }

def ctokR (r p : Nat) : Reg := { kind := .hpCtok, i := r, j := p }
def cpoolR (r : Nat) : Reg := { kind := .hpCpool, i := r }

/-- REMAIN or the pool is above zero (R308). -/
def State.cxlEligible (s : State) (r : Nat) (q : McReq) : Bool :=
  decide (0 < s.fld (ctokR r q.ktag) F.hpCtok.REMAIN) || decide (0 < s.fld (cpoolR r) F.hpCpool.POOL)

/-- Answer a home (R305). -/
def State.cxlAnswer (s : State) (r : Nat) (q : McReq) (poison : Bool) : State :=
  match q.home with
  | some (t, id) => s.emit (.warp (if q.write then .mwack else .mdata) (mcEnd (24 + r)) (homeEnd t) id q.line (poison && !q.write) [])
  | none => s

/-- Send a request to the device: one token, then a CXL.mem read or write under the panel's key (R306). A key slot that
is empty discards a write and poisons a read, as R214 gives; a write of a panel in TEARING is discarded (R162). -/
def State.cxlSend (s : State) (r : Nat) (q : McReq) : State :=
  let t := ctokR r q.ktag
  let s := if 0 < s.fld t F.hpCtok.REMAIN then s.setFld t F.hpCtok.REMAIN (s.fld t F.hpCtok.REMAIN - 1)
    else s.setFld (cpoolR r) F.hpCpool.POOL (s.fld (cpoolR r) F.hpCpool.POOL - 1)
  let s := s.count q.ktag (cntLine (24 + r)) 1
  if SMap.get (fun _ => false) s.hpKeys (r / 4 * 512 + q.ktag) = false || q.write && s.pstate q.ktag == psTearing then
    s.cxlAnswer r q true
  else
    let x := s.cxlOf r
    let s := if q.write then
        (s.setMeta q.line { ktag := q.ktag, poison := q.poison }).inMemory q.line
      else s
    (s.setCxl r { x with sent := x.sent ++ [{ q with age := 0 }] }).emit (.cxl r q.write q.line q.poison)

/-- A memory request of a home reaches the controller of root port `r` (R305, R308). -/
def State.cxlTake (s : State) (r : Nat) (q : McReq) : State :=
  let s := s.need (420 + r / 4)
  if s.cxlEligible r q then s.cxlSend r q
  else (s.setCxl r { s.cxlOf r with waiting := (s.cxlOf r).waiting ++ [q] }).count q.ktag (cntWait (24 + r)) 1

/-- CXL_RESPONSE (R305, R306): the device answers its oldest open request of that kind for the line; a late answer is
discarded. -/
def execCxlResponse (r : Fin 8) (write : Bool) (line : Line) (poison : Bool) (s : State) :
    Host.Outcome State Fault Refusal :=
  let x := s.cxlOf r
  match x.sent.find? fun q => q.write == write && q.line == line.val with
  | none => .next s
  | some q =>
    .next ((s.setCxl r { x with sent := x.sent.erase q }).cxlAnswer r q (poison || (!write && (s.meta line).poison)))

/-- HIO_CXLTO (R307): the oldest request the device has not completed in 2 stitches is answered: poison to a read,
MWACK to a write. (DESIGN CHOICE, log entry 9.) -/
def execHioCxlto (r : Fin 8) (s : State) : Host.Outcome State Fault Refusal :=
  let x := s.cxlOf r
  match x.sent.find? fun q => decide (2 ≤ q.age) with
  | none => .next s
  | some q =>
    let s := s.setCxl r { x with sent := x.sent.erase q }
    let s := s.logErr
      { unitId := unitId 5 r.val, cls := 0, code := 0x41, action := 2, flags := flagPoison + flagPaddr
        paddr := q.line * 64, req := q.req, detail := 2 }
    .next (s.cxlAnswer r q true)

end Sys2Proof.Machine
end

