-- ==== Sys2Proof/Machine/Routes.lean ====
section
/-! DEFINITION. The pattern tables Thimble builds at start-up (R196): primary and alternate route words of every network
interface. -/

namespace Sys2Proof.Machine

/-- One ring leg from position `a` to `b` of `n`: the shorter way, for ties the direction that does not cross the dateline. -/
def ringLeg (n a b : Nat) : Nat :=
  let up := (b + n - a) % n
  let down := (a + n - b) % n
  let plus := up < down || (up == down && decide (a ≤ b))
  if plus then up else 8 + down

/-- The other way round the ring, where a leg's hop count can hold it. -/
def ringOther (n top a b : Nat) : Option Nat :=
  let v := ringLeg n a b
  let h := n - v % 8
  if v % 8 = 0 ∨ top < h then none else some (if v < 8 then 8 + h else h)

/-- Where an endpoint lies (R188, Table WRP-2). -/
inductive Place' where
  /-- A tile of a die. -/
  | tile (die n : Nat)
  /-- A port of a die bridge: a memory controller or the bridge's registers. -/
  | bridge (die port : Nat)
  /-- A port of the hub switch. -/
  | hub (port : Nat)
  | none
  deriving DecidableEq, Repr

def placeOf (e : Nat) : Place' :=
  if e < 192 then .tile (e / 48) (e % 48)
  else if e < 200 then .hub (e - 188)
  else if e < 224 then .bridge ((e - 200) / 6) (8 + (e - 200) % 6)
  else if e < 226 then .hub (e - 212)
  else if e < 230 then .bridge (e - 226) 15
  else .none

/-- A route word from its fields (Table WRP-4). -/
def routeWordOf (yd bp2 hp bp1 exit ys xs : Nat) : Nat :=
  2 ^ 31 + yd * 2 ^ 22 + bp2 * 2 ^ 18 + hp * 2 ^ 13 + bp1 * 2 ^ 9 + exit * 2 ^ 8 + ys * 2 ^ 4 + xs

/-- The part of a route from a die bridge of die `d` on: BP1, HP, BP2, and the destination's row, if it is a tile; `inGate`
where the flit enters the bridge from a gate and so cannot leave by one. -/
def fromBridge (d : Nat) (inGate : Bool) : Place' → Option (Nat × Nat × Nat × Option Nat)
  | .tile k n => if k = d ∧ !inGate then some (n % 8, 0, 0, some (n / 8)) else some (14, k, n % 8, some (n / 8))
  | .bridge k p => if k = d then some (p, 0, 0, none) else some (14, k, p, none)
  | .hub p => some (14, p, 0, none)
  | .none => none

/-- The legs from row 0 to a row, primary and alternate. -/
def downLeg (row : Option Nat) : Nat × Option Nat :=
  match row with
  | some r => (ringLeg 6 0 (yPos r), ringOther 6 3 0 (yPos r))
  | none => (0, none)

/-- Primary and alternate words from a tile: within its die by the rings; else out by the rim tile of its column, or of the
next column in +X for the alternate. (DEDUCED, log entry 54.) -/
def tileWords (t : Nat) (p : Place') : Nat × Nat :=
  let d := t / 48
  let c := t % 8
  let y := yPos (t % 48 / 8)
  match p with
  | .tile k n =>
    if k = d then
      let xs := ringLeg 8 (xPos c) (xPos (n % 8))
      let ys := ringLeg 6 y (yPos (n / 8))
      let ax := ringOther 8 4 (xPos c) (xPos (n % 8))
      let ay := ringOther 6 3 y (yPos (n / 8))
      (routeWordOf 0 0 0 0 0 ys xs,
       if ax.isNone && ay.isNone then 0 else routeWordOf 0 0 0 0 0 (ay.getD ys) (ax.getD xs))
    else
      match fromBridge d true p with
      | some (b1, hp, b2, row) =>
        let l := downLeg row
        (routeWordOf l.1 b2 hp b1 1 (ringLeg 6 y 0) 0, routeWordOf (l.2.getD l.1) b2 hp b1 1 ((ringOther 6 3 y 0).getD (ringLeg 6 y 0)) 1)
      | none => (0, 0)
  | _ =>
    match fromBridge d true p with
    | some (b1, hp, b2, _) =>
      (routeWordOf 0 b2 hp b1 1 (ringLeg 6 y 0) 0, routeWordOf 0 b2 hp b1 1 ((ringOther 6 3 y 0).getD (ringLeg 6 y 0)) 1)
    | none => (0, 0)

/-- Words from a memory controller of die `d`. (DEDUCED, log entry 54.) -/
def mcWords (d : Nat) (p : Place') : Nat × Nat :=
  match fromBridge d false p with
  | some (b1, hp, b2, row) =>
    let l := downLeg row
    (routeWordOf l.1 b2 hp b1 0 0 0, match l.2 with | some y => routeWordOf y b2 hp b1 0 0 0 | none => 0)
  | none => (0, 0)

/-- Words from a port of the hub switch. (DEDUCED, log entry 54.) -/
def hubWords : Place' → Nat × Nat
  | .tile k n =>
    let l := downLeg (some (n / 8))
    (routeWordOf l.1 (n % 8) k 0 0 0 0, match l.2 with | some y => routeWordOf y (n % 8) k 0 0 0 0 | none => 0)
  | .bridge k p => (routeWordOf 0 p k 0 0 0 0, 0)
  | .hub p => (routeWordOf 0 0 p 0 0 0 0, 0)
  | .none => (0, 0)

/-- The two words of an interface toward an endpoint. -/
def routeWords (ni : Ni) (e : Nat) : Nat × Nat :=
  match ni with
  | .tile t => tileWords t.val (placeOf e)
  | .mc c => mcWords (c.val / 6) (placeOf e)
  | .hub _ => hubWords (placeOf e)

/-- Load one interface's table. -/
def State.loadPatterns (s : State) (ni : Ni) : State :=
  (List.range 256).foldl (fun s e =>
    let w := routeWords ni e
    ((s.wr (niPri ni e) w.1).wr (niAlt ni e) w.2).wr (niSel ni e) 0) s

/-- Every failed link of a node, as the ports it lies behind. -/
def State.failedPorts (s : State) (n : Nat) : List Nat := (List.range 8).filter fun p => s.linkFailed n p

/-- Thimble builds the tables of some interfaces, and chooses alternates around every failed link (R196, R200). -/
def State.buildPatterns (s : State) (nis : List Ni) : State :=
  let s := nis.foldl State.loadPatterns s
  (List.range 196).foldl (fun s n => (s.failedPorts n).foldl (fun s p => s.routeAround n p) s) s

/-- Routes avoid a tile that has failed. -/
def State.avoidTile (s : State) (t : Nat) : State :=
  (List.range (if t % 48 < 8 then 5 else 4)).foldl (fun s p => s.routeAround t p) s

/-- The interfaces of a bolt's tiles. -/
def State.boltNis (s : State) (b : Nat) : List Ni :=
  (List.finRange 192).filterMap fun t => if s.boltOf t.val = b then some (Ni.tile t) else none

end Sys2Proof.Machine
end

