-- ==== Sys2Proof/Machine/Swatch.lean ====
section
/-! DEFINITION. The Swatch store's flush, samples and store-only events (R440–R445). -/

namespace Sys2Proof.Machine

/-- A store-only event (Table SWT-5). The manual gives its SEQ no value: it is free. (DESIGN CHOICE, log entry 87.) -/
def State.swEvent (s : State) (unit code detail : Nat) (panel : Option Nat := none) (syndrome : List Byte := [])
    (paddr : Option Nat := none) : State :=
  let (q, s) := s.freeNat
  s.swWrite (.event
    { stitch := s.stitch, unitId := unit, cls := 0, code := code, action := 0
      flags := (if paddr.isSome then flagPaddr else 0) + (if panel.isSome then flagPanel else 0)
      paddr := paddr.getD 0, panel := panel.getD 0, req := 0xFF, count := 1, syndrome := padTo 16 syndrome
      detail := detail, seq := q % 2 ^ 32 })

/-- A finished write reaches the cells. -/
def SwStore.land (x : SwStore) : SwWrite → SwStore
  | .pers p => { x with pers := { p with evhead := x.pers.evhead, accsel := x.pers.accsel } }
  | .rows l => { x with rows := l }
  | .event r => { x with events := (r :: x.events).take 32768
                         pers := { x.pers with evhead := (x.pers.evhead + 1) % 32768 } }
  | .sheet y => { x with sheets := y :: (x.sheets.filter fun z => z.seq % 10080 ≠ y.seq % 10080) }
  | .cert k b => { x with certs := SMap.insert x.certs k b }
  | .acc y =>
    if x.pers.accsel = 0 then { x with accB := some y, pers := { x.pers with accsel := 1 } }
    else { x with accA := some y, pers := { x.pers with accsel := 0 } }
  | .training c b => { x with training := SMap.insert x.training c b }
  | .spare k v => { x with spares := SMap.insert x.spares k v }

def SwWrite.isAcc : SwWrite → Bool
  | .acc _ => true
  | _ => false

/-- Write up to `n` blocks of the waiting writes, in order. -/
def flushWait : Nat → List (SwWrite × Nat) → SwStore → List (SwWrite × Nat) × SwStore
  | _, [], x => ([], x)
  | n, (w, k) :: ws, x =>
    if k ≤ n then flushWait (n - k) ws (x.land w) else ((w, k - n) :: ws, x)

/-- The counters of one 64-byte block go to the cells. -/
def flushBlock (live : SMap Nat) (x : SwStore) (b : Nat) : SwStore :=
  let others := x.counts.filter fun e => decide (e.1 / 64 ≠ b)
  { x with counts := (live.filter fun e => e.1 / 64 == b).foldl (fun m e => SMap.insert m e.1 e.2) others }

/-- One flush (R442): waiting blocks, block 0, then the other dirty counter blocks with 32 places kept, 48 in all. Shares of an
accumulator copy come after the other waiting writes. -/
def State.flush (s : State) : State :=
  let w := s.sw.wait.filter (fun e => !e.1.isAcc) ++ s.sw.wait.filter (fun e => e.1.isAcc)
  let dirty := s.sw.dirty.filter (· ≠ 0)
  let kept := min 32 dirty.length
  let (rest, x) := flushWait (47 - kept) w s.sw.store
  let used := (w.map (·.2)).sum - (rest.map (·.2)).sum
  let put := fun (m : SMap Nat) k v => SMap.put (fun _ => 0) m k v
  let live := put (put (put s.sw.counts 8 s.stitch) 16 (s.rd { kind := .tuTodS })) 24
    (s.fld { kind := .tuTodNs } F.tuTodNs.NS)
  let x := flushBlock live x 0
  let now := dirty.take (47 - used)
  { s with sw := { s.sw with
      store := now.foldl (flushBlock live) x, counts := live, wait := rest
      dirty := dirty.drop (47 - used) } }

/-- SWATCH_FLUSH (R442): task 10, in a stitch that has not dropped it (R21). -/
def execSwatchFlush (s : State) : Host.Outcome State Fault Refusal :=
  if s.time.over 10 then .next s else .next (s.taskDone 10).flush

/-- Bin of a lane's error rate (R441). -/
def berBin (errors bits : Nat) : Nat :=
  if errors = 0 then 15
  else match (List.range 14).find? fun k => decide (bits ≤ errors * 10 ^ (k + 3)) with
    | some k => k
    | none => 14

/-- Bin of a temperature in °C, offset by 40, and of a voltage in mV (R441). -/
def tempBin (t : Int) : Nat := min 175 (t + 40).toNat
def voltBin (mv : Nat) : Nat := min 63 ((mv - 400) / 10)

/-- SWATCH_SAMPLE (R441): the second's readings, die temperatures (0–3 core dies, 4 hub), regulator outputs by domain
(only ON or RET counts), and lanes that are up as (lane, errors, bits). -/
def execSwatchSample (temps : List (Fin 5 × Int)) (mv : List (Fin 427 × Nat)) (lanes : List (Fin 96 × Nat × Nat))
    (s : State) : Host.Outcome State Fault Refusal :=
  let s := temps.foldl (fun s e => s.swCount (0x200 + 704 * e.1.val + 4 * tempBin e.2) 1 4) s
  let s := mv.foldl (fun s e =>
    if s.fld { kind := .pwrDstat, i := e.1.val } F.pwrDstat.CUR ≤ 1 then
      s.swCount (0x4000 + 256 * e.1.val + 4 * voltBin e.2) 1 4 else s) s
  .next (lanes.foldl (fun s e => s.swCount (0x1000 + 64 * e.1.val + 4 * berBin e.2.1 e.2.2) 1 4) s)

/-- Every panel's shortfall of the minute becomes one event (Table SWT-5, 0xC5). -/
def State.shortEvents (s : State) : State :=
  let s' := s.sw.short.foldl (fun s e => s.swEvent (unitId 7 0) 0xC5 e.2 (some (s.handle e.1))) s
  { s' with sw := { s'.sw with short := [] } }

/-- Change the persistent values; the change waits for a flush. -/
def State.setPers (s : State) (p : Pers) : State := { s with sw := { s.sw with pers := p } }.swWrite (.pers p)

end Sys2Proof.Machine
end

