-- ==== Sys2Proof/Machine/Coherence.lean ====
section
/-! DEFINITION. The coherence messages (Table COH-7), one meaning each: what its receiver does with it. A message
that reaches a fenced bolt is discarded, and a request is answered ERRCMP (R181). -/

namespace Sys2Proof.Machine

/-! ### Requests (Table COH-9) -/

/-- The context of a request that no thread's access waits for. -/
def ctxNone : Nat := 99

/-- RDS (R165): a load misses; the home answers per Table COH-10 or with RETRY. -/
def execRds (t : Tile) (line : Line) (s : State) : Host.Outcome State Fault Refusal :=
  .next (s.l2Request t line ctxNone .rds .i .isD)
/-- RDX (R165): a store or AMO misses. -/
def execRdx (t : Tile) (line : Line) (s : State) : Host.Outcome State Fault Refusal :=
  .next (s.l2Request t line ctxNone .rdx .i .imD)
/-- UPG (R165): a store or AMO finds the line in S. -/
def execUpg (t : Tile) (line : Line) (s : State) : Host.Outcome State Fault Refusal :=
  .next (s.l2Request t line ctxNone .upg .sh .smA)

/-- RDIO (R157, R177): an I/O agent, or a core for a line homed in another bolt, reads a copy. -/
def execRdio (a : Agent) (line : Line) (ctx : Fin 16384) (s : State) : Host.Outcome State Fault Refusal :=
  .next (s.newReq a (s.ioReq a .rdio line ctx []))
/-- WRF (R175): a full-line write, of the 64 bytes that WRD will carry. -/
def execWrf (a : Agent) (line : Line) (w : IoWrite) (s : State) : Host.Outcome State Fault Refusal :=
  .next (s.newReq a (s.ioReq a .wrf line w.ctx (maskedBytes line (2 ^ 64 - 1) w.data)))
/-- WRP (R176): a partial-line write of the bytes a mask selects; a mask of all ones is handled as WRF. -/
def execWrp (a : Agent) (line : Line) (mask : BitVec 64) (w : IoWrite) (s : State) :
    Host.Outcome State Fault Refusal :=
  .next (s.newReq a (s.ioReq a (if mask = BitVec.allOnes 64 then .wrf else .wrp) line w.ctx (maskedBytes line mask.toNat w.data)))

/-! ### Snoops at an L2 (Table COH-9) -/

/-- SNP_SH (R164): keep a shared copy, return data if E or M. -/
def execSnpSh (t : Tile) (line : Line) (htid : Htid) (s : State) : Host.Outcome State Fault Refusal :=
  .next (s.snoop t line htid .sh)
/-- SNP_INV (R164): invalidate, return data if E or M. -/
def execSnpInv (t : Tile) (line : Line) (htid : Htid) (s : State) : Host.Outcome State Fault Refusal :=
  .next (s.snoop t line htid .inv)
/-- SNP_DROP (R164): invalidate and discard, even if dirty. -/
def execSnpDrop (t : Tile) (line : Line) (htid : Htid) (s : State) : Host.Outcome State Fault Refusal :=
  .next (s.snoop t line htid .drop)
/-- SNP_CPY (R164): return data if E or M, keep the state. -/
def execSnpCpy (t : Tile) (line : Line) (htid : Htid) (s : State) : Host.Outcome State Fault Refusal :=
  .next (s.snoop t line htid .cpy)

/-! ### Data and grants at an L2 -/

/-- GACK for a miss entry, which is free: to the transaction the line's home has open for it. -/
def State.gackFor (s : State) (t rtid : Nat) (m : MissEnt) : State :=
  let s := s.setReq t rtid none
  match s.homeIn m.bolt m.line with
  | some h => s.emit (.warp .gack t (homeEnd h) ((s.dirEnt h m.line).busy.getD 0xFF) m.line false [])
  | none => s

/-- A miss entry's line is filled in a state, and no snoop is applied to it for a while (R170); GACK is sent. The fill waits for a
selvedge entry where it needs one (R144). An L2 that has been disabled in the meantime keeps its array as it is (R147), and
a line of a panel in TEARING goes (R178). -/
def State.l2Take (s : State) (t rtid : Nat) (m : MissEnt) (st : L2St) (poison : Bool) : State :=
  let old := s.l2 t m.line
  if !s.cacheOn t F.wrpCctl.L2_EN then
    (s.setL2 t m.line (if old.st = .smA then { old with st := .sh } else L2Line.none)).gackFor t rtid m
  else if s.pstate m.tag = psTearing then (s.setL2 t m.line L2Line.none).gackFor t rtid m
  else match s.fillL2 t m.line st m.tag poison with
    | (s, false) => s.modTile t fun x => { x with fills := x.fills ++ [(rtid, st, poison)] }
    | (s, true) => (s.modTile t fun x => { x with fresh := m.line :: x.fresh.filter (· ≠ m.line) }).gackFor t rtid m

/-- Data or a grant reaches a miss entry. A message that matches no entry is a protocol error (R180). -/
def State.l2Fill (s : State) (t rtid opcode : Nat) (st : L2St) (ok : HomeOp → L2St → Bool) (poison : Bool) : State :=
  if !s.boltUp (s.boltOf t) then s else
  match s.req t rtid with
  | none => s.cohProtocol t opcode 0xFF rtid t 0
  | some m =>
    if !ok m.op (s.l2 t m.line).st then s.cohProtocol t opcode 0xFF rtid t m.line else s.l2Take t rtid m st poison

/-- DATA_S (R164). -/
def execDataS (t : Tile) (rtid : Fin 48) (poison : Bool) (s : State) : Host.Outcome State Fault Refusal :=
  .next (s.l2Fill t rtid 0x20 .sh (fun op st => op == .rds && st == .isD) poison)
/-- DATA_E (R164). -/
def execDataE (t : Tile) (rtid : Fin 48) (poison : Bool) (s : State) : Host.Outcome State Fault Refusal :=
  .next (s.l2Fill t rtid 0x21 .e (fun op st => op == .rds && st == .isD) poison)
/-- DATA_M (R164): the waiting stores or AMO are performed; a waiting access makes the line M. -/
def execDataM (t : Tile) (rtid : Fin 48) (poison : Bool) (s : State) : Host.Outcome State Fault Refusal :=
  .next (s.l2Fill t rtid 0x22 .m (fun op st => (op == .rdx || op == .upg) && (st == .imD || st == .smA)) poison)
/-- GNT_M (R164): ownership for UPG without data. -/
def execGntM (t : Tile) (rtid : Fin 48) (s : State) : Host.Outcome State Fault Refusal :=
  let poison := match s.req t rtid with | some m => (s.l2 t m.line).poison | none => false
  .next (s.l2Fill t rtid 0x30 .m (fun op st => op == .upg && st == .smA) poison)

/-! ### Answers at a home -/

/-- A snoop answer reaches a home (R165, R180). -/
def State.snoopResp (s : State) (h htid src opcode : Nat) (f : HomeTx → HomeTx) : State :=
  if !s.boltUp (s.boltOf h) then s else
  match s.tx h htid with
  | none => s.cohProtocol h opcode htid 0xFF src 0
  | some x =>
    if x.snoops = 0 then s.cohProtocol h opcode htid x.rtid src x.line
    else s.onTx h htid (f { x with snoops := x.snoops - 1 })

/-- SNPRESP_D: dirty data. -/
def execSnprespD (h : Tile) (htid : Htid) (src : Tile) (poison : Bool) (s : State) :
    Host.Outcome State Fault Refusal :=
  .next (s.snoopResp h htid src 0x24 fun x => { x with snpData := true, dirty := true, poison := x.poison || poison })
/-- SNPRESP_C: clean data. -/
def execSnprespC (h : Tile) (htid : Htid) (src : Tile) (poison : Bool) (s : State) :
    Host.Outcome State Fault Refusal :=
  .next (s.snoopResp h htid src 0x25 fun x => { x with snpData := true, poison := x.poison || poison })
/-- SNPRESP_I: not held, or held and dropped without data. -/
def execSnprespI (h : Tile) (htid : Htid) (src : Tile) (s : State) : Host.Outcome State Fault Refusal :=
  .next (s.snoopResp h htid src 0x32 fun x => x)
/-- SNPRESP_S: held in S and kept. -/
def execSnprespS (h : Tile) (htid : Htid) (src : Tile) (s : State) : Host.Outcome State Fault Refusal :=
  .next (s.snoopResp h htid src 0x33 fun x => x)
/-- SNPRESP_WBPEND (R169): the writeback is the data. -/
def execSnprespWbpend (h : Tile) (htid : Htid) (src : Tile) (s : State) : Host.Outcome State Fault Refusal :=
  .next (s.snoopResp h htid src 0x34 fun x => { x with wbpend := true })

/-- WBA (R168, R169, R162): a writeback pair reaches a home, under the panel tag of its selvedge entry. -/
def execWba (h src : Tile) (line : Line) (poison : Bool) (s : State) : Host.Outcome State Fault Refusal :=
  if !s.boltUp (s.boltOf h) then .next s else
  let tag := match (s.tile src).selv.find? fun e => e.line == line.val && e.left with
    | some e => e.tag
    | none => s.lineOwner line
  .next (s.takeWb h src line tag poison true)

/-- WRD (R175, R176): the write data of WRF or WRP, the bytes that the requester's entry holds. A partial write leaves a poisoned
line poisoned (R409). -/
def execWrd (h : Tile) (htid : Htid) (poison : Bool) (s : State) : Host.Outcome State Fault Refusal :=
  if !s.boltUp (s.boltOf h) then .next s else
  match s.tx h htid with
  | some x =>
    if x.wrd && !x.wrdHere then
      let data := match s.req x.agent x.rtid with
        | some m => m.data
        | none => []
      .next (s.onTx h htid { x with wrdHere := true, data := data, poison := (if x.op = .wrf then poison else x.poison || poison) })
    else .next (s.cohProtocol h 0x28 htid x.rtid 0xFF x.line)
  | none => .next (s.cohProtocol h 0x28 htid 0xFF 0xFF 0)

/-- GACK (R165): the grant was received; the transaction closes. -/
def execGack (h : Tile) (htid : Htid) (s : State) : Host.Outcome State Fault Refusal :=
  if !s.boltUp (s.boltOf h) then .next s else
  match s.tx h htid with
  | some x =>
    if x.gack then .next (s.onTx h htid { x with gack := false })
    else .next (s.cohProtocol h 0x31 htid x.rtid 0xFF x.line)
  | none => .next (s.cohProtocol h 0x31 htid 0xFF 0xFF 0)

/-! ### Memory answers -/

/-- The home and HTID that a request is answered to; none for the partner of a primary. -/
def memHome : MemSrc → Option (Nat × Nat)
  | .home t i => some (t.val, i.val)
  | .alone t => some (t.val, 0xFF)
  | .primary => none

/-- MDATA (R165, R223): memory read data at a home, filling the sector of a core read (R134), or the partner's copy at
a primary, for mirror repair. (DEDUCED, log entry 46.) -/
def execMdata (dst : MemEnd) (poison : Bool) (s : State) : Host.Outcome State Fault Refusal :=
  match dst with
  | .home h htid =>
    if !s.boltUp (s.boltOf h) then .next s else
    match s.tx h htid with
    | some x =>
      if x.memSent && !x.memDone then
        let x := { x with memDone := true, poison := x.poison || poison }
        if x.op = .rds ∨ x.op = .rdx ∨ x.op = .upg then
          match s.sliceFill h x.ktag x.line { valid := true, dirty := false, poison := poison } with
          | some (s, out) => .next ((s.castFor h htid out).onTx h htid { x with mwack := x.mwack + out.length })
          | none => .next (s.onTx h htid x)
        else .next (s.onTx h htid x)
      else .next (s.cohProtocol h 0x2B htid x.rtid 0xFF x.line)
    | none => .next (s.cohProtocol h 0x2B htid 0xFF 0xFF 0)
  | .alone h line => .next (if s.boltUp (s.boltOf h) then s.cohProtocol h 0x2B 0xFF 0xFF 0xFF line else s)
  | .primary c line =>
    let x := s.mc c
    match x.asked false line with
    | none => .next s
    | some q =>
      let s := s.partnerDone c q
      let hard := match q.res with
        | .bad _ _ _ h => h
        | _ => false
      let spared := fun (s : State) => if hard then s.hardRow c (mapLine s.clist line).2.1 else s
      if poison then
        let s := match q.res with
          | .bad w y a _ => s.lineBad c line w y a
          | _ => s
        let s := spared s
        .next (if q.req = 0xFF then s else s.mcAnswer c q true)
      else
        let s := s.setMeta line { s.meta line with poison := false }
        let s := spared (s.memErr c 0x16 0 0 0 line 0xFF 0 0 0)
        .next (if q.req = 0xFF then s else s.mcAnswer c q false)

/-- MWACK (R222, R165): a memory write is accepted: at a home's transaction; at a home that wrote a writeback, which then
answers WBACK, or a victim, which no one awaits; or the partner's answer at a primary. (DEDUCED, log entry 45.) -/
def execMwack (dst : MemEnd) (failed : Bool) (s : State) : Host.Outcome State Fault Refusal :=
  match dst with
  | .home h htid =>
    if !s.boltUp (s.boltOf h) then .next s else
    match s.tx h htid with
    | some x =>
      if 0 < x.mwack then .next (s.onTx h htid { x with mwack := x.mwack - 1 })
      else .next (s.cohProtocol h 0x3B htid x.rtid 0xFF x.line)
    | none => .next (s.cohProtocol h 0x3B htid 0xFF 0xFF 0)
  | .alone h line =>
    if !s.boltUp (s.boltOf h) then .next s else
    match (s.tile h).wbs.find? fun e => e.1 == line.val with
    | none => .next (s.cohProtocol h 0x3B 0xFF 0xFF 0xFF line)
    | some e =>
      let s := s.modTile h fun x => { x with wbs := x.wbs.erase e }
      .next (match e.2 with
        | some l2 => s.wback h l2 line
        | none => s)
  | .primary c line =>
    let x := s.mc c
    match x.asked true line with
    | none => .next s
    | some q =>
      let s := s.partnerDone c q
      .next ((if failed then s.copyStale c line else s).mcAnswer c q false)

/-- MRD (R165, R209, R223): a memory read reaches a controller, or a CXL root port. `res` is what the stored line is
found to hold. (DESIGN CHOICE, log entry 8.) -/
def execMrd (c : MemDest) (src : MemSrc) (line : Line) (ktag : Panel) (hbolt : Bolt) (req : Agent) (res : ReadOut)
    (s : State) : Host.Outcome State Fault Refusal :=
  let home := memHome src
  let q : McReq := { write := false, line := line, ktag := ktag, hbolt := hbolt, req := req, home := home
                     poison := false, res := res, age := 0 }
  if c.val < 24 then .next (s.mcTake c q) else .next (s.cxlTake (c.val - 24) q)

/-- MWA (R162, R207, R222): a memory write pair reaches a controller, or a CXL root port.
(DESIGN CHOICE, log entry 8.) -/
def execMwa (c : MemDest) (src : MemSrc) (line : Line) (ktag : Panel) (hbolt : Bolt) (req : Agent) (poison wedged : Bool)
    (s : State) : Host.Outcome State Fault Refusal :=
  let home := memHome src
  let q : McReq := { write := true, line := line, ktag := ktag, hbolt := hbolt, req := req, home := home
                     poison := poison, res := if wedged then .wedged else .clean, age := 0 }
  if c.val < 24 then .next (s.mcTake c q) else .next (s.cxlTake (c.val - 24) q)

/-! ### Completions at requesters -/

/-- WBACK (R142): the writeback is complete: its selvedge entry is free, and a fill that waits goes on (R144).
(DEDUCED, log entry 45.) -/
def execWback (t : Tile) (line : Line) (s : State) : Host.Outcome State Fault Refusal :=
  if !s.boltUp (s.boltOf t) then .next s else
  match (s.tile t).selv.find? fun e => e.line == line.val && e.left with
  | none => .next (s.cohProtocol t 0x35 0xFF 0xFF t line)
  | some e =>
    let s := s.modTile t fun x => { x with selv := x.selv.erase e }
    match (s.tile t).fills with
    | [] => .next s
    | (rtid, st, poison) :: rest =>
      let s := s.modTile t fun x => { x with fills := rest }
      .next (match s.req t rtid with
        | some m => s.l2Take t rtid m st poison
        | none => s)

/-- A response to a tile of a fenced bolt is discarded (R181). -/
def State.respLost (s : State) (a : Nat) : Bool := isTile a && !s.boltUp (s.boltOf a)

/-- A response that matches no entry of an L2 is a protocol error (R180); at an I/O agent it has come too late (R413). -/
def State.noEntry (s : State) (a opcode rtid : Nat) : State :=
  if isTile a then s.cohProtocol a opcode 0xFF rtid 0xFF 0 else s

/-- RETRY (R173, R174): the requester keeps its entry, counts, and waits to issue again, or for GO when RSV is set. -/
def execRetry (a : Agent) (rtid : Fin 256) (rsv : Bool) (s : State) : Host.Outcome State Fault Refusal :=
  if s.respLost a then .next s else
  match s.req a rtid with
  | some m => .next (s.setReq a rtid (some { m with rcnt := min 8 (m.rcnt + 1), rsv := m.rsv || rsv, retry := true, age := 0 }))
  | none => .next (s.noEntry a 0x36 rtid)

/-- The retry interval, 16 ns × RCNT, has passed (R173): the request is issued again, unless it holds a reservation. -/
def execRetryReissue (a : Agent) (rtid : Fin 256) (s : State) : Host.Outcome State Fault Refusal :=
  match s.req a rtid with
  | some m => .next (if m.retry && !m.rsv then s.issue a rtid m else s)
  | none => .next s

/-- GO (R174): the reservation is ready; the request is issued with RSV = 1. A GO that matches no reservation is a protocol error
(R180). -/
def execGo (a : Agent) (rtid : Fin 256) (s : State) : Host.Outcome State Fault Refusal :=
  if s.respLost a then .next s else
  match s.req a rtid with
  | some m => .next (if m.rsv && m.retry then s.issue a rtid m else s.noEntry a 0x37 rtid)
  | none => .next (s.noEntry a 0x37 rtid)

/-! ### Credits (R158, R159) -/

/-- Pooled credits of a home's writeback buffer, and of a channel for reads and for writes. -/
def poolTop : Nat := 32

/-- Pooled credits of a kind that a channel has granted. -/
def McSt.granted (x : McSt) (w : Bool) : Nat := if w then x.poolW else x.pool
def McSt.grant (x : McSt) (w : Bool) (n : Nat) : McSt := if w then { x with poolW := n } else { x with pool := n }

/-- CRDREQ: grant a pooled credit when one is free; the request else waits for one. -/
def execCrdreq (k : Credit) (s : State) : Host.Outcome State Fault Refusal :=
  match k with
  | .writeback t h =>
    let x := s.tile h
    if x.pool < poolTop then
      .next ((s.setTile h { x with pool := x.pool + 1 }).emit (.warp .crdgnt (homeEnd h) t 0 0 false []))
    else .next (s.setTile h { x with poolQ := x.poolQ ++ [t.val] })
  | .memory h c w =>
    let x := s.mc c
    if x.granted w < poolTop then
      .next ((s.setMc c (x.grant w (x.granted w + 1))).emit (.warp .crdgnt (mcEnd c) (homeEnd h) c (b2n w) false []))
    else .next (s.setMc c { x with poolQ := x.poolQ ++ [(h.val, w)] })

/-- CRDGNT: a writeback that waits for the credit leaves, and its entry goes SENT (R142); a credit for one that was cancelled goes
back (DEDUCED, log entry 129); a home's waiting memory message leaves. -/
def execCrdgnt (k : Credit) (s : State) : Host.Outcome State Fault Refusal :=
  match k with
  | .writeback t h =>
    match (s.tile t).selv.find? fun e => !e.left && s.homeOf e.line == some h.val with
    | some e => .next (s.leaves t h e true)
    | none => .next (s.poolBack h)
  | .memory h c w =>
    let key := 2 * c.val + b2n w
    let s := s.modTile h fun x => { x with memPool := SMap.insert x.memPool key (SMap.get (fun _ => 0) x.memPool key + 1) }
    .next (s.memNext h key)

/-- CRDRET: a memory credit comes back to its home; a pooled one goes back to its pool, and on to the next home that waits. -/
def execCrdret (h : Tile) (c : Chan) (w : Bool) (s : State) : Host.Outcome State Fault Refusal :=
  let key := 2 * c.val + b2n w
  let x := s.tile h
  if SMap.get (fun _ => 0) x.memUse key = 1 then
    .next ((s.setTile h { x with memUse := SMap.remove x.memUse key }).memNext h key)
  else
    let y := s.mc c
    match y.poolQ.find? (·.2 == w) with
    | some e => .next ((s.setMc c { y with poolQ := y.poolQ.erase e }).emit (.warp .crdgnt (mcEnd c) (homeEnd e.1) c (b2n w) false []))
    | none => .next (s.setMc c (y.grant w (y.granted w - 1)))

/-! ### Failure and bolt reset -/

/-- COH_TIMEOUT (R179): an entry at a home or at a requester has waited RAS.TMO2 stitches: a bolt-contained error.
(DESIGN CHOICE, log entry 9.) -/
def execCohTimeout (atHome : Bool) (t : Tile) (id : Htid) (s : State) : Host.Outcome State Fault Refusal :=
  let tmo := s.rd { kind := .rasTmo, i := 2 }
  let found := if atHome then (match s.tx t id with
      | some x => if tmo ≤ x.age then some (id.val, x.rtid, x.line, x.agent) else none
      | none => none)
    else (match s.req t id with
      | some m => if tmo ≤ m.age && (m.op == .rds || m.op == .rdx || m.op == .upg)
          then some (0xFF, id.val, m.line, t.val) else none
      | none => none)
  match found with
  | some (htid, rtid, line, src) =>
    .next (s.boltError (s.boltOf t)
      { unitId := unitId 2 t, cls := 2, code := 0x29, action := 8, flags := flagPaddr, paddr := line * 64
        syndrome := cohSyn 0 htid rtid src, detail := tmo })
  | none => .next s

/-- Every line that may be only in a bolt's caches is lost. -/
def State.loseDirty (s : State) (b : Nat) : State :=
  (s.dirty.filter fun e => s.homeBolt e.1 == b).foldl (fun s e => s.loseLine e.1) s

/-- A bolt's routers lose the flits in their buffers. -/
def State.dropFlits (s : State) (b : Nat) : State :=
  let keep := fun (k : Nat) => decide (192 ≤ k / 1024) || s.boltOf (k / 1024) ≠ b
  { s with warp := { s.warp with bufs := s.warp.bufs.filter fun e => keep e.1, pairs := s.warp.pairs.filter fun e => keep e.1 } }

/-- The way-mask entries of a slice, by panel (Table CCH-2), with the ways that were to enter them. -/
def State.wayMasks (s : State) (t : Nat) : SMap Nat :=
  ((List.range 512).map fun p => (p, s.rd { kind := .wrpL3way, i := t, j := p } |||
    SMap.get (fun _ => 0) (s.tile t).wayDue p)).filter fun e => e.2 ≠ 0

/-- The Weft requests of some cores are completed with ERRCMP (R267): none of them is answered any more. -/
def State.dropWeft (s : State) (cores : List Nat) : State :=
  let of_ := fun (x : OutEnt) => match x.use with
    | .load th | .store th _ => decide (th / 2 ∈ cores)
    | _ => false
  let ends := s.weft.out.filterMap fun e => e.2.bind fun x => if of_ x then some e.1 else none
  ends.foldl State.endOut (s.setWeft fun x => { x with apq := x.apq.filter fun q => decide (q.th / 2 ∉ cores) })

/-- Steps 3 and 4 of a bolt reset (Table COH-12), at the boundary after the fence: the bolt's panels go FAULTED with
invalid seats, its Cutter, twin and way registers clear, its routers, tables and caches are reset, and Thimble reloads the
pattern tables. -/
def State.boltResetStart (s : State) (b : Nat) : State :=
  let cores := s.boltCores b
  let hosts := (List.range 512).filter fun p =>
    (s.pstate p == psRunning || s.pstate p == psPaused) && s.panelBolt p == b
  let s := hosts.foldl (fun s p => (s.trigger p .boltReset).clearSeats p) s
  let s := { s with
    cut := { s.cut with twin := s.cut.twin.map fun (t : TwinTest) => if t.panel ∈ hosts then { t with seat := none } else t } }
  let s := (s.loseDirty b).dropWeft cores
  let s := cores.foldl (fun s c =>
    let s := (s.dropWaits c).setCore c { (s.core c).cleared with testing := (s.core c).testing }
    let s := s.setTile c { TileSt.init with bnd := (s.tile c).bnd, missed := (s.tile c).missed, ways := s.wayMasks c }
    let s := ((s.wr (cutCoreR c) (Reg.reset (cutCoreR c))).wr (cutOvrR c) 0).wr { kind := .wrpTwpair, i := c } 0
    let s := (s.wr { kind := .wrpTwcnt, i := c } 0).wr { kind := .wrpCohcnt, i := c } 0
    let s := (List.range 512).foldl (fun s p => s.wr { kind := .wrpL3way, i := c, j := p } 0) s
    s.wr { kind := .wrpCctl, i := c } (Reg.reset { kind := .wrpCctl, i := c })) s
  let s := hosts.foldl (fun s p => s.wr { kind := .cutPstat, i := p } 0) s
  let f : Fld := ⟨8 * b + 3, 8 * b⟩
  let s := (s.addFld { kind := .hubBoltstat } f 1).setBoltState b 3
  let s := (s.dropFlits b).buildPatterns (s.boltNis b)
  let recent := (s.ticks :: SMap.get (fun _ => []) s.boltHits b).filter fun (t : Nat) => decide (s.ticks < t + 100000)
  { s with boltHits := SMap.insert s.boltHits b recent }

/-- Set raw enable bits of a tile, those of an array that is still being invalidated when it is done (R148, R151). -/
def State.enableArrays (s : State) (t want : Nat) : State :=
  let r : Reg := { kind := .wrpCctl, i := t }
  let now := fun (inv : Fld) (m : Nat) => if s.flag r inv then 0 else want &&& m
  let on := now F.wrpCctl.INV_L1 3 + now F.wrpCctl.INV_L2 4 + now F.wrpCctl.INV_L3 8
  (s.wr r (s.rd r ||| on)).modTile t fun x => { x with enable := (x.enable ||| want) &&& (0xF - on) }

/-- Raw enable bits after invalidation, for the caches that passed (R148, R465). -/
def State.enableCaches (s : State) (t : Nat) : State :=
  s.enableArrays t ((if s.coreIn t then 7 else 0) + (if t ∈ s.noSlice then 0 else 8))

/-- Thimble rewrites a slice's way masks after a bolt reset (R150). -/
def State.rewriteWays (s : State) (t : Nat) : State :=
  ((s.tile t).ways.foldl (fun s e => s.wr { kind := .wrpL3way, i := t, j := e.1 } e.2) s).modTile t fun x => { x with ways := [] }

/-- WRP.TDLY of a tile, measured at start and after a bolt reset (R199): the delay is not given: free. -/
def State.measureDelay (s : State) (t : Nat) : State :=
  let (d, s) := s.freeNat
  s.setFld { kind := .wrpTdly, i := t } F.wrpTdly.DELAY (d % 65536)

/-- BOLT_RESET_COMPLETE (R182, R184): the bolt's tests are done. Failing tiles are fused out and leave the slice list;
the bolt runs again from the next boundary, or goes OFFLINE when it cannot run or on its fourth reset within 100,000
stitches. -/
def execBoltResetComplete (b : Bolt) (failed : List Tile) (s : State) : Host.Outcome State Fault Refusal :=
  if s.boltState b ≠ 3 then .next s else
  let bad := (failed.map (·.val)).filter fun t => s.boltOf t == b.val
  let s := { s with
    noSlice := s.noSlice ++ bad.filter (· ∉ s.noSlice)
    outUnits := s.outUnits ++ (bad.map (unitId 2)).filter (· ∉ s.outUnits) }
  let s := bad.foldl (fun s t => ((s.swEvent (unitId 2 t) 0xC2 1).fuseOut 2 t).avoidTile t) s
  let cores := (s.boltCores b).filter s.coreIn
  if cores.isEmpty || (s.sliceList b).isEmpty || 4 ≤ (SMap.get (fun _ => []) s.boltHits b).length ||
      s.unitOut 0x0B b then
    .next (s.setBoltState b 4)
  else
    let s := (s.boltCores b).foldl (fun s t => ((s.rewriteWays t).enableCaches t).measureDelay t) s
    .next ((s.fence b 0).setBoltState b 1)

/-! ### Array errors (R145, R146) -/

/-- A cache record's syndrome bytes (Table ERR-3a). -/
def cacheSyn (t array way set : Nat) : List Byte := leBytes 2 t ++ leBytes 1 array ++ leBytes 1 way ++ leBytes 2 set

/-- A line leaves an L1: data or tag parity (Table CCH-3). -/
def State.dropL1 (s : State) (t line : Nat) (code : Bool) : State :=
  s.modTile t fun x => if code then { x with l1i := x.l1i.filter (· ≠ line) } else { x with l1d := x.l1d.filter (· ≠ line) }

/-- An array error is corrected, refetched, poisoned or escalated (Table CCH-3). (DESIGN CHOICE, log entry 126.) -/
def State.arrayError (s : State) (t : Nat) (e : ArrayErr) : State :=
  let cnt : Reg := { kind := .wrpCerrcnt, i := t }
  let report := fun (s : State) code cls action flags =>
    { unitId := unitId 2 t, cls := cls, code := code, action := action, flags := flags + flagPaddr
      paddr := e.line.val * 64, syndrome := cacheSyn t e.array e.way e.set : ErrEvt } |> fun x =>
      if cls = 2 then s.boltError (s.boltOf t) x else s.logErr x
  let line := e.line.val
  if e.array.val ≤ 1 then report ((s.addFld cnt F.wrpCerrcnt.L1PAR 1).dropL1 t line (e.array.val == 0)) 0x08 0 0 0
  else if e.bits.val ≤ 2 then
    report (s.addFld cnt (if e.array.val ≤ 3 then F.wrpCerrcnt.L2COR else F.wrpCerrcnt.L3COR) 1) 0x09 0 0 0
  else
    let s := s.addFld cnt F.wrpCerrcnt.UNCOR 1
    if e.tag || e.array.val = 5 then report s 0x0C 2 8 0
    else if e.array.val = 2 then
      let x := s.l2 t line
      if x.st = .m then
        report ((s.setL2 t line { x with poison := true }).setMeta line { s.meta line with poison := true }) 0x0B 0 0 flagPoison
      else report (s.setL2 t line L2Line.none) 0x0A 0 0 0
    else if e.array.val = 3 then
      let s := s.modTile t fun x => { x with selv := x.selv.map fun y => if y.line = line then { y with poison := true } else y }
      report (s.setMeta line { s.meta line with poison := true }) 0x0B 0 0 flagPoison
    else
      let x := (s.tile t).sector line
      if x.valid && x.dirty then
        let s := s.modTile t fun y => y.setSector line { x with poison := true }
        report (s.setMeta line { s.meta line with poison := true }) 0x0B 0 0 flagPoison
      else report (s.modTile t fun y => y.setSector line Sector.none) 0x0A 0 0 0

/-- L2_L3_SCRUB (R145, R146): array errors of a tile come to light, in the scrubber's pass or, in any of its arrays, at an access:
the table has no row of its own for the latter. (DESIGN CHOICE, log entry 126.) -/
def execL2L3Scrub (t : Tile) (found : List ArrayErr) (s : State) : Host.Outcome State Fault Refusal :=
  .next (found.foldl (fun s e => s.arrayError t e) s)

end Sys2Proof.Machine
end

