-- ==== Sys2Proof/Machine/HostIo.lean ====
section
/-! DEFINITION. The host ports (R291–R310): completions and timeouts of the cores' requests, devices' memory requests
and interrupt messages, link changes, DPC and function-level resets. -/

namespace Sys2Proof.Machine

/-! ### Requests of the cores (R296) -/

def State.dropReq (s : State) (q : PcieReq) : State := { s with hio := { s.hio with reqs := s.hio.reqs.erase q } }

/-- PCIE_COMPLETION (R296): a completion for the request of a thread through a root port. -/
def execPcieCompletion (r : RootPort) (th : Thr) (st : CplStatus) (data : Word) (s : State) :
    Host.Outcome State Fault Refusal :=
  match s.hio.reqs.find? fun q => q.rp == r.val && q.th == th.val with
  | none => .next s
  | some q =>
    match st with
    | .success => .next ((s.dropReq q).resumeLoad th (.ok (leBytes 8 data.toNat)))
    | .retry => if q.cfg then .next (s.emit (.pcie r (.cfgRead q.off q.n th))) else .next s
    | .unsupported =>
      .next ((s.dropReq q).resumeLoad th (if q.cfg then .ok (List.replicate 8 0xFF) else .error false))
    | .abort => .next ((s.dropReq q).resumeLoad th (.error false))

/-- Completion timeout of a root port in stitches (Table HIO-7). -/
def ctoStitches (v : Nat) : Nat :=
  match v with
  | 0 => 5 | 1 => 10 | 2 => 100 | 3 => 1000 | _ => 5000

/-- HIO_CTO (R296): the completion timeout of a root port's oldest expired request: ERRCMP.
(DESIGN CHOICE, log entry 9.) -/
def execHioCto (r : RootPort) (s : State) : Host.Outcome State Fault Refusal :=
  let cto := ctoStitches (s.fld (rpctlR r) F.hpRpctl.CTO)
  match s.hio.reqs.find? fun q => q.rp == r.val && decide (cto ≤ q.age) with
  | none => .next s
  | some q =>
    let s := (s.dropReq q).addFld (rpstatR r) F.hpRpstat.CTOCNT 1
    let s := s.logErr { unitId := unitId 5 r, cls := 0, code := 0x40, action := 2, flags := flagPanel
                        panel := s.handle (s.panelOf q.th), req := q.th / 2, detail := cto }
    .next (s.resumeLoad q.th (.error false))

/-- Every outstanding request through a root port ends (R309): a configuration read returns all ones, a load gets
ERRCMP; devices' reads under way are given up. -/
def State.failPort (s : State) (r : Nat) : State :=
  let mine := s.hio.reqs.filter fun q => q.rp == r
  let s := mine.foldl (fun s q =>
    (s.dropReq q).resumeLoad q.th (if q.cfg then .ok (List.replicate 8 0xFF) else .error false)) s
  { s with hio := { s.hio with
      jobs := s.hio.jobs.filter fun j => j.func / 65536 ≠ r
      pieces := s.hio.pieces.filter fun p => p.write || p.func / 65536 ≠ r } }

/-- The granted granules of a CXL link that falls are marked OFFLINE when they are next freed (R307). (DEDUCED, log entry 139.) -/
def State.cxlLost (s : State) (r : Nat) : State :=
  if s.flag (rpstatR r) F.hpRpstat.CXL && s.fld (rpstatR r) F.hpRpstat.STATE == rpUp then
    let gs := (s.pot.filter fun e => potKind e.2 == kOwned && s.target (e.1 * 65536) == .cxl r).map (·.1)
    { s with toOffline := s.toOffline ++ gs.filter (· ∉ s.toOffline) }
  else s

/-- HIO_DPC (R309): the root port is held in DPC, its requests end, and the lowest vector of every panel with a function
below it is raised. -/
def execHioDpc (r : RootPort) (s : State) : Host.Outcome State Fault Refusal :=
  let s := (s.cxlLost r).setFld (rpstatR r) F.hpRpstat.STATE rpDpc
  let s := s.failPort r
  let s := s.logErr { unitId := unitId 5 r, cls := 0, code := 0x42, action := 0 }
  .next ((dedupNat ((s.funcs r).map (s.funcPanel r))).foldl (fun s p => s.raise p 0) s)

/-- ROOT_PORT_LINK_CHANGE (R293): a link in training comes up with a width, speed and protocol, or is held NOFLIT; a
link falls. CXL needs the port's CXLMASK bit. -/
def execRootPortLinkChange (r : RootPort) (c : LinkChange) (s : State) : Host.Outcome State Fault Refusal :=
  let st := rpstatR r
  if !s.flag (rpctlR r) F.hpRpctl.EN then .next s else
  let state := s.fld st F.hpRpstat.STATE
  match c with
  | .up width speed cxl =>
    if state = rpDpc then .next s else
    let s := (s.setFld st F.hpRpstat.STATE rpUp).setFld st F.hpRpstat.WIDTH width
    let s := s.setFld st F.hpRpstat.SPEED (speed.val + 1)
    let mask := s.fld { kind := .hpCfg, i := r.val / 4 } F.hpCfg.CXLMASK
    .next (s.setFld st F.hpRpstat.CXL (b2n (cxl && bit mask (r.val % 4))))
  | .noflit => if state = rpDpc then .next s else .next (s.setFld st F.hpRpstat.STATE rpNoflit)
  | .down => if state = rpDpc then .next s else .next (((s.cxlLost r).setFld st F.hpRpstat.STATE rpDown).failPort r)

/-- Retrain a root-port link (R309): training starts, and the port leaves DPC. -/
def State.rpRetrain (s : State) (r : Nat) : State :=
  if s.flag (rpctlR r) F.hpRpctl.EN && !s.unitOut 5 r then
    (s.setFld (rpctlR r) F.hpRpctl.RETRAIN 0).setFld (rpstatR r) F.hpRpstat.STATE rpTraining
  else s

/-- HP_RPCTL_RETRAIN (R309). -/
def execHpRpctlRetrain (r : RootPort) (s : State) : Host.Outcome State Fault Refusal := .next (s.rpRetrain r)

/-! ### Function-level resets (R310) -/

def flrKey (k e : Nat) : Nat := k * 512 + e

/-- A function-level reset is issued: FLR is set. -/
def State.issueFlr (s : State) (k e : Nat) (bme : Bool) : State :=
  let r := func0R k e
  let s := (s.setFld r F.hpFunc0.BME (b2n bme)).setFld r F.hpFunc0.FLR 1
  let s := { s with hio := { s.hio with flr := SMap.insert s.hio.flr (flrKey k e) 0 } }
  s.emit (.pcie (s.fld r F.hpFunc0.RP) (.flr (s.fld r F.hpFunc0.RID)))

/-- The functions of a panel: controller and entry. -/
def State.funcsOf (s : State) (p : Nat) : List (Nat × Nat) :=
  (List.range 4).flatMap fun k => ((List.range 512).filter fun e =>
    s.flag (func0R k e) F.hpFunc0.V && s.fld (func0R k e) F.hpFunc0.PANEL == p).map fun e => (k, e)

/-- Panel reset: BME and FLR set for each of the panel's functions (Table HIO-8). -/
def State.panelFlr (s : State) (p : Nat) : State := (s.funcsOf p).foldl (fun s e => s.issueFlr e.1 e.2 true) s

/-- Remove a function entry. -/
def State.funcRemove (s : State) (k e : Nat) : State :=
  let s := (s.wr (func0R k e) 0).wr (func1R k e) 0
  { s with hio := { s.hio with flr := SMap.remove s.hio.flr (flrKey k e) } }

/-- Teardown: BME cleared, a function-level reset issued and the entries removed (Table HIO-8). -/
def State.panelHioTear (s : State) (p : Nat) : State :=
  (s.funcsOf p).foldl (fun s e => (s.issueFlr e.1 e.2 false).funcRemove e.1 e.2) s

/-- FLR_COMPLETE (R310): a function's reset completes, no earlier than 100 ms after its issue: FLR is cleared and BME
set. -/
def execFlrComplete (k : Fin 4) (e : Fin 512) (s : State) : Host.Outcome State Fault Refusal :=
  let r := func0R k e
  match SMap.find s.hio.flr (flrKey k e) with
  | none => .next s
  | some n =>
    if n < 10000 then .next s else
    let s := { s with hio := { s.hio with flr := SMap.remove s.hio.flr (flrKey k e) } }
    .next ((s.setFld r F.hpFunc0.FLR 0).setFld r F.hpFunc0.BME 1)

/-! ### Interrupt messages (R300) -/

def State.urCount (s : State) (r : Nat) : State := s.addFld (rpstatR r) F.hpRpstat.URCNT 1

/-- An interrupt message of a function's panel. -/
def State.intMessage (s : State) (r p data : Nat) : State :=
  if 2048 ≤ data ∨ (p = 0 ∧ data = 2047) then s.urCount r else s.raise p data

/-- INTERRUPT_MESSAGE (R300): a 4-byte write to the interrupt address by a function. (DEDUCED, log entry 67.) -/
def execInterruptMessage (r : RootPort) (rid : BitVec 16) (data : BitVec 32) (s : State) :
    Host.Outcome State Fault Refusal :=
  let s := s.need (420 + r.val / 4)
  match s.funcOf r rid.toNat with
  | none => .next (s.urCount r)
  | some e =>
    if !s.flag (func0R (r.val / 4) e) F.hpFunc0.BME then .next (s.urCount r)
    else .next (s.intMessage r (s.funcPanel r e) data.toNat)

/-! ### DMA (R299, R301–R303) -/

/-- The checker's view of a granule for a function of panel `p` (R299): a function of panel 0 may also write STAGE
granules. -/
def State.dmaOk (s : State) (agent p line : Nat) (w : Bool) : Bool :=
  let e := s.potFor agent (line / 1024)
  (potKind e == kOwned && potPanel e == p && (if w then potW e else potR e)) ||
  (w && p == 0 && potKind e == kStage)

/-- A DMA target that the controller serves (R299): protected memory or the CXL window, where no granule outside an enabled
range is owned. -/
def State.dmaTarget (s : State) (pa : Nat) : Bool :=
  s.target pa == .prot || (decide (0x010000000000 ≤ pa) && decide (pa < 0x050000000000))

/-- A piece's earlier writes of the same function that have not received DBGO (R302). -/
def heldBack (ps : List DmaPiece) (p : DmaPiece) : Bool :=
  p.strict && (ps.takeWhile fun q => q ≠ p).any fun q => q.write && q.func == p.func && !q.dbgo

def State.setPieces (s : State) (ps : List DmaPiece) : State := { s with hio := { s.hio with pieces := ps } }
def State.setPiece (s : State) (p q : DmaPiece) : State :=
  s.setPieces (s.hio.pieces.map fun x => if x = p then q else x)

/-- Issue what may be issued, and send the data of the writes that may go (R302). -/
def State.dmaPump (s : State) : State :=
  s.hio.pieces.foldl (fun s p0 =>
    match s.hio.pieces.find? fun q => q.job == p0.job && q.line == p0.line && q.write == p0.write && q.mask == p0.mask with
    | none => s
    | some p =>
      let a := 194 + p.func / 65536 / 4
      match p.rtid with
      | none =>
        if !p.write && heldBack s.hio.pieces p then s else
        match s.freeReq a with
        | none => s
        | some k =>
          (s.setPiece p { p with rtid := some k }).newReq a
            (s.ioReq a (if !p.write then .rdio else if p.mask = 2 ^ 64 - 1 then .wrf else .wrp) p.line p.job
              (if p.write then maskedBytes p.line p.mask p.data else []) p.poison)
      | some k =>
        if p.write && p.dbgo && !p.sent && !heldBack s.hio.pieces p then
          let s := s.setPiece p { p with sent := true }
          match s.req a k with
          | some m => s.sendWrd a m
          | none => s
        else s) s

/-- A read of a function is over: its completion goes out (R301). -/
def State.dmaReadEnd (s : State) (j : DmaJob) : State :=
  let mine := s.hio.pieces.filter fun p => p.job == j.id
  let s := { s with hio := { s.hio with jobs := s.hio.jobs.erase j, pieces := s.hio.pieces.filter fun p => p.job ≠ j.id } }
  let bytes := ((mine.flatMap fun p => p.data).drop (j.addr % 64)).take j.len
  s.emit (.pcie (j.func / 65536) (.completion (j.func % 65536) j.tag (if j.err then 4 else 0) (j.poison && !j.err)
    (if j.err then [] else bytes)))

/-- A read piece is over. -/
def State.dmaReadPiece (s : State) (p : DmaPiece) (data : List Byte) (poison err : Bool) : State :=
  let s := s.setPiece p { p with data := data, sent := true }
  match s.hio.jobs.find? fun j => j.id == p.job with
  | none => s.setPieces (s.hio.pieces.filter fun q => q.job ≠ p.job)
  | some j =>
    let j' := { j with open_ := j.open_ - 1, err := j.err || err, poison := j.poison || poison }
    let s := { s with hio := { s.hio with jobs := s.hio.jobs.map fun x => if x = j then j' else x } }
    if j'.open_ = 0 then s.dmaReadEnd j' else s

/-- The piece that holds an entry of a host-port controller's request table. -/
def State.pieceAt (s : State) (a rtid : Nat) : Option DmaPiece :=
  s.hio.pieces.find? fun p => p.rtid == some rtid && 194 + p.func / 65536 / 4 == a && !(!p.write && p.sent)

/-- The answer to a piece: DATA_IO, CMP or ERRCMP. A consumed poison is recorded and passed on (R411). -/
def State.dmaDone (s : State) (a rtid : Nat) (poison err : Bool) : State :=
  match s.pieceAt a rtid with
  | none => s
  | some p =>
    if p.write then (s.setPieces (s.hio.pieces.erase p)).dmaPump
    else
      let s := if poison then s.logErr { unitId := unitId 5 (p.func / 65536), cls := 0, code := 0x20, action := 0
                                         flags := flagPoison + flagPaddr, paddr := p.line * 64, req := a } else s
      (s.dmaReadPiece p (s.bytes (p.line * 64) 64) poison err).dmaPump

/-- DBGO for a piece: later writes and reads of the function may go on (R302). -/
def State.dmaDbgo (s : State) (a rtid : Nat) : State :=
  match s.pieceAt a rtid with
  | none => s
  | some p => (s.setPiece p { p with dbgo := true }).dmaPump

/-- The record of a refused DMA access (R299). (DEDUCED, log entry 66.) -/
def State.dmaDeny (s : State) (r rid p pa : Nat) : State :=
  s.logErr { unitId := unitId 5 r, cls := 0, code := 0x43, action := 2, flags := flagPanel + flagPaddr
             paddr := pa / 64 * 64, panel := s.handle p, req := 194 + r / 4, detail := rid }

/-- The bytes of a line that a range covers, as a mask. -/
def maskOf (line pa n : Nat) : Nat :=
  ((List.range 64).filter fun i => decide (pa ≤ line * 64 + i) && decide (line * 64 + i < pa + n)).foldl
    (fun m i => m + 2 ^ i) 0

def State.urAnswer (s : State) (r rid : Nat) (tag : Option Nat) : State :=
  let s := s.urCount r
  match tag with
  | some t => s.emit (.pcie r (.completion rid t 1 false []))
  | none => s

/-- A device's access to what is no memory: one that reaches a register leaves a record (R15), and all are answered UR. -/
def State.dmaStray (s : State) (r rid p pa : Nat) (tag : Option Nat) : State :=
  let s := match s.target pa with
    | .reg _ | .noReg | .ecam .. | .window .. => s.regDenied (194 + r / 4) p pa
    | _ => s
  s.urAnswer r rid tag

/-- DMA_REQUEST (R297, R299, R301, R302): a device's memory request. (DEDUCED, log entry 66.) -/
def execDmaRequest (r : RootPort) (rid : BitVec 16) (q : DmaReq) (s : State) : Host.Outcome State Fault Refusal :=
  if !s.rpServes r then .next s else
  let s := s.need (420 + r.val / 4)
  let a := 194 + r.val / 4
  let tag := match q with
    | .read _ _ t _ => some t.val
    | .unsupported t => some t.val
    | .write .. => none
  match s.funcOf r rid.toNat with
  | none => .next (s.urAnswer r rid.toNat tag)
  | some e =>
    let f := func0R (r.val / 4) e
    let p := s.funcPanel r e
    if !s.flag f F.hpFunc0.BME then .next (s.urAnswer r rid.toNat tag) else
    let func := r.val * 65536 + rid.toNat
    let id := s.hio.nextJob
    match q with
    | .unsupported _ => .next (s.urAnswer r rid.toNat tag)
    | .read addr len t ro =>
      let pa := addr.toNat
      let n := len.val + 1
      let ls := linesOf pa n
      if pa / 4 = 0x7F00C8000000 / 4 then .next (s.urAnswer r rid.toNat tag)
      else if ls.any fun l => !s.dmaTarget (l * 64) then .next (s.dmaStray r rid.toNat p pa tag)
      else match ls.find? fun l => !s.dmaOk a p l false with
        | some l => .next ((s.dmaDeny r rid.toNat p (l * 64)).emit (.pcie r (.completion rid.toNat t 4 false [])))
        | none =>
          let strict := !(ro && s.flag f F.hpFunc0.ROK)
          let ps := ls.map fun l =>
            ({ job := id, func := func, write := false, line := l, mask := 0, data := [], poison := false, strict := strict
               rtid := none, dbgo := false, sent := false } : DmaPiece)
          let j : DmaJob := { id := id, func := func, tag := t, addr := pa, len := n, open_ := ls.length, err := false
                              poison := false }
          .next ({ s with hio := { s.hio with nextJob := id + 1, jobs := s.hio.jobs ++ [j]
                                              pieces := s.hio.pieces ++ ps } }).dmaPump
    | .write addr data ep ro =>
      let pa := addr.toNat
      if data = [] then .next s
      else if pa = 0x7F00C8000000 ∧ data.length = 4 then .next (s.intMessage r p (ofLeBytes data))
      else if pa / 4 = 0x7F00C8000000 / 4 then .next (s.urCount r)
      else
        let ls := linesOf pa data.length
        if ls.any fun l => !s.dmaTarget (l * 64) then .next (s.dmaStray r rid.toNat p pa none) else
        let strict := !(ro && s.flag f F.hpFunc0.ROK)
        let bad := ls.filter fun l => !s.dmaOk a p l true
        let s := bad.foldl (fun s l => s.dmaDeny r rid.toNat p (l * 64)) s
        let ps := (ls.filter fun l => s.dmaOk a p l true).map fun l =>
          ({ job := id, func := func, write := true, line := l, mask := maskOf l pa data.length
             data := (List.range 64).map fun i => data.getD (l * 64 + i - pa) 0, poison := ep, strict := strict
             rtid := none, dbgo := false, sent := false } : DmaPiece)
        .next ({ s with hio := { s.hio with nextJob := id + 1, pieces := s.hio.pieces ++ ps } }).dmaPump

/-- Boundary: ages of requests and function-level resets. -/
def State.hioBoundary (s : State) : State :=
  { s with hio := { s.hio with
      reqs := s.hio.reqs.map fun q => { q with age := q.age + 1 }
      flr := s.hio.flr.map fun e => (e.1, e.2 + 1) } }

end Sys2Proof.Machine
end

