-- ==== Sys2Proof/Machine/Weft.lean ====
section
/-! DEFINITION. The Weft (R235–R268): link bring-up, frames and forwarding, requests to and from other modules, Ockar
packets, link state and route repair. -/

namespace Sys2Proof.Machine

/-! ### Route repair (R264, R265) -/

/-- The neighbour of a module in a dimension and direction (R237). -/
def State.neighbour (s : State) (m dim dir : Nat) : Nat :=
  let k := s.ring_ dim
  let c := coord m dim
  let c' := if dir = 0 then (c + 1) % k else (c + k - 1) % k
  match dim with
  | 0 => setBits m 11 8 c'
  | 1 => setBits m 7 4 c'
  | _ => setBits m 3 0 c'

/-- A module reports its link toward `b` in a dimension and direction as UP (R264, R265): the own module by the port itself. Another
module's LINKST gives its ports' peers and not their directions; only in a ring of two, where both links join the same modules, do
the ports matter, and they are taken as Table WFT-1 numbers them. (DEDUCED, log entry 134.) -/
def State.reports (s : State) (a b dim dir : Nat) : Bool :=
  if a = s.myId then
    match s.portFor dim dir with
    | some p => s.portUp p && s.fld (pstatR p) F.wpPstat.PEER == b
    | none => false
  else match SMap.find s.weft.links' a with
    | some r => r.peers.zipIdx.any fun e => bit r.up e.2 && e.1 == b && (s.ring_ dim != 2 || e.2 == 2 * dim + dir)
    | none => false

/-- A link is usable: both ends report it UP, each naming the other. (DEDUCED, log entry 134.) -/
def State.usable (s : State) (a b dim dir : Nat) : Bool := s.reports a b dim dir && s.reports b a dim (1 - dir)

/-- Every link of `n` steps from a module is usable: where they end. -/
def State.walkRing (s : State) (dim dir : Nat) : Nat → Nat → Option Nat
  | 0, m => some m
  | n + 1, m =>
    let b := s.neighbour m dim dir
    if s.usable m b dim dir then s.walkRing dim dir n b else none

/-- A route word whose every link is usable. -/
def State.wordUsable (s : State) (w : Nat) : Bool :=
  bit w 31 && ((List.range 3).foldl (fun m k =>
    m.bind fun m =>
      let p := legPort w k
      s.walkRing (s.portDim p) (s.portDir p) (legCnt w k) m) (some s.myId)).isSome



/-! ### Ends of the module's own requests (R258, R394) -/

/-- A forwarded packet ends without a reply: TIMEOUT, DETAIL the WERR code (R394). -/
def State.forwardFails (s : State) (tag code : Nat) : State :=
  match s.thm.forwards.find? fun f => f.1 == tag with
  | none => s
  | some f =>
    let s := { s with thm := { s.thm with forwards := s.thm.forwards.erase f } }
    s.refuseReq { via := f.2.1, head := f.2.2.1, payload := [], mac := [], at_ := s.stitch, tick := f.2.2.2, answered := false } stTimeout noOff code

/-- An outbound entry completes with a WERR code (R258): a load takes a precise machine check, a store an imprecise one,
a frame stops its bobbin (R290), a forwarded packet is answered. -/
def State.outError (s : State) (k code : Nat) : State :=
  match s.outEnt k with
  | none => s
  | some x =>
    let s := s.endOut k
    match x.use with
    | .load th => s.resumeLoad th (.error false)
    | .store th seat => s.storeFault seat (th % 2)
    | .eth (some b) => if s.bobState b = bRun then s.stopBob b 0x02 else s
    | .ockar (some tag) => s.forwardFails tag code
    | _ => s

/-- The entry that a response without a class names: writes first, then messages, then packets. -/
def State.outAny (s : State) (src seq : Nat) : Option (Nat × OutEnt) :=
  match s.outBySeq src 4 seq with
  | some e => some e
  | none => match s.outBySeq src 5 seq with
    | some e => some e
    | none => s.outBySeq src 6 seq

/-- RDRESP (R258): a read's data; poison is consumed by the load. -/
def execRdresp (c : Cell) (s : State) : Host.Outcome State Fault Refusal :=
  match s.outBySeq (cellSrc c) 4 (cf c cTAG) with
  | none => .next s
  | some (k, x) =>
    let s := s.endOut k
    match x.use with
    | .load th =>
      match (s.thr th).stall with
      | some w =>
        if cf c cPOISON = 1 then .next (s.resumeLoad th (.error true))
        else .next (s.resumeLoad th (.ok (((cellBytes c).drop (w.cur.x.pa % 64)).take w.cur.n)))
      | none => .next s
    | _ => .next s

/-- WACK (R258): a write, message or packet has been taken. -/
def execWack (c : Cell) (s : State) : Host.Outcome State Fault Refusal :=
  match s.outAny (cellSrc c) (cf c cTAG) with
  | some (k, _) => .next (s.endOut k)
  | none => .next s

/-- WERR (R258): the entry completes with the code in ARG[7:0]. (DEDUCED, log entry 63.) -/
def execWerr (c : Cell) (s : State) : Host.Outcome State Fault Refusal :=
  match s.outAny (cellSrc c) (cf c cTAG) with
  | some (k, _) => .next (s.outError k (cf c cARG % 256))
  | none => .next s

/-- Distance of a SEQ from another, modulo 65,536. -/
def seqFrom (a b : Nat) : Nat := (a + 65536 - b) % 65536

/-- WRETRY (R252): the class toward that target stops; its cells from the refused SEQ on wait for GO. -/
def execWretry (c : Cell) (s : State) : Host.Outcome State Fault Refusal :=
  let dst := cellSrc c
  let cls := cf c cARG % 8
  let seq := cf c cTAG
  if (s.outBySeq dst cls seq).isNone then .next s else
  .next (s.setWeft fun x => { x with
    stopped := SMap.insert x.stopped (dst * 8 + cls) seq
    own := x.own.filter fun e => e.1.isSome || cf e.2 cDST ≠ dst || cf e.2 cCLASS ≠ cls ||
      decide (32768 ≤ seqFrom (cf e.2 cTAG) seq) })

/-- WFT_GO (R252): every cell from the SEQ named on is sent again, in order. -/
def execWftGo (c : Cell) (s : State) : Host.Outcome State Fault Refusal :=
  let dst := cellSrc c
  let cls := cf c cARG % 8
  let seq := cf c cTAG
  if (s.stoppedAt dst cls).isNone then .next s else
  let s := s.setWeft fun x => { x with stopped := SMap.remove x.stopped (dst * 8 + cls) }
  let cells := s.weft.out.flatMap fun e => match e.2 with
    | some x => if x.dst = dst ∧ x.cls = cls then x.cells else []
    | none => []
  let again := sortBy (fun a b => decide (seqFrom (cf a cTAG) seq < seqFrom (cf b cTAG) seq))
    (cells.filter fun a => decide (seqFrom (cf a cTAG) seq < 32768))
  .next (again.foldl (fun s a => s.sendCell a) s)

/-- WFT_TIMEOUT (R258, R394): an outbound entry, or a forwarded packet, has waited RAS.TMO4 stitches.
(DESIGN CHOICE, log entry 9.) -/
def execWftTimeout (t : WftTimer) (s : State) : Host.Outcome State Fault Refusal :=
  let tmo := s.rd { kind := .rasTmo, i := 4 }
  match t with
  | .entry k =>
    match s.outEnt k with
    | none => .next s
    | some x =>
      if x.age.all fun a => decide (a < tmo) then .next s else
      let srch := (x.cells.head?.map fun c => cf c cSRCH).getD 0
      let s := s.logErr { unitId := unitId 0x0D 0, cls := 0, code := 0x32, action := 2, flags := flagPanel
                          panel := srch, req := 198, detail := tmo }
      .next (s.outError k 0x07)
  | .forward tag =>
    match s.thm.forwards.find? fun f => f.1 == tag.toNat with
    | none => .next s
    | some f => if s.ticks < f.2.2.2 + tmo then .next s else .next (s.forwardFails tag.toNat 0x07)

/-! ### Apertures (R254) -/

/-- APERTURE_ACCESS (R254): the oldest aperture access takes a free outbound entry and becomes RD64 or WR64; toward an
unreachable module it is answered UNREACHABLE (R246). -/
def execApertureAccess (s : State) : Host.Outcome State Fault Refusal :=
  match s.weft.apq, s.freeOut with
  | q :: rest, some k =>
    let s := s.setWeft fun x => { x with apq := rest }
    let use := if q.store then OutUse.store q.th q.seat else OutUse.load q.th
    match s.wordTo q.m with
    | none =>
      .next ((s.setOut k (some { use := use, dst := q.m, cls := 4, cells := [], age := none })).outError k 0x01)
    | some w =>
      let srch := s.handle (s.panelOf q.th)
      let at_ := q.off % 64
      let mask := (List.range q.n).foldl (fun m i => m + 2 ^ (at_ + i)) 0
      let payload := if q.store then List.replicate at_ 0 ++ q.data ++ List.replicate (64 - at_ - q.n) 0 ++ leBytes 8 mask
        else []
      .next (s.openOut k use q.m 4 1 fun _ seq =>
        mkCell (if q.store then 0x12 else 0x10) q.m srch seq (q.off - at_) false false w payload)
  | _, _ => .next s

/-! ### Link state (R264, R265) -/

/-- Thimble recomputes every destination's selection; requests on a word that became unusable end with ROUTE (R265). -/
def State.repair (s : State) : State :=
  let s := (List.range 4096).foldl (fun s d =>
    if d = s.myId then s else
    match (List.range 4).find? fun w => s.wordUsable (s.rd (routeR d w)) with
    | some w => (s.setSel d w).setFld (pselR d) F.wpPsel.UNREACH 0
    | none => s.setFld (pselR d) F.wpPsel.UNREACH 1) s
  let reach := ((List.range 4096).filter fun d => d ≠ s.myId && !s.flag (pselR d) F.wpPsel.UNREACH).length + 1
  let f : Reg := { kind := .wpFstat }
  let s := (s.setFld f F.wpFstat.REACH reach).addFld f F.wpFstat.REPAIRS 1
  let stale := s.weft.out.filterMap fun e => match e.2 with
    | some x =>
      if x.cells.any fun c => cf c cROUTE ≠ 0 && !s.wordUsable (cf c cROUTE) then some e.1 else none
    | none => none
  stale.foldl (fun s k => s.outError k 0x06) s

/-- A port entered or left UP: the module originates LINKST and repairs its routes. -/
def State.linkChange (s : State) : State := s.originate.repair

/-- LINKST (R264): accepted when later than the last of its origin; recorded and flooded on; a change of what the origin reports
has the routes repaired (R265). -/
def execLinkst (p : Port) (c : Cell) (s : State) : Host.Outcome State Fault Refusal :=
  let m := cd c 0 2 % 4096
  let seq := cd c 4 4
  let newer := match SMap.find s.weft.links' m with
    | some r => decide (0 < (seq + 2 ^ 32 - r.seq) % 2 ^ 32) && decide ((seq + 2 ^ 32 - r.seq) % 2 ^ 32 < 2 ^ 31)
    | none => true
  if !s.portUp p || m == s.myId || !newer then .next s else
  let r : LinkRec := { seq := seq, up := cd c 8 1, peers := (List.range 8).map fun i => cd c (10 + 2 * i) 2 % 4096, age := 0 }
  let same := match SMap.find s.weft.links' m with
    | some o => o.up == r.up && o.peers == r.peers
    | none => false
  let s := (s.setWeft fun x => { x with links' := SMap.insert x.links' m r }).flood c (some p.val)
  .next (if same then s else s.repair)

/-- LINKST_ORIGINATION (R264): every 100,000 stitches. -/
def execLinkstOrigination (s : State) : Host.Outcome State Fault Refusal :=
  if 100000 ≤ s.weft.sinceOrig then .next s.originate else .next s

/-- LINKST_ORIGIN_ABSENT (R264): an origin silent for 300,000 stitches is absent. -/
def execLinkstOriginAbsent (m : Fin 4096) (s : State) : Host.Outcome State Fault Refusal :=
  match SMap.find s.weft.links' m with
  | some r =>
    if 300000 ≤ r.age then .next (s.setWeft fun x => { x with links' := SMap.remove x.links' m }).repair else .next s
  | none => .next s

/-! ### Bring-up (R241, R263) -/

/-- A port starts bring-up at step 1, with the role, dimension and direction that WP.PCTL has now (R235); one that is no Weft port any
more is DOWN. What its input buffers held is lost: the peer gets 16 credits for every channel. (DESIGN CHOICE, log entry 135.) -/
def State.startLink (s : State) (p : Nat) : State :=
  if s.unitOut 4 p then s else
  let was := s.portUp p
  let wft := s.isWeft p
  let s := s.takePctl p
  if !s.isWeft p then
    if !wft then s else
    let s := ((s.setFld (pstatR p) F.wpPstat.STATE lsDown).setFld (pctlR p) F.wpPctl.RETRAIN 0).setLink p LinkSt.init
    if was then s.linkChange else s
  else
    let s := (s.setFld (pstatR p) F.wpPstat.STATE lsTraining).setFld (pctlR p) F.wpPctl.RETRAIN 0
    let s := s.setLink p LinkSt.init
    if was then s.linkChange else s

/-- A link that was in use fails (R240): FAILED, its replay buffer is discarded, the error recorded. A bring-up that
fails goes DOWN. -/
def State.linkFails (s : State) (p : Nat) : State :=
  let st := s.linkState p
  let s := s.addFld (pstatR p) F.wpPstat.FAILS 1
  if st = lsUp then
    let s := s.setFld (pstatR p) F.wpPstat.STATE lsFailed
    let x := s.link p
    let s := s.setLink p { LinkSt.init with bufs := x.bufs }
    let s := s.logErr { unitId := unitId 4 p, cls := 0, code := 0x30, action := 0 }
    s.linkChange
  else (s.setFld (pstatR p) F.wpPstat.STATE lsDown).setLink p LinkSt.init

/-- The HELLO of this module on a port (Table WFT-9). -/
def State.helloCell (s : State) (p : Nat) : Cell :=
  mkLocal 0x02 s.myId (s.handle 0) 0 0
    (leBytes 1 1 ++ leBytes 1 (p + s.portDim p * 8 + s.portDir p * 32) ++
     leBytes 2 s.myId ++ leBytes 1 (s.fld fcfgR F.wpFcfg.KX + 16 * s.fld fcfgR F.wpFcfg.KY) ++
     leBytes 1 (s.fld fcfgR F.wpFcfg.KZ) ++ leBytes 2 0 ++ leBytes 8 (s.rd { kind := .wpFname }) ++
     leBytes 16 s.sw.store.pers.serial ++
     leBytes 4 (15 + 16 * s.fld { kind := .tuCtrl } F.tuCtrl.MASTER_ELIG))

/-- PCS_LOCK (R241, Table WFT-4 step 3): lock of a training port; NULL frames from SEQ 0 return 16 credits for every
channel, and HELLO follows. (DESIGN CHOICE, log entry 135.) -/
def execPcsLock (p : Port) (s : State) : Host.Outcome State Fault Refusal :=
  if !s.isWeft p || s.linkState p ≠ lsTraining then .next s else
  let s := s.setFld (pstatR p) F.wpPstat.STATE lsPcs
  let s := s.setLink p { LinkSt.init with sndSeq := 0, rcvSeq := 0, owed := (List.range 14).map fun vc => (vc, 16) }
  let s := (List.range 42).foldl (fun s _ => s.sendNull p) s
  .next (s.sendLocal p (s.helloCell p))

/-- PCS_LOCK_LOSS (R240): a port loses lock. -/
def execPcsLockLoss (p : Port) (s : State) : Host.Outcome State Fault Refusal :=
  let st := s.linkState p
  if !s.isWeft p || st == lsDown || st == lsFailed then .next s else .next (s.linkFails p)

/-- LINK_BRINGUP_RESTART (R241): a port that is DOWN after a failure starts again after 100,000 stitches. -/
def execLinkBringupRestart (p : Port) (s : State) : Host.Outcome State Fault Refusal :=
  if s.isWeft p && s.linkState p == lsDown && decide (100000 ≤ (s.link p).since) then .next (s.startLink p) else .next s

/-- WP_PCTL_RETRAIN (R235): bring-up starts again. -/
def execWpPctlRetrain (p : Port) (s : State) : Host.Outcome State Fault Refusal := .next (s.startLink p)

/-- HELLO (R263): the peer's identity and shape against the port's own. -/
def execHello (p : Port) (c : Cell) (s : State) : Host.Outcome State Fault Refusal :=
  let st := s.linkState p
  if !s.isWeft p || st == lsDown || st == lsTraining || st == lsFailed then .next s else
  let dim := s.portDim p
  let dir := s.portDir p
  let info := cd c 1 1
  let id := cd c 2 2 % 4096
  let shape := cd c 4 1 == s.fld fcfgR F.wpFcfg.KX + 16 * s.fld fcfgR F.wpFcfg.KY &&
    cd c 5 1 % 16 == s.fld fcfgR F.wpFcfg.KZ && cd c 8 8 == s.rd { kind := .wpFname }
  let cabling := cd c 0 1 == 1 && bits info 4 3 == dim && bits info 5 5 == 1 - dir && id == s.neighbour s.myId dim dir
  let leave := fun (s : State) (dest : Nat) =>
    let s := s.setFld (pstatR p) F.wpPstat.STATE dest
    if st == lsUp then s.linkChange else s
  if !shape then .next (leave s lsIsolated)
  else if !cabling then .next (leave s lsMiscabled)
  else
    let s := (s.setFld (pstatR p) F.wpPstat.PEER id).setFld (pstatR p) F.wpPstat.PEERPORT (bits info 2 0)
    if st = lsUp ∨ st = lsHello then .next s
    else
      let s := s.setFld (pstatR p) F.wpPstat.STATE lsHello
      let s := s.setLink p { s.link p with since := 0 }
      .next { s with time := { s.time with sinceDelay := SMap.remove s.time.sinceDelay p.val } }

/-- DELAY_RESP (R34, Table WFT-4 steps 5 and 6): the answer to the open exchange; `roundTrip` is the time from the
request's departure to this arrival in units of 2^-16 ns. The one-way delay goes to WP.LDLY, and a port in HELLO becomes
UP. (DEDUCED, log entry 130.) -/
def execDelayResp (p : Port) (c : Cell) (roundTrip : BitVec 64) (s : State) : Host.Outcome State Fault Refusal :=
  match SMap.find s.time.delayReq p.val with
  | none => .next s
  | some _ =>
    let s := { s with time := { s.time with delayReq := SMap.remove s.time.delayReq p.val } }
    let d := (roundTrip.toNat - cd c 16 8) / 2 / 4096
    let s := s.setFld { kind := .wpLdly, i := p } F.wpLdly.DELAY (min d 0xFFFF)
    if s.linkState p = lsHello then .next (s.setFld (pstatR p) F.wpPstat.STATE lsUp).linkChange else .next s

/-! ### Frames (R240, R241) -/

/-- Unacknowledged frames that an ACK does not cover. -/
def unacked (ack : Nat) (l : List (Nat × Cell × Nat)) : List (Nat × Cell × Nat) :=
  if l.any fun e => e.1 == ack then (l.dropWhile fun e => e.1 ≠ ack).drop 1 else l

/-- The link header of a good frame: acknowledgement, credits, and a request to resend, which the fifth time fails the
link. -/
def State.linkHeader (s : State) (p : Nat) (h : Nat) : State :=
  let x := s.link p
  let left := unacked (bits h 23 12) x.replay
  let vc := bits h 31 28
  let s := s.setLink p { x with replay := left
                                credits := SMap.put (fun _ => 0) x.credits vc (SMap.get (fun _ => 0) x.credits vc + bits h 34 32) }
  if !bit h 35 ∨ left = [] then s
  else if left.any fun e => decide (4 ≤ e.2.2) then s.linkFails p
  else
    let s := s.addFld (lcntR p) F.wpLcnt.REPLAY left.length
    let s := s.setLink p { s.link p with replay := left.map fun e => (e.1, e.2.1, e.2.2 + 1) }
    left.foldl (fun s e => s.frameOut p e.1 e.2.1) s

/-- A credit of a channel is owed to the peer. -/
def State.owe' (s : State) (p vc : Nat) : State :=
  let x := s.link p
  s.setLink p { x with owed := SMap.put (fun _ => 0) x.owed vc (SMap.get (fun _ => 0) x.owed vc + 1) }

/-- A cell arrives in order: discarded under R243, handed to the module's own units, or buffered to go on. -/
def State.cellIn (s : State) (p : Nat) (c : Cell) : State :=
  let typ := cf c cTYPE
  let vc := cellVc c
  let st := s.linkState p
  let discard := (s.addFld (lcntR p) F.wpLcnt.DISCARD 1).owe' p vc
  if cellClass typ ≠ some (cf c cCLASS) then discard
  else if cf c cLOCAL = 1 then
    if st = lsUp ∨ typ = 0x02 ∨ (typ = 0x01 ∧ st = lsHello) then (s.owe' p vc).emit (.cell (some p) c) else discard
  else if st ≠ lsUp then discard
  else
    let x := s.link p
    let b := SMap.get (fun _ => []) x.bufs vc
    if 16 ≤ b.length then discard else s.setLink p { x with bufs := SMap.put (fun _ => []) x.bufs vc (b ++ [c]) }

/-- WEFT_FRAME (R240): a frame arrives at a port with lock. The port answers with a frame of its own, so that
acknowledgements and credits flow. (DESIGN CHOICE, log entry 58.) -/
def execWeftFrame (p : Port) (f : WFrame) (s : State) : Host.Outcome State Fault Refusal :=
  let st := s.linkState p
  if !s.isWeft p || st == lsDown || st == lsTraining || st == lsFailed then .next s else
  let s := s.need (412 + p)
  let h := f.hdr.toNat
  if !f.fecOk || f.crc ≠ frameCrc f.hdr f.cell then
    let s := s.addFld (lcntR p) F.wpLcnt.CRCERR 1
    .next ((s.setLink p { s.link p with nak := true, discard := true }).sendNull p)
  else
    let s := s.linkHeader p h
    if s.linkState p = lsFailed ∨ s.linkState p = lsDown then .next s else
    let x := s.link p
    let seq := bits h 11 0
    if cf f.cell cTYPE = 0x00 then .next s
    else if seq = (x.rcvSeq + 1) % 4096 then
      .next (((s.setLink p { x with rcvSeq := seq, discard := false }).cellIn p f.cell).sendNull p)
    else if x.discard || decide (2048 ≤ (x.rcvSeq + 4096 - seq) % 4096) then
      .next ((s.setLink p { x with nak := !x.discard, discard := true }).sendNull p)
    else .next (s.sendNull p)

/-! ### Forwarding (R247, R249, R288) -/

/-- The cell that waits first in an input channel. -/
def State.headCell (s : State) (p vc : Nat) : Option Cell := (SMap.get (fun _ => []) (s.link p).bufs vc).head?

/-- Inputs that wait for an output, by (input, class): the ports' channels and the module's own queue.
(DESIGN CHOICE, log entry 101.) -/
def State.contend (s : State) (q : Nat) : List (Nat × Nat) :=
  let want := fun (inj : Bool) (c : Cell) => match s.cellHop inj c with
    | .out o c' => o == q && s.canLeave q c'
    | _ => false
  ((List.range 8).flatMap fun p => ((List.range 14).filter fun vc => match s.headCell p vc with
      | some c => want false c
      | none => false).map fun vc => (p, vc / 2)) ++
  ((s.weft.own.filter fun e => match e.1 with
      | some o => o == q && s.canLeave q e.2
      | none => want true e.2).map fun e => (8, cf e.2 cCLASS))

/-- A routed cell leaves by an output if its turn has come; a port in RET wakes for it (R267, R449). `pop` takes it from where it
stands. -/
def State.leave (s : State) (inp q : Nat) (c : Cell) (pop : State → State) : State :=
  let ks := s.contend q
  let cls := cf c cCLASS
  if !s.canLeave q c || !s.weft.arb.mayGo q ks inp cls then s else
  let s := ((pop s).need (412 + q)).setWeft fun x => { x with arb := x.arb.served q inp cls ks }
  s.sendFrame q c

/-- Whether an ETH or MSG cell of the module is eligible at its first port, and its charge (R288). -/
def State.cellFunded (s : State) (q : Nat) (c : Cell) : Bool :=
  (cf c cTYPE ≠ 0x30 && cf c cTYPE ≠ 0x31) || s.portOpen (cf c cSRCH % 512) q 0 (weftPool q 0)
def State.cellCharge (s : State) (q : Nat) (c : Cell) : State :=
  if cf c cTYPE ≠ 0x30 ∧ cf c cTYPE ≠ 0x31 then s else s.portCharge (cf c cSRCH % 512) q 0 (weftPool q 0) 128

/-- CELL_FORWARD (R247): the first cell of an input channel, or a cell of the module's own queue that no earlier one of
its class to the same place is ahead of, is delivered, discarded, or sent on when credit and arbitration allow. -/
def execCellForward (src : CellFrom) (s : State) : Host.Outcome State Fault Refusal :=
  match src with
  | .link p cls dl =>
    let vc := 2 * cls.val + b2n dl
    match s.headCell p vc with
    | none => .next s
    | some c =>
      let pop := fun (s : State) =>
        let x := s.link p
        (s.setLink p { x with bufs := SMap.put (fun _ => []) x.bufs vc ((SMap.get (fun _ => []) x.bufs vc).drop 1) }).owe' p vc
      match s.cellHop false c with
      | .deliver => .next ((pop s).emit (.cell none c))
      | .bad => .next ((pop s).addFld (lcntR p) F.wpLcnt.DISCARD 1)
      | .out q c' => .next (s.leave p q c' pop)
  | .own n =>
    match s.weft.own[n.val]? with
    | none => .next s
    | some (loc, c) =>
      let ahead := (s.weft.own.take n.val).any fun e =>
        cf e.2 cCLASS == cf c cCLASS && e.1 == loc && cf e.2 cDST == cf c cDST
      if ahead then .next s else
      let pop := fun (s : State) => s.setWeft fun x => { x with own := x.own.eraseIdx n.val }
      match loc with
      | some q => .next (s.leave 8 q c pop)
      | none =>
        match s.cellHop true c with
        | .deliver => .next (((pop s).armOut c).emit (.cell none c))
        | .bad => .next ((pop s).armOut c)
        | .out q c' =>
          if !s.cellFunded q c then .next s else
          .next (s.leave 8 q c' fun s => ((pop s).armOut c).cellCharge q c)

/-! ### Barriers (R260, R261) -/

/-- BARARR (R260): an arrival reaches the root. -/
def execBararr (c : Cell) (s : State) : Host.Outcome State Fault Refusal :=
  .next (s.barCount (cf c cARG % 64) (cf c cTAG % 256) (cellSrc c))

/-- BARREL (R261): the first copy of a release is flooded on and becomes due at RSTITCH. -/
def execBarrel (p : Port) (c : Cell) (s : State) : Host.Outcome State Fault Refusal :=
  let root := bits (cf c cARG) 17 6
  let rctx := bits (cf c cARG) 5 0
  let gen := cf c cTAG % 256
  if !s.portUp p || decide ((root, rctx, gen) ∈ s.weft.relSeen) then .next s
  else .next ((s.flood c (some p.val)).barLearn root rctx gen (cd c 0 8))

/-! ### Requests from other modules (R251–R253, R256) -/

/-- The member table of a panel lists a handle (R257); panel 0's lists panel 0 of every module. -/
def State.member (s : State) (p handle : Nat) : Bool :=
  if p = 0 then handle % 512 == 0 else SMap.find (s.panel p).members (handle / 512) == some (handle % 512)

def State.setIn (s : State) (k : Nat) (e : Option InEnt) : State :=
  s.setWeft fun x => { x with inb := SMap.put (fun _ => none) x.inb k e }

/-- An inbound request is over: its answer goes out and its entry is free. -/
def State.inDone (s : State) (k : Nat) (e : InEnt) : State :=
  let s := s.setIn k none
  let s := if e.err then s.respond 0x24 e.src e.srch e.seq 0x04 false []
    else if e.typ ≤ 0x11 then
      s.respond 0x20 e.src e.srch e.seq e.off e.poison (s.bytes (e.line * 64) (if e.typ = 0x10 then 64 else 128))
    else s.respond 0x21 e.src e.srch e.seq 0 false []
  s.freed 4

/-- Issue the requests that R253 lets go: a write behind every earlier request of its source, a read behind every
earlier write. -/
def State.inPump (s : State) : State :=
  (sortBy (fun (a b : Nat × Nat) => decide (a.2 < b.2)) (s.weft.inb.filterMap fun e => e.2.map fun x => (e.1, x.ord))).foldl
    (fun s ko =>
      match s.inEnt ko.1 with
      | none => s
      | some e =>
        let write := decide (0x12 ≤ e.typ)
        let wait := s.weft.inb.any fun x => match x.2 with
          | some y => y.src == e.src && decide (y.ord < e.ord) && (write || decide (0x12 ≤ y.typ))
          | none => false
        if e.issued || wait then s else
        let n := if e.typ % 2 = 0 then 1 else 2
        let free := ((List.range (reqSlots 198)).filter fun r => (s.req 198 r).isNone).length
        if free < n then s else
        let s := s.setIn ko.1 (some { e with issued := true, open_ := n })
        (List.range n).foldl (fun s i =>
          let mask := e.mask / 2 ^ (64 * i) % 2 ^ 64
          s.newReq 198 (s.ioReq 198 (if !write then .rdio else if mask = 2 ^ 64 - 1 then .wrf else .wrp) (e.line + i) ko.1
            (if write then maskedBytes (e.line + i) mask (e.data.drop (64 * i)) else []) e.poison)) s) s

/-- A part request of an inbound entry has been answered (R253, R256). -/
def State.inPart (s : State) (k : Nat) (poison err : Bool) : State :=
  match s.inEnt k with
  | none => s
  | some e =>
    let e := { e with open_ := e.open_ - 1, err := e.err || err, poison := e.poison || poison }
    let s := if poison && decide (e.typ ≤ 0x11) then s.logErr
        { unitId := unitId 0x0D 0, cls := 0, code := 0x20, action := 0, flags := flagPoison + flagPaddr
          paddr := e.line * 64, req := 198 } else s
    if e.open_ = 0 then (s.inDone k e).inPump else s.setIn k (some e)

/-- The check of R256: the local line of an access, when the inbound map, the member table and the Page Owner Table
allow it. -/
def State.inCheck (s : State) (off srch : Nat) (w : Bool) : Option Nat :=
  let m := SMap.get (fun _ => 0) s.weft.inmap (off / 65536)
  let g := bits m 21 0
  let p := bits m 60 52
  let e := s.potFor 198 g
  if bit m 63 && (if w then bit m 61 else bit m 62) && s.member p srch && potKind e == kOwned && potPanel e == p &&
      (if w then potW e else potR e) then some (g * 1024 + off % 65536 / 64)
  else none

/-- A remote read or write is checked and taken (R252, R256). -/
def State.remoteReq (s : State) (c : Cell) : State :=
  let free := (List.range 128).find? fun k => (s.inEnt k).isNone
  if !s.mayTake c free.isSome false then s.refuseCell c else
  let s := s.unblock c
  let typ := cf c cTYPE
  let w := decide (0x12 ≤ typ)
  let off := cf c cARG
  if !s.flag fcfgR F.wpFcfg.EN then (s.werr c 0x03).freed 4 else
  match s.inCheck off (cf c cSRCH) w, free with
  | some line, some k =>
    let n := if typ % 2 = 0 then 64 else 128
    let mask := if typ = 0x12 then cd c 64 8 else 2 ^ n - 1
    let e : InEnt := { src := cellSrc c, srch := cf c cSRCH, seq := cf c cTAG, typ := typ, off := off, line := line
                       data := (cellBytes c).take n, mask := mask, open_ := 0, err := false, issued := false
                       poison := w && cf c cPOISON == 1, ord := s.weft.nextIn }
    (((s.setIn k (some e)).setWeft fun x => { x with nextIn := x.nextIn + 1 }).inPump).freed 4
  | _, _ =>
    let s := s.logErr { unitId := unitId 0x0D 0, cls := 0, code := 0x31, action := 2, flags := flagPanel
                        panel := cf c cSRCH, req := 198, detail := 0x02 }
    (s.werr c 0x02).freed 4

/-- RD64 (R256). -/
def execRd64 (c : Cell) (s : State) : Host.Outcome State Fault Refusal := .next (s.remoteReq (setCf c cTYPE 0x10))
/-- RD128 (R256). -/
def execRd128 (c : Cell) (s : State) : Host.Outcome State Fault Refusal := .next (s.remoteReq (setCf c cTYPE 0x11))
/-- WR64 (R256): the bytes that the mask names. -/
def execWr64 (c : Cell) (s : State) : Host.Outcome State Fault Refusal := .next (s.remoteReq (setCf c cTYPE 0x12))
/-- WR128 (R253): two WRF. -/
def execWr128 (c : Cell) (s : State) : Host.Outcome State Fault Refusal := .next (s.remoteReq (setCf c cTYPE 0x13))

/-! ### Messages (R259, R262, R274) -/

def State.setPartials (s : State) (l : List Partial) : State := s.setWeft fun x => { x with partials := l }
def State.partialOf (s : State) (typ src : Nat) : Option Partial :=
  s.weft.partials.find? fun x => x.typ == typ && x.src == src

/-- MSG (R259): a segment for a bobbin. The first takes the next posted buffer; the last completes it. Each one's bytes pass the
Page Owner check anew (R6, R281). -/
def execMsg (c : Cell) (s : State) : Host.Outcome State Fault Refusal :=
  let arg := cf c cARG
  let b := arg % 16384
  let seg := bits arg 18 14
  let len := bits arg 31 19
  let srch := cf c cSRCH
  let p := s.bobPanel b
  if !s.mayTake c true (seg ≠ 0) then .next (s.refuseCell c) else
  let s := ((s.unblock c).freed 5).count p cntRxFab 128
  let last := cf c cLAST == 1
  let drop := fun (s : State) (x : Partial) => s.setPartials (s.weft.partials.erase x)
  let put := fun (s : State) (a : Nat) =>
    let bs := (cellBytes c).take (min 128 (len - 128 * seg))
    let s := s.homeStore p (a + 128 * seg) bs
    if cf c cPOISON = 1 then (linesOf (a + 128 * seg) bs.length).foldl (fun s l =>
      s.setMeta l { ktag := p, poison := true }) s else s
  let finish := fun (s : State) (a index : Nat) =>
    let s := put s a
    if !last then s else
    (s.owe b (complRec (s.stitch * 10000) len index 0x03 0 1 0 0 0 srch)).respond 0x21 (cellSrc c) srch (cf c cTAG) 0 false []
  if seg = 0 then
    let s := s.setPartials (s.weft.partials.filter fun x => x.typ ≠ 0x30 || x.src ≠ srch || x.arg ≠ b)
    let hold := fun (s : State) (buf : Option Nat) index =>
      if last then s else s.setPartials (s.weft.partials ++ [{ src := srch, typ := 0x30, arg := b, bytes := [], buf := buf, index := index }])
    if !(s.flag (bctlR b) F.neBctl.EN && s.flag (bctlR b) F.neBctl.MSGEN && s.bobState b == bRun && s.member p srch) then
      let s := s.logErr { unitId := unitId 6 0, cls := 0, code := 0x31, action := 2, flags := flagPanel, panel := srch
                          req := 193, detail := 0x02 }
      .next (hold (s.werr c 0x02) none 0)
    else
      let head := s.fld (bstatR b) F.neBstat.RQHEAD
      if idxSub (s.rd (rqtailR b)) head = 0 || s.cqFull b then .next (hold (s.werr c 0x05) none 0)
      else match s.rxBuffers b 1 with
        | .ok (some (a :: _)) =>
          let s := s.setFld (bstatR b) F.neBstat.RQHEAD ((head + 1) % 65536)
          .next (hold (finish s a head) (some a) head)
        | .error .errcmp => .next (hold ((s.stopBob b 0x02).werr c 0x04) none 0)
        | _ => .next (hold (s.werr c 0x02) none 0)
  else
    match s.weft.partials.find? fun x => x.typ == 0x30 && x.src == srch && x.arg == b with
    | none => .next s
    | some x =>
      let s := if last then drop s x else s
      match x.buf with
      | none => .next s
      | some a =>
        if s.bobState b = bRun && s.rangeOk 193 p (a + 128 * seg) (min 128 (len - 128 * seg)) true then .next (finish s a x.index)
        else .next ((drop s x).werr c 0x02)

/-- ETH (R274): a segment of a frame for a virtual port; the last delivers it. -/
def execEth (c : Cell) (s : State) : Host.Outcome State Fault Refusal :=
  let src := cellSrc c
  let old := s.partialOf 0x31 src
  if !s.mayTake c (s.sinkRoom 5) old.isSome then .next (s.refuseCell c) else
  let s := s.unblock c
  let v := bits (cf c cARG) 31 20
  let s := s.count (s.vpPanel v) cntRxFab 128
  let x : Partial := old.getD { src := src, typ := 0x31, arg := cf c cARG, bytes := [], buf := none, index := 0 }
  let x := { x with bytes := x.bytes ++ cellBytes c }
  let others := s.weft.partials.filter fun y => y.typ ≠ 0x31 || y.src ≠ src
  if cf c cLAST = 0 then .next ((s.setPartials (others ++ [x])).freed 5)
  else
    let s := s.setPartials others
    let len := field x.bytes 0 2
    let f := (x.bytes.drop 16).take len
    let (ns, s) := s.freeNat
    let r : RxFrom := { vp := field x.bytes 2 2 % 4096, module := src, uplink := none, local_ := false, decap := false
                        ts := s.stitch * 10000 + ns % 10000 }
    let s := if s.vpUp v && s.fld (vpctlR v) F.neVpctl.SWD == bits x.arg 19 8 then s.deliver v f r else s.dropRx v
    .next ((s.respond 0x21 src (cf c cSRCH) (cf c cTAG) 0 false []).freed 5)

/-- A reply to a forwarded packet goes back unchanged by the transport of its request (R394). -/
def State.forwardReply (s : State) (src : Nat) (pkt : List Byte) : State :=
  match s.thm.forwards.find? fun f =>
      hdOp f.2.2.1 == hdOp pkt && hdSeq f.2.2.1 == hdSeq pkt && hdRequester f.2.2.1 == hdRequester pkt &&
      bits (hdTarget f.2.2.1) 23 12 == src with
  | none => s
  | some f =>
    let s := { s with thm := { s.thm with forwards := s.thm.forwards.erase f } }
    match f.2.1 with
    | .mailbox p slot _ => s.slotWrite p slot pkt
    | .i3c _ => s.sendI3c pkt
    | .weft m _ _ => s.ockarCells none m (s.handle 0) pkt

/-- OCKAR (R262): a segment of a packet; the last gives Thimble a request, or the reply to a forwarded one.
(DESIGN CHOICE, log entry 76.) -/
def execOckar (c : Cell) (s : State) : Host.Outcome State Fault Refusal :=
  let src := cellSrc c
  let old := s.partialOf 0x40 src
  if !s.mayTake c (s.sinkRoom 6) old.isSome then .next (s.refuseCell c) else
  let s := s.unblock c
  let x : Partial := old.getD { src := src, typ := 0x40, arg := 0, bytes := [], buf := none, index := 0 }
  let x := { x with bytes := x.bytes ++ cellBytes c }
  let others := s.weft.partials.filter fun y => y.typ ≠ 0x40 || y.src ≠ src
  if cf c cLAST = 0 then .next ((s.setPartials (others ++ [x])).freed 6)
  else
    let s := (s.setPartials others).respond 0x21 src (cf c cSRCH) (cf c cTAG) 0 false []
    let pkt := x.bytes.take (32 + hdLength x.bytes + (if bit (hdFlags x.bytes) 2 then 32 else 0))
    let s := if bit (hdFlags pkt) 0 then s.forwardReply src pkt
      else s.takePacket (Via.weft src 0) (fun h => h / 512 == src) false false false pkt
    .next (s.freed 6)

/-! ### Selection by Thimble (R246) -/

/-- WP_PSEL (R246): Thimble changes a destination's selection. -/
def execWpPsel (d : Fin 4096) (sel : Fin 4) (unreach : Bool) (s : State) : Host.Outcome State Fault Refusal :=
  .next ((s.setSel d sel).setFld (pselR d) F.wpPsel.UNREACH (b2n unreach))

/-! ### Boundary -/

/-- Stitches a bring-up state may last (Table WFT-4), with one stitch of margin. -/
def bringupBound (st : Nat) : Option Nat :=
  if st = lsTraining then some 50101 else if st = lsPcs then some 2 else if st = lsHello then some 1026 else none

/-- Counters of the Weft, barrier releases that are due (R261), bring-up steps that took too long (R241), and GO to a blocked source for
which Thimble's queue has room again (R252). -/
def State.weftBoundary (s : State) : State :=
  let s := s.freed 6
  let due := s.weft.relDue.filter fun e => decide (e.2.2.2 ≤ s.stitch)
  let s := due.foldl (fun s e => s.barRelease e.1 e.2.1 e.2.2.1 false) s
  let s := s.setWeft fun x => { x with
    relDue := x.relDue.filter fun e => decide (s.stitch < e.2.2.2)
    out := x.out.map fun e => (e.1, e.2.map fun y => { y with age := y.age.map (· + 1) })
    links' := x.links'.map fun e => (e.1, { e.2 with age := e.2.age + 1 })
    sinceOrig := x.sinceOrig + 1 }
  (List.range 8).foldl (fun s p =>
    if !s.isWeft p then s else
    let x := s.link p
    let s := s.setLink p { x with since := x.since + 1 }
    match bringupBound (s.linkState p) with
    | some n => if n ≤ x.since + 1 then s.linkFails p else s
    | none => s) s

end Sys2Proof.Machine
end

