-- ==== Sys2Proof/Machine/Complete.lean ====
section
/-! DEFINITION. How the requests of I/O agents, and of cores to other bolts, end (R156, R175–R177, R181, R290, R301,
R253): data, database go-ahead, completion, error completion, and the Warp transaction timeout. -/

namespace Sys2Proof.Machine

/-- The answer to a thread's cross-bolt load (R156, R409): its bytes, poison or an error completion. -/
def State.crossAnswer (s : State) (th : Nat) (poison err : Bool) : Except Bool (List Byte) :=
  if err then .error false else if poison then .error true
  else match (s.thr th).stall with
    | some x => .ok (s.bytes x.cur.x.pa x.cur.n)
    | none => .ok []

/-- What the agent does with the answer to its entry: the host ports' pieces, the Weft engine's part requests, a
bobbin's access, a core's write. -/
def State.answered (s : State) (a rtid : Nat) (m : MissEnt) (poison err : Bool) : State :=
  if 194 ≤ a ∧ a ≤ 197 then s.dmaDone a rtid poison err
  else if a = 198 then s.inPart m.ctx poison err
  else if a = 193 then (if err && s.bobState m.ctx == bRun then s.stopBob m.ctx 0x02 else s)
  else if isTile a then
    let th := 2 * a + m.ctx % 2
    match m.op with
    | .rdio => if m.ctx < 2 then s.resumeLoad th (s.crossAnswer th poison err) else s
    | .wrf | .wrp => if err then s.storeFault m.seat (m.ctx % 2) else s
    | _ => if err then s.setL2 a m.line L2Line.none else s
  else s

/-- DATA_IO (R177): the copy reaches its requester; one that matches no entry comes too late and is discarded (R413). -/
def execDataIo (a : Agent) (rtid : Fin 256) (poison : Bool) (s : State) : Host.Outcome State Fault Refusal :=
  if s.respLost a then .next s else
  match s.req a rtid with
  | some m => .next (if m.op = .rdio then (s.setReq a rtid none).answered a rtid m poison false else s)
  | none => .next s

/-- DBGO (R175): the requester sends WRD; a host port in the order of R302. -/
def execDbgo (a : Agent) (rtid : Fin 256) (s : State) : Host.Outcome State Fault Refusal :=
  if s.respLost a then .next s else
  match s.req a rtid with
  | some m => .next (if (s.pieceAt a rtid).isSome then s.dmaDbgo a rtid else s.sendWrd a m)
  | none => .next s

/-- CMP (R156): the write is performed; its entry is free. -/
def execCmp (a : Agent) (rtid : Fin 256) (s : State) : Host.Outcome State Fault Refusal :=
  if s.respLost a then .next s else
  match s.req a rtid with
  | some m =>
    .next (if m.op = .wrf ∨ m.op = .wrp then (s.setReq a rtid none).answered a rtid m false false else s)
  | none => .next s

/-- ERRCMP (R181): the request has failed; its entry is free. -/
def execErrcmp (a : Agent) (rtid : Fin 256) (s : State) : Host.Outcome State Fault Refusal :=
  if s.respLost a then .next s else
  match s.req a rtid with
  | some m => .next ((s.setReq a rtid none).answered a rtid m false true)
  | none => .next s

/-- WRP_TIMEOUT (R412): a cross-bolt or I/O request has waited RAS.TMO1 stitches and receives ERRCMP. -/
def execWrpTimeout (a : Agent) (rtid : Fin 256) (s : State) : Host.Outcome State Fault Refusal :=
  let tmo := s.rd { kind := .rasTmo, i := 1 }
  match s.req a rtid with
  | some m =>
    let timed := m.op == .rdio || m.op == .wrf || m.op == .wrp
    if !timed || decide (m.age < tmo) then .next s else
    let s := s.logErr
      { unitId := if isTile a then unitId 2 a else unitId 0x0D 0, cls := 0, code := 0x2C, action := 2, flags := flagPaddr
        paddr := m.line * 64, req := a, detail := tmo }
    .next ((s.setReq a rtid none).answered a rtid m false true)
  | none => .next s

end Sys2Proof.Machine
end

