-- ==== Sys2Proof/Machine/Power.lean ====
section
/-! DEFINITION. Power domains and clocks (R447–R461): requests, claims, transitions, WAIT and its wake sources, PLLs,
brown-outs and temperature limits. -/

namespace Sys2Proof.Machine

/-! ### Requests and claims (R350, R351, R448, R450) -/

/-- Targets of a power request: ON, RET, OFF, and ON with the clock gated. -/
def pwOn : Nat := 0
def pwRet : Nat := 1
def pwOff : Nat := 2
def pwGate : Nat := 3

def claimR (k : Nat) : Reg := { kind := .pwrClaim, i := k }

/-- The claim entries that name a domain (R350). -/
def State.claims (s : State) (d : Nat) : List Nat :=
  (List.range 32).filter fun k => s.flag (claimR k) F.pwrClaim.EN && s.fld (claimR k) F.pwrClaim.DOMAIN == d

/-- Keep a request for a domain, and show it in the claim entries (Table THM-11). -/
def State.setHeld (s : State) (d : Nat) (t : Option Nat) : State :=
  let s := { s with pwr := { s.pwr with held := SMap.put (fun _ => none) s.pwr.held d t } }
  (s.claims d).foldl (fun s k =>
    (s.setFld (claimR k) F.pwrClaim.HELD (b2n t.isSome)).setFld (claimR k) F.pwrClaim.HTARGET
      (match t with | some 1 => 1 | some 2 => 2 | _ => 0)) s

def State.heldFor (s : State) (d : Nat) : Option Nat := SMap.get (fun _ => none) s.pwr.held d

/-- Start the transition of a domain; clock gating takes effect at once, and RET is refused above 95 °C (R456). -/
def State.startPower (s : State) (d t : Nat) : State :=
  let cur := s.fld (dstatR d) F.pwrDstat.CUR
  let r := dstatR d
  if t = pwGate then (if cur = pwOn then s.setFld r F.pwrDstat.GATED 1 else s)
  else if t = pwRet ∧ d ∈ s.pwr.noRet then
    if cur = pwOn then (s.setFld r F.pwrDstat.GATED 1).setFld r F.pwrDstat.TLIM 1 else s
  else if t = cur then s.setFld r F.pwrDstat.GATED 0
  else
    let s := s.setFld r F.pwrDstat.BUSY 1
    { s with pwr := { s.pwr with goal := SMap.insert s.pwr.goal d t } }

/-- A request for a domain (R448 rule 2, R450): held while the domain is claimed, except for ON; a request during a
transition waits for its end, but a wake during the entry into RET aborts it. True where the answer is CLAIMED.
(DEDUCED, log entry 91.) -/
def State.powerReq (s : State) (d t : Nat) : State × Bool :=
  if t ≠ pwOn ∧ s.claims d ≠ [] then (s.setHeld d (some t), true)
  else
    let s := s.setHeld d none
    if s.flag (dstatR d) F.pwrDstat.BUSY then
      match SMap.find s.pwr.goal d with
      | some 1 =>
        if t = pwOn then
          let s := (s.setFld (dstatR d) F.pwrDstat.BUSY 0).setFld (dstatR d) F.pwrDstat.GATED 0
          ({ s with pwr := { s.pwr with goal := SMap.remove s.pwr.goal d } }, false)
        else (s.setHeld d (some t), false)
      | _ => (s.setHeld d (some t), false)
    else (s.startPower d t, false)

/-- A claim on a domain ends; when it was the last, the held request is carried out (R351). -/
def State.dropClaim (s : State) (k : Nat) : State :=
  let d := s.fld (claimR k) F.pwrClaim.DOMAIN
  let s := s.wr (claimR k) 0
  if s.claims d ≠ [] then s else
  match s.heldFor d with
  | some t => (s.powerReq d t).1
  | none => s

/-! ### What a transition does (Tables PWR-1 and PWR-2) -/

/-- The PLL of a core locks or stops; both threads' CLKSEL show it. -/
def State.setPll (s : State) (c : Nat) (ok : Bool) : State :=
  let x := s.core c
  let x := { x with pll := ok }
  s.setCore c (if x.seat.isSome then { x with thr0 := x.thr0.withPll ok, thr1 := x.thr1.withPll ok } else x)

def Thread.noSrc (x : Thread) : Thread := x.setCrFld 0x021 F.crCLKSEL.SRC 0

/-- A core wakes from RET or OFF on the fast oscillator (R459). -/
def State.coreWakes (s : State) (c : Nat) : State :=
  let s := s.setPll c false
  let x := s.core c
  let s := if x.seat.isSome then s.setCore c { x with thr0 := x.thr0.noSrc, thr1 := x.thr1.noSrc } else s
  s.setFld (cutCoreR c) F.cutCore.FREQ 0x08

/-- Save the record of a granted core that goes to RET or OFF (R452, Table PWR-2). -/
def State.saveOnCore (s : State) (c : Nat) : State :=
  match (s.core c).seat with
  | some (p, n) => if s.isChecker c then s else s.saveSeat c p n
  | none => s

/-- Port p loses its link (R267, Table ERR-12): a Weft port is DOWN and the routes are recomputed; the uplinks of an
Ethernet port lose theirs. -/
def State.portDown (s : State) (p : Nat) : State :=
  if s.isWeft p then
    let was := s.portUp p
    let s := (s.setFld (pstatR p) F.wpPstat.STATE lsDown).setLink p LinkSt.init
    if was then s.linkChange else s
  else s.setFld (ectlR p) F.wpEctl.LINKUP 0

/-- What the network engine loses in OFF: its frames, and every bobbin's context; Thimble reloads the tables on the return
(Table PWR-2). (DESIGN CHOICE, log entry 145.) -/
def State.netOff (s : State) : State :=
  let s := (s.net.bobs.map (·.1)).foldl (fun s b =>
    ((((s.dropBob b).wr (sqtailR b) 0).wr (rqtailR b) 0).wr (cqheadR b) 0).wr (armR b) 0) s
  { s with net := { s.net with bobs := [], wait := [] } }

/-- What a host-port controller loses in OFF: its links, key slots, root port registers and function entries.
(DESIGN CHOICE, log entry 145.) -/
def State.hostOff (s : State) (k : Nat) : State :=
  let s := (List.range 4).foldl (fun s j => (s.failPort (4 * k + j)).emit (.pin (.perstN (4 * k + j)) false)) s
  let s := (List.range 4).foldl (fun s j => (s.wr (rpctlR (4 * k + j)) (RegKind.reset .hpRpctl)).wr (rpstatR (4 * k + j)) 0) s
  { s with hpKeys := s.hpKeys.filter fun e => e.1 / 512 ≠ k
           regs := s.regs.keep fun a _ => decide (a < Reg.addr { kind := .hpFunc0, i := k }) ||
             decide (Reg.addr { kind := .hpFunc0, i := k + 1 } ≤ a) }

/-- What a domain loses in OFF. (DESIGN CHOICE, log entry 145.) -/
def State.loses (s : State) (d : Nat) : State :=
  if d < 192 then
    let s := ((s.saveOnCore d).flushL2 d).modTile d fun x => { x with l2 := [], l1i := [], l1d := [] }
    (s.idleCore d).setPll d false
  else if d < 384 then s.modTile (d - 192) fun x => { x with l3 := [], plru := [], dir := [], home := [] }
  else if 388 ≤ d ∧ d < 412 then
    let c := d - 388
    ((List.range 16).foldl (fun s i => s.wr { kind := .mcKvalid, i := c, j := i } 0) s).setMc c McSt.init
  else if 412 ≤ d ∧ d < 420 then s.portDown (d - 412)
  else if 420 ≤ d ∧ d < 424 then s.hostOff (d - 420)
  else if d = 424 then s.netOff
  else s

/-- What a domain does when it is ON again after `old`. In a warm start the ports train after release (Table BOO-7). -/
def State.returns (s : State) (d old : Nat) : State :=
  if d < 192 then (if old = pwOn then s else s.coreWakes d)
  else if old ≠ pwOff then s
  else if 412 ≤ d ∧ d < 420 then
    (if s.flag { kind := .hubBoot } F.hubBoot.WARM && !s.boot.released then s else s.startLink (d - 412))
  else if 420 ≤ d ∧ d < 424 then
    (List.range 4).foldl (fun s j => (s.emit (.pin (.perstN (4 * (d - 420) + j)) true)).rpRetrain (4 * (d - 420) + j)) s
  else s

/-- A domain reaches a state. -/
def State.reaches (s : State) (d t : Nat) : State :=
  let r := dstatR d
  let old := s.fld r F.pwrDstat.CUR
  let s := (s.setFld r F.pwrDstat.BUSY 0).setFld r F.pwrDstat.GATED 0
  let s := { s with pwr := { s.pwr with goal := SMap.remove s.pwr.goal d } }
  let s := if t = pwRet ∧ d < 192 then ((s.saveOnCore d).drainSelvedge d).setPll d false
           else if t = pwOff then s.loses d else s
  let s := s.setFld r F.pwrDstat.CUR t
  let s := if old = t then s else s.addFld r F.pwrDstat.TRANS 1
  if t = pwOn then s.returns d old else s

/-- DOMAIN_TRANSITION_COMPLETE (R450): the running transition of a domain ends, and a request that waited for it is
carried out. -/
def execDomainTransitionComplete (d : Domain) (s : State) : Host.Outcome State Fault Refusal :=
  match SMap.find s.pwr.goal d.val with
  | none => .next s
  | some t =>
    let s := s.reaches d.val t
    match s.heldFor d.val with
    | some h => .next (s.powerReq d.val h).1
    | none => .next s

/-! ### WAIT (R77, R451, R452, R454, R455) -/

/-- The state a thread asks of its core: none outside WAIT; a thread that has not been started waits too. TARGET 11
is taken as 00. (DESIGN CHOICE, log entry 23.) -/
def Thread.target (x : Thread) : Option Nat :=
  if x.started && (!x.waiting || x.halted) then none
  else match x.crFld crPWRMODE F.crPWRMODE.TARGET with
    | 1 => some 1
    | 2 => some 2
    | _ => some 0

/-- The domain of a granted core follows its threads (R451). -/
def State.coreFollow (s : State) (c : Nat) : State :=
  let x := s.core c
  if x.seat.isNone then s else
  match x.thr0.target, x.thr1.target with
  | some 0, some _ => (s.powerReq c pwGate).1
  | some _, some 0 => (s.powerReq c pwGate).1
  | some 2, some 2 => (s.powerReq c pwOff).1
  | some _, some _ => (s.powerReq c pwRet).1
  | _, _ => (s.powerReq c pwOn).1

/-- Whether an enabled wake source of a thread is asserted: the stitch-boundary wake and a detector's pulse as given. -/
def State.wakeAsserted (s : State) (th : Nat) (boundaryWake pulse : Bool) : Bool :=
  match s.seatOf th with
  | none => false
  | some (p, n) =>
    let x := s.thr th
    s.wakes p n (th % 2) x boundaryWake || (pulse && p == 0 && x.crFld crPWRMODE F.crPWRMODE.PORTW == 1)

/-- A thread leaves WAIT and goes on at the next instruction; its core's domain returns to ON. -/
def State.wake (s : State) (th : Nat) : State :=
  let x := s.thr th
  ((s.setThr th { x with waiting := false }).retire th (x.pc + 4) []).coreFollow (th / 2)

/-- WAKE_SOURCE (R454): an enabled source asserts and wakes a thread in WAIT. -/
def execWakeSource (th : Thr) (src : WakeSource) (s : State) : Host.Outcome State Fault Refusal :=
  let x := s.thr th
  match s.seatOf th.val with
  | none => .next s
  | some (p, n) =>
    let on := match src with
      | .irq => x.crFld crPWRMODE F.crPWRMODE.IRQW == 1 && !(s.vectorsFor p n (th.val % 2)).isEmpty
      | .stitch => x.crFld crPWRMODE F.crPWRMODE.STITCHW == 1
      | .port => p == 0 && x.crFld crPWRMODE F.crPWRMODE.PORTW == 1 && (List.range 8).any fun k =>
          s.flag { kind := .pwrPortdet, i := k } F.pwrPortdet.STICKY && s.flag { kind := .pwrPortdet, i := k } F.pwrPortdet.SEEN
      | .secure => (s.sintFor th).isSome
    .next (if x.waiting && on then s.wake th else s)

/-- PORT_ACTIVITY (R454, R455): a detector sees a frame. With STICKY = 1 it sets SEEN; with STICKY = 0 its pulse wakes
the threads of panel 0 in WAIT with PORTW, but for those whose wake logic is arming in that cycle.
(DESIGN CHOICE, log entry 92.) -/
def execPortActivity (p : Port) (arming : List Thr) (s : State) : Host.Outcome State Fault Refusal :=
  let r : Reg := { kind := .pwrPortdet, i := p.val }
  let sticky := s.flag r F.pwrPortdet.STICKY
  let s := s.setFld r F.pwrPortdet.SEEN 1
  if sticky then .next s else
  .next ((List.range 384).foldl (fun s th =>
    let x := s.thr th
    if (s.core (th / 2)).seat.any (fun e => e.1 == 0) && x.waiting && x.crFld crPWRMODE F.crPWRMODE.PORTW == 1 &&
        !arming.any (fun a => a.val == th) then s.wake th else s) s)

/-! ### Clocks (R453, R459) -/

/-- The frequency a core runs at: its target less the reduction of R458, never below 1.2 GHz for that; 1.2 GHz at most on
a hot die (Table PWR-3); 0x08 on the fast oscillator (R459). -/
def State.freqOf (s : State) (c : Nat) : Nat :=
  let x := s.core c
  let src := x.thr0.crFld 0x021 F.crCLKSEL.SRC == 1 || x.thr1.crFld 0x021 F.crCLKSEL.SRC == 1
  if !(x.pll && src) then 0x08 else
  let t := s.fld (cutCoreR c) F.cutCore.TARGET
  let t := if s.pwr.reduce = 0 then t else min t (max 12 (t - s.pwr.reduce))
  if c / 48 ∈ s.pwr.hot then min t 12 else t

def State.setFreq (s : State) (c : Nat) : State := s.setFld (cutCoreR c) F.cutCore.FREQ (s.freqOf c)

/-- PLL_LOCK (R459): SRC = 1 in a thread of an ON core while PLLOK = 0; the PLL locks and the core moves to its target. -/
def execPllLock (c : Tile) (s : State) : Host.Outcome State Fault Refusal :=
  let x := s.core c
  let src := x.thr0.crFld 0x021 F.crCLKSEL.SRC == 1 || x.thr1.crFld 0x021 F.crCLKSEL.SRC == 1
  if x.seat.isSome && src && !x.pll && s.fld (dstatR c) F.pwrDstat.CUR == 0 then .next ((s.setPll c true).setFreq c)
  else .next s

/-- GRANT_WAKE (R453): at 8.0 µs every core in RET whose grant changes at the next boundary starts to ON. -/
def execGrantWake (s : State) : Host.Outcome State Fault Refusal :=
  match s.cut.staged with
  | none => .next s
  | some a =>
    .next (a.cores.foldl (fun s e =>
      let same := match e.2, (s.core e.1).seat with
        | .seat p n _, some q => decide ((p, n) = q)
        | .idle, none => true
        | _, _ => false
      if s.fld (dstatR e.1) F.pwrDstat.CUR = pwRet ∧ !same then (s.powerReq e.1 pwOn).1 else s) s)

/-! ### Brown-out (R457) -/

/-- A directory entry without a core's exact sharer bit; a group bit stays. -/
def DirEnt.dropSharer (e : DirEnt) (exact : Bool) (i : Nat) : DirEnt :=
  if exact && bit e.sharers i then { e with sharers := e.sharers - 2 ^ i } else e

/-- PWR_BROWNOUT (R457): a core domain in RET draws too much. It is reset and returned to ON with its arrays invalid; every
line a home records as its own dirty one is poisoned, its sharer bits are cleared; a granted seat resumes from its
record. A second hang or brown-out within 100,000 stitches takes the core out of service (Table ERR-11).
(DESIGN CHOICE, log entry 20.) -/
def execPwrBrownout (c : Tile) (s : State) : Host.Outcome State Fault Refusal :=
  if s.fld (dstatR c) F.pwrDstat.CUR ≠ pwRet then .next s else
  let s := s.addFld (dstatR c) F.pwrDstat.BROWN 1
  let recent := ((s.core c).hangs.filter fun t => decide (s.ticks < t + 100000))
  let out := recent ≠ []
  let s := s.logErr { unitId := unitId 1 c, cls := 0, code := 0x58, action := if out then 7 else 3 }
  let b := s.boltOf c
  let s := (s.boltCores b).foldl (fun (s : State) (h : Nat) =>
    let mine := (s.tile h).dir.filter fun e => e.2.st == .em && e.2.owner == c.val
    let s := mine.foldl (fun s e => (({ s with dirty := SMap.put (fun _ => false) s.dirty e.1 false }).setMeta e.1 { s.meta e.1 with poison := true }).setDir h e.1 DirEnt.free) s
    let exact := s.boltTiles == 48
    s.modTile h fun x => { x with dir := SMap.mapListed (fun _ => DirEnt.free) x.dir fun _ e =>
      (e.dropSharer exact (c.val % s.boltTiles)) }) s
  let s := s.modTile c fun x => { x with l2 := [], selv := [], fills := [] }
  let seat := (s.core c).seat
  let s := s.idleCore c
  let s := s.setCore c { s.core c with hangs := s.ticks :: recent }
  let s := s.reaches c pwOn
  if out then .next { s with outUnits := s.outUnits ++ [unitId 1 c] } else
  match seat with
  | some (p, n) => .next (s.hemIn c p n false)
  | none => .next s

/-! ### Temperature and the cap (R456, R458, Table PWR-3) -/

/-- TLIM (R456): a domain's sensor reads above 95 °C, and RET is refused, or 90 °C or below, and RET is allowed again.
(DESIGN CHOICE, log entry 89.) -/
def execTlim (d : Domain) (hotter : Bool) (s : State) : Host.Outcome State Fault Refusal :=
  let r := dstatR d.val
  if hotter then
    let s := { s with pwr := { s.pwr with noRet := if d.val ∈ s.pwr.noRet then s.pwr.noRet else d.val :: s.pwr.noRet } }
    if s.fld r F.pwrDstat.CUR = pwRet ∨ SMap.find s.pwr.goal d.val = some pwRet then
      let s := s.reaches d.val pwOn
      .next ((s.setFld r F.pwrDstat.GATED 1).setFld r F.pwrDstat.TLIM 1)
    else .next s
  else
    let s := { s with pwr := { s.pwr with noRet := s.pwr.noRet.filter (· ≠ d.val) } }
    let was := s.flag r F.pwrDstat.TLIM
    let s := s.setFld r F.pwrDstat.TLIM 0
    if was ∧ d.val < 192 then .next (s.coreFollow d.val) else .next s

/-- THERM_ALERT_N (Table PWR-3): a die at 100 °C or above asserts the pin, and its cores are held at 1.2 GHz. -/
def execThermAlertN (die : Die) (s : State) : Host.Outcome State Fault Refusal :=
  let s := { s with pwr := { s.pwr with hot := if die.val ∈ s.pwr.hot then s.pwr.hot else die.val :: s.pwr.hot } }
  let s := s.setFld { kind := .pwrStat } F.pwrStat.TALERT 1
  let s := ((List.range 48).map (die.val * 48 + ·)).foldl (fun s c => if c < 192 then s.setFreq c else s) s
  .next (s.emit (.pin .thermAlertN false))

/-- THERM_ALERT_RELEASE (R480): every die reads 95 °C or below; the pin is released and the hold ends. During a trip
nothing is released. -/
def execThermAlertRelease (s : State) : Host.Outcome State Fault Refusal :=
  if s.pwr.hot = [] ∨ s.pwr.trip then .next s else
  let s := { s with pwr := { s.pwr with hot := [] } }
  let s := s.setFld { kind := .pwrStat } F.pwrStat.TALERT 0
  let s := (List.range 192).foldl State.setFreq s
  .next (s.emit (.pin .thermAlertN true))

/-- The power controller's work at a boundary (R458): the last stitch's average input power in units of 0.1 W, and the
hottest junction. The reduction counts units of 100 MHz; after its end it falls by 400 MHz a boundary (R324). -/
def State.capBoundary (s : State) (pin tmax : Nat) : State :=
  let st : Reg := { kind := .pwrStat }
  let s := (s.setFld st F.pwrStat.PIN pin).setFld st F.pwrStat.TMAX tmax
  let cap := s.fld { kind := .cutCtrl } F.cutCtrl.PCAP * 10
  let first := !s.flag st F.pwrStat.EMERG
  let cut := fun (n : Nat) => { s with pwr := { s.pwr with reduce := n } }
  if cap < pin then
    let s := (cut (if first then max 2 (s.pwr.reduce - 4) else s.pwr.reduce + 2)).setFld st F.pwrStat.EMERG 1
    if first then (s.addFld st F.pwrStat.EMCNT 1).sendSint 0 0 0 3 else s
  else if first ∨ pin + 150 < cap then (cut (s.pwr.reduce - 4)).setFld st F.pwrStat.EMERG 0
  else s

/-- The cores of a bolt that lie in OFF and that nothing but that keeps from a grant, lowest first (R316, R452). -/
def State.offCores (s : State) (b : Nat) : List Nat :=
  (s.boltCores b).filter fun c => s.coreIn c && !s.cacheHeld c && s.flag { kind := .wrpCctl, i := c } F.wrpCctl.L2_EN &&
    s.fld (dstatR c) F.pwrDstat.CUR == pwOff && s.fld (dstatR c) F.pwrDstat.OCK == 0 &&
    !s.flag (dstatR c) F.pwrDstat.BUSY && !s.flag (cutOvrR c) F.cutOvr.EN && (s.core c).testing.isNone

/-- The cores of a bolt in ON or RET, or on their way to ON. -/
def State.litCores (s : State) (b : Nat) : List Nat :=
  (s.boltCores b).filter fun c => s.coreIn c && (s.fld (dstatR c) F.pwrDstat.CUR ≠ pwOff || s.flag (dstatR c) F.pwrDstat.BUSY)

/-- The demand of a bolt's panels (R314). -/
def State.boltDemand (s : State) (b : Nat) : Nat :=
  (((s.panels'.filter fun p => s.pstate p == psRunning).map (Con.of s.cut.contracts)).filter (·.bolt == b) |>.map
    (·.demand s.cut)).sum

/-- The Cutter returns OFF cores to ON while a bolt's demand exceeds its ON and RET cores (R452).
(DESIGN CHOICE, log entry 145.) -/
def State.lightCores (s : State) : State :=
  (List.range s.nBolts).foldl (fun s b =>
    ((s.offCores b).take (s.boltDemand b - (s.litCores b).length)).foldl (fun s c => (s.powerReq c pwOn).1) s) s

/-- Domains at a boundary (R448, R449, R453): what DOMAIN_SET has set; ungranted cores parked in RET; granted cores that
follow their threads again after a stitch without a demand; die bridges. (DESIGN CHOICE, log entry 42.) -/
def State.powerBoundary (s : State) : State :=
  let busy := fun (s : State) (d : Nat) => s.flag (dstatR d) F.pwrDstat.BUSY
  let quiet := fun (d : Nat) => d ∉ s.pwr.demand
  let demand := s.pwr.demand
  let s := (List.range 424).foldl (fun s d =>
    let cur := s.fld (dstatR d) F.pwrDstat.CUR
    let ock := s.fld (dstatR d) F.pwrDstat.OCK
    let bridge := decide (384 ≤ d ∧ d < 388)
    if busy s d ∨ bridge then s
    else if ock ≠ 0 then
      if d < 192 ∧ (s.core d).seat.isSome then s
      else if cur ≠ ock ∧ (ock = pwOff ∨ d ∉ demand) then (s.powerReq d ock).1 else s
    else if d < 192 then
      if (s.core d).seat.isNone then
        (if cur = pwOn ∧ d ∉ demand ∧ !s.flag (cutCoreR d) F.cutCore.SH ∧ (s.core d).testing.isNone then (s.powerReq d pwRet).1 else s)
      else if cur = pwOn ∧ s.flag (dstatR d) F.pwrDstat.GATED ∧ d ∉ demand then s.coreFollow d
      else s
    else s) s
  let down := fun (s : State) (d : Nat) => s.fld (dstatR d) F.pwrDstat.CUR ≠ pwOn
  let s := (List.range 4).foldl (fun s i =>
    let all := (List.range 48).all (fun j => down s (192 + 48 * i + j)) && (List.range 6).all (fun j => down s (388 + 6 * i + j))
    if all ∧ !busy s (384 + i) ∧ s.fld (dstatR (384 + i)) F.pwrDstat.CUR = pwOn ∧ quiet (384 + i) then s.startPower (384 + i) pwRet else s) s
  let s := s.lightCores
  let s := (List.range 192).foldl (fun s c =>
    if s.fld (cutCoreR c) F.cutCore.FREQ = s.freqOf c then s else s.setFreq c) s
  { s with pwr := { s.pwr with demand := [] } }

/-- Claims age at a boundary, up to 100 (R352). -/
def State.claimsAge (s : State) : State :=
  (List.range 32).foldl (fun s k =>
    if s.flag (claimR k) F.pwrClaim.EN ∧ s.fld (claimR k) F.pwrClaim.AGE < 100 then s.addFld (claimR k) F.pwrClaim.AGE 1 else s) s

end Sys2Proof.Machine
end

