-- ==== Sys2Proof/Machine/Thimble.lean ====
section
/-! DEFINITION. Thimble's own engines (R339–R357): interrupts, the transfer engine, secure interrupts, power claims, the
secure watchdog, the key ladder, the entropy source and the cryptographic engines. -/

namespace Sys2Proof.Machine

/-! ### Thimble's core (R339–R342) -/

/-- THIMBLE_INTERRUPT (R341): an interrupt that is due is taken. -/
def execThimbleInterrupt (s : State) : Host.Outcome State Fault Refusal := .next (if s.thmDue then s.thmEnter else s)

/-! ### The transfer engine (R344) -/

/-- XQ (R344): the address of a descriptor is queued; XSTAT counts the ones in flight. -/
def State.xqPut (s : State) (a : Nat) : State := { s with thm := { s.thm with xq := s.thm.xq ++ [a] } }
def execXq (a : BitVec 32) (s : State) : Host.Outcome State Fault Refusal := .next (s.xqPut a.toNat)

/-- Every byte of a range is memory that exists. -/
def State.isMemory (s : State) (pa n : Nat) : Bool :=
  let ok := fun a => match s.target a with
    | .prot => true
    | .cxl _ => true
    | _ => false
  ok pa && ok (pa + n - 1)

/-- Carry out a descriptor whose requests are answered; none where it completes in error: a wrong alignment or length, a
range outside memory or SRAM, no register at the address, poison (R411). -/
def State.transferDo (s : State) (d : List Byte) : Option State :=
  let pa := field d 0 8
  let la := field d 8 4
  let n := field d 12 2
  if n < 4 ∨ 4096 < n ∨ !inSram la n then none else
  match field d 14 1 with
  | 0x01 => if pa % 64 ≠ 0 ∨ !s.isMemory pa n ∨ (List.range ((n + 63) / 64)).any fun i => (s.meta (pa / 64 + i)).poison then none
            else some (s.setSram la (s.bytes pa n))
  | 0x02 => if pa % 64 ≠ 0 ∨ !s.isMemory pa n then none
            else
              let tag := if potKind (s.potEntry (pa / 65536)) = kFirmware then 0 else field d 16 2 % 512
              some (s.homeStore tag pa (s.sram la n))
  | 0x03 => match Reg.ofAddr pa with
    | some r => if 8 * n ≠ r.width then none
                else
                  let (s, v) := s.regLoad .thimble r (2 ^ r.width - 1)
                  some (s.setSram la (leBytes n v))
    | none => none
  | 0x04 => match Reg.ofAddr pa with
    | some r => if 8 * n ≠ r.width then none
                else
                  let v := ofLeBytes (s.sram la n)
                  some (s.regStore .thimble r v v)
    | none => none
  | _ => none

/-- TRANSFER_COMPLETE (R344): the oldest descriptor ends; STATUS is written last, and XFER is raised where IRQ asks. A
poisoned read leaves a record (R411). -/
def execTransferComplete (res : XferEnd) (s : State) : Host.Outcome State Fault Refusal :=
  match s.thm.xq with
  | [] => .next s
  | a :: rest =>
    let d := s.sram a 32
    let s := { s with thm := { s.thm with xq := rest } }
    let (s, st) : State × Nat := match res with
      | .ok => match s.transferDo d with
        | some t => (t, 0x80)
        | none => (s, 0x01)
      | .errcmp => (s, 0x01)
      | .timeout => (s, 0x02)
    let s := if st = 0x01 ∧ field d 14 1 = 0x01 ∧ (s.meta (field d 0 8 / 64)).poison then
        s.logErr { unitId := unitId 0x0A 0, cls := 0, code := 0x20, action := 0, flags := flagPaddr + flagPoison
                   paddr := field d 0 8 / 64 * 64, req := 192 }
      else s
    let s := s.setSram (a + 31) [BitVec.ofNat 8 st]
    .next (if bit (field d 15 1) 1 then s.tipend 2 else s)

/-! ### Secure interrupts (R349) -/

/-- SINT (Table THM-6): numbers 4 to 63 and non-zero reserved bits name no interrupt. -/
def State.sintWrite (s : State) (v : Nat) : State :=
  if 4 ≤ bits v 29 24 ∨ bits v 31 30 ≠ 0 then s
  else s.sendSint (bits v 22 14) (bits v 13 6) (bits v 5 5) (bits v 29 24)
/-- (DESIGN CHOICE, log entry 27.) -/
def execSint (v : BitVec 32) (s : State) : Host.Outcome State Fault Refusal := .next (s.sintWrite v.toNat)

/-! ### Power claims (R350–R352) -/

/-- CLAIMSET (R350): the lowest free entry names the domain; with none free, FULL is set and nothing is claimed. A
domain above 425 is none. -/
def State.claimSet (s : State) (d : Nat) : State :=
  if 425 < d then s else
  match (List.range 32).find? fun k => !s.flag (claimR k) F.pwrClaim.EN with
  | none => s.setTcr 0x312 1
  | some k =>
    let s := s.setTcr 0x312 0
    let s := s.wr (claimR k) (F.pwrClaim.DOMAIN.set (F.pwrClaim.EN.set 0 1) d)
    match s.heldFor d with
    | some t => if s.flag (dstatR d) F.pwrDstat.BUSY then s else s.setHeld d (some t)
    | none => s
def execClaimset (d : BitVec 9) (s : State) : Host.Outcome State Fault Refusal := .next (s.claimSet d.toNat)

/-- CLAIMCLR (R351): the lowest entry that names the domain is cleared; with the last one the held request proceeds. -/
def State.claimClr (s : State) (d : Nat) : State :=
  match s.claims d with
  | k :: _ => s.dropClaim k
  | [] => s
/-- (DESIGN CHOICE, log entry 73.) -/
def execClaimclr (d : BitVec 9) (s : State) : Host.Outcome State Fault Refusal := .next (s.claimClr d.toNat)

/-- THM_CLAIM (R352): an entry of AGE 100 clears itself, CLAIMEXP is raised, and the event recorded. -/
def execThmClaim (k : Fin 32) (s : State) : Host.Outcome State Fault Refusal :=
  if s.flag (claimR k) F.pwrClaim.EN ∧ s.fld (claimR k) F.pwrClaim.AGE = 100 then
    .next (((s.dropClaim k).tipend 8).logErr { unitId := unitId 0x0A 0, cls := 0, code := 0x48, action := 0 })
  else .next s

/-! ### The secure watchdog (R353) -/

def tcTWDOG : Nat := 0x020

/-- TWDOG (Table THM-9): 0x5EC1 reloads; any other value counts in BADKICK. -/
def State.twdogWrite (s : State) (kick : Nat) : State :=
  let v := (s.tcr tcTWDOG).toNat
  if kick = 0x5EC1 then s.setTcr tcTWDOG (BitVec.ofNat 64 (setBits v 9 0 1000))
  else s.setTcr tcTWDOG (BitVec.ofNat 64 (setBits v 15 12 (satAdd 15 (bits v 15 12) 1)))
def execTwdog (kick : BitVec 16) (s : State) : Host.Outcome State Fault Refusal := .next (s.twdogWrite kick.toNat)

/-- The secure watchdog counts: firmware runs, not in SAFE_HOLD, and the core is not halted under THIMBLE scope. -/
def State.twdogRuns (s : State) : Bool := s.thm.firmware && !s.safeHold && !(s.thr thmThread).halted

/-- One boundary of the secure watchdog: WDWARN at 100. -/
def State.twdogTick (s : State) : State :=
  if !s.twdogRuns then s else
  let v := (s.tcr tcTWDOG).toNat
  let n := bits v 9 0 - 1
  let s := s.setTcr tcTWDOG (BitVec.ofNat 64 (setBits v 9 0 n))
  if n = 100 then s.tipend 7 else s

/-- THM_SWDOG (R353): at 0 the module takes a warm reset. -/
def execThmSwdog (s : State) : Host.Outcome State Fault Refusal :=
  if s.twdogRuns ∧ bits (s.tcr tcTWDOG).toNat 9 0 = 0 then
    .next (s.fatal { unitId := unitId 0x0A 0, cls := 3, code := 0x49, action := 9, detail := 1000 } false)
  else .next s

/-! ### The key ladder (R354–R356, R364) -/

def State.slot (s : State) (k : Nat) : List Byte := SMap.get (fun _ => List.replicate 64 0) s.thm.ladder.slots k
def State.setLadder (s : State) (f : Ladder → Ladder) : State := { s with thm := { s.thm with ladder := f s.thm.ladder } }
/-- Fill a slot; EXP is set by the command that fills it and cannot be set later. -/
def State.fillSlot (s : State) (k : Nat) (v : List Byte) (exp : Bool) : State :=
  s.setLadder fun l => { l with
    slots := SMap.put (fun _ => List.replicate 64 0) l.slots k (padTo 64 v)
    exp := if exp then (if k ∈ l.exp then l.exp else l.exp ++ [k]) else l.exp.filter (· ≠ k)
    cdi := l.cdi || k == 0 }

/-- Fresh bytes from the entropy source: free values. (DESIGN CHOICE, log entry 77.) -/
def State.entropy (s : State) (n : Nat) : List Byte × State :=
  ((List.range n).map fun i => Config.freeBits 8 (s.fresh + i), { s with fresh := s.fresh + n })

/-- LCMD (Table THM-10) starts a command; while one runs, another is not taken. -/
def State.lcmd (s : State) (v : Nat) : State :=
  if s.thm.ladder.running.isSome ∨ bits v 31 28 = 0 ∨ 7 < bits v 31 28 then s
  else (s.setLadder fun l => { l with running := some v }).setTcr 0x401 1

/-- The value of LCMD with these fields. -/
def lcmdWord (op exp src dst tag laddr : Nat) : Nat :=
  op * 2 ^ 28 + exp * 2 ^ 27 + src * 2 ^ 22 + dst * 2 ^ 17 + tag * 2 ^ 8 + laddr

def execEntropy (exp : Bool) (dst : Fin 32) (s : State) : Host.Outcome State Fault Refusal :=
  .next (s.lcmd (lcmdWord 1 (b2n exp) 0 dst 0 0))
def execDerive (exp : Bool) (src dst : Fin 32) (laddr : Byte) (s : State) : Host.Outcome State Fault Refusal :=
  .next (s.lcmd (lcmdWord 2 (b2n exp) src dst 0 laddr.toNat))
/-- (DESIGN CHOICE, log entry 73.) -/
def execPushall (src : Fin 32) (tag : Panel) (s : State) : Host.Outcome State Fault Refusal :=
  .next (s.lcmd (lcmdWord 3 0 src 0 tag 0))
def execCleartag (tag : Panel) (s : State) : Host.Outcome State Fault Refusal := .next (s.lcmd (lcmdWord 4 0 0 0 tag 0))
def execClear (dst : Fin 32) (s : State) : Host.Outcome State Fault Refusal := .next (s.lcmd (lcmdWord 5 0 0 dst 0 0))
def execLadderExport (dst : Fin 32) (laddr : Byte) (s : State) : Host.Outcome State Fault Refusal :=
  .next (s.lcmd (lcmdWord 6 0 0 dst 0 laddr.toNat))
def execBind (src : Fin 32) (ntt : Bool) (s : State) : Host.Outcome State Fault Refusal :=
  .next (s.lcmd (lcmdWord 7 0 src 0 (b2n ntt) 0))

/-- Host-port controllers in service with CXLMASK non-zero (R306). -/
def State.cxlControllers (s : State) : List Nat :=
  (List.range 4).filter fun k =>
    let r : Reg := { kind := .hpCfg, i := k }
    s.flag r F.hpCfg.EN && s.fld r F.hpCfg.CXLMASK ≠ 0

/-- A key goes to a tag of every controller in service (R355). -/
def State.pushKey (s : State) (tag : Nat) (key : List Byte) : State :=
  let s := s.clist.foldl (fun s c =>
    let r : Reg := { kind := .mcKvalid, i := c, j := tag / 32 }
    s.setFld r ⟨tag % 32, tag % 32⟩ 1) s
  let hp := s.cxlControllers.foldl (fun m k => SMap.insert m (k * 512 + tag) true) s.hpKeys
  { s with hpKeys := hp, keys := SMap.put (fun _ => 0) s.keys tag (ofLeBytes key) }

/-- A key tag is cleared in every controller (R58, R355). -/
def State.clearKey (s : State) (tag : Nat) : State :=
  let s := (List.range 24).foldl (fun s c => s.setFld { kind := .mcKvalid, i := c, j := tag / 32 } ⟨tag % 32, tag % 32⟩ 0) s
  { s with hpKeys := s.hpKeys.filter fun e => e.1 % 512 ≠ tag, keys := SMap.put (fun _ => 0) s.keys tag 0 }

/-- SRAM address of an LADDR: within the top 16 KiB (Table THM-10). -/
def labelAt (laddr : Nat) : Nat := sramTop - 16384 + 64 * laddr

/-- A ladder command's work; a code other than 0 where it fails. (DESIGN CHOICE, log entry 73.) -/
def State.ladderDo (s : State) (v : Nat) : State × Nat :=
  let src := bits v 26 22
  let dst := bits v 21 17
  let tag := bits v 16 8
  let la := labelAt (bits v 7 0)
  let exp := bit v 27
  match bits v 31 28 with
  | 1 =>
    if s.thm.ladder.windows ≠ 0 then (s, 1) else
    let (bs, s) := s.entropy 64
    ((s.setLadder fun l => { l with pool := l.pool - 64 }).fillSlot dst bs exp, 0)
  | 2 =>
    let from_ := if src = 0 ∧ !s.thm.ladder.cdi then Config.deviceSecret else s.slot src
    (s.fillSlot dst (Config.shake256 (from_ ++ s.sram la 64) 64) exp, 0)
  | 3 => if src = 3 then ({ s with fwKey := ofLeBytes (s.slot 3) }, 0) else (s.pushKey tag (s.slot src), 0)
  | 4 => (s.clearKey tag, 0)
  | 5 => ((s.fillSlot dst (List.replicate 64 0) false).setLadder fun l => { l with cdi := s.thm.ladder.cdi }, 0)
  | 6 => if dst ≠ 0 ∧ dst ∈ s.thm.ladder.exp then (s.setSram la (s.slot dst), 0) else (s, 2)
  | _ => (s.setLadder fun l => { l with bound := SMap.insert l.bound (tag % 2) (s.slot src) }, 0)

/-- LADDER_COMPLETE (R354): the command that runs finishes and BUSY clears; ENTROPY waits until the pool holds 64 bytes,
unless a health test has failed (R356). -/
def execLadderComplete (s : State) : Host.Outcome State Fault Refusal :=
  match s.thm.ladder.running with
  | none => .next s
  | some v =>
    if bits v 31 28 = 1 ∧ s.thm.ladder.windows = 0 ∧ s.thm.ladder.pool < 64 then .next s else
    let (s, err) := s.ladderDo v
    let s := s.setLadder fun l => { l with running := none, err := err }
    .next ((s.setTcr 0x401 (BitVec.ofNat 64 (16 * err))).tipend 6)

/-! ### Entropy (R356) -/

/-- ENTFAIL: a health test fails: the pool is emptied, and 16 windows have to pass. -/
def execEntfail (s : State) : Host.Outcome State Fault Refusal :=
  .next ((s.setLadder fun l => { l with pool := 0, windows := 16 }).tipend 9)

/-- ENTROPY_HEALTH_PASS: 16 consecutive windows have passed. -/
def execEntropyHealthPass (s : State) : Host.Outcome State Fault Refusal :=
  .next (s.setLadder fun l => { l with windows := 0 })

/-- Fresh keys can be drawn (R356). -/
def State.entropyOk (s : State) : Bool := s.thm.ladder.windows == 0

/-- The pool fills between boundaries while the tests pass. (DESIGN CHOICE, log entry 73.) -/
def State.poolFill (s : State) : State :=
  if s.entropyOk then s.setLadder fun l => { l with pool := 256 } else s

/-! ### Cryptographic engines (R343, Table THM-3) -/

def State.engStart (s : State) (e : Nat) (job : List Nat) : State :=
  if (SMap.find s.thm.engJobs e).isSome then s
  else { s with thm := { s.thm with engJobs := SMap.insert s.thm.engJobs e job } }

/-- SHAKE_ENGINE: SHAKE256 of `len` bytes at `src`, `out` bytes to `dst`. -/
def execShakeEngine (src dst : BitVec 32) (len out : BitVec 16) (s : State) : Host.Outcome State Fault Refusal :=
  .next (s.engStart 0 [src.toNat, dst.toNat, len.toNat, out.toNat])
/-- AES_ENGINE: AES-256 over `len` bytes with the key bound to the engine. -/
def execAesEngine (src dst : BitVec 32) (len : BitVec 16) (s : State) : Host.Outcome State Fault Refusal :=
  .next (s.engStart 1 [src.toNat, dst.toNat, len.toNat])
def nttCode : NttOp → Nat
  | .verify => 0
  | .sign => 1
  | .encaps => 2
  | .decaps => 3
/-- NTT_ENGINE: an ML-DSA-65 or ML-KEM-768 operation: public key and signature, or ciphertext, at `key`; `len` bytes of
message at `msg`; the result at `dst`. A secret key comes from the slot bound to the engine. -/
def execNttEngine (op : NttOp) (key msg dst : BitVec 32) (len : BitVec 16) (s : State) : Host.Outcome State Fault Refusal :=
  .next (s.engStart 2 [nttCode op, key.toNat, msg.toNat, dst.toNat, len.toNat])

/-- The result of an engine's job and where it goes. (DESIGN CHOICE, log entry 73.) -/
def State.engDo (s : State) (e : Nat) (job : List Nat) : State :=
  let g := fun i => job.getD i 0
  let bound := fun k => SMap.get (fun _ => []) s.thm.ladder.bound k
  let put := fun (s : State) (a : Nat) (bs : List Byte) => if inSram a bs.length then s.setSram a bs else s
  match e with
  | 0 => put s (g 1) (Config.shake256 (s.sram (g 0) (g 2)) (g 3))
  | 1 => put s (g 1) (padTo (g 2) (Config.aesSeal (bound 0) [] (s.sram (g 0) (g 2))))
  | _ =>
    let msg := s.sram (g 2) (g 4)
    match g 0 with
    | 0 => put s (g 3) [if Config.mlDsaVerify (s.sram (g 1) 1952) msg (s.sram (g 1 + 1952) 3309) then 1 else 0]
    | 1 => put { s with fresh := s.fresh + 1 } (g 3) (padTo 3309 (Config.mlDsaSign (bound 1) msg s.fresh))
    | 2 =>
      let r := Config.mlKemEncaps (s.sram (g 1) 1184) s.fresh
      put { s with fresh := s.fresh + 1 } (g 3) (padTo 1088 r.1 ++ padTo 32 r.2)
    | _ => put s (g 3) (padTo 32 (Config.mlKemDecaps (bound 1) (s.sram (g 1) 1088)))

/-- ENGINE_COMPLETE (R343): an engine finishes and raises its interrupt. -/
def execEngineComplete (e : Fin 3) (s : State) : Host.Outcome State Fault Refusal :=
  match SMap.find s.thm.engJobs e.val with
  | none => .next s
  | some job =>
    let s := s.engDo e job
    .next ({ s with thm := { s.thm with engJobs := SMap.remove s.thm.engJobs e } }.tipend (3 + e.val))

end Sys2Proof.Machine
end

