-- ==== Sys2Proof/Machine/ThmCore.lean ====
section
/-! DEFINITION. The system instructions that the Thimble core shares with the cores (R339–R342): control registers (R74), the
return from an exception (R84), WAIT (R77), and illegal words (R65, R339). -/

namespace Sys2Proof.Machine

/-! ### Thimble's control registers (Table THM-3) -/

/-- Numbers that only read. -/
def thmRo (n : Nat) : Bool := n == 0x010 || n == 0x012 || n == 0x013 || n == 0x101 || n == 0x200 || n == 0x312 || n == 0x401 || n == 0x780
/-- Numbers of Table THM-3. -/
def thmListed (n : Nat) : Bool :=
  decide (n ≤ 0x004) || n == 0x008 || n == 0x009 || n == 0x020 || n == 0x100 || n == 0x201 || n == 0x202 || n == 0x300 ||
    n == 0x310 || n == 0x311 || n == 0x400 || (decide (0x500 ≤ n) && decide (n ≤ 0x77F)) || thmRo n
/-- Numbers whose write is an action and whose read is zero. -/
def thmWo (n : Nat) : Bool :=
  n == 0x100 || n == 0x201 || n == 0x202 || n == 0x300 || n == 0x310 || n == 0x311 || n == 0x400

/-- Engines that hold a request (MBSUM): their first request has been copied. -/
def State.mbsum (s : State) : Nat :=
  (List.range 64).foldl (fun m k => match (s.engine k).head? with
    | some e => if s.fld (mbxDbR e.1) F.mbxDb.STATE = dbQueued then m + 2 ^ k else m
    | none => m) 0

/-- A register as the core reads it. TCYCLE counts time the model does not, and the layout of ENT is not given: free.
(DESIGN CHOICE, log entry 71.) -/
def State.thmRead (s : State) (n : Nat) : State × Word :=
  if n = 0x010 ∨ n = 0x780 then (let (v, s) := s.freeBits 64; (s, v))
  else if n = 0x012 then (s, BitVec.ofNat 64 s.stitch)
  else if n = 0x013 then (s, BitVec.ofNat 64 s.taiNs)
  else if n = 0x101 then (s, BitVec.ofNat 64 (s.thm.xq.length % 32))
  else if n = 0x200 then (s, BitVec.ofNat 64 s.mbsum)
  else if thmWo n then (s, 0)
  else (s, s.tcr n)

/-- Bits a plain write reaches. -/
def thmMask (n : Nat) : Word :=
  if n = 0x000 then 1 else if n = 0x001 then ~~~3#64 else if n = 0x004 then ~~~0xFFF#64 else if n = 0x008 then 0x7FF
  else BitVec.allOnes 64

/-- A write of an action register. -/
def State.thmAction (s : State) (n v : Nat) : State :=
  if n = 0x100 then s.xqPut (v % 2 ^ 32)
  else if n = 0x201 then (if v < 64 then s.mbtake v else s)
  else if n = 0x202 then s.mbdone (v % 2 ^ 32)
  else if n = 0x300 then s.sintWrite (v % 2 ^ 32)
  else if n = 0x310 then s.claimSet v
  else if n = 0x311 then s.claimClr v
  else s.lcmd (v % 2 ^ 32)

/-- Change a register (R74): TIPEND and WAKE_PENDING clear where a 1 is written, TWDOG takes its kick, and action registers
act on a plain write only. -/
def State.thmWrite (s : State) (n : Nat) (op : CrOp) (v : Word) : State :=
  let old := s.tcr n
  let clears := match op with
    | .setBits => false
    | _ => true
  if thmRo n then s
  else if thmWo n then (match op with
    | .write => s.thmAction n v.toNat
    | _ => s)
  else if n = 0x009 then (if clears then s.setTcr n (old &&& ~~~v) else s)
  else if n = 0x020 then (match op with
    | .write => s.twdogWrite (bits v.toNat 31 16)
    | _ => s)
  else
    let m := thmMask n
    let w := match op with
      | .write => (old &&& ~~~m) ||| (v &&& m)
      | .setBits => old ||| (v &&& m)
      | .clearBits => old &&& ~~~(v &&& m)
    s.setTcr n (if n = 0x000 && clears then w &&& ~~~(v &&& 2#64) else w)

/-! ### Illegal words (R65, R339, R497) -/

/-- The subcause a word takes on the Thimble core; none when it lies in the subset of R339. -/
def thmIllegal (w : Nat) : Option Nat :=
  let m := wMajor w
  let base := m ≠ 0x29 && decide (1 ≤ m) && decide (m ≤ 0x28)
  let sfn := wSfn w
  if base then (if wordReserved w then some 0x00 else if wordNonZero w then some 0x02 else none)
  else if m = 0x30 && (decide (sfn ≤ 4) || (decide (7 ≤ sfn) && decide (sfn ≤ 0xC))) then
    if sfn ≤ 4 && !thmListed (wCrn w) then some 0x00
    else if wordNonZero w then some 0x02
    else if 1 ≤ sfn && decide (sfn ≤ 4) && thmRo (wCrn w) then some 0x01
    else none
  else some 0x00

/-- A system instruction of the subset on the Thimble core. -/
def State.thmSys (s : State) (word : IWord) (body : State → State) : State :=
  s.runInstr thmThread fun s => match thmIllegal word.toNat with
    | some sub => s.illegal thmThread sub word
    | none => body s

/-- CRGET to CRBC on the Thimble core. -/
def State.thmCr (s : State) (sfn rd ra n : Nat) (read : Bool) (op : Option CrOp) : State :=
  s.thmSys (encodeS rd ra sfn n) fun s =>
    let v := (s.thr thmThread).gr ra
    let (s, old) := if read then s.thmRead n else (s, 0)
    let s := match op with
      | some o => s.thmWrite n o v
      | none => s
    s.retireGpr thmThread (if read then rd else 0) old

/-- A control-register instruction on either kind of core. -/
def State.crInstr (s : State) (th sfn rd ra n : Nat) (read : Bool) (op : Option CrOp) : State :=
  if th = thmThread then s.thmCr sfn rd ra n read op
  else s.runInstr th fun s => s.crAccessOp th sfn rd ra n read op

/-- Read a control register into rd. (R74) -/
def execCrget (th : AnyThr) (rd : GIdx) (crn : BitVec 12) (s : State) : Host.Outcome State Fault Refusal :=
  .next (s.crInstr th 0 rd 0 crn.toNat true none)
/-- Write ra to a control register through its access codes. (R74) (DESIGN CHOICE, log entry 71.) -/
def execCrset (th : AnyThr) (ra : GIdx) (crn : BitVec 12) (s : State) : Host.Outcome State Fault Refusal :=
  .next (s.crInstr th 1 0 ra crn.toNat false (some .write))
/-- Swap a control register with ra as one action. (R74) -/
def execCrswp (th : AnyThr) (rd ra : GIdx) (crn : BitVec 12) (s : State) : Host.Outcome State Fault Refusal :=
  .next (s.crInstr th 2 rd ra crn.toNat true (some .write))
/-- Set the bits named by ra in RW and W1S fields, returning the old value. (R74) -/
def execCrbs (th : AnyThr) (rd ra : GIdx) (crn : BitVec 12) (s : State) : Host.Outcome State Fault Refusal :=
  .next (s.crInstr th 3 rd ra crn.toNat true (some .setBits))
/-- Clear the bits named by ra in RW and W1C fields, returning the old value. (R74) -/
def execCrbc (th : AnyThr) (rd ra : GIdx) (crn : BitVec 12) (s : State) : Host.Outcome State Fault Refusal :=
  .next (s.crInstr th 4 rd ra crn.toNat true (some .clearBits))

/-! ### Returns and WAIT -/

/-- Return from a handler of the Thimble core: to TEPC, with IE set, the only level and bit there is to restore. -/
def State.thmEret (s : State) : State :=
  let s := s.setTcr tcTSTATUS (s.tcr tcTSTATUS ||| 1#64)
  { s with thm := { s.thm with inHandler := false } }.retire thmThread (s.tcr tcTEPC &&& ~~~3#64) []

/-- Return from an exception at S or H, restoring PC, level and IE. (R84) (DESIGN CHOICE, log entry 71.) -/
def execEret (th : AnyThr) (s : State) : Host.Outcome State Fault Refusal :=
  .next (if th.val = thmThread then s.thmSys (encodeS 0 0 7 0) State.thmEret else
    s.runInstr th fun s => s.sysOp th (encodeS 0 0 7 0) fun s =>
      let y := (s.thr th).eret
      let pc := y.pc
      (s.setThr th y).retire th pc (leBytes 8 pc.toNat))

/-- WAIT of the Thimble core (R340): until an enabled interrupt is pending; where one is, it completes at once. -/
def State.thmWait (s : State) : State :=
  let x := s.thr thmThread
  if s.tcr tcTIEN &&& s.tcr tcTIPEND ≠ 0 then
    (s.setTcr tcTSTATUS (s.tcr tcTSTATUS ||| 2#64)).retire thmThread (x.pc + 4) []
  else s.setThr thmThread { x with waiting := true }

/-- WAIT (R77, R454): the thread stops until a wake source is asserted; `boundaryWake` and `pulse` say whether the
stitch-boundary wake and a port detector's single pulse are up in that cycle. On a pair a compare of the older instructions
comes first (Table TWN-4); the checker goes past a WAIT that the main core has ended. -/
def execWait (th : AnyThr) (boundaryWake pulse : Bool) (s : State) : Host.Outcome State Fault Refusal :=
  .next (if th.val = thmThread then s.thmSys (encodeS 0 0 8 0) State.thmWait else
    s.runInstr th fun s => s.sysOp th (encodeS 0 0 8 0) fun s =>
      let x := s.thr th
      if s.paired (th.val / 2) && x.sinceCmp ≠ 0 && !s.isChecker (th.val / 2) then s.force th
      else if s.isChecker (th.val / 2) then s.retire th (x.pc + 4) []
      else if s.wakeAsserted th boundaryWake pulse then
        (s.setThr th (x.setCrFld crPWRMODE F.crPWRMODE.WAKE_PENDING 1)).retire th (x.pc + 4) []
      else (s.setThr th { x with waiting := true }).coreFollow (th.val / 2))

/-- A reserved or malformed instruction word takes an illegal instruction exception (R65, R497); on the Thimble core every
word outside the subset of R339 does. A word that is legal for the thread as it stands is none, and nothing happens. (DESIGN CHOICE, log
entry 7.) -/
def execIllegalInstruction (th : AnyThr) (word : IWord) (s : State) : Host.Outcome State Fault Refusal :=
  let x := s.thr th
  match (if th.val = thmThread then thmIllegal word.toNat
    else illegalSub word.toNat x.pl (s.panelOf th == 0) x.utr x.uctr (x.st F.crSTATUS.FRM)) with
  | some sub => .next (s.runInstr th fun s => s.illegal th sub word)
  | none => .next s

end Sys2Proof.Machine
end

