-- ==== Sys2Proof/Decode.lean ====
section
/-! DEFINITION. Which instruction a 32-bit word is (R64, Tables ISA-1 to ISA-8). The table of operations and events gives no
row any bits, so no word spells a command in the table's own sense. -/

namespace Sys2Proof

open Sys2Proof.Machine

/-- The command that the low `nbits` bits of `w` spell by the table's bits: none, for the table gives no row bits.
(DESIGN CHOICE, log entry 5.) -/
def decodeTableWord (_nbits _w : Nat) : Option Instr := none

/-- A 5-bit register field, a mask register field, a code of two bits. -/
def gField (n : Nat) : GIdx := Fin.ofNat 32 n
def kField (n : Nat) : KIdx := Fin.ofNat 8 n
def wField (n : Nat) : Fin 4 := Fin.ofNat 4 n
/-- A VFP width code (R78): 01, 10 or 11. -/
def fpField (n : Nat) : FpWidth := if n = 1 then .half else if n = 2 then .single else .double

/-- Major 0x01: fn[10] is W and fn[9:0] selects the operation (R66, Table ISA-3). -/
def decodeAlu (th : AnyThr) (n : Nat) : Option Instr :=
  let rd := gField (wRd n)
  let ra := gField (wRa n)
  let rb := gField (wRb n)
  let w := bit n 10
  match wFn n % 1024 with
  | 0x000 => some (.add th rd ra rb w)
  | 0x001 => some (.sub th rd ra rb w)
  | 0x002 => some (.and th rd ra rb)
  | 0x003 => some (.or th rd ra rb)
  | 0x004 => some (.xor th rd ra rb)
  | 0x005 => some (.andn th rd ra rb)
  | 0x006 => some (.sll th rd ra rb w)
  | 0x007 => some (.srl th rd ra rb w)
  | 0x008 => some (.sra th rd ra rb w)
  | 0x009 => some (.ror th rd ra rb w)
  | 0x00A => some (.slt th rd ra rb)
  | 0x00B => some (.sltu th rd ra rb)
  | 0x00C => some (.min th rd ra rb)
  | 0x00D => some (.max th rd ra rb)
  | 0x00E => some (.minu th rd ra rb)
  | 0x00F => some (.maxu th rd ra rb)
  | 0x010 => some (.mul th rd ra rb w)
  | 0x011 => some (.mulh th rd ra rb)
  | 0x012 => some (.mulhu th rd ra rb)
  | 0x013 => some (.mulhsu th rd ra rb)
  | 0x014 => some (.div th rd ra rb w)
  | 0x015 => some (.divu th rd ra rb w)
  | 0x016 => some (.rem th rd ra rb w)
  | 0x017 => some (.remu th rd ra rb w)
  | 0x020 => some (.clz th rd ra)
  | 0x021 => some (.ctz th rd ra)
  | 0x022 => some (.popc th rd ra)
  | 0x023 => some (.bswap th rd ra)
  | _ => none

/-- Major 0x0A: W, KIND and SHAMT of a constant shift (Table ISA-4). -/
def decodeShi (th : AnyThr) (n : Nat) : Option Instr :=
  let rd := gField (wRd n)
  let ra := gField (wRa n)
  let amount : ShiftAmount := if bit n 8 then .word (Fin.ofNat 32 n) else .full (Fin.ofNat 64 n)
  match bits n 7 6 with
  | 0 => some (.shiSll th rd ra amount)
  | 1 => some (.shiSrl th rd ra amount)
  | 2 => some (.shiSra th rd ra amount)
  | _ => some (.shiRor th rd ra amount)

/-- Majors 0x02 to 0x28 in formats I, M, B and J (Table ISA-2). -/
def decodeBase (th : AnyThr) (n : Nat) : Option Instr :=
  let rd := gField (wRd n)
  let ra := gField (wRa n)
  let imm := BitVec.ofNat 16 n
  let disp15 := BitVec.ofNat 15 n
  let disp25 := BitVec.ofNat 25 n
  match wMajor n with
  | 0x02 => some (.addi th rd ra imm)
  | 0x03 => some (.andi th rd ra imm)
  | 0x04 => some (.ori th rd ra imm)
  | 0x05 => some (.xori th rd ra imm)
  | 0x06 => some (.slti th rd ra imm)
  | 0x07 => some (.sltiu th rd ra imm)
  | 0x08 => some (.lui th rd imm)
  | 0x09 => some (.addpc th rd imm)
  | 0x0A => decodeShi th n
  | 0x10 => some (.lb th rd ra imm)
  | 0x11 => some (.lh th rd ra imm)
  | 0x12 => some (.lw th rd ra imm)
  | 0x13 => some (.ld th rd ra imm)
  | 0x14 => some (.lbu th rd ra imm)
  | 0x15 => some (.lhu th rd ra imm)
  | 0x16 => some (.lwu th rd ra imm)
  | 0x18 => some (.sb th rd ra imm)
  | 0x19 => some (.sh th rd ra imm)
  | 0x1A => some (.sw th rd ra imm)
  | 0x1B => some (.sd th rd ra imm)
  | 0x20 => some (.beq th rd ra (bit n 15) disp15)
  | 0x21 => some (.bne th rd ra (bit n 15) disp15)
  | 0x22 => some (.blt th rd ra (bit n 15) disp15)
  | 0x23 => some (.bge th rd ra (bit n 15) disp15)
  | 0x24 => some (.bltu th rd ra (bit n 15) disp15)
  | 0x25 => some (.bgeu th rd ra (bit n 15) disp15)
  | 0x26 => some (.j th disp25)
  | 0x27 => some (.jal th (bit n 25) disp25)
  | 0x28 => some (.jalr th rd ra imm)
  | _ => none

/-- Major 0x29: bits [5:4] are SIZE and bits [3:0] the operation (Table ISA-5); a CAS is wide at 16 bytes, any other at 8. -/
def decodeAmo (th : Thr) (n : Nat) : Option Instr :=
  let rd := gField (wRd n)
  let ra := gField (wRa n)
  let rb := gField (wRb n)
  let wide := bit n 4
  match bits n 3 0 with
  | 0 => some (.amoSwap th rd ra rb wide)
  | 1 => some (.amoAdd th rd ra rb wide)
  | 2 => some (.amoAnd th rd ra rb wide)
  | 3 => some (.amoOr th rd ra rb wide)
  | 4 => some (.amoXor th rd ra rb wide)
  | 5 => some (.amoMin th rd ra rb wide)
  | 6 => some (.amoMax th rd ra rb wide)
  | 7 => some (.amoMinu th rd ra rb wide)
  | 8 => some (.amoMaxu th rd ra rb wide)
  | 9 => some (.amoCas th rd ra rb (bit n 5))
  | _ => none

/-- Major 0x30: sfn selects the system operation (Table ISA-6), and crn[2:0] the mode of a TLBINV (Table ISA-7). What a WAIT
meets in its cycle (`boundaryWake`, `pulse`) is no part of its word. -/
def decodeSys (th : AnyThr) (n : Nat) (boundaryWake pulse : Bool) : Option Instr :=
  let rd := gField (wRd n)
  let ra := gField (wRa n)
  let crn := BitVec.ofNat 12 n
  let core (f : Thr → Instr) : Option Instr := if h : th.val < 384 then some (f ⟨th.val, h⟩) else none
  match wSfn n with
  | 0x0 => some (.crget th rd crn)
  | 0x1 => some (.crset th ra crn)
  | 0x2 => some (.crswp th rd ra crn)
  | 0x3 => some (.crbs th rd ra crn)
  | 0x4 => some (.crbc th rd ra crn)
  | 0x5 => core (.syscall · crn)
  | 0x6 => core (.hostcall · crn)
  | 0x7 => some (.eret th)
  | 0x8 => some (.wait th boundaryWake pulse)
  | 0x9 => some (.fence th)
  | 0xA => some (.ifsync th)
  | 0xB => some (.pbar th)
  | 0xC => some (.pflush th)
  | 0xD =>
    match bits n 1 0 with
    | 0 => core (.tlbinvAll · (bit n 2))
    | 1 => core (.tlbinvAsid · ra (bit n 2))
    | 2 => core (.tlbinvVa · ra (bit n 2))
    | _ => core (.tlbinvVaAsid · ra (bit n 2))
  | _ => none

/-- Major 0x38: vector integer (Table ISA-8). -/
def decodeVint (th : Thr) (n : Nat) : Option Instr :=
  let vd := gField (wRd n)
  let va := gField (wRa n)
  let vb := gField (wRb n)
  let kd := kField (wRd n)
  let k := kField (wK n)
  let z := bit n 7
  let w := wField (wW n)
  match wOp n with
  | 0 => some (.vadd th vd va vb k z w)
  | 1 => some (.vsub th vd va vb k z w)
  | 2 => some (.vand th vd va vb k z w)
  | 3 => some (.vor th vd va vb k z w)
  | 4 => some (.vxor th vd va vb k z w)
  | 5 => some (.vsll th vd va vb k z w)
  | 6 => some (.vsrl th vd va vb k z w)
  | 7 => some (.vsra th vd va vb k z w)
  | 8 => some (.vmin th vd va vb k z w)
  | 9 => some (.vmax th vd va vb k z w)
  | 10 => some (.vminu th vd va vb k z w)
  | 11 => some (.vmaxu th vd va vb k z w)
  | 12 => some (.vmul th vd va vb k z w)
  | 13 => some (.vmulh th vd va vb k z w)
  | 14 => some (.vaddsat th vd va vb k z w)
  | 15 => some (.vsubsat th vd va vb k z w)
  | 16 => some (.vcmpeq th kd va vb k z w)
  | 17 => some (.vcmplt th kd va vb k z w)
  | 18 => some (.vcmpltu th kd va vb k z w)
  | _ => none

/-- Major 0x39: vector floating point (Table ISA-8); VFCVTW has its source width in vb[1:0] (R79). -/
def decodeVfp (th : Thr) (n : Nat) : Option Instr :=
  let vd := gField (wRd n)
  let va := gField (wRa n)
  let vb := gField (wRb n)
  let kd := kField (wRd n)
  let k := kField (wK n)
  let z := bit n 7
  let w := fpField (wW n)
  match wOp n with
  | 0 => some (.vfadd th vd va vb k z w)
  | 1 => some (.vfsub th vd va vb k z w)
  | 2 => some (.vfmul th vd va vb k z w)
  | 3 => some (.vfdiv th vd va vb k z w)
  | 4 => some (.vfsqrt th vd va k z w)
  | 5 => some (.vfmin th vd va vb k z w)
  | 6 => some (.vfmax th vd va vb k z w)
  | 7 => some (.vfma th vd va vb k z w)
  | 8 => some (.vfms th vd va vb k z w)
  | 9 => some (.vfnma th vd va vb k z w)
  | 10 => some (.vfcmpeq th kd va vb k z w)
  | 11 => some (.vfcmplt th kd va vb k z w)
  | 12 => some (.vfcmple th kd va vb k z w)
  | 13 => some (.vfcvtfi th vd va k z w)
  | 14 => some (.vfcvtif th vd va k z w)
  | 15 => some (.vfcvtw th vd va k z w (fpField (wRb n % 4)))
  | _ => none

/-- Major 0x3A: vector memory (Table ISA-8). -/
def decodeVmem (th : Thr) (n : Nat) : Option Instr :=
  let vd := gField (wRd n)
  let ra := gField (wRa n)
  let rb := gField (wRb n)
  let kd := kField (wRd n)
  let k := kField (wK n)
  let z := bit n 7
  let w := wField (wW n)
  match wOp n with
  | 0 => some (.vld th vd ra rb k z w)
  | 1 => some (.vst th vd ra rb k z w)
  | 2 => some (.vldb th vd ra rb k z w)
  | 3 => some (.vgather th vd ra rb k z w)
  | 4 => some (.vscatter th vd ra rb k z w)
  | 5 => some (.kld th kd ra rb w)
  | 6 => some (.kst th kd ra rb w)
  | _ => none

/-- Major 0x3B: mask, permute, reduce (Table ISA-8). -/
def decodeVmsk (th : Thr) (n : Nat) : Option Instr :=
  let rd := gField (wRd n)
  let ra := gField (wRa n)
  let rb := gField (wRb n)
  let kd := kField (wRd n)
  let ka := kField (wRa n)
  let kb := kField (wRb n)
  let k := kField (wK n)
  let z := bit n 7
  let w := wField (wW n)
  match wOp n with
  | 0 => some (.kand th kd ka kb)
  | 1 => some (.kor th kd ka kb)
  | 2 => some (.kxor th kd ka kb)
  | 3 => some (.knot th kd ka)
  | 4 => some (.ktog th rd ka)
  | 5 => some (.gtok th kd ra)
  | 6 => some (.vperm th rd ra rb k z w)
  | 7 => some (.vcompress th rd ra k z w)
  | 8 => some (.vext th rd ra rb w)
  | 9 => some (.vins th rd ra rb w)
  | 10 => some (.vredadd th rd ra k z w)
  | 11 => some (.vredmin th rd ra k z w)
  | 12 => some (.vredmax th rd ra k z w)
  | 13 => some (.vfredadd th rd ra k z (fpField (wW n)))
  | 14 => some (.vbcast th rd ra k z w)
  | _ => none

/-- The instruction that a word is for a thread: its major opcode fixes the format, and fn, sfn or op selects the operation
(R64, R66). None where the encoding is reserved or a field that must be zero is not (R65, subcauses 0x00 and 0x02), and on the
Thimble core where it lies outside the core's subset (R339). What the level or the operands forbid (R71, R73, R79, R81) is the
instruction's own meaning. (DESIGN CHOICE, log entry 5.) -/
def decodeWord (th : AnyThr) (word : IWord) (boundaryWake pulse : Bool) : Option Instr :=
  let n := word.toNat
  let core (f : Thr → Option Instr) : Option Instr := if h : th.val < 384 then f ⟨th.val, h⟩ else none
  if th.val = thmThread then
    if thmIllegal n = some 0x00 ∨ thmIllegal n = some 0x02 then none
    else if wMajor n = 0x01 then decodeAlu th n
    else if wMajor n = 0x30 then decodeSys th n boundaryWake pulse
    else decodeBase th n
  else if wordReserved n || wordNonZero n then none else
  match wMajor n with
  | 0x01 => decodeAlu th n
  | 0x29 => core fun th => decodeAmo th n
  | 0x30 => decodeSys th n boundaryWake pulse
  | 0x38 => core fun th => decodeVint th n
  | 0x39 => core fun th => decodeVfp th n
  | 0x3A => core fun th => decodeVmem th n
  | 0x3B => core fun th => decodeVmsk th n
  | _ => decodeBase th n

end Sys2Proof
end

