-- ==== Sys2Proof/Machine/Tape.lean ====
section
/-! DEFINITION. The Tape: what each account counts (R328–R331), the minute sheets (R332, R333) and their records. -/

namespace Sys2Proof.Machine

def Acct.init (p build stitch : Nat) : Acct :=
  { panel := p, build := build, opened := false, final := false, twin := false, sealed := false, reset := false,
    fault := false, cores := 0, memg := 0, cxlg := 0, lines := 0, txup := 0, txfab := 0, txloc := 0, rxup := 0,
    rxfab := 0, rxloc := 0, ways := 0, energy := 0, first := stitch, last := stitch }

/-- Bits of a 16-way mask. -/
def popWays (m : Nat) : Nat := ((List.range 16).filter fun i => bit m i).length

/-- The panel that pays for a core's stitch (Table CUT-8): the one granted; panel 0 for a sealed hem and for a core that a
debugger halts (R360). -/
def State.coreBilled (s : State) (c : Nat) : Option Nat :=
  let x := s.core c
  if s.flag (cutCoreR c) F.cutCore.G then
    some (if x.thr0.halted || x.thr1.halted then 0 else s.fld (cutCoreR c) F.cutCore.PANEL)
  else if s.flag (cutCoreR c) F.cutCore.SH then some 0
  else none

/-- Amounts of a panel sampled at the boundary that ends a stitch (Table CUT-8): core-stitches, granules of protected
memory and of CXL memory, ways. -/
def State.sampled (s : State) (p : Nat) : Nat × Nat × Nat × Nat :=
  let cores := ((List.range 192).filter fun c => s.coreBilled c == some p).length
  let mine := s.pot.filter fun e => potPanel e.2 == p &&
    (potKind e.2 == kOwned || potKind e.2 == kSave || potKind e.2 == kStage || potKind e.2 == kMcopy)
  let prot := (mine.filter fun e => decide (e.1 * 65536 < s.protTop)).length
  let ways := ((s.boltCores (s.panelBolt p)).map fun t =>
    let r := s.rd { kind := .wrpL3way, i := t, j := p }
    popWays (F.wrpL3way.ALLOC.get r ||| F.wrpL3way.LOCK.get r)).sum
  (cores, prot, mine.length - prot, ways)

/-- Counter numbers of the sampled amounts in a retired bank. -/
def cntCores : Nat := 110
def cntMemg : Nat := 111
def cntCxlg : Nat := 112
def cntWays : Nat := 113

/-- Task 0 (R330): the bank of the stitch that ends is retired with its sampled amounts, and a new one begins.
`energy` is the 48 V input energy the power controller measured in the stitch, µJ. -/
def State.swapBanks (s : State) (energy : Nat) : State :=
  let put := fun (m : SMap Nat) p k v => SMap.put (fun _ => 0) m (p * 1024 + k) v
  let m := s.panels'.foldl (fun m p =>
    let (c, g, x, w) := s.sampled p
    put (put (put (put m p cntCores c) p cntMemg g) p cntCxlg x) p cntWays w) s.tape.bank
  let ports := s.panels'.flatMap fun p => (List.range 16).map fun j => (p * 16 + j, bankGet m p (64 + j))
  let hist : SMap Nat := ports.foldl (fun h e => SMap.put (fun _ => 0) h e.1 e.2) []
  let misses := s.panels'.foldl (fun a p => (List.range 192).foldl (fun a t =>
    let n := bankGet m p (cntMiss t)
    if n = 0 then a else SMap.put (fun _ => 0) a (p * 192 + t) (SMap.get (fun _ => 0) a (p * 192 + t) + n)) a)
    (if s.stitch % 1000 = 0 then [] else s.cut.misses)
  { s with
    tape := { s.tape with bank := [], retired := some { stitch := s.stitch, counts := m, energy := energy }, usage := m }
    cut := { s.cut with portHist := (hist :: s.cut.portHist).take 100, misses := misses } }

/-- A tenant's energy of one stitch: within 5 % of what its activity caused, which the manual does not compute (R329);
a free value. -/
def Acct.add (x : Acct) (b : Bank) (energy : Nat) : Acct :=
  let g := bankGet b.counts x.panel
  { x with
    cores := x.cores + g cntCores, memg := x.memg + g cntMemg, cxlg := x.cxlg + g cntCxlg
    lines := x.lines + ((List.range 32).map fun ch => g (cntLine ch)).sum
    txup := x.txup + g cntTxUp, txfab := x.txfab + g cntTxFab, txloc := x.txloc + g cntTxLoc
    rxup := x.rxup + g cntRxUp, rxfab := x.rxfab + g cntRxFab, rxloc := x.rxloc + g cntRxLoc
    ways := x.ways + g cntWays, energy := x.energy + energy, last := b.stitch }

/-- Add a bank into a sheet: every account open in the stitch; panel 0 takes the rest of the energy at the end.
(DESIGN CHOICE, log entry 38.) -/
def addBank (b : Bank) : Nat → List Acct → List Acct
  | _, [] => []
  | k, x :: xs =>
    (if (x.final && x.last < b.stitch) || b.stitch < x.first then x else x.add b (if x.panel = 0 then 0 else Config.freeNat k)) ::
      addBank b (k + 1) xs

/-- Panel 0's ENERGY: the sheet's input energy less the tenants' (R329), modulo 2^64. -/
def Sheet.settle (x : Sheet) : Sheet :=
  let others := ((x.accts.filter fun a => a.panel ≠ 0).map (·.energy)).sum
  { x with accts := x.accts.map fun a =>
      if a.panel = 0 then { a with energy := (x.energy + 2 ^ 64 - others % 2 ^ 64) % 2 ^ 64 } else a }

def Sheet.add (x : Sheet) (b : Bank) (k : Nat) : Sheet :=
  ({ x with accts := addBank b k x.accts, energy := x.energy + b.energy }).settle

/-- A record's FLAGS (Table CUT-11). -/
def Acct.flags (x : Acct) : Nat :=
  b2n x.opened + 2 * b2n x.final + 4 * b2n x.twin + 8 * b2n x.sealed + 16 * b2n x.reset + 32 * b2n x.fault

/-- A sheet record (Table CUT-11). -/
def Acct.bytes (x : Acct) (modid : Nat) : List Byte :=
  leBytes 4 (modid * 512 + x.panel) ++ leBytes 4 x.flags ++
  ([x.build, x.cores, x.memg, x.cxlg, x.lines, x.txup, x.txfab, x.txloc, x.rxup, x.rxfab, x.rxloc, x.ways, x.energy,
    x.first, x.last]).flatMap (leBytes 8)

/-- TAPE.STAT after a change (Table CUT-9). -/
def State.tapeStat (s : State) : State :=
  let r : Reg := { kind := .tapeStat }
  let seq := s.sw.pers.seq + 1 + s.tape.closed.length
  let s := (s.setFld r F.tapeStat.SEQ seq).setFld r F.tapeStat.PEND (b2n (!s.tape.closed.isEmpty))
  s.setFld r F.tapeStat.NACC (match s.tape.sheet with | some x => x.accts.length | none => 0)

/-- The running totals at TAPE.LIVEp (R331). -/
def State.writeLive (s : State) : State :=
  match s.tape.sheet with
  | none => s
  | some x => x.accts.foldl (fun s a =>
      if a.final then s else
      let b := a.bytes s.myId
      (List.range 16).foldl (fun s j => s.wr { kind := .tapeLive, i := a.panel, j := j } (field b (8 * j) 8)) s) s

/-- The accumulator adds the retired bank into the sheet that covers its stitch (R330, R331).
(DESIGN CHOICE, log entry 37.) -/
def State.accumulate (s : State) : State :=
  match s.tape.retired with
  | none => s
  | some b =>
    let k := s.fresh
    let s := { s with fresh := s.fresh + 1024 }
    let covers := fun (x : Sheet) => decide (x.start ≤ b.stitch) && decide (b.stitch < x.stop)
    let t := s.tape
    let t := if t.closed.any covers then
        { t with closed := t.closed.map fun x => if covers x then x.add b k else x }
      else { t with sheet := t.sheet.map fun x => if x.start ≤ b.stitch then x.add b k else x }
    ({ s with tape := { t with retired := none } }.writeLive).tapeStat

/-- TAPE_ACCUMULATE (R330): the pipeline adds the retired bank into the minute totals. (DESIGN CHOICE, log entry 37.) -/
def execTapeAccumulate (s : State) : Host.Outcome State Fault Refusal := .next s.accumulate

/-- Start a sheet at a stitch, with every account still open carried over. -/
def newSheet (accts : List Acct) (start : Nat) (step reset loss : Bool) : Sheet :=
  { minute := start / 6000000, start := start, stop := (start / 6000000 + 1) * 6000000, modid := 0
    step := step, reset := reset, loss := loss, late := false, energy := 0
    accts := (accts.filter fun a => !a.final).map fun a =>
      { Acct.init a.panel a.build start with twin := a.twin, sealed := a.sealed } }

/-- Close the open sheet at stitch `stop`; the next begins at `next` under the given flags (R332).
(DESIGN CHOICE, log entry 39.) -/
def State.closeSheet (s : State) (stop next : Nat) (step reset : Bool) (reopen : Bool) : State :=
  match s.tape.sheet with
  | none => s
  | some x =>
    let done := { x with stop := stop, step := x.step || step, reset := x.reset || reset, modid := s.myId }
    let s := { s with tape := { s.tape with
      closed := s.tape.closed ++ [done]
      sheet := if reopen then some (newSheet x.accts next step false false) else none } }
    s.tapeStat

/-- An account opens (R328, R333). -/
def State.openAcct (s : State) (p build : Nat) : State :=
  match s.tape.sheet with
  | none => s
  | some x =>
    let fl := s.ct p 6 1
    let a := { Acct.init p build s.stitch with opened := true, twin := bit fl 1, sealed := bit fl 0 }
    let accts := sortBy (fun (a b : Acct) => a.panel < b.panel || (a.panel == b.panel && a.build < b.build)) (x.accts ++ [a])
    { s with tape := { s.tape with sheet := some { x with accts := accts } } }.tapeStat

/-- Change the open account of a panel. -/
def State.onAcct (s : State) (p : Nat) (f : Acct → Acct) : State :=
  { s with tape := { s.tape with sheet := s.tape.sheet.map fun x =>
      { x with accts := x.accts.map fun a => if a.panel = p ∧ a.final = false then f a else a } } }

/-- Move core-stitches from a panel to panel 0 within the open sheet (R418, R435): those of the stitches from `first`
on that lie in it. -/
def State.moveCores (s : State) (p first stitches cores : Nat) : State :=
  match s.tape.sheet with
  | none => s
  | some x =>
    let inside := stitches - (x.start - first)
    let n := inside * cores
    (s.onAcct p fun a => { a with cores := a.cores - n }).onAcct 0 fun a => { a with cores := a.cores + n }

/-- The account's RESET and FAULT flags (Table CUT-11). -/
def State.acctReset (s : State) (p : Nat) : State := s.onAcct p fun a => { a with reset := true }
def State.acctFault (s : State) (p : Nat) : State := s.onAcct p fun a => { a with fault := true }

end Sys2Proof.Machine
end

