-- ==== Sys2Proof/Machine/Sign.lean ====
section
/-! DEFINITION. Signing minute sheets (R334–R337): the record tree, the header, and the signature. -/

namespace Sys2Proof.Machine

/-- One level of the tree (R334): pairs in order, an odd last node passes up. -/
def treeLevel : List (List Byte) → List (List Byte)
  | a :: b :: rest => Config.shake256 ([1#8] ++ a ++ b) 64 :: treeLevel rest
  | l => l

/-- The top node after at most `n` levels. -/
def treeRoot : Nat → List (List Byte) → List Byte
  | 0, l => l.headD []
  | n + 1, l => if l.length ≤ 1 then l.headD [] else treeRoot n (treeLevel l)

def leafOf (r : List Byte) : List Byte := Config.shake256 ([0#8] ++ r) 64

/-- Sibling hashes from the leaf level upward (Table CUT-12). -/
def treePath : Nat → Nat → List (List Byte) → List (List Byte)
  | 0, _, _ => []
  | n + 1, i, l =>
    if l.length ≤ 1 then []
    else
      let sib := if i % 2 = 1 then l[i - 1]? else l[i + 1]?
      (match sib with | some x => [x] | none => []) ++ treePath n (i / 2) (treeLevel l)

/-- The sheet that was signed last: it may still wait for a flush. -/
def State.lastSheet (s : State) : Option Signed :=
  let waiting := s.sw.wait.filterMap fun w => match w.1 with
    | .sheet x => some x
    | _ => none
  (waiting ++ s.sw.store.sheets).find? fun x => x.seq == s.sw.pers.seq

/-- The metering public key (Table ATT-1). -/
def State.meterKey (s : State) : List Byte := Config.mlDsaPub ((s.slot 2).take 32)

/-- A sheet header (Table CUT-10). -/
def Sheet.header (x : Sheet) (serial seq : Nat) (prev : Option Signed) (key : List Byte) : List Byte :=
  let whole := x.start % 6000000 = 0 ∧ x.stop = x.start + 6000000
  let flags := b2n (!decide whole) + 2 * b2n x.step + 4 * b2n x.reset + 8 * b2n x.loss + 16 * b2n x.late + 32 * b2n prev.isNone
  let recs := x.accts.map fun a => a.bytes x.modid
  let prevHash := match prev with
    | some p => Config.shake256 (p.hdr ++ p.sig) 64
    | none => List.replicate 64 0
  [0x54#8, 0x50, 0x53, 0x48] ++ leBytes 2 1 ++ leBytes 2 flags ++ leBytes 8 x.minute ++ leBytes 8 x.start ++ leBytes 8 x.stop ++
    leBytes 16 serial ++ leBytes 2 x.modid ++ leBytes 2 recs.length ++ leBytes 4 seq ++
    treeRoot 11 (recs.map leafOf) ++ prevHash ++ Config.shake256 key 64 ++ List.replicate 8 0

/-- Sign the oldest closed sheet; none is signed while the debug taint holds (R362). -/
def State.signNext (s : State) : State :=
  if s.thm.taint then s else
  match s.tape.closed with
  | [] => s
  | x :: rest =>
    let seq := (s.sw.pers.seq + 1) % 2 ^ 32
    let hdr := x.header s.sw.store.pers.serial seq (if s.sw.pers.seq = 0xFFFFFFFF then none else s.lastSheet) s.meterKey
    let y : Signed := { seq := seq, minute := x.minute, hdr := hdr, sig := Config.mlDsaSign ((s.slot 2).take 32) hdr s.fresh }
    let p := { s.sw.pers with seq := seq }
    let recs := x.accts.map fun a => a.bytes x.modid
    let s := { s with
      fresh := s.fresh + 1
      tape := { s.tape with closed := rest, records := ((seq, recs) :: s.tape.records).take 1440 }
      sw := { s.sw with pers := p } }
    ((s.swWrite (.sheet y)).swWrite (.pers p)).tapeStat

/-- Sign every closed sheet, oldest first. -/
def State.signAll (s : State) : State := s.tape.closed.foldl (fun s _ => s.signNext) s

/-- SHEET_SIGN (R335): Thimble signs the oldest closed sheet. -/
def execSheetSign (s : State) : Host.Outcome State Fault Refusal := .next s.signNext

/-- THM_LATE (R336): a sheet not signed 500 stitches after its end is marked LATE, and the delay recorded. -/
def execThmLate (s : State) : Host.Outcome State Fault Refusal :=
  match s.tape.closed.find? fun x => !x.late && decide (x.stop + 500 ≤ s.stitch) with
  | none => .next s
  | some x =>
    let mark := fun (y : Sheet) => if y = x then { y with late := true } else y
    .next ({ s with tape := { s.tape with closed := s.tape.closed.map mark } }.logErr
      { unitId := unitId 0x0A 0, cls := 0, code := 0x4B, action := 0, detail := s.stitch - x.stop })

end Sys2Proof.Machine
end

