-- ==== Sys2Proof/Machine/OckDebug.lean ====
section
/-! DEFINITION. Debug certificates and sessions (R358–R362, R446), key registration (R358, R374, R392), and the commands of
the Debug group (Table OCK-20). -/

namespace Sys2Proof.Machine

/-! ### Certificates (Table THM-12) -/

def magicDBGC : List Byte := [0x44, 0x42, 0x47, 0x43]
def magicSWSC : List Byte := [0x53, 0x57, 0x53, 0x43]
def scPanel : Nat := 0
def scHost : Nat := 1
def scThimble : Nat := 2

/-- The module's serial number (R357). -/
def State.serial (s : State) : Nat := s.sw.store.pers.serial

/-- The layout is in order (check 2 of R359): MAGIC, VERSION, reserved fields, and the PANEL field zero without PANEL
scope. A service certificate has SCOPE zero. -/
def certForm (svc : Bool) (c : List Byte) : Bool :=
  let scope := field c 6 2
  c.take 4 == (if svc then magicSWSC else magicDBGC) && field c 4 2 == 1 && bits scope 14 3 == 0 && field c 60 4 == 0 &&
    (bit scope 0 || field c 56 4 == 0) && (!svc || scope == 0)

/-- The checks of R359 in order; the nonce is consumed once it is found, whether or not later checks pass. `key` is the
authority's key, empty where none is registered. A service certificate skips step 1. -/
def State.certCheck (s : State) (svc : Bool) (key c : List Byte) : State × Bool :=
  if !svc && s.thm.fuses.dbglock then (s, false)
  else if !certForm svc c then (s, false)
  else if field c 8 16 ≠ s.serial then (s, false)
  else
    let nonce := (c.drop 24).take 32
    match s.thm.nonces.find? fun n => n.1 == nonce with
    | none => (s, false)
    | some n =>
      let s := { s with thm := { s.thm with nonces := s.thm.nonces.filter fun m => m.1 ≠ nonce } }
      let exp := field c 64 8
      (s, key ≠ [] && (c.drop 72).take 64 == Config.shake256 key 64 &&
        Config.mlDsaVerify key (c.take 136) (c.drop 136) && decide (s.stitch < exp) && decide (exp ≤ n.2 + 8640000000))

/-! ### Sessions (R360–R362) -/

/-- A secure interrupt to thread 0 of every started seat of a panel. -/
def State.tellSeats (s : State) (p num : Nat) : State :=
  (s.seats.filter fun e => e.1 / 256 == p && e.2.started).foldl (fun s e => s.sendSint p (e.1 % 256) 0 num) s

/-- Cores a debugger may halt: those granted to the panel, main cores only. -/
def State.debugCores (s : State) (p : Nat) : List Nat :=
  (List.range 192).filter fun c => (s.core c).seat.any (fun e => e.1 == p) && !s.isChecker c

/-- A scope opens: DEBUG_OPEN to the panel's seats, and the panel has been under debug since launch. -/
def State.openScope (s : State) (p : Nat) : State :=
  let s := s.setPanel p { s.panel p with debugEver := true }
  s.tellSeats p 1

/-- THIMBLE scope sets the taint that lasts until the next cold reset: slots 1 and 2 are cleared (R362). The open
sheet is signed before. -/
def State.setTaint (s : State) : State :=
  let s := (s.closeSheet s.stitch s.stitch false false true).signAll
  let s := (s.fillSlot 1 (List.replicate 64 0) false).fillSlot 2 (List.replicate 64 0) false
  { s with thm := { s.thm with taint := true } }

/-- Resume a halted core and end its override (R361). -/
def State.resumeCore (s : State) (c : Nat) : State :=
  let x := s.core c
  if x.thr0.halted || x.thr1.halted then
    let go := fun (t : Thread) => { t with halted := false, stepping := false }
    let s := s.setCore c { x with thr0 := go x.thr0, thr1 := go x.thr1 }
    s.wr (cutOvrR c) 0
  else s

/-- A session closes (R361): DEBUG_CLOSE, halted cores resumed, overrides ended. -/
def State.closeDebug (s : State) (x : DbgSession) : State :=
  let s := { s with thm := { s.thm with dbgs := s.thm.dbgs.filter fun y => y ≠ x } }
  if !x.opened then s else
  let ps := (if bit x.scope scPanel then [x.panel] else []) ++ (if bit x.scope scHost then [0] else [])
  let s := ps.foldl (fun s p => (s.tellSeats p 2)) s
  let s := ps.foldl (fun s p => (s.debugCores p).foldl State.resumeCore s) s
  if bit x.scope scThimble then s.setThr thmThread { s.thr thmThread with halted := false } else s

/-- The sessions that concern a panel close when it leaves RUNNING (R361). -/
def State.closePanelDebug (s : State) (p : Nat) : State :=
  (s.thm.dbgs.filter fun x => (bit x.scope scPanel && x.panel == p) || (bit x.scope scHost && p == 0)).foldl State.closeDebug s

/-- DEBUG_EXPIRY (R361): the session of a nonce closes once its EXPIRY boundary has passed. -/
def execDebugExpiry (nonce : BitVec 256) (s : State) : Host.Outcome State Fault Refusal :=
  match s.thm.dbgs.find? fun x => ofLeBytes x.nonce == nonce.toNat with
  | some x => .next (if x.expiry ≤ s.stitch then s.closeDebug x else s)
  | none => .next s

/-- A debug session is open on a panel (Table ATT-4, DBGNOW). -/
def State.debugNow (s : State) (p : Nat) : Bool :=
  s.thm.dbgs.any fun x => x.opened && ((bit x.scope scPanel && x.panel == p) || (bit x.scope scHost && p == 0))

/-- Open a checked session's scopes: THIMBLE scope needs every tenant panel EMPTY; PANEL and HOST scope a RUNNING panel. -/
def State.openSession (s : State) (x : DbgSession) : State :=
  let s := { s with thm := { s.thm with dbgs := s.thm.dbgs.filter (· ≠ x) ++ [{ x with opened := true }] } }
  let s := if bit x.scope scPanel then s.openScope x.panel else s
  let s := if bit x.scope scHost then s.openScope 0 else s
  if bit x.scope scThimble then s.setTaint else s

/-! ### Commands (Table OCK-20) -/

/-- DBG_NONCE (R359): a fresh nonce; at most four are outstanding, the fifth retires the oldest. -/
def execDbgNonce (s : State) : Host.Outcome State Fault Refusal :=
  .next (s.ockar 0x0E01 [] fun _ s =>
    if !s.entropyOk then (s, .no stInternal noOff 0) else
    let (n, s) := s.entropy 32
    let l := s.thm.nonces ++ [(n, s.stitch)]
    ({ s with thm := { s.thm with nonces := l.drop (l.length - 4) } }, .ok n))

/-- Every panel but 0 is EMPTY. -/
def State.tenantsEmpty (s : State) : Bool := (List.range 511).all fun i => s.pstate (i + 1) == psEmpty

/-- DBG_OPEN (R359, R360, R362, R446). A tenant's session waits for the panel's consent. A refused certificate has
consumed its nonce when that was found. In SAFE_HOLD only service certificates are served (R472). -/
def execDbgOpen (s : State) : Host.Outcome State Fault Refusal :=
  .next (s.ockar 0x0E02 [(0, 3445)] fun q s =>
    let c := q.payload
    if c.take 4 = magicSWSC then
      match s.certCheck true Config.rootKey c with
      | (s, true) => ({ s with thm := { s.thm with service := (hdRequester q.head, field c 64 8) :: s.thm.service } }, .ok [])
      | (s, false) => (s.reply q stDenied s.stitch (refusal noOff 0), .done)
    else if s.safeHold then (s, .no stDenied noOff 0)
    else
      let scope := field c 6 2
      match s.certCheck false s.thm.conf.dbgauth c with
      | (s, false) => (s.reply q stDenied s.stitch (refusal noOff 0), .done)
      | (s, true) =>
        let refuse := fun (s : State) (st : Nat) => (s.reply q st s.stitch (refusal noOff 0), Ans.done)
        let h := field c 56 4
        let p := h % 512
        if bits scope 15 3 ≠ 0 ∨ scope = 0 then refuse s stDenied
        else if bit scope scPanel ∧ h ≠ s.handle p then refuse s stDenied
        else if (bit scope scPanel ∧ s.pstate p ≠ psRunning) ∨ (bit scope scThimble ∧ !s.tenantsEmpty) then
          refuse s stStateConflict
        else
          let nonce := (c.drop 24).take 32
          let x : DbgSession := { scope := scope, panel := p, nonce := nonce, expiry := field c 64 8, opened := false, job := none }
          if bit scope scPanel ∧ p ≠ 0 ∧ (p, nonce) ∉ s.thm.consents then
            let x := { x with job := s.jobId }
            ({ s with thm := { s.thm with dbgs := s.thm.dbgs ++ [x] } }, .later [])
          else (s.openSession x, .ok []))

/-- DBG_CONSENT (R360): the tenant names the certificate's nonce; a session that waits for it opens. -/
def execDbgConsent (s : State) : Host.Outcome State Fault Refusal :=
  .next (s.ockar 0x0E03 [(0, 32)] fun q s =>
    let p := q.tidx
    let n := q.payload.take 32
    match s.thm.dbgs.find? fun x => !x.opened && x.panel == p && x.nonce == n with
    | some x =>
      let s := s.openSession { x with job := none }
      let s := { s with thm := { s.thm with dbgs := s.thm.dbgs.filter (· ≠ x) } }
      (s.endCmd x.job stOk s.stitch [], .ok [])
    | none =>
      if s.thm.nonces.any fun m => m.1 == n then
        ({ s with thm := { s.thm with consents := (p, n) :: s.thm.consents } }, .ok [])
      else (s, .no stStale 32 0))

/-- DBG_CLOSE (R361). (DEDUCED, log entry 79.) -/
def execDbgClose (s : State) : Host.Outcome State Fault Refusal :=
  .next (s.ockar 0x0E04 [(0, 32)] fun q s =>
    match s.thm.dbgs.find? fun x => x.nonce == q.payload.take 32 with
    | some x => ((s.failCmd x.job stStateConflict noOff 0).closeDebug x, .ok [])
    | none => (s, .no stStale 32 0))

/-! ### Key registration (R358, R374, R392) -/

/-- The key registered for a purpose (Table OCK-7): 0 debug authority, 1 owner firmware key, 2 operator key. -/
def ConfRec.key (x : ConfRec) : Nat → List Byte
  | 0 => x.dbgauth
  | 1 => x.ownerkey
  | _ => x.opkey
def ConfRec.setKey (x : ConfRec) (k : Nat) (v : List Byte) : ConfRec :=
  match k with
  | 0 => { x with dbgauth := v }
  | 1 => { x with ownerkey := v }
  | _ => { x with opkey := v }

/-- A list of bytes as a 512-bit digest. -/
def toDigest (bs : List Byte) : Digest := BitVec.ofNat 512 (ofLeBytes bs)

/-- Register the staged key of a purpose (R358): the first needs no certificate, a replacement one of SCOPE 0x8000 under the
key in force. The stage is cleared, and the registration recorded in the Swatch store. -/
def State.register (s : State) (purpose : Nat) (q : OckReq) : State × Ans :=
  let cur := s.thm.conf.key purpose
  match SMap.find s.thm.staged purpose with
  | none => (s, .no stStale noOff 0)
  | some new =>
    let put := fun (s : State) =>
      let h := Config.shake256 new 64
      let s := { s with thm := { s.thm with conf := s.thm.conf.setKey purpose new, staged := SMap.remove s.thm.staged purpose } }
      let p := s.sw.pers
      let p := match purpose with
        | 0 => { p with dbgauth := toDigest h }
        | 1 => { p with ownerkey := toDigest h }
        | _ => { p with opkey := toDigest h }
      let s := ({ s with sw := { s.sw with pers := p } }).swWrite (.pers p)
      s.swEvent (unitId 0x0A 0) 0xC4 (field h 0 8)
    if q.payload = [] then
      if cur = [] then (put s, .ok []) else (s, .no stDenied noOff 0)
    else if q.payload.length ≠ 3445 then (s, .no stBadLength 16 0)
    else
      match s.certCheck false cur q.payload with
      | (s, ok) =>
        if ok && field q.payload 6 2 == 0x8000 then (put s, .ok [])
        else (s.reply q stDenied s.stitch (refusal noOff 0), .done)

/-- DBGAUTH_REGISTER (R358). -/
def execDbgauthRegister (s : State) : Host.Outcome State Fault Refusal :=
  .next (s.ockar 0x0E05 [(0, 3445)] fun q s => s.register 0 q)

/-- OWNERKEY_REGISTER (R374). -/
def execOwnerkeyRegister (s : State) : Host.Outcome State Fault Refusal :=
  .next (s.ockar 0x0A09 [(0, 3445)] fun q s => s.register 1 q)

/-- OPKEY_REGISTER (R392). -/
def execOpkeyRegister (s : State) : Host.Outcome State Fault Refusal :=
  .next (s.ockar 0x0116 [(0, 3445)] fun q s => s.register 2 q)

/-- KEY_STAGE (Table OCK-7). -/
def execKeyStage (s : State) : Host.Outcome State Fault Refusal :=
  .next (s.ockar 0x0115 [(0, 1), (8, 1952)] fun q s =>
    let k := q.f 0 1
    if 2 < k then (s, .no stBadParam 32 0)
    else ({ s with thm := { s.thm with staged := SMap.insert s.thm.staged k ((q.payload.drop 8).take 1952) } }, .ok []))

end Sys2Proof.Machine
end

