-- ==== Sys2Proof/Machine/OckInfo.lean ====
section
/-! DEFINITION. The Identity and information group of Ockar (Table OCK-7): INFO, certificates (R366, R367), unit queries
(R400), and sessions (R392, R393). -/

namespace Sys2Proof.Machine

/-! ### The running image -/

/-- Security version of the running image (Table ATT-5). -/
def State.svn (s : State) : Nat := field s.thm.fw.header 8 4
/-- MFW (Table ATT-3): over the 512-byte header; zero before an image has been chosen. -/
def State.mfw (s : State) : List Byte :=
  if s.thm.fw.header = [] then List.replicate 64 0 else Config.shake256 s.thm.fw.header 64

/-- INFO (Table OCK-7, R4); in SAFE_HOLD SERIAL and LIFECYCLE, and zero for every count (R472). -/
def execInfo (s : State) : Host.Outcome State Fault Refusal :=
  .next (s.ockar 0x0101 [] fun _ s =>
    let b : Reg := { kind := .hubBoltcfg }
    if s.safeHold then (s, .ok (leBytes 16 s.serial ++ List.replicate 9 0 ++ leBytes 1 s.thm.fuses.life ++ List.replicate 102 0))
    else
    let chans := s.clist.map (fun c => BitVec.ofNat 8 c) ++ List.replicate (24 - s.clist.length) (0xFF#8)
    (s, .ok (leBytes 16 s.serial ++ leBytes 4 Config.enterprise.toNat ++ [48#8, 4, 24, 8] ++
      leBytes 1 (s.fld b F.hubBoltcfg.CUR + 4 * s.fld b F.hubBoltcfg.NEXT) ++ leBytes 1 s.thm.fuses.life ++
      leBytes 1 s.clist.length ++ [0#8] ++ chans ++ leBytes 4 s.svn ++ leBytes 2 s.myId ++ [7#8] ++
      List.replicate 5 0 ++ padTo 64 s.mfw)))

/-! ### Certificates (Table ATT-2) -/

/-- Bytes 0 to 2,239. -/
def certBody (typ life serial svn : Nat) (issuer subject mrom mfw : List Byte) : List Byte :=
  [0x4D#8, 0x43, 0x52, 0x54] ++ leBytes 2 1 ++ leBytes 1 typ ++ leBytes 1 life ++ leBytes 16 serial ++ leBytes 4 svn ++
    leBytes 4 0 ++ padTo 64 (Config.shake256 issuer 64) ++ padTo 1952 subject ++ padTo 64 mrom ++ padTo 64 mfw ++
    List.replicate 64 0

/-- The DeviceID seed (Table ATT-1, derivation 1) and its public key. -/
def devidSeed : List Byte := Config.shake256 (Config.deviceSecret ++ asciiBytes "ZP192-DEVID") 64
def devidKey : List Byte := Config.mlDsaPub (devidSeed.take 32)

/-- The DeviceID certificate of the flash banks, issued by the provisioning root at manufacture. -/
def State.devidCert (s : State) : List Byte :=
  certBody 1 Config.devidLife.toNat s.serial 0 Config.rootKey devidKey [] [] ++ padTo 3309 Config.devidSig

/-- SHAKE256 of a certificate's subject key. -/
def certKeyHash (c : List Byte) : List Byte := Config.shake256 ((c.drop 96).take 1952) 64

/-- The certificate of a type, of which a module in TEST has no DEVID (R365): the current one for KEYHASH zero, else the current or a stored one of that subject key
(R367). -/
def State.certOf (s : State) (typ : Nat) (hash : List Byte) : Option (List Byte) :=
  let cur := match typ with
    | 1 => if s.thm.fuses.life = 1 then [] else [s.devidCert]
    | 2 => if s.thm.fw.alias_ = [] then [] else [s.thm.fw.alias_]
    | _ => if s.thm.fw.meter = [] then [] else [s.thm.fw.meter]
  if hash.all (· == 0) then cur.head?
  else
    let waiting := s.sw.wait.filterMap fun w => match w.1 with
      | .cert _ b => some b
      | _ => none
    (cur ++ waiting ++ s.sw.store.certs.map (·.2)).find? fun c => field c 6 1 == typ && certKeyHash c == hash

/-- CERT_FETCH (R366, R367, R499). -/
def execCertFetch (s : State) : Host.Outcome State Fault Refusal :=
  .next (s.ockar 0x0102 [(0, 2), (8, 64)] fun q s =>
    let typ := q.f 0 1
    let piece := q.f 1 1
    if typ = 0 ∨ 3 < typ then (s, .no stBadParam (po 0) 0)
    else if 1 < piece then (s, .no stBadParam (po 1) 0)
    else
      match s.certOf typ ((q.payload.drop 8).take 64) with
      | none => (s, .no stStale (po 8) 0)
      | some c => (s, .ok (leBytes 2 5549 ++ leBytes 1 piece ++ List.replicate 29 0 ++ (c.drop (4032 * piece)).take 4032)))

/-- Fused out (R470), out of service, or in service: the SERVICE code of UNIT_QUERY. -/
def State.serviceCode (s : State) (cls idx : Nat) : Nat :=
  if cls ≠ 3 ∧ cls * 256 + idx ∈ s.boot.repairs then 2 else b2n (s.unitOut cls idx)

/-- UNIT_QUERY (R400). -/
def execUnitQuery (s : State) : Host.Outcome State Fault Refusal :=
  .next (s.ockar 0x0103 [] fun q s =>
    let r := SMap.get (fun _ => (0, 0, [])) s.thm.reports (unitId q.tcls q.tidx)
    (s, .ok (leBytes 4 (s.serviceCode q.tcls q.tidx) ++ leBytes 4 r.1 ++ leBytes 8 r.2.1 ++ padTo 64 r.2.2)))

/-! ### Sessions (R392, R393, Table OCK-5) -/

def Session.fresh (now : Nat) (t1 seed : List Byte) : Session :=
  { step := 1, t1 := t1, seed := seed, ctHash := [], mreq := [], mrep := [], last := now, bad := 0, seq := none, kept := [] }

/-- The SID of a new session is Thimble's choice among the free ones.
(DESIGN CHOICE, log entry 35; DESIGN CHOICE, log entry 77.) -/
def State.newSid (s : State) : Nat × State :=
  let (n, s) := s.freeNat
  let free := fun (k : Nat) => (s.session k).isNone
  (if free (n % 65536) then n % 65536 else ((List.range 5).find? free).getD 0, s)

/-- SESSION_OFFER: step 1. -/
def execSessionOffer (s : State) : Host.Outcome State Fault Refusal :=
  .next (s.ockar 0x0110 [(0, 32)] fun q s =>
    if 4 ≤ s.thm.sessions.length then (s, .no stNoResource noOff 0)
    else if !s.entropyOk then (s, .no stInternal noOff 0)
    else
      let (nt, s) := s.entropy 32
      let (seed, s) := s.entropy 64
      let (sid, s) := s.newSid
      let ek := padTo 1184 (Config.mlKemPub seed)
      let t1 := Config.shake256 (asciiBytes "ZP192-OCKO" ++ q.payload ++ nt ++ leBytes 2 sid ++ ek) 64
      (s.setSession sid (Session.fresh s.ticks t1 seed), .ok (leBytes 2 sid ++ leBytes 2 0 ++ nt ++ ek)))

/-- The partial session a step names, if it comes next and in time. A step out of turn or late discards the partial
session and is STALE. -/
def State.stepOf (s : State) (q : OckReq) (step : Nat) : Option (Nat × Session) × State :=
  let sid := q.f 0 2
  match s.session sid with
  | none => (none, s)
  | some x =>
    if x.step = step ∧ s.ticks ≤ x.last + 6000 then (some (sid, x), s)
    else (none, if x.step < 4 then s.dropSession sid else s)

/-- A refusal that has discarded a session. -/
def State.staleStep (s : State) (q : OckReq) : State × Ans := (s.reply q stStale s.stitch (refusal (po 0) 0), .done)

/-- The alias key's seed (slot 1, Table ATT-1). -/
def State.aliasSeed (s : State) : List Byte := (s.slot 1).take 32

/-- Sign with the alias key: at most 300 attempts (R369). (DESIGN CHOICE, log entry 99.) -/
def State.aliasSign (s : State) (m : List Byte) : Option (List Byte) × State :=
  (if Config.signAborts s.fresh then none else some (padTo 3309 (Config.mlDsaSign s.aliasSeed m s.fresh)),
    { s with fresh := s.fresh + 1 })

/-- SESSION_PROOF: step 2. -/
def execSessionProof (s : State) : Host.Outcome State Fault Refusal :=
  .next (s.ockar 0x0111 [(0, 2)] fun q s =>
    match s.stepOf q 1 with
    | (none, s) => s.staleStep q
    | (some (sid, x), s) =>
      match s.aliasSign x.t1 with
      | (none, s) => (s, .no stInternal noOff 0)
      | (some sig, s) => (s.setSession sid { x with step := 2, last := s.ticks }, .ok sig))

/-- The request as one of a session, so that its reply carries the session's MAC. -/
def OckReq.inSession (q : OckReq) (sid : Nat) : OckReq :=
  { q with via := match q.via with
      | .mailbox p slot _ => .mailbox p slot (some sid)
      | .i3c _ => .i3c (some sid)
      | .weft m t _ => .weft m t (some sid) }

/-- SESSION_KEY: step 3; the reply carries a MAC under MREP. -/
def execSessionKey (s : State) : Host.Outcome State Fault Refusal :=
  .next (s.ockar 0x0112 [(0, 2), (4, 1088)] fun q s =>
    match s.stepOf q 2 with
    | (none, s) => s.staleStep q
    | (some (sid, x), s) =>
      let ct := (q.payload.drop 4).take 1088
      let k := Config.mlKemDecaps x.seed ct
      let h := Config.shake256 ct 64
      let m := padTo 64 (Config.shake256 (k ++ asciiBytes "ZP192-OCKS" ++ x.t1 ++ h) 64)
      let s := s.setSession sid { x with step := 3, last := s.ticks, seed := [], ctHash := h, mreq := m.take 32, mrep := m.drop 32 }
      (s.reply (q.inSession sid) stOk s.stitch [], .done))

/-- SESSION_AUTH: step 4, in the session of its MAC; DENIED without a registered operator key.
(DEDUCED, log entry 79.) -/
def execSessionAuth (s : State) : Host.Outcome State Fault Refusal :=
  .next (s.ockar 0x0113 [(0, 2), (4, 3309)] fun q s =>
    match s.stepOf q 3 with
    | (none, s) => s.staleStep q
    | (some (sid, x), s) =>
      let t2 := Config.shake256 (asciiBytes "ZP192-OCKA" ++ x.t1 ++ x.ctHash) 64
      let key := s.thm.conf.opkey
      if q.session ≠ some sid then (s.dropSession sid).staleStep q
      else if key = [] ∨ !Config.mlDsaVerify key t2 ((q.payload.drop 4).take 3309) then (s, .no stDenied noOff 0)
      else (s.setSession sid { x with step := 4, last := s.ticks }, .ok []))

/-- SESSION_CLOSE: the reply still carries the session's MAC. -/
def execSessionClose (s : State) : Host.Outcome State Fault Refusal :=
  .next (s.ockar 0x0114 [] fun q s =>
    let s := s.reply q stOk s.stitch []
    (match q.session with
      | some sid => s.dropSession sid
      | none => s, .done))

/-- SESSION_STEP_TIMEOUT (R392): the next step of a partial session has not come within 6,000 stitches. -/
def execSessionStepTimeout (sid : BitVec 16) (s : State) : Host.Outcome State Fault Refusal :=
  match s.session sid.toNat with
  | some x => .next (if x.step < 4 ∧ x.last + 6000 < s.ticks then s.dropSession sid.toNat else s)
  | none => .next s

/-- SESSION_IDLE_TIMEOUT (R393): an open session without a valid request for 6,000,000 stitches closes. -/
def execSessionIdleTimeout (sid : BitVec 16) (s : State) : Host.Outcome State Fault Refusal :=
  match s.session sid.toNat with
  | some x => .next (if x.step = 4 ∧ x.last + 6000000 ≤ s.ticks then s.dropSession sid.toNat else s)
  | none => .next s

end Sys2Proof.Machine
end

