-- ==== Sys2Proof/Machine/Memory.lean ====
section
/-! DEFINITION. The commands of the memory controllers: patrol scrub, sparing, timeouts and table shootdowns. -/

namespace Sys2Proof.Machine

/-- Stitches between scrub rows (R225). -/
def State.scrubEvery (s : State) (c : Nat) : Nat :=
  s.fld (mcReg .mcScrub c) F.mcScrub.PERIOD * 360000000 / 4194304

/-- One slot of a scrubbed row: corrected, repaired from the mirror, or poisoned (R225), and its row a sparing candidate when the
error stays (R226). A slot of a spare row that serves no other holds no line. -/
def State.scrubSlot (s : State) (c row : Nat) (e : Fin 25 × ReadOut) : State :=
  let held := s.rowHeld c row
  let l := lineAt s.clist c held e.1.val
  match e.2 with
  | .clean | .wedged => s
  | .corrected w b y h => s.lineFixed c l w b y h
  | .bad w y a h =>
    s.lineLost c { write := false, line := l, ktag := (s.meta l).ktag, hbolt := 0, req := 0xFF, home := none
                   poison := false, res := e.2, age := 0 } w y a h

/-- PATROL_SCRUB (R225): the controller scrubs its next row when the row is due and the domain is not in RET. `found`
names the slots in error, what each read finds, and whether the error is still present after the rewrite. -/
def execPatrolScrub (c : Chan) (found : List (Fin 25 × ReadOut)) (s : State) :
    Host.Outcome State Fault Refusal :=
  let x := s.mc c.val
  if s.flag (mcReg .mcCtrl c.val) F.mcCtrl.EN && s.fld (dstatR (388 + c.val)) F.pwrDstat.CUR == 0 && x.scrubIn == 0 then
    let row := s.fld (mcReg .mcScrub c.val) F.mcScrub.ROW
    let s := found.foldl (fun s e => s.scrubSlot c.val row e) s
    let s := s.setFld (mcReg .mcScrub c.val) F.mcScrub.ROW ((row + 1) % 4194304)
    .next (s.setMc c.val { s.mc c.val with scrubIn := s.scrubEvery c.val })
  else .next s

/-- A spare row takes over a row (R227): MC.SPAREk, the remap in the Swatch store, and the spare that served it so far out of use.
(DEDUCED, log entry 133.) -/
def State.remap (s : State) (c row k : Nat) : State :=
  let before := s.spareOf c row
  let s := match before with
    | some old =>
      let s := s.setFld (mcReg .mcSpare c old) F.mcSpare.V 0
      s.swWrite (.spare (c * 256 + old) (s.rd (mcReg .mcSpare c old)))
    | none => s.addFld (mcReg .mcStatus c) F.mcStatus.SPUSED 1
  (s.wr (mcReg .mcSpare c k) (2 ^ 31 + row)).swWrite (.spare (c * 256 + k) (2 ^ 31 + row))

/-- SPARE_COPY_COMPLETE (R227): the copy of the oldest held row is done: MC.SPAREk is set and the held requests go to
the spare. A spare that proved bad is marked BAD and its row spared again; `bad` names slots the copy could only
poison. -/
def execSpareCopyComplete (c : Chan) (bad : List (Fin 25)) (spareBad : Bool) (s : State) :
    Host.Outcome State Fault Refusal :=
  let x := s.mc c.val
  match x.held with
  | [] => .next s
  | (row, k) :: rest =>
    let s := bad.foldl (fun s e =>
      let l := lineAt s.clist c.val row e.val
      s.setMeta l { s.meta l with poison := true }) s
    let s := s.setMc c.val { x with held := rest }
    if spareBad then .next ((s.spareBad c.val k).hardRow c.val row)
    else
      let s := s.remap c.val row k
      let s := s.memErr c.val 0x18 0 0 0 (lineAt s.clist c.val row 0) 0xFF 0 0 0
      let s := s.swRow c.val 0xFF row false true false
      let s := s.swEvent (unitId 3 c.val) 0xC2 4 none (memSyn c.val 0 0xFF 0 row 0)
      let (now, later) := (s.mc c.val).heldReqs.partition fun q => (mapLine s.clist q.line).2.1 == row
      let s := s.setMc c.val { s.mc c.val with heldReqs := later }
      .next (now.foldl (fun s q => s.mcTake c.val q) s)

/-- MEM_TIMEOUT (R231): a request of a wedged channel has waited RAS.TMO0 stitches from the first boundary after it was
accepted: a read is answered with POISON, a
write with MWACK; a mirrored write whose partner does not answer is answered, and its copy is stale (R222).
(DESIGN CHOICE, log entry 9; DESIGN CHOICE, log entry 44.) -/
def execMemTimeout (c : Chan) (s : State) : Host.Outcome State Fault Refusal :=
  let tmo := s.rd { kind := .rasTmo, i := 0 }
  let x := s.mc c.val
  match x.waiting.find? fun q => decide (tmo < q.age) with
  | some q =>
    let s := s.setMc c.val { x with waiting := x.waiting.erase q }
    let s := s.logErr
      { unitId := unitId 3 c.val, cls := 0, code := 0x17, action := 2, flags := flagPoison + flagPaddr
        paddr := q.line * 64, req := q.req, detail := tmo, syndrome := memSyn c.val 0 0xFF 0 0 0 }
    .next (s.mcAnswer c.val q true)
  | none =>
    match x.partnerQ.find? fun q => decide (tmo < q.age) with
    | some q =>
      let s := s.partnerDone c.val q
      if q.write then .next ((s.copyStale c.val q.line).mcAnswer c.val q false)
      else
        let s := match q.res with
          | .bad w y a h =>
            let s := s.lineBad c.val q.line w y a
            if h then s.hardRow c.val (mapLine s.clist q.line).2.1 else s
          | _ => s
        .next (if q.req = 0xFF then s else s.mcAnswer c.val q true)
    | none => .next s

/-! ### Table shootdowns (R219) -/

/-- Every checker: the cores in service, the network engine, the host-port controllers and the Weft engine. -/
def State.checkers (s : State) : List Nat :=
  (List.range 192).filter s.coreIn ++ [193, 194, 195, 196, 197, 198]

/-- Thimble writes entries and sends the shootdown (R219). -/
def State.shootdown (s : State) (changes : List (Nat × Nat)) (cmd : Option Nat) : State :=
  let old := changes.foldl (fun (m : SMap Nat) e => SMap.insert m e.1 (s.potEntry e.1)) []
  let s := changes.foldl (fun s e => s.setPot e.1 e.2) s
  { s with shoots := s.shoots ++ [{ old := old, waiting := s.checkers, cmd := cmd }] }

/-- A core drops every TLB entry that covers a named granule. -/
def State.dropTlb (s : State) (c : Nat) (gs : List Nat) : State :=
  let x := s.core c
  let covers := fun (e : TlbEntry) => gs.any fun g =>
    decide (e.pa * 2 ^ e.size < (g + 1) * 65536) && decide (g * 65536 < (e.pa + 1) * 2 ^ e.size)
  s.setCore c { x with tlb := x.tlb.filter (fun e => !covers e) }

end Sys2Proof.Machine
end

