-- ==== Sys2Proof/Machine/PanelLife.lean ====
section
/-! DEFINITION. The lifecycle of panels (R43–R61): triggers and their order, what each transition does, the panel watchdog,
and the ends of RESETTING and TEARING. -/

namespace Sys2Proof.Machine

def pstateR (p : Nat) : Reg := { kind := .hubPstate, i := p }
def pwdogR (p : Nat) : Reg := { kind := .hubPwdog, i := p }
def pfaultR (p : Nat) : Reg := { kind := .hubPfault, i := p }

def State.setPstate (s : State) (p v : Nat) : State := s.setFld (pstateR p) F.hubPstate.STATE v

/-- The states a trigger leads out of (Table PNL-4). -/
def Trigger.from_ : Trigger → List Nat
  | .tear => [psBuilt, psRunning, psPaused, psFaulted, psResetting]
  | .fault _ => [psRunning, psPaused]
  | .boltReset => [psRunning, psPaused]
  | .reset => [psRunning, psPaused, psFaulted]
  | .wdog => [psRunning]
  | .selfReset => [psRunning]
  | .pause => [psRunning]
  | .resume => [psPaused]
  | .launch => [psBuilt]
  | .resetDone => [psResetting]
  | .tearDone => [psTearing]
  | .build => [psEmpty]

/-- The opcode of the command behind a trigger, 0 for an internal one (Table OCK-6). -/
def Trigger.opcode : Trigger → Nat
  | .tear => 0x0206
  | .reset => 0x0205
  | .pause => 0x0203
  | .resume => 0x0204
  | .launch => 0x0202
  | .build => 0x0201
  | _ => 0

/-- The trigger that wins at a boundary (R44): the first in the order of R44, the oldest among equals. -/
def winner (l : List (Trigger × Option Nat)) : Option (Trigger × Option Nat) :=
  (sortBy (fun (a b : Trigger × Option Nat) => decide (a.1.rank < b.1.rank)) l).head?

/-! ### What transitions do -/

/-- The watchdog is reloaded (R56). -/
def State.reloadWdog (s : State) (p : Nat) : State := s.setFld (pwdogR p) F.hubPwdog.REMAIN (s.fld (pwdogR p) F.hubPwdog.PERIOD)

/-- What a panel loses when its seats go (R349, R371, R437): pending secure interrupts, an offer, and a seat's wait for the
outcome of a mismatch. -/
def State.dropPanelWaits (s : State) (p : Nat) : State :=
  let s := { s with cut := { s.cut with twin := s.cut.twin.map fun (t : TwinTest) => if t.panel = p then { t with seat := none } else t } }
  let s := { s with sint := s.sint.filter fun e => e.1 ≠ p, twinEvents := s.twinEvents.filter (· ≠ p) }
  s.setPanel p { s.panel p with offer := none }

/-- The notice of a fault to the other members of a spanning panel (R61, R262). -/
def State.tellMembers (s : State) (p cause : Nat) : State :=
  if !s.flag (pstateR p) F.hubPstate.SPAN then s else
  (s.panel p).members.foldl (fun s e =>
    if e.1 = s.myId then s else
    s.ockarCells none e.1 (s.handle p)
      (mkPacket 2 0x0220 0 (s.handle p) (0x0C * 2 ^ 24 + e.1 * 4096 + e.2) 0 0 (leBytes 4 (s.handle p) ++ leBytes 1 cause))) s

/-- A panel goes FAULTED. -/
def State.panelFault (s : State) (p cause : Nat) : State :=
  let s := (s.setPstate p psFaulted).setFld (pfaultR p) F.hubPfault.CAUSE cause
  ((s.acctFault p).closePanelDebug p).tellMembers p cause

/-- A panel enters RESETTING (Table PNL-14). -/
def State.panelReset (s : State) (p cause : Nat) (cmd : Option Nat) : State :=
  let s := (s.setPstate p psResetting).setFld (pfaultR p) F.hubPfault.CAUSE cause
  let s := s.addFld (pfaultR p) F.hubPfault.RESETS 1
  let s := s.setPanel p { s.panel p with sinceEntry := 0, endCmd := cmd }
  let s := ((((s.clearSeats p).panelBobsReset p).panelFlr p).mailboxClear p).dropPanelWaits p
  let s := (List.range 2048).foldl (fun s j =>
    let r : Reg := { kind := .icVec, i := p, j := j }
    if s.rd r = 0 then s else (s.setFld r F.icVec.PEND 0).setFld r F.icVec.ACTIVE 0) s
  (s.acctReset p).closePanelDebug p

/-- Granules of a panel, of every kind. -/
def State.granulesOf (s : State) (p : Nat) : List Nat :=
  (s.pot.filter fun e => potPanel e.2 == p && (potKind e.2 == kOwned || potKind e.2 == kSave || potKind e.2 == kStage ||
    potKind e.2 == kMcopy)).map (·.1)

/-- The entry a granule gets when it is freed: FREE, or OFFLINE where it is due (R228). -/
def State.freedEntry (s : State) (g : Nat) : Nat := if g ∈ s.toOffline then kOffline * 2 ^ 13 else 0

/-- The purge of a panel being torn down (R178): in every slice of its bolt, each directory entry with its key tag is cleared after
SNP_DROP to every recorded holder, and each L3 sector with it is invalidated without writeback. The scan is made at once.
(DESIGN CHOICE, log entry 51.) -/
def State.purgePanel (s : State) (p : Nat) : State :=
  (s.boltCores (s.panelBolt p)).foldl (fun s h =>
    let mine := (s.tile h).dir.filter fun e => e.2.ktag == p
    let s := mine.foldl (fun s e =>
      let s := s.dropCopies h e.1 .snpDrop
      if e.2.busy.isSome then s else s.setDir h e.1 DirEnt.free) s
    s.modTile h fun x => { x with l3 := x.l3.filter fun e => e.2.ktag ≠ p }) s

/-- Cached copies of granules are dropped, dirty ones without writeback (R59). -/
def State.purge (s : State) (gs : List Nat) : State :=
  let mine := fun (line : Nat) => decide (line / 1024 ∈ gs)
  let tile := fun (x : TileSt) => { x with
    l2 := x.l2.filter fun e => !mine e.1
    selv := x.selv.filter fun e => !mine e.line || e.left
    l3 := x.l3.filter fun e => !mine (e.1 * 2)
    dir := x.dir.filter fun e => !mine e.1 }
  { s with
    tiles := SMap.mapListed (fun _ => TileSt.init) s.tiles fun _ x => tile x
    dirty := s.dirty.filter fun e => !mine e.1 }

/-- What the Weft holds for a panel (R255, R257, R260): exports, members, barrier contexts. -/
def State.panelWeftTear (s : State) (p : Nat) : State :=
  let s := s.setWeft fun x => { x with inmap := x.inmap.filter fun e => bits e.2 60 52 ≠ p }
  let s := s.setPanel p { s.panel p with members := [] }
  (List.range 256).foldl (fun s n =>
    let r : Reg := { kind := .wpBar, i := n }
    if p ≠ 0 ∧ s.fld r F.wpBar.PANEL = p then s.wr r 0 else s) s

/-- Commands for a panel that enters TEARING before they complete are answered STATE_CONFLICT (Table OCK-6). -/
def State.failPanelJobs (s : State) (p : Nat) (but : Option Nat) : State :=
  (s.thm.jobs.filter fun j => j.q.tcls == 0x0C && j.q.tidx == p && some j.id ≠ but).foldl
    (fun s j => s.failCmd (some j.id) stStateConflict noOff 0) s

/-- A panel enters TEARING (R58). -/
def State.panelTear (s : State) (p : Nat) (cmd : Option Nat) : State :=
  let s := (s.setPstate p psTearing).failPanelJobs p cmd
  let s := s.setPanel p { s.panel p with sinceEntry := 0, endCmd := cmd }
  let s := (((s.panelNetTear p).panelHioTear p).panelWeftTear p).mailboxClear p
  let s := s.wr (mbxPageR p) 0
  let gs := s.granulesOf p
  let s := (s.purgePanel p).purge gs
  let s := (List.range 192).foldl (fun s t => s.dropL2 t p) s
  let s := s.clearKey p
  let s := s.shootdown (gs.map fun g => (g, s.freedEntry g)) none
  let s := { s with toOffline := s.toOffline.filter fun g => g ∉ gs }
  let s := (s.dropSeats p).dropPanelWaits p
  let s := { s with cut := { s.cut with twin := s.cut.twin.map fun (t : TwinTest) => if t.panel = p then { t with panel := 0 } else t } }
  let s := (List.range 2048).foldl (fun s j => if s.rd { kind := .icVec, i := p, j := j } = 0 then s
    else s.wr { kind := .icVec, i := p, j := j } 0) s
  let s := (s.boltCores (s.panelBolt p)).foldl (fun s t => s.putWays t p 0) s
  let now := s.stitch
  (s.onAcct p fun a => { a with final := true, last := now - 1 }).closePanelDebug p

/-- A panel starts running after launch: seat 0 thread 0 at the entry address (R43). -/
def State.panelLaunch (s : State) (p : Nat) : State :=
  (((s.setPstate p psRunning).setFld (pfaultR p) F.hubPfault.RESETS 0).reloadWdog p).startSeat0 p

/-- RESETTING ends: RUNNING at the entry address (R43, R56, Table PNL-10). -/
def State.resetEnd (s : State) (p : Nat) : State :=
  let x := s.panel p
  let s := ((s.setPstate p psRunning).setFld (pstateR p) F.hubPstate.SELFRESET 0).reloadWdog p
  let s := ((s.clearSeats p).startSeat0 p).setPanel p { x with endCmd := none }
  s.endCmd x.endCmd stOk (s.stitch - x.sinceEntry) []

/-- TEARING ends: EMPTY, and the number is free (R59). -/
def State.tearEnd (s : State) (p : Nat) : State :=
  let x := s.panel p
  let s := (List.range 8).foldl (fun s j => s.wr { kind := .cutContract, i := p, j := j } 0) s
  let s := ((s.wr (pstateR p) (F.hubPstate.PANEL.set 0 p)).wr (pwdogR p) 0).wr (pfaultR p) 0
  let s := ((s.wr { kind := .cutPstat, i := p } 0).dropSeats p).setPanel p { PanelSt.init with build := x.build }
  s.endCmd x.endCmd stOk (s.stitch - x.sinceEntry) []

/-- Carry out the winning trigger. -/
def State.transition (s : State) (p : Nat) (t : Trigger) (cmd : Option Nat) : State :=
  let now := s.stitch
  match t with
  | .tear => s.panelTear p cmd
  | .fault cause => s.panelFault p cause
  | .boltReset => s.panelFault p 0x03
  | .reset => s.panelReset p 0x06 cmd
  | .wdog => s.panelReset p 0x01 none
  | .selfReset => s.panelReset p 0x07 none
  | .pause => ((s.setPstate p psPaused).closePanelDebug p).endCmd cmd stOk now []
  | .resume => (s.setPstate p psRunning).endCmd cmd stOk now []
  | .build =>
    let data := match cmd.bind s.job with
      | some j => j.data
      | none => []
    ((s.setPstate p psBuilt).openAcct p (s.panel p).build).endCmd cmd stOk now
      (leBytes 4 (s.handle p) ++ leBytes 4 (data.getD 0 0) ++ leBytes 4 (data.getD 1 0) ++ leBytes 4 0 ++ leBytes 8 (s.panel p).build)
  | .launch => (s.panelLaunch p).endCmd cmd stOk now (leBytes 64 (s.panel p).launch.toNat)
  | .resetDone => s.resetEnd p
  | .tearDone => s.tearEnd p

/-- The triggers of a panel at a boundary (R43, R44): one transition, the others dropped; a dropped command is answered
STATE_CONFLICT with the winner's opcode. -/
def State.panelBoundary (s : State) (p : Nat) : State :=
  let x := s.panel p
  if x.triggers = [] then s else
  let st := s.pstate p
  let can := x.triggers.filter fun t => decide (st ∈ t.1.from_)
  let s := s.setPanel p { x with triggers := [] }
  match winner can with
  | none => x.triggers.foldl (fun s t => s.failCmd t.2 stStateConflict noOff 0) s
  | some w =>
    let losers := x.triggers.erase w
    let s := losers.foldl (fun s t => s.failCmd t.2 stStateConflict noOff w.1.opcode) s
    s.transition p w.1 w.2

/-- A panel reset that passes its bound leaves the panel FAULTED (Table ERR-11). -/
def State.resetBound (s : State) (p : Nat) : State :=
  if s.pstate p = psResetting ∧ 100 < (s.panel p).sinceEntry then
    let cmd := (s.panel p).endCmd
    ((s.panelFault p (s.fld (pfaultR p) F.hubPfault.CAUSE)).setPanel p { s.panel p with endCmd := none }).failCmd cmd stFaulted noOff 0
  else s

/-- Every panel at a boundary. -/
def State.lifecycle (s : State) : State :=
  (List.range 512).foldl (fun s p =>
    let st := s.pstate p
    let s := if st = psResetting ∨ st = psTearing then s.setPanel p { s.panel p with sinceEntry := (s.panel p).sinceEntry + 1 } else s
    (s.panelBoundary p).resetBound p) s

/-! ### The panel watchdog (R56) -/

/-- The watchdog of each RUNNING panel that held a core in the stitch that ends counts down; one that reaches zero has
expired, and the expiry is a trigger accepted at this boundary (R56). -/
def State.wdogTick (s : State) : State :=
  (List.range 512).foldl (fun s p =>
    let held := (List.range 192).any fun c => s.flag (cutCoreR c) F.cutCore.G && s.fld (cutCoreR c) F.cutCore.PANEL == p
    let n := s.fld (pwdogR p) F.hubPwdog.REMAIN
    if s.pstate p = psRunning ∧ held ∧ n ≠ 0 then
      let s := s.setFld (pwdogR p) F.hubPwdog.REMAIN (n - 1)
      if n = 1 then s.setPanel p { s.panel p with wdogDue := true } else s
    else s) s

/-- An expiry that is due is carried out (R56, R45, Table ERR-11): a panel reset, the fourth time within a minute FAULTED;
panel 0 takes the module down. -/
def State.wdogExpire (s : State) (p : Nat) : State :=
  let x := s.panel p
  if !x.wdogDue then s else
  let s := s.setPanel p { x with wdogDue := false }
  if s.pstate p ≠ psRunning then s else
  let e : ErrEvt := { unitId := unitId 0x0C p, cls := 1, code := 0x23, action := 5, flags := flagPanel, panel := s.handle p }
  if p = 0 then s.panelError 0 0x01 e
  else
    let hits := (s.ticks :: x.wdogHits).filter fun t => decide (s.ticks < t + 6000000)
    let s := s.setPanel p { s.panel p with wdogHits := hits.take 4 }
    if 4 ≤ hits.length then (s.logErr { e with action := 6 }).trigger p (.fault 0x01)
    else (s.logErr e).trigger p .wdog

/-- PANEL_WDOG (R56): the expiry of the last boundary is recorded and triggers the reset; a kick in between does not cancel it,
and the next boundary carries out one that has not been. -/
def execPanelWdog (p : Panel) (s : State) : Host.Outcome State Fault Refusal := .next (s.wdogExpire p)

/-- Every expiry of the last boundary. -/
def State.wdogsDue (s : State) : State :=
  (List.range 512).foldl (fun s p => s.wdogExpire p) s

/-! ### Ends -/

/-- A transition's end is accepted once: it takes effect at the boundary. -/
def State.ends (s : State) (p : Nat) (t : Trigger) : State :=
  if (s.panel p).triggers.any (fun x => x.1 == t) then s else s.trigger p t

/-- RESET_COMPLETE (R43): the panel's reset is over; at the boundary it is RUNNING. -/
def execResetComplete (p : Panel) (s : State) : Host.Outcome State Fault Refusal :=
  if s.pstate p ≠ psResetting then .next s else .next (s.ends p .resetDone)

/-- TEAR_COMPLETE (R43, R58): the key is destroyed and the purge done; at the boundary the panel is EMPTY. -/
def execTearComplete (p : Panel) (s : State) : Host.Outcome State Fault Refusal :=
  if s.pstate p ≠ psTearing then .next s else .next (s.ends p .tearDone)

end Sys2Proof.Machine
end

