-- ==== Sys2Proof/Machine/TileRows.lean ====
section
/-! DEFINITION. A tile's array invalidations and cleaning (R137, R147, R151, R329). -/

namespace Sys2Proof.Machine

/-- INV_DIR (R147): Thimble starts the invalidation of a directory. -/
def execInvDir (t : Tile) (s : State) : Host.Outcome State Fault Refusal := .next (s.invDir t)
/-- INV_L3 (R147). -/
def execInvL3 (t : Tile) (s : State) : Host.Outcome State Fault Refusal := .next (s.invL3 t)
/-- INV_L2 (R147). -/
def execInvL2 (t : Tile) (s : State) : Host.Outcome State Fault Refusal := .next (s.invL2 t)
/-- INV_L1 (R147). (DESIGN CHOICE, log entry 21.) -/
def execInvL1 (t : Tile) (s : State) : Host.Outcome State Fault Refusal := .next (s.invL1 t)

/-- Write back the dirty sectors of some ways and invalidate every line in them (R137); a slice that is disabled keeps what it
holds (R147). -/
def State.cleanWays (s : State) (t ways : Nat) : State :=
  if !s.l3On t then s else
  (s.castOut t ((s.tile t).dirtyL3 ways)).modTile t fun x => { x with l3 := x.l3.filter fun e => !bit ways e.2.way }

/-- Every request and snoop that waited for an array's invalidation goes on (R151). -/
def State.arrayReady (s : State) (t : Nat) : State :=
  let s := s.enableArrays t (s.tile t).enable
  let s := if s.cacheOn t F.wrpCctl.INV_L2 then s else
    (dedupNat ((s.tile t).snpQ.map (·.line))).foldl (fun s l => if s.snoopHeld t l then s else s.snoopsGo t l) s
  if s.homeHeld t then s else
    (s.tile t).homeQ.foldl (fun s q => s.homeTake t q) (s.modTile t fun x => { x with homeQ := [] })

end Sys2Proof.Machine
end

