-- ==== Sys2Proof/Machine/Granules.lean ====
section
/-! DEFINITION. Granules and contracts: free runs, zero fill (R59), mirrored grants (R221), the sums of R312, table
shootdowns acknowledged (R219), and range invalidation (R141). -/

namespace Sys2Proof.Machine

/-! ### Granules -/

def State.isFree (s : State) (g : Nat) : Bool := s.granuleExists g && potKind (s.potEntry g) == kFree

/-- `n` free granules lie from `g` on, with their copy granules when mirrored. -/
def State.fits (s : State) (cxl mir : Bool) (g n : Nat) : Bool :=
  isCxl g == cxl && (List.range n).all fun i =>
    isCxl (g + i) == cxl && s.isFree (g + i) &&
      (!mir || (decide (g + i < s.lowerGranules) && s.isFree (g + i + s.lowerGranules)))

/-- A free contiguous run; the manual leaves the choice among several to Thimble. (DESIGN CHOICE, log entry 35.) -/
def State.findRun (s : State) (cxl mir : Bool) (n : Nat) : Option Nat × State :=
  let (k, s) := s.freeNat
  if s.fits cxl mir k n then (some k, s)
  else
    let base := if cxl then cxlFirst else 0
    let span := if cxl then cxlEnd - cxlFirst else s.reservedGranule
    (((List.range span).find? fun i => s.fits cxl mir (base + i) n).map (base + ·), s)

/-- One line of a zero fill: it carries the new owner's tag without poison, and costs the owner its tokens (R59,
R229). -/
def State.fillLine (s : State) (p l : Nat) : State :=
  let s := s.setMeta l { ktag := p, poison := false }
  if l * 64 < s.protTop then
    let c := s.chanOf l
    (s.spend c p (s.tokenCost c l)).touchTrailer c l
  else
    let r := s.chanOf l - 24
    let t := ctokR r p
    let s := if 0 < s.fld t F.hpCtok.REMAIN then s.setFld t F.hpCtok.REMAIN (s.fld t F.hpCtok.REMAIN - 1)
      else s.setFld (cpoolR r) F.hpCpool.POOL (s.fld (cpoolR r) F.hpCpool.POOL - 1)
    s.count p (cntLine (24 + r)) 1

/-- Zero fill of granules under a panel's key by invalidating full-line writes: every cached copy is dropped (R59).
(DESIGN CHOICE, log entry 51.) -/
def State.zeroFill (s : State) (p : Nat) (gs : List Nat) : State :=
  let s := s.purge gs
  let s := { s with mem := s.mem.filter fun c => decide (c.1 / 65536 ∉ gs) }
  gs.foldl (fun s g => (List.range 1024).foldl (fun s i => s.fillLine p (g * 1024 + i)) s) s

/-- The mirror map of every controller in service (R221). -/
def State.setMirmap (s : State) (gs : List Nat) (v : Bool) : State :=
  s.clist.foldl (fun s c => gs.foldl (fun s g =>
    s.setFld { kind := .mcMirmap, i := c, j := g / 64 } ⟨g % 64, g % 64⟩ (b2n v)) s) s

/-- Granules from `g` on. -/
def runOf (g n : Nat) : List Nat := (List.range n).map (g + ·)

/-- Fill a run and give its entries, the copies' among them. -/
def State.prepare (s : State) (p kind perm : Nat) (mir : Bool) (g n : Nat) : State × List (Nat × Nat) :=
  let gs := runOf g n
  let copies := if mir then gs.map (· + s.lowerGranules) else []
  let s := s.zeroFill p (gs ++ copies)
  let s := if mir then s.setMirmap gs true else s
  (s, gs.map (fun h => (h, mkPot kind mir (bit perm 2) (bit perm 1) (bit perm 0) p)) ++
    copies.map fun h => (h, mkPot kMcopy false false false false p))

/-- Granules of a panel of one kind; protected and CXL ones apart. -/
def State.held (s : State) (p : Nat) (cxl : Bool) (kinds : List Nat) : List Nat :=
  (s.pot.filter fun e => isCxl e.1 == cxl && potPanel e.2 == p && decide (potKind e.2 ∈ kinds)).map (·.1)

/-- The mailbox granule of a panel, when its mailbox is in service. -/
def State.mailGranule (s : State) (p : Nat) : Option Nat :=
  if s.flag (mbxPageR p) F.mbxPage.EN then some (s.fld (mbxPageR p) F.mbxPage.GRANULE) else none

/-- A granule of panel 0's first grant (R466). -/
def State.inFirst (s : State) (p g : Nat) : Bool :=
  p == 0 && match s.boot.first with
    | some (f, n) => decide (f ≤ g) && decide (g < f + n)
    | none => false

/-- Granules that count against MEMG: OWNED and STAGE ones, without the mailbox granule and panel 0's first grant. -/
def State.granted (s : State) (p : Nat) : List Nat :=
  (s.held p false [kOwned, kStage]).filter fun g => s.mailGranule p ≠ some g && !s.inFirst p g

/-- The launch measurement (R368). -/
def State.launchDigest (s : State) (entry flags : Nat) (gs : List Nat) : Digest :=
  toDigest (Config.shake256
    ((asciiBytes "ZP192-LAUNCH") ++ leBytes 8 entry ++ leBytes 1 flags ++ leBytes 4 gs.length ++
      gs.flatMap fun g => leBytes 8 (g * 65536) ++ s.bytes (g * 65536) 65536) 64)

/-! ### Contracts (R312) -/

/-- A field of a contract record in bytes. -/
def cf' (c : List Byte) (off n : Nat) : Nat := field c off n

/-- Seats of a contract (R54). -/
def seatsOfCon (c : List Byte) : Nat := if bit (cf' c 6 1) 1 then cf' c 2 2 / 2 else cf' c 2 2
/-- Granules of its save area. -/
def saveGranules (c : List Byte) : Nat := (seatsOfCon c + 15) / 16

/-- The contract record in force, as bytes. -/
def State.contract (s : State) (p : Nat) : List Byte :=
  (List.range 8).flatMap fun j => leBytes 8 (s.rd { kind := .cutContract, i := p, j := j })
def State.setContract (s : State) (p : Nat) (c : List Byte) : State :=
  (List.range 8).foldl (fun s j => s.wr { kind := .cutContract, i := p, j := j } (field c (8 * j) 8)) s

/-- The panels that hold a contract: every one that is not EMPTY, and one whose build waits for its boundary. -/
def State.contracted (s : State) (p : Nat) : Bool :=
  s.pstate p ≠ psEmpty || (s.panel p).triggers.any fun t => t.1 == .build

/-- The first fault of R312 that answers BAD_PARAM, as the offset of its field. -/
def State.conBad (s : State) (c : List Byte) : Option Nat :=
  let f := cf' c
  let twin := bit (f 6 1) 1
  if f 2 2 < f 0 2 then some 0
  else if s.nBolts ≤ f 19 1 then some 19
  else if s.boltTiles < f 2 2 then some 2
  else if twin ∧ f 0 2 % 2 = 1 then some 0
  else if twin ∧ f 2 2 % 2 = 1 then some 2
  else if twin ∧ s.boltTiles = 48 then some 19
  else if f 4 2 = 0 ∨ 1000 < f 4 2 then some 4
  else if f 28 2 < 100 ∨ 60000 < f 28 2 then some 28
  else if f 8 4 < f 12 4 then some 12
  else if f 22 2 < f 20 2 then some 20
  else if f 26 2 < f 24 2 then some 24
  else if 8 ≤ f 6 1 then some 6
  else if 32 ≤ f 7 1 then some 7
  else if f 30 2 ≠ 0 then some 30
  else ((List.range 20).find? fun i => f (44 + i) 1 ≠ 0).map (44 + ·)

/-- Byte tokens of a port per stitch as R312 counts them: every sub-port its MODE creates. -/
def State.portSum (s : State) (p : Nat) : Nat :=
  if unitId 4 p ∈ s.outUnits then 0
  else if s.portUp p then 400000
  else ((List.range 4).map fun k => s.upTokens (4 * p + k)).sum

/-- Tokens of a CXL root port by its width (R308). -/
def State.cxlTokens (s : State) (r : Nat) : Nat :=
  match s.fld { kind := .hpRpstat, i := r } F.hpRpstat.WIDTH with
  | 4 => 16000
  | 3 => 8000
  | 2 => 4000
  | _ => 0

/-- Mirrored granules a panel has or may claim: the larger of MIRG and the ones it holds, and a mirrored save area. -/
def State.mirShare (s : State) (p : Nat) (c : List Byte) : Nat :=
  let held := ((s.granted p).filter fun g => potMir (s.potEntry g)).length
  let save := (s.held p false [kSave]).filter fun g => potMir (s.potEntry g)
  let sv := if s.pstate p = psEmpty then (if cf' c 12 4 = 0 then 0 else saveGranules c) else save.length
  max (cf' c 12 4) held + sv

/-- Protected granules: the larger of MEMG and the ones granted, with the save area, the mailbox granule and panel 0's
first grant. -/
def State.memShare (s : State) (p : Nat) (c : List Byte) : Nat :=
  let sv := if s.pstate p = psEmpty then saveGranules c else (s.held p false [kSave]).length
  let mb := if s.pstate p = psEmpty then 1 else b2n (s.mailGranule p).isSome
  let first := if p = 0 then (match s.boot.first with | some e => e.2 | none => 0) else 0
  max (cf' c 8 4) (s.granted p).length + sv + mb + first

/-- The sums of R312 with the contract `c` for panel `p`: the offset of the field that breaks one. -/
def State.conSum (s : State) (p : Nat) (c : List Byte) : Option Nat :=
  let others := (List.range 512).filter fun q => q ≠ p && s.contracted q
  let all := (p, c) :: others.map fun q => (q, s.contract q)
  let b := cf' c 19 1
  let mine := all.filter fun e => cf' e.2 19 1 == b
  let sum := fun (l : List (Nat × List Byte)) (f : Nat × List Byte → Nat) => (l.map f).sum
  let cores := ((s.boltCores b).filter s.coreIn).length
  let cxlPorts := (List.range 8).filter fun r => s.flag { kind := .hpHdm, i := r } F.hpHdm.EN
  let locked := (s.boltCores b).foldl (fun m t => m ||| s.lockedWays t) 0
  let sealed := sum (mine.filter fun e => bit (cf' e.2 6 1) 0) fun e => cf' e.2 18 1
  let shared := (mine.filter fun e => !bit (cf' e.2 6 1) 0).foldl (fun m e => max m (cf' e.2 18 1)) 0
  let tokens := ((List.range 8).map s.portSum).sum
  let offline := (s.pot.filter fun e => !isCxl e.1 && decide (e.1 < s.reservedGranule) && potKind e.2 == kOffline).length
  let lower := (List.range (s.reservedGranule - s.lowerGranules)).filter fun g =>
    potKind (s.potEntry g) ≠ kOffline && potKind (s.potEntry (g + s.lowerGranules)) ≠ kOffline
  let cxlAll := (List.range (cxlEnd - cxlFirst)).filter fun i =>
    s.granuleExists (cxlFirst + i) && potKind (s.potEntry (cxlFirst + i)) ≠ kOffline
  if s.boltState b = 4 then some 19
  else if cores < sum mine (fun e => cf' e.2 0 2) then some 0
  else if 16476 < sum all (fun e => cf' e.2 16 2) then some 16
  else if cxlPorts.any (fun r => s.cxlTokens r - 1024 < sum all (fun e => cf' e.2 16 2)) then some 16
  else if 16 - popWays locked < sealed + shared then some 18
  else if tokens * 95 < sum all (fun e => cf' e.2 20 2) * 125 * 100 then some 20
  else if tokens * 95 < sum all (fun e => cf' e.2 24 2) * 125 * 100 then some 24
  else if s.reservedGranule - offline < sum all (fun e => s.memShare e.1 e.2 + s.mirShare e.1 e.2) then some 8
  else if lower.length < sum all (fun e => s.mirShare e.1 e.2) then some 12
  else if cxlAll.length < sum all (fun e => cf' e.2 40 4) then some 40
  else none

/-- R312: the refusal of a contract, or none. -/
def State.conRefuse (s : State) (p : Nat) (c : List Byte) : Option Ans :=
  match s.conBad c with
  | some o => some (.no stBadParam (po o) 0)
  | none => (s.conSum p c).map fun o => .no stNoResource (po o) 0

/-! ### Range invalidation (R141) and preload (R138) -/

/-- Lines of some granules that a slice tracks or holds. -/
def TileSt.linesIn (x : TileSt) (gs : List Nat) : List Nat :=
  let held := x.dir.map (·.1) ++ x.l3.flatMap fun e => [2 * e.1, 2 * e.1 + 1]
  dedupNat (held.filter fun l => decide (l / 1024 ∈ gs))

/-- A slice cannot have finished its visits: a line of the range has a transaction open, or a writeback of one is under way. -/
def State.rangeBusy (s : State) (gs : List Nat) : Bool :=
  s.tiles.any fun e => (e.2.linesIn gs).any fun l =>
    let d := s.dirEnt e.1 l
    d.busy.isSome || (s.holders e.1 d).any (s.wbUnderWay · l)

/-- A home visits a line (R141): every L2 copy is recalled, dirty data from an L2 or from the slice goes to memory, and the line is
invalid in all ways, locked ones included. -/
def State.visitLine (s : State) (h line : Nat) : State :=
  let d := s.dirEnt h line
  let sec := (s.tile h).sector line
  let owner := (s.holders h d).any fun t => (s.tile t).owns line
  let poison := (s.meta line).poison
  let ktag := if d.st = .i then (match SMap.find (s.tile h).l3 (line / 2) with | some e => e.ktag | none => d.ktag) else d.ktag
  let here := s.l3On h && sec.valid
  let s := s.dropCopies h line .snpInv
  let s := if here && sec.dirty && sec.stale && !owner then s.loseLine line else s
  let s := if owner || (here && sec.dirty) then s.writeAlone h line ktag (if owner then poison else sec.poison) none else s
  if here then s.modTile h fun x => x.setSector line Sector.none else s

/-- Every slice has visited the range. -/
def State.rangeInv (s : State) (gs : List Nat) : State :=
  s.tiles.foldl (fun s e => (e.2.linesIn gs).foldl (fun s l => s.visitLine e.1 l) s) s

/-- One 128-byte line of a preload at its slice (R138 steps 4 and 5): placed in the set's first free locked way of the
panel, both sectors read, or left where it is. -/
def State.preloadLine (s : State) (t p l128 : Nat) : State × Bool :=
  let x := s.tile t
  let lock := s.fld { kind := .wrpL3way, i := t, j := p } F.wrpL3way.LOCK
  let set := l3Set (l128 * 128)
  let used := (x.l3.filter fun e => l3Set (e.1 * 128) == set && e.1 ≠ l128).map (·.2.way)
  let old := SMap.find x.l3 l128
  let slot := match old.filter fun e => bit lock e.way with
    | some e => some e.way
    | none => (List.range 16).find? fun w => bit lock w && w ∉ used
  match slot with
  | none => (s, false)
  | some w =>
    let sec := fun (o : Option Sector) (l : Nat) => match o with
      | some y => if y.valid then y else { valid := true, dirty := false, poison := (s.meta l).poison }
      | none => { valid := true, dirty := false, poison := (s.meta l).poison }
    let e : L3Line := { way := w, ktag := p, s0 := sec (old.map (·.s0)) (l128 * 2), s1 := sec (old.map (·.s1)) (l128 * 2 + 1) }
    let cost := fun (s : State) (o : Option Sector) (l : Nat) =>
      if (o.any (·.valid)) || s.protTop ≤ l * 64 then s else
      let c := s.chanOf l
      (s.spend c p (s.tokenCost c l)).touchTrailer c l
    let s := cost (cost s (old.map (·.s0)) (l128 * 2)) (old.map (·.s1)) (l128 * 2 + 1)
    (s.modTile t fun x => { x with l3 := SMap.insert x.l3 l128 e }, true)

/-- Preload a range: lines placed and lines in overflow. -/
def State.preload (s : State) (p g n : Nat) : State × Nat × Nat :=
  (List.range (n * 512)).foldl (fun (acc : State × Nat × Nat) i =>
    let l := g * 512 + i
    match acc.1.homeOf (l * 2) with
    | none => (acc.1, acc.2.1, acc.2.2 + 1)
    | some t =>
      match acc.1.preloadLine t p l with
      | (s, true) => (s, acc.2.1 + 1, acc.2.2)
      | (s, false) => (s, acc.2.1, acc.2.2 + 1)) (s, 0, 0)

end Sys2Proof.Machine
end

