-- ==== Sys2Proof/Machine/OckMem.lean ====
section
/-! DEFINITION. The Memory group of Ockar (Table OCK-10): granules (R217–R220, R59), locked ways (R136–R141), cache
commands (R149), region, scrub and root-port settings, and the events that end them. -/

namespace Sys2Proof.Machine

/-- The panel of a request can hold resources: it is neither EMPTY nor TEARING (Table OCK-6). -/
def State.panelGone (s : State) (p : Nat) : Bool := s.pstate p == psEmpty || s.pstate p == psTearing

/-! ### Granules -/

/-- GRANT (R59, R218–R221): a free run is filled with zeros under the panel's key, then its entries change by a table
shootdown. (DESIGN CHOICE, log entry 51; DEDUCED, log entry 52.) -/
def execGrant (s : State) : Host.Outcome State Fault Refusal :=
  .next (s.ockar 0x0401 [(0, 8)] fun q s =>
    let p := q.tidx
    let n := q.f 0 4
    let kind := q.f 4 1
    let perm := q.f 5 1
    let mir := q.f 6 1
    let sp := q.f 7 1
    let have_ := s.granted p
    let mirs := have_.filter fun g => potMir (s.potEntry g)
    if n = 0 then (s, .no stBadParam (po 0) 0)
    else if kind ≠ kOwned ∧ (kind ≠ kStage ∨ sp = 1) then (s, .no stBadParam (po 4) 0)
    else if 8 ≤ perm then (s, .no stBadParam (po 5) 0)
    else if 1 < mir ∨ (mir = 1 ∧ sp = 1) then (s, .no stBadParam (po 6) 0)
    else if 1 < sp then (s, .no stBadParam (po 7) 0)
    else if s.panelGone p then (s, .no stStateConflict noOff 0)
    else if sp = 1 ∧ s.ct p 40 4 < (s.held p true [kOwned]).length + n then (s, .no stNoResource (po 0) 0)
    else if sp = 0 ∧ s.ct p 8 4 < have_.length + n then (s, .no stNoResource (po 0) 0)
    else if mir = 1 ∧ s.ct p 12 4 < mirs.length + n then (s, .no stNoResource (po 6) 0)
    else
      match s.findRun (sp == 1) (mir == 1) n with
      | (none, s) => (s, .no stNoResource noOff 0)
      | (some g, s) =>
        let (s, ch) := s.prepare p kind perm (mir == 1) g n
        (s.shootdown ch s.jobId, .later [g * 65536]))

/-- Whether RELEASE may free a granule of a panel (Table OCK-10). -/
def State.releasable (s : State) (p g : Nat) : Bool :=
  let e := s.potEntry g
  s.granuleExists g && potPanel e == p && s.mailGranule p ≠ some g &&
    (potKind e == kOwned || (!isCxl g && potKind e == kStage))

/-- RELEASE (R220): a table shootdown to FREE, then a range invalidation; the zero fill comes before any regrant. -/
def execRelease (s : State) : Host.Outcome State Fault Refusal :=
  .next (s.ockar 0x0402 [(0, 12)] fun q s =>
    let p := q.tidx
    let a := q.f 0 8
    let n := q.f 8 4
    let g := a / 65536
    if n = 0 then (s, .no stBadParam (po 8) 0)
    else if a % 65536 ≠ 0 then (s, .no stBadParam (po 0) 0)
    else if s.pstate p = psTearing then (s, .no stStateConflict noOff 0)
    else if !(List.range n).all fun i => s.releasable p (g + i) then (s, .no stBadParam (po 0) 0)
    else
      let gs := runOf g n
      let mirs := gs.filter fun h => potMir (s.potEntry h)
      let copies := mirs.map (· + s.lowerGranules)
      let s := s.setMirmap mirs false
      let ch := (gs ++ copies).map fun h => (h, s.freedEntry h)
      let s := s.shootdown ch s.jobId
      ({ s with toOffline := s.toOffline.filter fun h => h ∉ gs ++ copies }, .later [g, n, 0]))

/-- The entry POT_READ shows: the reserved region FIRMWARE, the spare pool OFFLINE (R211, R212). -/
def State.potView (s : State) (g : Nat) : Nat :=
  if g < s.reservedGranule ∨ isCxl g then s.potEntry g
  else if (s.protTop - s.clist.length * 409600) / 65536 ≤ g then kOffline * 2 ^ 13
  else kFirmware * 2 ^ 13

/-- POT_READ (R217). -/
def execPotRead (s : State) : Host.Outcome State Fault Refusal :=
  .next (s.ockar 0x0403 [(0, 10)] fun q s =>
    let g := q.f 0 8 / 65536
    let n := q.f 8 2
    let ok := fun h => decide (h < s.protTop / 65536) || isCxl h
    if n = 0 ∨ 2016 < n then (s, .no stBadParam (po 8) 0)
    else if !(runOf g n).all ok then (s, .no stBadParam (po 0) 0)
    else (s, .ok ((runOf g n).flatMap fun h => leBytes 2 (s.potView h))))

/-! ### Locked ways -/

/-- The `w` highest-numbered ways of a slice in no LOCK field (R138). -/
def State.lockChoice (s : State) (t w : Nat) : Nat :=
  let locked := s.lockedWays t
  (((List.range 16).reverse.filter fun i => !bit locked i).take w).foldl (fun m i => m + 2 ^ i) 0

/-- Panels with ways in a slice: those of its bolt. -/
def State.boltPanels (s : State) (b : Nat) : List Nat :=
  (List.range 512).filter fun p => s.contracted p && s.panelBolt p == b

/-- The ways of a preload are clean in a slice: they enter the panel's LOCK field; when every slice has them, the range
is read into them and the command ends (R138). -/
def State.lockStep (s : State) (t : Nat) : State :=
  match s.jobOf 0x0404 fun j => (j.data.drop 2).any (· / 65536 == t) with
  | none => s
  | some j =>
    let p := j.q.tidx
    match (j.data.drop 2).find? (· / 65536 == t) with
    | none => s
    | some e =>
      let ways := e % 65536
      if (s.tile t).cleaning &&& ways ≠ 0 then s else
      let r : Reg := { kind := .wrpL3way, i := t, j := p }
      let s := s.setFld r F.wrpL3way.LOCK (s.fld r F.wrpL3way.LOCK ||| ways)
      let rest := (j.data.drop 2).filter (· ≠ e)
      if rest ≠ [] then s.setJob j.id (j.data.take 2 ++ rest)
      else
        let (s, placed, spill) := s.preload p (j.arg 0) (j.arg 1)
        s.finish j.id (leBytes 4 placed ++ leBytes 4 spill)

/-- Ways that are to be locked enter no panel's ALLOC field when they are clean. -/
def State.notDue (s : State) (t ways : Nat) : State :=
  s.modTile t fun x => { x with wayDue := (x.wayDue.map fun e => (e.1, e.2 &&& (0xFFFF - ways))).filter fun e => e.2 ≠ 0 }

/-- L3_LOCK (R138). -/
def execL3Lock (s : State) : Host.Outcome State Fault Refusal :=
  .next (s.ockar 0x0404 [(0, 13)] fun q s =>
    let p := q.tidx
    let a := q.f 0 8
    let n := q.f 8 4
    let w := q.f 12 1
    let g := a / 65536
    let b := s.panelBolt p
    let tiles := s.sliceList b
    let mine := fun h => potPanel (s.potEntry h) == p && (potKind (s.potEntry h) == kOwned || potKind (s.potEntry h) == kStage)
    let short := fun t =>
      let m := s.lockChoice t w
      popWays m < w || (s.boltPanels b).any fun o =>
        let r : Reg := { kind := .wrpL3way, i := t, j := o }
        let lock := s.fld r F.wrpL3way.LOCK ||| (if o = p then m else 0)
        popWays ((s.fld r F.wrpL3way.ALLOC &&& (0xFFFF - m)) ||| lock) < s.ct o 18 1
    if w = 0 ∨ 8 < w then (s, .no stBadParam (po 12) 0)
    else if a % 65536 ≠ 0 then (s, .no stBadParam (po 0) 0)
    else if n = 0 then (s, .no stBadParam (po 8) 0)
    else if !(runOf g n).all mine then (s, .no stNotOwner (po 0) 0)
    else if s.panelGone p then (s, .no stStateConflict noOff 0)
    else if tiles.any short then (s, .no stNoResource (po 12) 0)
    else
      let chosen := tiles.map fun t => (t, s.lockChoice t w)
      let s := chosen.foldl (fun s e =>
        ((List.range 512).foldl (fun s o =>
          let r : Reg := { kind := .wrpL3way, i := e.1, j := o }
          if s.rd r = 0 then s else s.setFld r F.wrpL3way.ALLOC (s.fld r F.wrpL3way.ALLOC &&& (0xFFFF - e.2))) (s.notDue e.1 e.2)).startClean
            e.1 e.2) s
      if chosen = [] then (s, .ok (leBytes 4 0 ++ leBytes 4 (n * 512)))
      else (s, .later (g :: n :: chosen.map fun e => e.1 * 65536 + e.2)))

/-- WAY_CLEAN_COMPLETE (R137): the cleaning of a slice's ways ends; they may enter a panel's field. -/
def execWayCleanComplete (t : Tile) (s : State) : Host.Outcome State Fault Refusal :=
  match (s.tile t).clean with
  | [] => .next s
  | j :: rest =>
    let s := (s.cleanWays t j.ways).modTile t fun x => { x with clean := rest }
    .next ((s.showWays t j.ways).lockStep t)

/-- L3_UNLOCK (R140). -/
def execL3Unlock (s : State) : Host.Outcome State Fault Refusal :=
  .next (s.ockar 0x0405 [] fun q s =>
    let p := q.tidx
    if s.panelGone p then (s, .no stStateConflict noOff 0)
    else ((s.boltCores (s.panelBolt p)).foldl (fun s t => s.setFld { kind := .wrpL3way, i := t, j := p } F.wrpL3way.LOCK 0) s, .ok []))

/-- Ways that enter a field after being in none are cleaned of what an earlier holder left (R137). -/
def State.cleanOrphans (s : State) : State :=
  match s.cut.staged.bind (·.masks) with
  | none => s
  | some m =>
    (List.range s.nBolts).foldl (fun s b =>
      let after := (m.filter fun e => e.1 / 512 == b).foldl (fun w e => w ||| e.2) 0
      (s.boltCores b).foldl (fun s t =>
        let before := (List.range 512).foldl (fun w p =>
          let r : Reg := { kind := .wrpL3way, i := t, j := p }
          w ||| s.fld r F.wrpL3way.ALLOC ||| s.fld r F.wrpL3way.LOCK) 0
        let new := after &&& (0xFFFF - before)
        if new = 0 then s else s.cleanWays t new) s) s

/-! ### Range invalidation (R141) -/

/-- RANGE_INV. -/
def execRangeInv (s : State) : Host.Outcome State Fault Refusal :=
  .next (s.ockar 0x0406 [(0, 12)] fun q s =>
    let a := q.f 0 8
    let n := q.f 8 4
    if a % 65536 ≠ 0 then (s, .no stBadParam (po 0) 0)
    else if n = 0 then (s, .no stBadParam (po 8) 0)
    else if !(runOf (a / 65536) n).all s.granuleExists then (s, .no stBadParam (po 0) 0)
    else (s, .later [a / 65536, n]))

/-- RANGE_INV_COMPLETE (R141, R220): every slice has visited the range, of the RANGE_INV command or of a panel's
RELEASE. -/
def execRangeInvComplete (p : Option Panel) (s : State) : Host.Outcome State Fault Refusal :=
  let j := match p with
    | none => s.jobOf 0x0406 fun _ => true
    | some p => s.jobOf 0x0402 fun j => j.q.tidx == p.val && j.arg 2 == 1
  match j with
  | none => .next s
  | some j =>
    let gs := runOf (j.arg 0) (j.arg 1)
    .next (if s.rangeBusy gs then s else (s.rangeInv gs).finish j.id [])

/-! ### Cache commands (R149) -/

def cacheEn (k : Nat) : Fld := match k with
  | 0 => F.wrpCctl.L1I_EN
  | 1 => F.wrpCctl.L1D_EN
  | 2 => F.wrpCctl.L2_EN
  | _ => F.wrpCctl.L3_EN

/-- CACHE_DISABLE and CACHE_ENABLE: a cache in the requested state already answers OK. -/
def cacheCmd (v : Nat) (q : OckReq) (s : State) : State × Ans :=
  let k := q.f 0 1
  if 3 < k then (s, .no stBadParam (po 0) 0)
  else if s.fld (cctlR q.tidx) (cacheEn k) = v then (s, .ok [])
  else (s, .later [q.tidx, k, 0])

/-- CACHE_DISABLE. -/
def execCacheDisable (s : State) : Host.Outcome State Fault Refusal := .next (s.ockar 0x0407 [(0, 1)] (cacheCmd 0))
/-- CACHE_ENABLE. -/
def execCacheEnable (s : State) : Host.Outcome State Fault Refusal := .next (s.ockar 0x0408 [(0, 1)] (cacheCmd 1))

def Job.isCache (j : Job) : Bool := j.op == 0x0407 || j.op == 0x0408

/-- The core is withheld from the boundary on: disable cleans the array, and both start its invalidation. -/
def State.cacheStart (s : State) (j : Job) : State :=
  let t := j.arg 0
  let k := j.arg 1
  let off := j.op == 0x0407
  let s := match k with
    | 2 =>
      if off then ((s.flushL2 t).invL2 t).invL1 t else s.invL2 t
    | 3 => (if off then s.cleanWays t 0xFFFF else s).invL3 t
    | _ => s.invL1 t
  s.setJob j.id [t, k, 1]

/-- The boundary's part of Table CCH-7. -/
def State.cacheBoundary (s : State) : State :=
  (s.thm.jobs.filter fun j => j.isCache && j.arg 2 == 0).foldl State.cacheStart s

/-- The array's invalidation has completed: the raw enable bit is written and the command ends. -/
def State.cacheFinish (s : State) (t : Nat) : State :=
  (s.thm.jobs.filter fun j => j.isCache && j.arg 0 == t && j.arg 2 == 1).foldl (fun s j =>
    let k := j.arg 1
    let off := j.op == 0x0407
    let r := cctlR t
    let l1 := s.flag r F.wrpCctl.INV_L1
    let waits := match k with
      | 2 => s.flag r F.wrpCctl.INV_L2 || (off && l1)
      | 3 => s.flag r F.wrpCctl.INV_L3
      | _ => l1
    if waits then s else
    let s := s.setFld r (cacheEn k) (b2n (!off))
    let s := if off && k == 2 then (s.setFld r F.wrpCctl.L1D_EN 0).setFld r F.wrpCctl.L1I_EN 0 else s
    s.finish j.id []) s

/-- INV_COMPLETE (R151): an array's engine is done; its bit reads 0, and what waited for the array goes on. -/
def execInvComplete (t : Tile) (a : CacheArray) (s : State) : Host.Outcome State Fault Refusal :=
  .next ((s.setFld (cctlR t) (match a with
    | .dir => F.wrpCctl.INV_DIR
    | .l3 => F.wrpCctl.INV_L3
    | .l2 => F.wrpCctl.INV_L2
    | .l1 => F.wrpCctl.INV_L1) 0).cacheFinish t |>.arrayReady t)

/-! ### Shootdown acknowledgements (R219) -/

/-- A shootdown that every checker has acknowledged: the command it belongs to goes on. -/
def State.shootDone (s : State) (cmd : Option Nat) : State :=
  match cmd.bind s.job with
  | none => s
  | some j =>
    match j.op with
    | 0x0401 => s.finish j.id (leBytes 8 (j.arg 0))
    | 0x0402 => s.setJob j.id [j.arg 0, j.arg 1, 1]
    | 0x0202 =>
      -- LAUNCH: staging access is gone from every checker; the panel is measured and starts at the next boundary
      let p := j.q.tidx
      let x := s.panel p
      let s := s.setPanel p { x with launch := s.launchDigest (s.ct p 32 8) (s.ct p 6 1) j.data }
      s.trigger p .launch (some j.id)
    | 0x0604 => s.finish j.id []
    | _ => s

/-- Whether a checker has an access open that it checked against old entries, a device's piece that waits for an entry among them. -/
def State.oldAccess (s : State) (a : Nat) (gs : List Nat) : Bool :=
  ((List.range (reqSlots a)).any fun k => match s.req a k with
    | some m => decide (m.line / 1024 ∈ gs)
    | none => false) ||
  s.hio.pieces.any fun p => p.rtid.isNone && 194 + p.func / 65536 / 4 == a && decide (p.line / 1024 ∈ gs)

/-- POT_SHOOTDOWN_ACK (R219): a checker drops its copies of the oldest shootdown it has not answered, and acknowledges
once every access it checked against the old entries has completed. (DESIGN CHOICE, log entry 51.) -/
def execPotShootdownAck (a : Agent) (s : State) : Host.Outcome State Fault Refusal :=
  match s.shoots.find? fun x => a.val ∈ x.waiting with
  | none => .next s
  | some x =>
    let gs := x.old.map (·.1)
    if s.oldAccess a.val gs then .next s else
    let s := if a.val < 192 then s.dropTlb a.val gs else s
    let y := { x with waiting := x.waiting.filter (· ≠ a.val) }
    let s := { s with shoots := s.shoots.map fun z => if z = x then y else z }
    if y.waiting ≠ [] then .next s
    else .next ({ s with shoots := s.shoots.erase y }.shootDone x.cmd)

/-! ### Settings -/

/-- BOLTCFG_SET (R154): NEXT, and the configuration record. -/
def execBoltcfgSet (s : State) : Host.Outcome State Fault Refusal :=
  .next (s.ockar 0x0409 [(0, 1)] fun q s =>
    let v := q.f 0 1
    if 2 < v then (s, .no stBadParam (po 0) 0)
    else
      let s := s.setFld { kind := .hubBoltcfg } F.hubBoltcfg.NEXT v
      ({ s with thm := { s.thm with conf := { s.thm.conf with bolt := v } } }, .ok []))

/-- Root ports a division creates, as a mask (Table HIO-1). -/
def bifPorts : Nat → Nat
  | 0 => 1
  | 1 => 5
  | 2 => 15
  | 3 => 13
  | 4 => 7
  | _ => 0

/-- HOSTCFG_SET (R292): kept in the configuration record, in force from the next warm or cold reset. -/
def execHostcfgSet (s : State) : Host.Outcome State Fault Refusal :=
  .next (s.ockar 0x040A [(0, 4)] fun q s =>
    let k := q.f 0 1
    let en := q.f 1 1
    let div_ := q.f 2 1
    let mask := if 2 ≤ k then 0 else q.f 3 1
    if 3 < k then (s, .no stBadParam (po 0) 0)
    else if 1 < en then (s, .no stBadParam (po 1) 0)
    else if 4 < div_ then (s, .no stBadParam (po 2) 0)
    else if mask &&& (255 - bifPorts div_) ≠ 0 then (s, .no stBadParam (po 3) 0)
    else
      let v := en * 2 ^ 31 + div_ * 2 ^ 28 + mask * 2 ^ 24
      let l := padNat 4 s.thm.conf.hostcfg
      ({ s with thm := { s.thm with conf := { s.thm.conf with hostcfg := l.set k v } } }, .ok []))

/-- REGION_SET (R216): in every controller. A range that meets region 0 is refused. -/
def execRegionSet (s : State) : Host.Outcome State Fault Refusal :=
  .next (s.ockar 0x040B [(0, 3), (4, 8)] fun q s =>
    let k := q.f 0 1
    let own := q.f 1 1
    let b := q.f 2 1
    let base := q.f 4 4
    let lim := q.f 8 4
    if k = 0 ∨ 15 < k then (s, .no stBadParam (po 0) 0)
    else if own ≠ 0 ∧ own ≠ 2 ∧ own ≠ 3 then (s, .no stBadParam (po 1) 0)
    else if 3 < b then (s, .no stBadParam (po 2) 0)
    else if 2 ^ 22 ≤ base then (s, .no stBadParam (po 4) 0)
    else if 2 ^ 22 ≤ lim ∨ (own ≠ 0 ∧ lim < base) then (s, .no stBadParam (po 8) 0)
    else if own ≠ 0 ∧ s.reservedGranule ≤ lim ∧ base < s.protTop / 65536 then (s, .no stBadParam (po 4) 0)
    else
      let r := fun c : Nat => mcReg .mcRegion c k
      let v := if own = 0 then 0 else 2 ^ 63 + own * 2 ^ 60 + b * 2 ^ 58 + lim * 2 ^ 32 + base
      ((List.range 24).foldl (fun s c => s.wr (r c) v) s, .ok []))

/-- RAW_READ (R206): a row of a channel as it is stored; refused while a tenant exists. -/
def execRawRead (s : State) : Host.Outcome State Fault Refusal :=
  .next (s.ockar 0x040C [(0, 4)] fun q s =>
    let row := q.f 0 4
    if 4194304 ≤ row then (s, .no stBadParam (po 0) 0)
    else if !s.tenantsEmpty then (s, .no stDenied noOff 0)
    else if q.tidx ∉ s.clist then (s, .no stFaulted noOff 0)
    else (s, .ok (s.rowBytes q.tidx row)))

/-- SCRUB_SET (R225). -/
def execScrubSet (s : State) : Host.Outcome State Fault Refusal :=
  .next (s.ockar 0x040D [(0, 1)] fun q s =>
    let v := q.f 0 1
    if v = 0 ∨ 168 < v then (s, .no stBadParam (po 0) 0)
    else (s.setFld (mcReg .mcScrub q.tidx) F.mcScrub.PERIOD v, .ok []))

/-- A granule of a root port's HDM range is granted. -/
def State.hdmGranted (s : State) (base lim : Nat) : Bool :=
  s.pot.any fun e => isCxl e.1 && potKind e.2 == kOwned &&
    decide (base ≤ (e.1 - cxlFirst) / 4096) && decide ((e.1 - cxlFirst) / 4096 ≤ lim)

/-- HDM_SET (R304): only while no granule in the range is granted. -/
def execHdmSet (s : State) : Host.Outcome State Fault Refusal :=
  .next (s.ockar 0x040E [(0, 1), (2, 4)] fun q s =>
    let r := q.tidx
    let en := q.f 0 1
    let base := q.f 2 2
    let lim := q.f 4 2
    let h : Reg := { kind := .hpHdm, i := r }
    if 8 ≤ r then (s, .no stBadParam 12 0)
    else if 1 < en then (s, .no stBadParam (po 0) 0)
    else if 2 ^ 14 ≤ base then (s, .no stBadParam (po 2) 0)
    else if 2 ^ 14 ≤ lim ∨ (en = 1 ∧ lim < base) then (s, .no stBadParam (po 4) 0)
    else if (s.flag h F.hpHdm.EN && s.hdmGranted (s.fld h F.hpHdm.BASE) (s.fld h F.hpHdm.LIMIT)) ||
        (en == 1 && s.hdmGranted base lim) then (s, .no stStateConflict noOff 0)
    else (s.wr h (en * 2 ^ 63 + lim * 2 ^ 32 + base), .ok []))

/-- RP_SET (Table HIO-7). -/
def execRpSet (s : State) : Host.Outcome State Fault Refusal :=
  .next (s.ockar 0x040F [(0, 5)] fun q s =>
    let r : Reg := { kind := .hpRpctl, i := q.tidx }
    let v := fun i => q.f i 1
    if 4 < v 0 then (s, .no stBadParam (po 0) 0)
    else if 2 < v 1 then (s, .no stBadParam (po 1) 0)
    else if 5 < v 2 then (s, .no stBadParam (po 2) 0)
    else if 1 < v 3 then (s, .no stBadParam (po 3) 0)
    else if 1 < v 4 then (s, .no stBadParam (po 4) 0)
    else
      let s := (((s.setFld r F.hpRpctl.CTO (v 0)).setFld r F.hpRpctl.MPS (v 1)).setFld r F.hpRpctl.MRRS (v 2)).setFld r
        F.hpRpctl.L1EN (v 3)
      (if v 4 = 1 then s.rpRetrain q.tidx else s, .ok []))

end Sys2Proof.Machine
end

