-- ==== Sys2Proof/Machine/OckAtt.lean ====
section
/-! DEFINITION. The Attestation group of Ockar (Table OCK-15): reports (R369), KEM offers (R371) and tenant secrets
(R372). -/

namespace Sys2Proof.Machine

def digBytes (d : Digest) : List Byte := leBytes 64 d.toNat

/-- A panel's contract as in force (Table CUT-1). -/
def State.contractBytes (s : State) (p : Nat) : List Byte :=
  (List.range 8).flatMap fun j => leBytes 8 (s.rd { kind := .cutContract, i := p, j := j })

/-- KSTATE (Table ATT-4). -/
def State.keyState (s : State) (p : Nat) : Nat :=
  let mem := s.clist.all fun c => bit (s.rd { kind := .mcKvalid, i := c, j := p / 32 }) (p % 32)
  let cxl := s.cxlControllers.all fun k => SMap.get (fun _ => false) s.hpKeys (k * 512 + p)
  b2n mem + 2 * b2n cxl

/-- Bytes 0 to 703 of a report (Table ATT-4). -/
def State.reportBody (s : State) (p : Nat) (nonce data : List Byte) (kem : Option (List Byte)) : List Byte :=
  let r := pstateR p
  let x := s.panel p
  let flags := b2n (s.debugNow p) + 2 * b2n x.debugEver + 4 * b2n kem.isSome + 8 * s.fld r F.hubPstate.SPAN
  [0x41#8, 0x54, 0x52, 0x50] ++ leBytes 2 1 ++ leBytes 2 flags ++ leBytes 4 (s.handle p) ++ leBytes 1 (s.pstate p) ++
    leBytes 1 (s.fld (pfaultR p) F.hubPfault.RESETS) ++ leBytes 1 (s.keyState p) ++ leBytes 1 s.thm.fuses.life ++
    leBytes 8 x.build ++ leBytes 8 s.stitch ++ leBytes 16 s.serial ++ leBytes 4 s.svn ++ List.replicate 12 0 ++
    padTo 64 nonce ++ digBytes x.launch ++ s.contractBytes p ++ padTo 64 Config.mrom ++ padTo 64 s.mfw ++
    digBytes s.thm.fw.mcfg ++ digBytes s.sw.pers.dbgauth ++
    (match kem with
      | some ek => padTo 64 (Config.shake256 ek 64)
      | none => List.replicate 64 0) ++
    padTo 64 data ++ padTo 64 (Config.shake256 (Config.mlDsaPub s.aliasSeed) 64)

/-- REPORT (R369): accepted now; it describes the panel at the next boundary. -/
def execReport (s : State) : Host.Outcome State Fault Refusal :=
  .next (s.ockar 0x0901 [(0, 129)] fun q s =>
    let st := s.pstate q.tidx
    if 1 < q.f 128 1 then (s, .no stBadParam (po 128) 0)
    else if st = psEmpty ∨ st = psBuilt ∨ st = psTearing then (s, .no stStateConflict noOff 0)
    else if s.thm.taint then (s, .no stDenied noOff 0)
    else (s, .later []))

/-- The report of a job at a boundary. REPORTDATA and a KEM offer are the panel's own to ask for (R369, R371). -/
def State.reportNow (s : State) (j : Job) : State :=
  let p := j.q.tidx
  let own := j.q.panel == some p
  let st := s.pstate p
  if st = psEmpty ∨ st = psBuilt ∨ st = psTearing then s.failCmd (some j.id) stStateConflict noOff 0
  else
    let kem := own && j.q.f 128 1 == 1
    if kem && !s.entropyOk then s.failCmd (some j.id) stInternal noOff 0 else
    let nonce := j.q.payload.take 64
    let (seed, s) := if kem then s.entropy 64 else ([], s)
    let ek := padTo 1184 (Config.mlKemPub seed)
    let s := if kem then s.setPanel p { s.panel p with offer := some { seed := seed, nonce := nonce, stitch := s.stitch } } else s
    let body := s.reportBody p nonce (if own then (j.q.payload.drop 64).take 64 else []) (if kem then some ek else none)
    match s.aliasSign body with
    | (none, s) => s.failCmd (some j.id) stInternal noOff 0
    | (some sig, s) => s.endJob j.id stOk s.stitch (body ++ sig)

/-- The boundary's part of REPORT. -/
def State.reportsDue (s : State) : State := (s.thm.jobs.filter fun j => j.op == 0x0901).foldl State.reportNow s

/-- OFFER_FETCH (R371). -/
def execOfferFetch (s : State) : Host.Outcome State Fault Refusal :=
  .next (s.ockar 0x0902 [] fun q s =>
    match (s.panel q.tidx).offer with
    | some x => (s, .ok (padTo 1184 (Config.mlKemPub x.seed)))
    | none => (s, .no stStale noOff 0))

/-- SECRET_ACCEPT (R372): the secret goes to an address of the panel's own, and the offer is used up. -/
def execSecretAccept (s : State) : Host.Outcome State Fault Refusal :=
  .next (s.ockar 0x0903 [(0, 1096)] fun q s =>
    let p := q.tidx
    let a := q.f 1088 8
    let e := s.potEntry (a / 65536)
    if a % 64 ≠ 0 then (s, .no stBadParam (po 1088) 0)
    else if !potR e ∨ !potW e then (s, .no stBadParam (po 1088) 0)
    else
      match (s.panel p).offer with
      | none => (s, .no stStale noOff 0)
      | some x =>
        let k := Config.mlKemDecaps x.seed (q.payload.take 1088)
        let v := padTo 64 (Config.shake256 (k ++ asciiBytes "ZP192-TSEC" ++ leBytes 4 (s.handle p) ++
          leBytes 8 (s.panel p).build ++ x.nonce) 64)
        ((s.homeStore p a v).setPanel p { s.panel p with offer := none }, .ok []))

/-- OFFER_LAPSE (R371): one minute after its report. -/
def execOfferLapse (p : Panel) (s : State) : Host.Outcome State Fault Refusal :=
  match (s.panel p).offer with
  | some x => .next (if x.stitch + 6000000 ≤ s.stitch then s.setPanel p { s.panel p with offer := none } else s)
  | none => .next s

end Sys2Proof.Machine
end

