-- ==== Sys2Proof/Machine/OckTime.lean ====
section
/-! DEFINITION. The Time and Tape groups of Ockar (Tables OCK-13 and OCK-14): TU.CTRL and time (R25, R30, R31, R493), and
fetches of sheets and records (R337, R499). -/

namespace Sys2Proof.Machine

/-! ### Time -/

/-- TIME_CFG: TU.CTRL. A change of REFSEL, or of PTP_UPL under REFSEL = 10, is a loss of the reference (R493); a
candidate that now outranks the master starts an election (R33). -/
def execTimeCfg (s : State) : Host.Outcome State Fault Refusal :=
  .next (s.ockar 0x0701 [(0, 4)] fun q s =>
    let v := q.f 0 4
    if F.tuCtrl.REFSEL.get v = 3 then (s, .no stBadParam (po 0) 0)
    else
      (s.setTuCtrl v |>.outrank, .ok []))

/-- A time in seconds and nanoseconds: the nanoseconds it stands for, or the offset of a field out of range. -/
def OckReq.time (q : OckReq) : Except Nat Nat :=
  if 2 ^ 48 ≤ q.f 0 8 then .error 0
  else if 1000000000 ≤ q.f 8 4 then .error 8
  else .ok (q.f 0 8 * 1000000000 + q.f 8 4)

/-- TIME_SET (R30): before commitment only. -/
def execTimeSet (s : State) : Host.Outcome State Fault Refusal :=
  .next (s.ockar 0x0702 [(0, 12)] fun q s =>
    match q.time with
    | .error off => (s, .no stBadParam (po off) 0)
    | .ok t =>
      if s.committed then (s, .no stStateConflict noOff 0)
      else ((s.setTod t).setTime fun x => { x with ockarSet := true }, .ok []))

/-- TIME_STEP (R31): taken up at the next boundary, which receives the time named. (DEDUCED, log entry 32.) -/
def execTimeStep (s : State) : Host.Outcome State Fault Refusal :=
  .next (s.ockar 0x0703 [(0, 12)] fun q s =>
    match q.time with
    | .error off => (s, .no stBadParam (po off) 0)
    | .ok t => if !s.tenantsEmpty then (s, .no stStateConflict noOff 0) else (s, .later [t]))

/-- The step at a boundary (R31, R332): the open sheet ends at the boundary's number before the step, and the next begins
at its number after it. -/
def State.timeSteps (s : State) : State :=
  (s.thm.jobs.filter fun j => j.op == 0x0703).foldl (fun s j =>
    if !s.tenantsEmpty then s.failCmd (some j.id) stStateConflict noOff 0
    else
      let n := s.stitch
      let t := s.setTod (j.arg 0)
      let t := t.closeSheet n t.stitch true false true
      t.endJob j.id stOk t.stitch []) s

/-- UTC_SET. -/
def execUtcSet (s : State) : Host.Outcome State Fault Refusal :=
  .next (s.ockar 0x0704 [(0, 4)] fun q s =>
    if 2 ^ 19 ≤ q.f 0 4 then (s, .no stBadParam (po 2) 0)
    else (s.wr { kind := .tuUtcofs } (q.f 0 4), .ok []))

/-- PPSDLY_SET. -/
def execPpsdlySet (s : State) : Host.Outcome State Fault Refusal :=
  .next (s.ockar 0x0705 [(0, 4)] fun q s => (s.wr { kind := .tuPpsdly } (q.f 0 4), .ok []))

/-- TIME_READ. -/
def execTimeRead (s : State) : Host.Outcome State Fault Refusal :=
  .next (s.ockar 0x0706 [] fun _ s =>
    (s, .ok (leBytes 4 (s.rd tuStatusR) ++ leBytes 4 (s.rd { kind := .tuOffset }) ++ leBytes 4 (s.rd { kind := .tuFreqadj }) ++
      leBytes 4 0 ++ leBytes 8 (s.tod / 1000000000) ++ leBytes 4 (s.tod % 1000000000) ++ leBytes 4 0 ++ leBytes 8 s.stitch)))

/-! ### Sheets and records (R337, R499) -/

/-- The signed sheets still kept: those that wait for a flush, and the store's. -/
def State.sheets (s : State) : List Signed :=
  (s.sw.wait.filterMap fun w => match w.1 with
    | .sheet x => some x
    | _ => none) ++ s.sw.store.sheets

/-- No sheet of this SEQ has been signed. -/
def State.seqAbove (s : State) (n : Nat) : Bool := s.sw.pers.seq == 0xFFFFFFFF || decide (s.sw.pers.seq < n)

/-- SHEET_FETCH: by SEQ or MINUTE, the lowest SEQ of several. -/
def execSheetFetch (s : State) : Host.Outcome State Fault Refusal :=
  .next (s.ockar 0x0801 [(0, 1), (8, 8)] fun q s =>
    let v := q.f 8 8
    let found := (sortBy (fun (a b : Signed) => decide (a.seq < b.seq)) s.sheets).find? fun x =>
      if q.f 0 1 = 0 then x.seq == v else x.minute == v
    let never := if q.f 0 1 = 0 then s.seqAbove v
      else s.tape.closed.any (fun x => x.minute == v) || s.tape.sheet.any fun x => decide (x.minute ≤ v)
    if 1 < q.f 0 1 then (s, .no stBadParam (po 0) 0)
    else match found with
      | some x => (s, .ok (x.hdr ++ x.sig))
      | none => (s, .no (if never then stBadParam else stStale) (po 8) 0))

/-- RECORD_FETCH (Table CUT-12): panel software its own current account's only. -/
def execRecordFetch (s : State) : Host.Outcome State Fault Refusal :=
  .next (s.ockar 0x0802 [(0, 16)] fun q s =>
    let seq := q.f 0 4
    let own := match (if q.isHost then none else q.panel) with
      | some p => if q.f 4 4 ≠ s.handle p then some 4 else if q.f 8 8 ≠ (s.panel p).build then some 8 else none
      | none => none
    match own with
    | some off => (s, .no stNotOwner (po off) 0)
    | none =>
      if s.seqAbove seq then (s, .no stBadParam (po 0) 0)
      else match s.tape.records.find? fun e => e.1 == seq with
        | none => (s, .no stStale (po 0) 0)
        | some (_, recs) =>
          match recs.findIdx? fun r => field r 0 4 == q.f 4 4 && field r 8 8 == q.f 8 8 with
          | none => (s, .no stBadParam (po 4) 0)
          | some i =>
            let path := treePath 11 i (recs.map leafOf)
            (s, .ok (recs.getD i [] ++ leBytes 2 i ++ leBytes 1 path.length ++ [0#8] ++ path.flatten)))

end Sys2Proof.Machine
end

