-- ==== Sys2Proof/Machine/OckNet.lean ====
section
/-! DEFINITION. The Network and flows group of Ockar (Table OCK-11): virtual ports (R271), remote addresses (R273), the
flow table (R275, R276), meters (R277), templates (R278), decapsulation tables (R280), bobbins (R281, R290) and uplinks
(R269). -/

namespace Sys2Proof.Machine

/-! ### Checks over a payload -/

/-- The first of the checks that fails: the offset of its field. -/
def firstBad (l : List (Bool × Nat)) : Option Ans := (l.find? fun e => !e.1).map fun e => .no stBadParam (po e.2) 0

/-! ### Virtual ports -/

/-- VP_CREATE (R271). -/
def execVpCreate (s : State) : Host.Outcome State Fault Refusal :=
  .next (s.ockar 0x0501 [(0, 13), (16, 80)] fun q s =>
    let p := q.tidx
    let v := q.f 0 2
    let mac := fun k => q.f (16 + 8 * k) 8
    let vlan := fun k => q.f (80 + 2 * k) 2
    let bad := firstBad ([(decide (v < 4096), 0), (decide (q.f 2 2 < 4096), 2), (decide (q.f 4 2 < 4096), 4),
      (decide (q.f 6 1 < 4), 6), (decide (q.f 7 1 < 32), 7), (decide (q.f 8 2 < 1024), 8),
      (decide (q.f 10 2 < 16384), 10), (decide (q.f 12 1 < 4), 12)] ++
      ((List.range 8).map fun k => (bits (mac k) 62 48 == 0, 16 + 8 * k)) ++
      ((List.range 8).map fun k => (bits (vlan k) 14 12 == 0, 80 + 2 * k)))
    match bad with
    | some a => (s, a)
    | none =>
      if s.panelGone p ∨ s.vpUp v then (s, .no stStateConflict noOff 0)
      else
        let c := F.neVpctl.TMPL.set (F.neVpctl.UPL.set (F.neVpctl.UPLEN.set (F.neVpctl.TAGGED.set (F.neVpctl.PVID.set
          (F.neVpctl.SWD.set (F.neVpctl.PANEL.set (F.neVpctl.EN.set 0 1) p) (q.f 2 2)) (q.f 4 2)) (q.f 6 1 % 2))
          (q.f 6 1 / 2)) (q.f 7 1)) (q.f 8 2)
        let s := (s.wr (vpctlR v) c).wr (vpbobR v) (F.neVpbob.RSSN.set (F.neVpbob.DEFBOB.set 0 (q.f 10 2)) (q.f 12 1))
        let s := (List.range 8).foldl (fun s k => (s.wr (vpmacR v k) (mac k)).wr (vpvlanR v k) (vlan k)) s
        (s.wr (vpdropR v) 0, .ok []))

/-- The virtual port a request names on its target panel: a refusal where it has none such. -/
def State.vpNamed (s : State) (q : OckReq) (v : Nat) : Option Ans :=
  if s.vpUp v && s.vpPanel v == q.tidx then none else some (.no stBadParam (po 0) 0)

/-- VP_REMOVE (R271). -/
def execVpRemove (s : State) : Host.Outcome State Fault Refusal :=
  .next (s.ockar 0x0502 [(0, 2)] fun q s =>
    let v := q.f 0 2
    match s.vpNamed q v with
    | some a => (s, a)
    | none => (s.vpRemove v, .ok []))

/-- VP_READ (Table NET-3). -/
def execVpRead (s : State) : Host.Outcome State Fault Refusal :=
  .next (s.ockar 0x0503 [(0, 2)] fun q s =>
    let v := q.f 0 2
    match s.vpNamed q v with
    | some a => (s, a)
    | none =>
      (s, .ok (padTo 128 (leBytes 8 (s.rd (vpctlR v)) ++ leBytes 8 (s.rd (vpbobR v)) ++
        ((List.range 8).flatMap fun k => leBytes 8 (s.rd (vpmacR v k))) ++
        ((List.range 8).flatMap fun k => leBytes 2 (s.rd (vpvlanR v k))) ++ leBytes 8 (s.rd (vpdropR v))))))

/-! ### The MAC table (R273) -/

/-- RMAC_SET: a remote entry is installed, replacing one of the same address, or removed. -/
def execRmacSet (s : State) : Host.Outcome State Fault Refusal :=
  .next (s.ockar 0x0504 [(0, 15)] fun q s =>
    let e : RemoteMac := { swd := q.f 0 2, vlan := q.f 2 2, mac := q.f 4 6, module := q.f 10 2, vp := q.f 12 2 }
    match firstBad [(decide (e.swd < 4096), 0), (decide (e.vlan < 4096), 2), (decide (e.module < 4096), 10),
        (decide (e.vp < 4096), 12), (decide (q.f 14 1 < 2), 14)] with
    | some a => (s, a)
    | none =>
      let rest := s.net.rmacs.filter fun x => x.swd ≠ e.swd ∨ x.vlan ≠ e.vlan ∨ x.mac ≠ e.mac
      if q.f 14 1 = 0 then ({ s with net := { s.net with rmacs := rest } }, .ok [])
      else if 32768 ≤ rest.length then (s, .no stNoResource noOff 0)
      else ({ s with net := { s.net with rmacs := rest ++ [e] } }, .ok []))

/-! ### The flow table (R275, R276) -/

/-- What a tenant may not put into a flow entry of its own, or a steer that no one may: a refusal. -/
def State.flowRefuse (s : State) (q : OckReq) (act dir v target : Nat) : Option Ans :=
  let b := target % 16384
  match q.tenant with
  | some _ =>
    if faEncap act ∨ (faSteer act ∧ dir = 0) then some (.no stDenied (po 40) 0)
    else if faSteer act ∧ s.fld (bctlR b) F.neBctl.VP ≠ v then some (.no stDenied (po 42) 0)
    else none
  | none =>
    if !s.vpUp v then some (.no stBadParam (po 38) 0)
    else if faSteer act ∧ dir = 1 ∧ (!s.flag (bctlR b) F.neBctl.EN ∨ s.fld (bctlR b) F.neBctl.VP ≠ v) then
      some (.no stDenied (po 42) 0)
    else none

/-- FLOW_ADD: the entry goes into its bucket; which free way is the engine's choice. An entry of the same key is
replaced. (DESIGN CHOICE, log entry 65.) -/
def execFlowAdd (s : State) : Host.Outcome State Fault Refusal :=
  .next (s.ockar 0x0505 [(0, 41), (42, 6)] fun q s =>
    let act := q.f 40 1
    let v := q.f 38 2
    let target := q.f 42 2
    let meter := q.f 44 2
    match firstBad [(decide (q.f 37 1 < 2), 37), (decide (v < 4096), 38),
        (bit act 4 && decide (act < 32) && !(faDrop act && decide (act % 8 ≠ 0)), 40),
        (!faSteer act || decide (target < (if q.f 37 1 = 0 then 4096 else 16384)), 42), (decide (meter < 4096), 44),
        (decide (q.f 46 2 < 1024), 46)] with
    | some a => (s, a)
    | none =>
      match s.flowRefuse q act (q.f 37 1) v target with
      | some a => (s, a)
      | none =>
        let key := q.payload.take 40
        let b := flowBucket key
        let n := Config.freeNat s.fresh
        let used := (s.net.flows.filter fun e => e.key ≠ key).map (·.index)
        let free := fun (w : Nat) => decide (4 * b + w ∉ used)
        let way := match s.net.flows.find? fun e => e.key == key with
          | some e => some (e.index % 4)
          | none => if free (n % 4) then some (n % 4) else (List.range 4).find? free
        match way with
        | none => (s, .no stNoResource noOff 0)
        | some w =>
          let e : FlowEnt := { index := 4 * b + w, key := key, act := act, target := target, meter := meter, tmpl := q.f 46 2
                               pkts := 0, bytes := 0 }
          ({ s with fresh := s.fresh + 1, net := { s.net with flows := s.net.flows.filter (fun x => x.key ≠ key) ++ [e] } },
           .ok (leBytes 4 e.index)))

/-- The flow entry a request names: none where it is empty. -/
def State.flowNamed (s : State) (q : OckReq) : Except Ans (Option FlowEnt) :=
  let i := q.f 0 4
  if 65536 ≤ i then .error (.no stBadParam (po 0) 0) else .ok (s.net.flows.find? fun e => e.index == i)

/-- FLOW_DEL. -/
def execFlowDel (s : State) : Host.Outcome State Fault Refusal :=
  .next (s.ockar 0x0506 [(0, 4)] fun q s =>
    match s.flowNamed q with
    | .error a => (s, a)
    | .ok none => (s, .no stBadParam (po 0) 0)
    | .ok (some e) => ({ s with net := { s.net with flows := s.net.flows.filter fun x => x.index ≠ e.index } }, .ok []))

/-- An entry's 64 bytes (Table NET-6). -/
def FlowEnt.toBytes (e : FlowEnt) : List Byte :=
  padTo 40 e.key ++ leBytes 2 e.act ++ leBytes 2 e.target ++ leBytes 2 e.meter ++ leBytes 2 e.tmpl ++ leBytes 8 e.pkts ++
    leBytes 8 e.bytes

/-- FLOW_READ: an empty entry reads as zeros. -/
def execFlowRead (s : State) : Host.Outcome State Fault Refusal :=
  .next (s.ockar 0x0507 [(0, 4)] fun q s =>
    match s.flowNamed q with
    | .error a => (s, a)
    | .ok e => (s, .ok (e.elim (List.replicate 64 0) FlowEnt.toBytes)))

/-- METER_SET (R277): the host manager also assigns the meter to a panel. -/
def execMeterSet (s : State) : Host.Outcome State Fault Refusal :=
  .next (s.ockar 0x0508 [(0, 12)] fun q s =>
    let m := q.f 0 2
    let x := s.meter m
    let new := { x with rate := q.f 4 4, burst := q.f 8 4 }
    if 4096 ≤ m then (s, .no stBadParam (po 0) 0)
    else match q.tenant with
      | some _ =>
        if q.f 2 2 ≠ 0 then (s, .no stBadParam (po 2) 0)
        else (s.setMeter m new, .ok [])
      | none =>
        if 512 ≤ q.f 2 2 then (s, .no stBadParam (po 2) 0)
        else (s.setMeter m { new with panel := q.f 2 2 }, .ok []))

/-! ### Tunnels (R278, R280) -/

/-- TMPL_SET (Table NET-7): reserved bytes and bits are zero. -/
def execTmplSet (s : State) : Host.Outcome State Fault Refusal :=
  .next (s.ockar 0x0509 [(0, 2), (8, 54), (72, 32)] fun q s =>
    let n := q.f 0 2
    match firstBad [(decide (1 ≤ n) && decide (n < 1024), 0), (decide (q.f 22 2 < 8), 22), (decide (q.f 57 1 < 64), 57),
        (decide (q.f 61 1 ≤ 8), 61)] with
    | some a => (s, a)
    | none => ({ s with net := { s.net with tmpls := SMap.insert s.net.tmpls n ((q.payload.drop 8).take 128) } }, .ok []))

/-- VTEP_SET (R280). -/
def execVtepSet (s : State) : Host.Outcome State Fault Refusal :=
  .next (s.ockar 0x050E [(0, 2), (16, 16)] fun q s =>
    let k := q.f 0 1
    match firstBad [(decide (k < 16), 0), (decide (q.f 1 1 < 2), 1)] with
    | some a => (s, a)
    | none =>
      let t := if q.f 1 1 = 1 then SMap.insert s.net.vtep k ((q.payload.drop 16).take 16) else SMap.remove s.net.vtep k
      ({ s with net := { s.net with vtep := t } }, .ok []))

/-- VNI_SET (R280): a table of 4,096 entries. -/
def execVniSet (s : State) : Host.Outcome State Fault Refusal :=
  .next (s.ockar 0x050F [(0, 7)] fun q s =>
    let n := q.f 0 4
    match firstBad [(decide (n < 2 ^ 24), 0), (decide (q.f 4 2 < 4096), 4), (decide (q.f 6 1 < 2), 6)] with
    | some a => (s, a)
    | none =>
      let rest := SMap.remove s.net.vnis n
      if q.f 6 1 = 0 then ({ s with net := { s.net with vnis := rest } }, .ok [])
      else if 4096 ≤ rest.length then (s, .no stNoResource noOff 0)
      else ({ s with net := { s.net with vnis := SMap.insert rest n (some (q.f 4 2)) } }, .ok []))

/-! ### Bobbins (R281, R290) -/

/-- BOB_CREATE: attached to one of the panel's virtual ports; it runs once its rings are set. -/
def execBobCreate (s : State) : Host.Outcome State Fault Refusal :=
  .next (s.ockar 0x050A [(0, 9), (10, 2)] fun q s =>
    let p := q.tidx
    let b := q.f 0 2
    let v := q.f 2 2
    match firstBad [(decide (b < 16384), 0), (s.vpUp v && s.vpPanel v == p, 2), (decide (q.f 4 1 < 4), 4),
        (decide (q.f 5 1 < 2) && (q.f 5 1 == 0 || q.f 4 1 ≠ 0), 5), (decide (q.f 6 1 ≤ 10), 6), (decide (q.f 7 1 ≤ 10), 7),
        (decide (q.f 8 1 ≤ 10), 8), (decide (q.f 10 2 < 2048), 10)] with
    | some a => (s, a)
    | none =>
      if s.panelGone p ∨ s.flag (bctlR b) F.neBctl.EN then (s, .no stStateConflict noOff 0)
      else
        let c := F.neBctl.VECTOR.set (F.neBctl.CQLOG.set (F.neBctl.RQLOG.set (F.neBctl.SQLOG.set (F.neBctl.MSGEN.set
          (F.neBctl.RBSZ.set (F.neBctl.VP.set (F.neBctl.PANEL.set (F.neBctl.EN.set 0 1) p) v) (q.f 4 1)) (q.f 5 1))
          (q.f 6 1)) (q.f 7 1)) (q.f 8 1)) (q.f 10 2)
        let s := (((s.wr (bctlR b) c).wr (bstatR b) 0).wr (bdropR b) 0).setBob b BobSt.init
        let s := ((s.wr (sqbaseR b) 0).wr (rqbaseR b) 0).wr (cqbaseR b) 0
        ((((s.wr (sqtailR b) 0).wr (rqtailR b) 0).wr (cqheadR b) 0).wr (armR b) 0, .ok []))

/-- The bobbin a request names on its target panel: a refusal where there is none such. -/
def State.bobNamed (s : State) (q : OckReq) (b : Nat) : Option Ans :=
  if 16384 ≤ b then some (.no stBadParam (po 0) 0)
  else if s.flag (bctlR b) F.neBctl.EN && s.bobPanel b == q.tidx then none
  else some (.no stBadParam (po 0) 0)

/-- A ring's granules: OWNED by the panel with R and W; else the refusal. -/
def State.ringRefuse (s : State) (q : OckReq) (off bytes : Nat) : Option Ans :=
  let a := q.f off 8
  let ok := (granulesIn a bytes).all fun g => s.ownsGranule q.tidx g && potR (s.potEntry g) && potW (s.potEntry g)
  if a % 64 = 0 ∧ ok then none else some (.no stBadParam (po off) 0)

/-- BOB_RINGS (R281): of an idle bobbin, which then runs. -/
def execBobRings (s : State) : Host.Outcome State Fault Refusal :=
  .next (s.ockar 0x050B [(0, 2), (8, 24)] fun q s =>
    let b := q.f 0 2
    match s.bobNamed q b with
    | some a => (s, a)
    | none =>
      if s.bobState b ≠ bIdle then (s, .no stStateConflict noOff 0)
      else
        match [s.ringRefuse q 8 (32 * s.sqSize b), s.ringRefuse q 16 (16 * s.rqSize b),
            s.ringRefuse q 24 (32 * s.cqSize b)].findSome? id with
        | some a => (s, a)
        | none =>
          let s := ((s.wr (sqbaseR b) (q.f 8 8)).wr (rqbaseR b) (q.f 16 8)).wr (cqbaseR b) (q.f 24 8)
          (s.setFld (bctlR b) F.neBctl.STATE bRun, .ok []))

/-- BOB_RESET (R290): CAUSE 0x04. -/
def execBobReset (s : State) : Host.Outcome State Fault Refusal :=
  .next (s.ockar 0x050C [(0, 2)] fun q s =>
    let b := q.f 0 2
    match s.bobNamed q b with
    | some a => (s, a)
    | none =>
      if s.bobState b = bResetting then (s, .no stStateConflict noOff 0)
      else (s.recoverBob b 0x04, .ok []))

/-! ### Uplinks (R269) -/

/-- UPLINK_SET: MODE and PMD take effect at the port's next bring-up. -/
def execUplinkSet (s : State) : Host.Outcome State Fault Refusal :=
  .next (s.ockar 0x050D [(0, 6)] fun q s =>
    let p := q.tidx
    let mode := q.f 0 1
    let sub := q.f 2 1
    let exists_ := match mode with
      | 0 => sub == 0
      | 1 => sub == 0 || sub == 2
      | _ => decide (sub < 4)
    match firstBad [(decide (mode < 3), 0), (decide (q.f 1 1 < 2), 1), (exists_, 2), (decide (q.f 3 1 < 4), 3),
        (decide (q.f 4 2 < 4096), 4)] with
    | some a => (s, a)
    | none =>
      if s.fld (pctlR p) F.wpPctl.ROLE ≠ 2 then (s, .no stStateConflict noOff 0)
      else
        let s := (s.setFld (ectlR p) F.wpEctl.MODE mode).setFld (ectlR p) F.wpEctl.PMD (q.f 1 1)
        (s.wr (upcfgR (4 * p + sub)) (F.neUpcfg.DECAP.set (F.neUpcfg.SWD.set (F.neUpcfg.EN.set 0 (q.f 3 1 % 2)) (q.f 4 2))
          (q.f 3 1 / 2)), .ok []))

end Sys2Proof.Machine
end

