-- ==== Sys2Proof/Machine/OckFab.lean ====
section
/-! DEFINITION. The Fabric group of Ockar (Table OCK-12): shape and ports (R235, R236), exports (R255), members (R257),
barriers (R260, R261) and routes (R245). -/

namespace Sys2Proof.Machine

/-- FAB_CONFIG (R236): kept in the configuration record, in force from the next warm or cold reset. -/
def execFabConfig (s : State) : Host.Outcome State Fault Refusal :=
  .next (s.ockar 0x0601 [(0, 6), (8, 8)] fun q s =>
    let id := q.f 0 2
    match firstBad [(decide (q.f 2 1 < 16), 2), (decide (q.f 3 1 < 16), 3), (decide (q.f 4 1 < 16), 4),
        (decide (id < 4096) && decide (coord id 0 ≤ q.f 2 1) && decide (coord id 1 ≤ q.f 3 1) &&
          decide (coord id 2 ≤ q.f 4 1), 0), (decide (q.f 5 1 < 2), 5)] with
    | some a => (s, a)
    | none =>
      let fab := [id, q.f 2 1, q.f 3 1, q.f 4 1, q.f 5 1, q.f 8 8]
      ({ s with thm := { s.thm with conf := { s.thm.conf with fab := fab } } }, .ok []))

/-- The port is up in its role. -/
def State.portLive (s : State) (p : Nat) : Bool :=
  s.portUp p || (s.fld (pctlR p) F.wpPctl.ROLE == 2 && s.fld (ectlR p) F.wpEctl.LINKUP ≠ 0)

/-- A port's link goes down. -/
def State.portOff (s : State) (p : Nat) : State :=
  let was := s.portUp p
  let s := ((s.setFld (pstatR p) F.wpPstat.STATE lsDown).setFld (ectlR p) F.wpEctl.LINKUP 0).setLink p LinkSt.init
  if was then s.linkChange else s

/-- PORT_SET (R235), kept in Thimble's record (R267): a change to a live port needs RETRAIN. Datelines and route words follow (R238, R245).
(DEDUCED, log entry 82.) -/
def execPortSet (s : State) : Host.Outcome State Fault Refusal :=
  .next (s.ockar 0x0602 [(0, 4)] fun q s =>
    let p := q.tidx
    let r := pctlR p
    let change := s.fld r F.wpPctl.ROLE ≠ q.f 0 1 || s.fld r F.wpPctl.DIM ≠ q.f 1 1 || s.fld r F.wpPctl.DIR ≠ q.f 2 1
    match firstBad [(decide (q.f 0 1 < 3), 0), (decide (q.f 1 1 < 3), 1), (decide (q.f 2 1 < 2), 2),
        (decide (q.f 3 1 < 2), 3)] with
    | some a => (s, a)
    | none =>
      let retrain := q.f 3 1 = 1
      if change ∧ s.portLive p ∧ !retrain then (s, .no stStateConflict noOff 0)
      else
        let s := if retrain then s.portOff p else s
        let s := ((s.setFld r F.wpPctl.ROLE (q.f 0 1)).setFld r F.wpPctl.DIM (q.f 1 1)).setFld r F.wpPctl.DIR (q.f 2 1)
        let v := q.f 0 1 * 8 + q.f 1 1 * 2 + q.f 2 1
        let s := { s with thm := { s.thm with conf := { s.thm.conf with ports := SMap.insert s.thm.conf.ports p v } } }
        let s := if change then (s.setFld r F.wpPctl.DATELINE 0).buildRoutes.repair else s
        (if retrain then s.startLink p else s, .ok []))

/-! ### Exports (R255, R256) -/

/-- A free inbound map entry; which one is Thimble's choice.
(DESIGN CHOICE, log entry 35; DESIGN CHOICE, log entry 77.) -/
def State.freeIn (s : State) : Option Nat × State :=
  let (n, s) := s.freeNat
  let free := fun (k : Nat) => !bit (SMap.get (fun _ => 0) s.weft.inmap k) 63
  (if free (n % 65536) then some (n % 65536) else (List.range 65536).find? free, s)

/-- EXPORT: one of the panel's own granules of protected memory; the host manager exports panel 0's only. -/
def execExport (s : State) : Host.Outcome State Fault Refusal :=
  .next (s.ockar 0x0603 [(0, 9)] fun q s =>
    let p := q.tidx
    let a := q.f 0 8
    let g := a / 65536
    let e := s.potEntry g
    if q.isHost ∧ p ≠ 0 then (s, .no stDenied noOff 0)
    else if a % 65536 ≠ 0 ∨ s.protTop ≤ a then (s, .no stBadParam (po 0) 0)
    else if 4 ≤ q.f 8 1 then (s, .no stBadParam (po 8) 0)
    else if s.panelGone p then (s, .no stStateConflict noOff 0)
    else if potKind e ≠ kOwned ∨ potPanel e ≠ p then (s, .no stNotOwner (po 0) 0)
    else
      match s.freeIn with
      | (none, _) => (s, .no stNoResource noOff 0)
      | (some k, s) =>
        let v := 2 ^ 63 + b2n (bit (q.f 8 1) 0) * 2 ^ 62 + b2n (bit (q.f 8 1) 1) * 2 ^ 61 + p * 2 ^ 52 + g
        (s.setWeft fun x => { x with inmap := SMap.insert x.inmap k v }, .ok (leBytes 4 (k * 65536))))

/-- UNEXPORT (R256): the entry goes, and a table shootdown ends the accesses under way. -/
def execUnexport (s : State) : Host.Outcome State Fault Refusal :=
  .next (s.ockar 0x0604 [(0, 4)] fun q s =>
    let p := q.tidx
    let off := q.f 0 4
    let m := SMap.get (fun _ => 0) s.weft.inmap (off / 65536)
    if off % 65536 ≠ 0 then (s, .no stBadParam (po 0) 0)
    else if !bit m 63 ∨ bits m 60 52 ≠ p then
      (s, .no (if q.tenant.isSome then stNotOwner else stBadParam) (po 0) 0)
    else
      let g := bits m 21 0
      let s := s.setWeft fun x => { x with inmap := SMap.remove x.inmap (off / 65536) }
      (s.shootdown [(g, s.potEntry g)] s.jobId, .later []))

/-! ### Members and barriers (R257, R260, R261) -/

/-- MEMBER_SET: an entry of a panel's member table; a panel with members is a member of a spanning panel. Panel 0's table
is implicit. (DEDUCED, log entry 81.) -/
def execMemberSet (s : State) : Host.Outcome State Fault Refusal :=
  .next (s.ockar 0x0605 [(0, 5)] fun q s =>
    let p := q.tidx
    match firstBad [(decide (q.f 0 2 < 4096), 0), (decide (q.f 2 2 < 512), 2), (decide (q.f 4 1 < 2), 4)] with
    | some a => (s, a)
    | none =>
      if p = 0 ∨ s.panelGone p then (s, .no stStateConflict noOff 0)
      else
        let x := s.panel p
        let ms := if q.f 4 1 = 1 then SMap.insert x.members (q.f 0 2) (q.f 2 2) else SMap.remove x.members (q.f 0 2)
        ((s.setPanel p { x with members := ms }).setFld (pstateR p) F.hubPstate.SPAN (b2n (!ms.isEmpty)), .ok []))

/-- BAR_SET: only for panels of a spanning panel, or panel 0. (DEDUCED, log entry 81.) -/
def execBarSet (s : State) : Host.Outcome State Fault Refusal :=
  .next (s.ockar 0x0606 [(0, 6)] fun q s =>
    let p := q.tidx
    let r := barR (q.f 0 1)
    match firstBad [(decide (q.f 1 1 < 64), 1), (decide (q.f 2 2 < 4096), 2),
        (decide (1 ≤ q.f 4 2) && decide (q.f 4 2 ≤ 4096), 4)] with
    | some a => (s, a)
    | none =>
      if s.panelGone p ∨ (p ≠ 0 ∧ (s.panel p).members = []) ∨ (s.fld r F.wpBar.COUNT ≠ 0 ∧ s.fld r F.wpBar.PANEL ≠ p) then
        (s, .no stStateConflict noOff 0)
      else
        let v := F.wpBar.PANEL.set (F.wpBar.COUNT.set (F.wpBar.RCTX.set (F.wpBar.ROOT.set 0 (q.f 2 2)) (q.f 1 1)) (q.f 4 2)) p
        (((s.wr r v).wr (barcntR (q.f 0 1)) 0).forgetArrivals (q.f 0 1), .ok []))

/-- BAR_CANCEL (R261): the context is reset. -/
def execBarCancel (s : State) : Host.Outcome State Fault Refusal :=
  .next (s.ockar 0x0607 [(0, 1)] fun q s =>
    let n := q.f 0 1
    let r := barR n
    if s.fld r F.wpBar.COUNT = 0 ∨ s.fld r F.wpBar.PANEL ≠ q.tidx then
      (s, .no (if q.tenant.isSome then stNotOwner else stBadParam) (po 0) 0)
    else (((s.wr r 0).wr (barcntR n) 0).forgetArrivals n, .ok []))

/-- ROUTE_READ (R245). -/
def execRouteRead (s : State) : Host.Outcome State Fault Refusal :=
  .next (s.ockar 0x0608 [(0, 2)] fun q s =>
    let d := q.f 0 2
    if 4096 ≤ d then (s, .no stBadParam (po 0) 0)
    else (s, .ok (((List.range 4).flatMap fun w => leBytes 4 (s.rd (routeR d w))) ++ leBytes 4 (s.rd (pselR d)))))

end Sys2Proof.Machine
end

