-- ==== Sys2Proof/Machine/OckMisc.lean ====
section
/-! DEFINITION. The Power, Errors, Swatch and Self-test groups of Ockar (Tables OCK-17, OCK-18, OCK-19, OCK-21): domains and
the cap (R448, R324), error records (R405, R406, R423), units in and out of service (R400, R401, R422), reads of the store
(R440–R446), the test report (R471); and the I3C port (R390, R482). -/

namespace Sys2Proof.Machine

/-! ### Power (Table OCK-17) -/

/-- A granule of the controller's CXL memory is granted. -/
def State.cxlGranted (s : State) (k : Nat) : Bool :=
  s.pot.any fun e => isCxl e.1 && potKind e.2 ≠ kFree && potKind e.2 ≠ kOffline &&
    (s.hdmOf ((e.1 - cxlFirst) * 65536)).any fun r => r / 4 == k

/-- The state set by DOMAIN_SET is allowed (Table PWR-1, R448, R152, R234, Table HIO-8).
(DESIGN CHOICE, log entry 145.) -/
def State.domainOk (s : State) (d t : Nat) : Bool :=
  if d < 192 then true
  else if d < 384 then t ≠ 2 || decide (d - 192 ∈ s.noSlice)
  else if d < 388 then false
  else if d < 412 then t ≠ 2 || decide (d - 388 ∉ s.clist)
  else if d < 420 then true
  else if d < 424 then
    let k := d - 420
    t ≠ 2 || (!((List.range 512).any fun e => s.flag (func0R k e) F.hpFunc0.V) && !s.cxlGranted k)
  else t ≠ 2 || !(List.range 4096).any fun v => s.flag (vpctlR v) F.neVpctl.EN

/-- Thimble routes around a port (R267): destinations whose route leaves by it take another usable word, or are
unreachable. True where a route had to change. -/
def State.weftAround (s : State) (p : Nat) : State × Bool :=
  let by_ := fun (s : State) (d : Nat) => match s.wordTo d with
    | some w => w ≠ 0 && legPort w 0 == p
    | none => false
  if !s.isWeft p then (s, false) else
  (List.range 4096).foldl (fun (x : State × Bool) d =>
    if d ≠ x.1.myId && by_ x.1 d then
      (match (List.range 4).find? fun w =>
          let r := x.1.rd (routeR d w)
          x.1.wordUsable r && legPort r 0 ≠ p with
        | some w => x.1.setSel d w
        | none => x.1.setFld (pselR d) F.wpPsel.UNREACH 1, true)
    else x) (s, false)

/-- DOMAIN_SET (R448): kept in PWR.DSTAT until the next one; a core's override withholds it (R326). A port's OFF is
refused until its routes have left it. (DEDUCED, log entry 80.) -/
def execDomainSet (s : State) : Host.Outcome State Fault Refusal :=
  .next (s.ockar 0x0B01 [(0, 3)] fun q s =>
    let d := q.f 0 2
    let t := q.f 2 1
    if 425 ≤ d then (s, .no stBadParam (po 0) 0)
    else if 2 < t then (s, .no stBadParam (po 2) 0)
    else if !s.domainOk d t then (s, .no stStateConflict noOff 0)
    else
      let (s, moved) := if 412 ≤ d ∧ d < 420 ∧ t = 2 then s.weftAround (d - 412) else (s, false)
      if moved then (s.reply q stStateConflict s.stitch (refusal noOff 0), .done)
      else
        let s := s.setFld (dstatR d) F.pwrDstat.OCK t
        if d < 192 then
          let r := cutOvrR d
          let s := if t = 0 then s.wr r 0 else s.wr r (F.cutOvr.WITHHOLD.set (F.cutOvr.EN.set 0 1) 1)
          if (s.core d).seat.isSome ∧ t = 0 then (s.coreFollow d, .ok [])
          else if (s.core d).seat.isSome then
            if s.claims d ≠ [] then ((s.setHeld d (some t)).reply q stClaimed s.stitch (refusal noOff 0), .done)
            else (s, .ok [])
          else
            match s.powerReq d t with
            | (s, true) => (s.reply q stClaimed s.stitch (refusal noOff 0), .done)
            | (s, false) => (s, .ok [])
        else
          match s.powerReq d t with
          | (s, true) => (s.reply q stClaimed s.stitch (refusal noOff 0), .done)
          | (s, false) => (s, .ok []))

/-- PCAP_SET (R324); Thimble's record keeps it for the next reset. (DEDUCED, log entry 82.) -/
def execPcapSet (s : State) : Host.Outcome State Fault Refusal :=
  .next (s.ockar 0x0B02 [(0, 2)] fun q s =>
    let w := q.f 0 2
    if w < 500 ∨ 900 < w then (s, .no stBadParam (po 0) 0)
    else ({ s.setFld { kind := .cutCtrl } F.cutCtrl.PCAP w with thm := { s.thm with conf := { s.thm.conf with pcap := some w } } }, .ok []))

/-! ### Error records (R405, R406, R423) -/

/-- The 64 bytes of a record (Table ERR-3a). -/
def ErrRec.bytes (r : ErrRec) : List Byte :=
  let b := leBytes 8 r.stitch ++ leBytes 4 r.unitId ++ leBytes 1 r.cls ++ leBytes 1 r.code ++ leBytes 1 r.action ++
    leBytes 1 r.flags ++ leBytes 8 r.paddr ++ leBytes 4 r.panel ++ leBytes 1 r.req ++ leBytes 1 0 ++ leBytes 2 r.count ++
    padTo 16 r.syndrome ++ leBytes 8 r.detail ++ leBytes 4 r.seq
  b ++ leBytes 4 (crc32c b).toNat

/-- The reply of the two fetches: up to MAX records from a stitch on, oldest first. -/
def State.errFetch (s : State) (q : OckReq) (mine : ErrRec → Bool) : Ans :=
  let n := q.f 8 1
  if n = 0 ∨ 62 < n then .no stBadParam (po 8) 0
  else
    let l := (s.ras.ring.reverse.filter fun r => decide (q.f 0 8 ≤ r.stitch) && mine r).take n
    .ok (leBytes 1 l.length ++ List.replicate 63 0 ++ l.flatMap ErrRec.bytes)

/-- ERR_FETCH. -/
def execErrFetch (s : State) : Host.Outcome State Fault Refusal :=
  .next (s.ockar 0x0C01 [(0, 9)] fun q s => (s, s.errFetch q fun _ => true))

/-- PANEL_ERR_FETCH: records whose PANEL field names the panel. -/
def execPanelErrFetch (s : State) : Host.Outcome State Fault Refusal :=
  .next (s.ockar 0x0C02 [(0, 9)] fun q s =>
    (s, s.errFetch q fun r => bit r.flags 1 && r.panel == s.handle q.tidx))

/-- OFFLINE_READ (R228): granules marked OFFLINE and those to be marked when next freed. -/
def execOfflineRead (s : State) : Host.Outcome State Fault Refusal :=
  .next (s.ockar 0x0C03 [(0, 4)] fun q s =>
    let now := (s.pot.filter fun e => potKind e.2 == kOffline).map (·.1)
    let l := sortBy (fun (a b : Nat) => decide (a < b)) (dedupNat (now ++ s.toOffline))
    let l' := (l.drop (q.f 0 4)).take 503
    (s, .ok (leBytes 4 l.length ++ leBytes 4 0 ++ l'.flatMap fun g => leBytes 8 (g * 65536))))

/-! ### Units out of service (R400, R401, R422, Table ERR-12) -/

/-- A unit no other agent can replace is lost: a warned warm reset. -/
def State.warnReset (s : State) : State := (s.sendSint 0 0 0 0).resetAt .warm

/-- A unit leaves service. A core or tile is withheld from the next boundary and parks in RET; a channel leaves the list
at the next reset. (DEDUCED, log entry 78.) -/
def State.takeOut (s : State) (u : Nat) : State :=
  let i := u % 2 ^ 24
  let s := if u ∈ s.outUnits then s else { s with outUnits := s.outUnits ++ [u] }
  let s := (s.thm.jobs.filter fun j => j.q.unit == u && j.op ≠ 0x0C04 && (match ockRow j.op with
    | some r => !r.query
    | none => false)).foldl (fun s j => s.failCmd (some j.id) stFaulted noOff 0) s
  match u / 2 ^ 24 with
  | 0x04 => s.portOff i
  | 0x05 =>
    let s := s.setFld (rpstatR i) F.hpRpstat.STATE rpDpc
    let s := (s.failPort i).logErr { unitId := u, cls := 0, code := 0x42, action := 0 }
    (dedupNat ((s.funcs i).map (s.funcPanel i))).foldl (fun s p => s.raise p 0) s
  | 0x0B =>
    if s.isHostBolt i then s.warnReset
    else if s.boltState i = 1 then (s.fence i 1).setBoltState i 2
    else s
  | 0x0C => if i = 0 then s.warnReset else s.trigger i (.fault 0x02)
  | 0x01 => s
  | 0x02 => s
  | 0x03 => s
  | _ => s.warnReset

/-- A unit is in service again: a core may be granted, a port starts its bring-up. -/
def State.takeIn (s : State) (u : Nat) : State :=
  let i := u % 2 ^ 24
  let s := { s with outUnits := s.outUnits.filter (· ≠ u) }
  match u / 2 ^ 24 with
  | 0x04 => s.startLink i
  | 0x05 => s.rpRetrain i
  | _ => s

/-- UNIT_SERVICE (R422). A return rewrites the unit's configuration from its record, tests a core or tile, and ends with
the next state report that matches. A fused-out unit does not return, nor a bolt before the next reset (R184).
(DEDUCED, log entry 78.) -/
def execUnitService (s : State) : Host.Outcome State Fault Refusal :=
  .next (s.ockar 0x0C04 [(0, 1)] fun q s =>
    let a := q.f 0 1
    let u := q.unit
    let out := decide (u ∈ s.outUnits)
    let fused := q.tcls ≠ 3 && decide (q.tcls * 256 + q.tidx ∈ s.boot.repairs)
    if 1 < a then (s, .no stBadParam (po 0) 0)
    else if a = 0 then (if out then (s, .no stStateConflict noOff 0) else (s.takeOut u, .ok []))
    else if !out ∨ fused ∨ q.tcls = 0x0B then (s, .no stStateConflict noOff 0)
    else if q.tcls = 1 ∨ q.tcls = 2 then
      (s.setCore q.tidx { s.core q.tidx with testing := some s.stitch }, .later [0])
    else (s, .later [1]))

/-- The report is kept: CFGD, the stitch of its last change, and the record. -/
def State.keepReport (s : State) (u cfgd : Nat) (rec_ : List Byte) : State :=
  let old := SMap.get (fun _ => (0, 0, [])) s.thm.reports u
  let at_ := if old.2.2 = rec_ then old.2.1 else s.stitch
  { s with thm := { s.thm with reports := SMap.insert s.thm.reports u (cfgd, at_, rec_) } }

/-- RECON (R408): one record per case. -/
def State.reconRec (s : State) (u action : Nat) : State :=
  s.logErr { unitId := u, cls := 0, code := 0x50, action := action }

/-- (DEDUCED, log entry 100.) -/
def State.endRecon (s : State) (u : Nat) : State :=
  { s with thm := { s.thm with recon := s.thm.recon.filter (· ≠ u) } }

/-- A unit leaves service from the next boundary. -/
def State.outNext (s : State) (u : Nat) : State :=
  { s with thm := { s.thm with outDue := if u ∈ s.thm.outDue then s.thm.outDue else s.thm.outDue ++ [u] } }

/-- UNIT_STATE_REPORT (R400): a unit's record in the press window; where task 9 is dropped the report is missing (R21). A mismatch makes Thimble rewrite the registers from its
record, and a second one takes the unit out of service. A unit that returns to service does so with the first report that
matches. (DEDUCED, log entry 100.) -/
def execUnitStateReport (u : BitVec 32) (cfgd : BitVec 32) (what : Report) (rec_ : BitVec 512) (s : State) :
    Host.Outcome State Fault Refusal :=
  let id := u.toNat
  if unitCount (id / 2 ^ 24) ≤ id % 2 ^ 24 ∨ 9 ∈ s.time.dropped then .next s else
  let s := s.keepReport id cfgd.toNat (leBytes 64 rec_.toNat)
  match what with
  | .matching =>
    let s := s.endRecon id
    match s.jobOf 0x0C04 fun j => j.q.unit == id && j.arg 0 == 1 with
    | some j => .next ((s.takeIn id).finish j.id [])
    | none => .next s
  | .differs =>
    if id ∈ s.thm.recon then .next (((s.reconRec id 7).endRecon id).takeOut id)
    else .next ({ s.reconRec id 0 with thm := { (s.reconRec id 0).thm with recon := s.thm.recon ++ [id] } })
  | .unhealthy => .next (((s.reconRec id 7).endRecon id).outNext id)
  | .changed => .next (s.reconRec id 0)

/-- Units that leave service at a boundary. -/
def State.outsDue (s : State) : State :=
  let l := s.thm.outDue
  let s := { s with thm := { s.thm with outDue := [] } }
  l.foldl State.takeOut s

/-- COMMAND_CLASS_BOUND (R396): the oldest request that has reached its class bound is answered PENDING, and its work
goes on. -/
def execCommandClassBound (s : State) : Host.Outcome State Fault Refusal :=
  let due := fun (q : OckReq) => !q.answered && (match ockRow q.op with
    | some r => decide (q.tick + r.bound ≤ s.ticks)
    | none => false)
  match (s.thm.jobs.map (·.q) ++ s.thm.taken).find? due with
  | none => .next s
  | some q =>
    let s := s.reply q stPending s.stitch []
    let q' := { q with answered := true }
    .next { s with thm := { s.thm with
      jobs := s.thm.jobs.map fun j => if j.q = q then { j with q := q' } else j
      taken := s.thm.taken.map fun r => if r = q then q' else r } }

/-! ### The Swatch store's bytes (R440, Tables SWT-1 to SWT-4) -/

def Pers.bytes (x : Pers) : List Byte :=
  asciiBytes "SWCH" ++ leBytes 2 1 ++ leBytes 2 0 ++ leBytes 16 x.serial ++ leBytes 8 x.first ++ leBytes 8 x.build ++
    leBytes 4 x.seq ++ leBytes 4 x.evhead ++ leBytes 1 x.accsel ++ leBytes 1 (b2n x.mwdog) ++ leBytes 14 0 ++
    leBytes 64 x.dbgauth.toNat ++ leBytes 64 x.ownerkey.toNat ++ leBytes 64 x.opkey.toNat

def RowEnt.bytes (e : RowEnt) : List Byte :=
  leBytes 1 e.channel ++ leBytes 1 e.device ++ leBytes 2 (b2n e.spared + 2 * b2n e.hard) ++ leBytes 4 e.row ++
    leBytes 4 e.corr ++ leBytes 4 e.uncor ++ leBytes 8 e.first ++ leBytes 8 e.last

/-- Byte `o` of the counter area: counters of 8 bytes at POWERON, LASTSTITCH, LASTTAI's seconds and the corrected words,
else of 4. -/
def SwStore.countByte (x : SwStore) (o : Nat) : Byte :=
  let w := if o < 0x18 ∨ (0x40 ≤ o ∧ o < 0x200) then 8 else 4
  BitVec.ofNat 8 (SMap.get (fun _ => 0) x.counts (o / w * w) / 2 ^ (8 * (o % w)))

/-- Byte `o` of a list of fixed-size entries. -/
def entByte {α : Type} (size : Nat) (f : α → List Byte) (l : List α) (o : Nat) : Byte :=
  match l[o / size]? with
  | some e => (f e).getD (o % size) 0
  | none => 0

/-- Byte `o` of the event log: the event of index i lies in place i mod 32,768. -/
def SwStore.eventByte (x : SwStore) (o : Nat) : Byte :=
  match x.events[(x.pers.evhead + 32768 - 1 - o / 64 % 32768) % 32768]? with
  | some r => r.bytes.getD (o % 64) 0
  | none => 0

/-- One byte of the store. (DESIGN CHOICE, log entry 48.) -/
def SwStore.byte (x : SwStore) (a : Nat) : Byte :=
  if a < 0x10000 then x.pers.bytes.getD a 0
  else if a < 0x90000 then x.countByte (a - 0x10000)
  else if a < 0x290000 then entByte 32 RowEnt.bytes x.rows (a - 0x90000)
  else if a < 0x490000 then x.eventByte (a - 0x290000)
  else if a < 0x4D0000 then
    let o := a - 0x490000
    if 0x30000 ≤ o then (leBytes 4 (SMap.get (fun _ => 0) x.spares ((o - 0x30000) / 4))).getD (o % 4) 0 else
    ((SMap.find x.training (o / 8192)).getD []).getD (o % 8192) 0
  else if a < 0x510000 then
    let o := a - 0x4D0000
    match (if o < 0x20000 then x.accA else x.accB) with
    | some y => Config.accImage y (o % 0x20000)
    | none => 0
  else if a < 0x610000 then
    let o := a - 0x510000
    ((SMap.find x.certs (o / 8192)).getD []).getD (o % 8192) 0
  else if 0x800000 ≤ a ∧ a < 0x2F60000 then
    let o := a - 0x800000
    match x.sheets.find? fun y => y.seq % 10080 == o / 4096 with
    | some y => (y.hdr ++ y.sig).getD (o % 4096) 0
    | none => 0
  else 0

/-- Where the regions of Table SWT-1 begin, with the unused ranges between them and the end of the store.
(DESIGN CHOICE, log entry 85.) -/
def swRegions : List Nat :=
  [0, 0x10000, 0x90000, 0x290000, 0x490000, 0x4D0000, 0x510000, 0x610000, 0x800000, 0x2F60000, 0x4000000]

/-- The range lies inside one region. -/
def swInside (off n : Nat) : Bool :=
  (swRegions.zip swRegions.tail).any fun r => decide (r.1 ≤ off) && decide (off + n ≤ r.2)

/-- SWATCH_READ (R445, R446): for the host manager and operator sessions; without a session, in SAFE_HOLD, for the
requester of a service certificate that has been accepted. (DESIGN CHOICE, log entry 85.) -/
def execSwatchRead (s : State) : Host.Outcome State Fault Refusal :=
  .next (s.ockar 0x0D01 [(0, 6)] fun q s =>
    let off := q.f 0 4
    let n := q.f 4 2
    let svc := s.thm.service.any fun e => e.1 == hdRequester q.head && decide (s.stitch < e.2)
    if q.isOperator ∧ q.session.isNone ∧ !svc then (s, .no stDenied noOff 0)
    else if n = 0 ∨ 4032 < n then (s, .no stBadParam (po 4) 0)
    else if !swInside off n then (s, .no stBadParam (po 0) 0)
    else (s, .ok ((List.range n).map fun i => s.sw.store.byte (off + i))))

/-! ### The test report (R471) -/

/-- A report entry (Table BOO-5). -/
def RepEnt.bytes (e : RepEnt) : List Byte :=
  leBytes 4 e.unit ++ leBytes 1 e.array ++ leBytes 1 e.result ++ leBytes 1 e.action ++ leBytes 1 e.pattern ++
    leBytes 8 e.addr ++ leBytes 2 e.bitNo ++ leBytes 2 e.count ++ List.replicate 12 0

def hubBootR : Reg := { kind := .hubBoot }

/-- The report's header (Table BOO-4) as the module stands. (DESIGN CHOICE, log entry 83.) -/
def State.reportHead (s : State) (elapsed : Nat) : List Byte :=
  let b := hubBootR
  let flags := s.fld b F.hubBoot.SAFEHOLD + 2 * s.fld b F.hubBoot.WARM + 4 * s.fld b F.hubBoot.DEGRADED +
    8 * b2n s.boot.loaderBad + 16 * b2n s.boot.overflow
  let cores := ((List.range 192).filter s.coreIn).length
  let ports := ((List.range 8).filter fun p => !s.unitOut 4 p).foldl (fun (m : Nat) p => m + 2 ^ p) 0
  let host := ((List.range 4).find? s.isHostBolt).getD 0
  asciiBytes "BSTR" ++ leBytes 2 1 ++ leBytes 2 flags ++ leBytes 2 s.boot.entries.length ++ leBytes 1 cores ++
    leBytes 1 (192 - s.noSlice.length) ++ leBytes 1 s.clist.length ++ leBytes 1 ports ++ leBytes 2 host ++ leBytes 8 elapsed ++
    List.replicate 40 0

/-- TEST_REPORT: the report of the current start, in pieces of 4,032 bytes; its header is final from release or SAFE_HOLD
on. -/
def execTestReport (s : State) : Host.Outcome State Fault Refusal :=
  .next (s.ockar 0x0F01 [(0, 2)] fun q s =>
    let head := if s.boot.head = [] then s.reportHead 0 else s.boot.head
    let all := head ++ s.boot.entries.flatMap RepEnt.bytes
    let n := (all.length + 4031) / 4032
    let k := q.f 0 2
    if n ≤ k then (s, .no stBadParam (po 0) 0)
    else (s, .ok (leBytes 2 n ++ List.replicate 30 0 ++ (all.drop (4032 * k)).take 4032)))

/-! ### The I3C port (R390, R482) -/

/-- The target answers the bus: from hand-over on, and under the ROM in SAFE_HOLD and recovery. -/
def State.i3cAnswers (s : State) : Bool := s.thm.firmware || s.thm.recovery || s.safeHold

/-- I3C_MCTP_MESSAGE (R390): a message of type 0x7F with IC = 0 and the enterprise number carries an Ockar packet; the
module serves no other message. (DESIGN CHOICE, log entry 76; DESIGN CHOICE, log entry 84.) -/
def execI3cMctpMessage (msg : List Byte) (s : State) : Host.Outcome State Fault Refusal :=
  if s.i3cAnswers && s.boot.i3cAddr.isSome && msg.take 5 == i3cMessage [] then
    .next (s.takePacket Via.i3c (fun _ => false) true true true (msg.drop 5))
  else .next s

/-- The 48-bit provisioned ID, BCR and DCR that the target sends in ENTDAA. -/
def State.provisionedId (s : State) : List Byte :=
  let pid := Config.mipiId.toNat * 2 ^ 33 + 0x0192 * 2 ^ 16 + s.boot.slotid % 4096
  (leBytes 6 pid).reverse ++ [0x06#8, Config.i3cDcr]

/-- ENTDAA (R482): a target without an address sends its ID and takes the address. (DESIGN CHOICE, log entry 84.) -/
def execEntdaa (addr : BitVec 7) (s : State) : Host.Outcome State Fault Refusal :=
  if s.i3cAnswers && s.boot.i3cAddr.isNone then
    .next ({ s with boot := { s.boot with i3cAddr := some addr.toNat } }.emit (.i3c s.provisionedId))
  else .next s

/-- SETDASA (R482): a target without an address takes one when its static address 0x3A is named. -/
def execSetdasa (static addr : BitVec 7) (s : State) : Host.Outcome State Fault Refusal :=
  if s.i3cAnswers && s.boot.i3cAddr.isNone && static == 0x3A then
    .next { s with boot := { s.boot with i3cAddr := some addr.toNat } }
  else .next s

end Sys2Proof.Machine
end

