-- ==== Sys2Proof/Machine/Twin.lean ====
section
/-! DEFINITION. Twin-needle execution (R424–R439): the load-value queue's flits, the compare with what it releases and the
checkpoint it takes, a mismatch, and the outcome of its test. -/

namespace Sys2Proof.Machine

def twcntR (c : Nat) : Reg := { kind := .wrpTwcnt, i := c }

/-! ### The load-value queue -/

/-- LVQ_RECORD (R428): a flit of up to seven records leaves the main core's thread and reaches its checker. -/
def execLvqRecord (th : Thr) (s : State) : Host.Outcome State Fault Refusal :=
  if !s.isMain (th.val / 2) then .next s else
  let x := s.thr th
  let d := s.partnerThr th
  let s := s.setThr th { x with lvq := x.lvq.drop 7 }
  let y := s.thr d
  .next (s.setThr d { y with lvq := y.lvq ++ x.lvq.take 7 })

/-- CMPREQ (R430): a write of 1 to TWIN.CMPREQ; the next retirement ends in a compare. Without a pair it clears at once. -/
def execCmpreq (th : Thr) (s : State) : Host.Outcome State Fault Refusal :=
  let x := s.thr th
  .next (s.setThr th (x.setCrFld crTWIN F.crTWIN.CMPREQ (b2n (s.paired (th.val / 2)))))

/-! ### The compare -/

/-- A held store goes out (R431): an interrupt-controller write, or its bytes. (DESIGN CHOICE, log entry 90.) -/
def State.release (s : State) (th : Nat) (h : HeldStore) : State :=
  if h.eoi then s.ieoi th (BitVec.ofNat 64 (ofLeBytes h.data)) else s.performHeld th h.pa h.data

/-- The thread's held stores are released in program order. -/
def State.releaseHeld (s : State) (th : Nat) : State :=
  let c := s.core (th / 2)
  let mine := c.held.filter fun h => h.thread == th % 2
  let s := s.setCore (th / 2) { c with held := c.held.filter fun h => h.thread ≠ th % 2 }
  mine.foldl (fun s h => s.release th h) s

/-- A thread after a match (R429, R430): the signature restarts, CMPCNT counts, CMPREQ clears. -/
def Thread.compared (x : Thread) : Thread :=
  let n := x.crFld crTWIN F.crTWIN.CMPCNT
  let x := (x.setCrFld crTWIN F.crTWIN.CMPCNT ((n + 1) % 2 ^ 32)).setCrFld crTWIN F.crTWIN.CMPREQ 0
  { x with sig := 0, sinceCmp := 0, forced := false, second := false }

/-- The core's copy of the checkpoint takes the thread as it stands (R433). -/
def State.checkpoint (s : State) (th : Nat) : State :=
  let c := s.core (th / 2)
  let old := c.ckpt.getD (c.thr0, c.thr1)
  s.setCore (th / 2) (if th % 2 = 0 then { c with ckpt := some (c.thr0, old.2), ckptAt := (s.stitch, c.ckptAt.2) }
    else { c with ckpt := some (old.1, c.thr1), ckptAt := (c.ckptAt.1, s.stitch) })

/-- One core's side of a match. -/
def State.passSide (s : State) (th : Nat) : State :=
  let s := (s.setThr th (s.thr th).compared).checkpoint th
  s.addFld (twcntR (th / 2)) F.wrpTwcnt.CMP 1

/-- A compare that passes: held stores, then both checkpoints. -/
def State.comparePass (s : State) (th d : Nat) : State := ((s.releaseHeld th).passSide th).passSide d

/-- A TWIN_FAIL record, and the panel's fault with cause 0x04. -/
def State.twinFail (s : State) (p c : Nat) : State :=
  s.panelError p 0x04 { unitId := unitId 1 c, cls := 1, code := 0x24, action := 6, flags := flagPanel, panel := s.handle p, req := c }

/-- A core leaves its seat for the basting test; WH keeps it from the next boundary on. -/
def State.toTest (s : State) (c : Nat) : State :=
  let s := s.idleCore c
  s.setCore c { s.core c with testing := some s.stitch }

/-- A compare that fails (Table TWN-5, steps 1–3): cause 0x11 for the host manager, held stores and records dropped, the
agreed checkpoint in the seat record, or TWIN_FAIL when it cannot be written. -/
def State.mismatch (s : State) (th : Nat) (saveFails : Bool) : State :=
  let c := th / 2
  let d := s.partnerOf c
  match (s.core c).seat with
  | none => s
  | some (p, n) =>
    let x := s.core c
    let t : TwinTest := { panel := p, main := c, chk := d, seat := some (p, n)
                          ckpt := if th % 2 = 0 then x.ckptAt.1 else x.ckptAt.2
                          found := s.stitch, second := (s.thr th).second, released := false }
    let s := { s.raise 0 2047 with twinEvents := s.twinEvents ++ [p] }
    let s := if saveFails then (s.voidSeat p n).twinFail p c else s.saveSeat c p n
    let s := (s.toTest c).toTest d
    { s with cut := { s.cut with twin := s.cut.twin ++ [t] } }

/-- TWIN_COMPARE (R430–R434): the checker's signature reaches the main core. Both threads stand at the same compare point,
with no recorded entry still to be taken. (DESIGN CHOICE, log entry 89; DESIGN CHOICE, log entry 90.) -/
def execTwinCompare (th : Thr) (sig : BitVec 64) (saveFails : Bool) (s : State) : Host.Outcome State Fault Refusal :=
  if !s.isMain (th.val / 2) then .next s else
  let d := s.partnerThr th
  let s := s.applyDebug d
  let x := s.thr th
  let y := s.thr d
  if !x.atCompare || y.sinceCmp ≠ x.sinceCmp ||
      (x.lvq ++ y.lvq).any (fun r => r.dueAt x.sinceCmp || r.debugAt x.sinceCmp) then .next s
  else if sig.toNat = x.sig then .next (s.comparePass th d)
  else .next (s.mismatch th saveFails)

/-! ### After a mismatch -/

/-- Step 4 of Table TWN-5, at the boundary: MISM of both cores. -/
def State.twinBoundary (s : State) : State :=
  let l := s.cut.twin.filter fun t => !t.released
  let s := l.foldl (fun s t => (s.addFld (twcntR t.main) F.wrpTwcnt.MISM 1).addFld (twcntR t.chk) F.wrpTwcnt.MISM 1) s
  { s with cut := { s.cut with twin := s.cut.twin.map fun t => { t with released := true } } }

/-- A core failed its basting test: events 0xC1 and 0xC2, fused out, out of service. The pattern that failed is free.
(DESIGN CHOICE, log entry 87.) -/
def State.coreFails (s : State) (c : Nat) : State :=
  let (pat, s) := s.freeNat
  let s := (s.swEvent (unitId 1 c) 0xC1 (pat % 2 ^ 64)).swEvent (unitId 1 c) 0xC2 0
  (s.fuseOut 1 c).takeOut (unitId 1 c)

def State.endTest (s : State) (c : Nat) : State := s.setCore c { s.core c with testing := none }

/-- TWIN_TEST_OUTCOME (R435, R436): the basting test of a mismatched pair ends. (DESIGN CHOICE, log entry 89.) -/
def execTwinTestOutcome (main : Tile) (mainFails chkFails : Bool) (s : State) : Host.Outcome State Fault Refusal :=
  match s.cut.twin.find? fun t => t.main == main.val && t.released with
  | none => .next s
  | some t =>
    let s := (s.endTest t.main).endTest t.chk
    let s := { s with cut := { s.cut with twin := s.cut.twin.erase t } }
    let s := s.swEvent (unitId 1 t.main) 0xC6 (if mainFails && chkFails then 2 else if mainFails || chkFails then 0 else 1)
      (some (s.handle t.panel))
    let s := if mainFails then s.coreFails t.main else s
    let s := if chkFails then s.coreFails t.chk else s
    let s := if mainFails || chkFails then s.moveCores t.panel t.ckpt (t.found + 1 - t.ckpt) 2
      else (s.addFld (twcntR t.main) F.wrpTwcnt.CLEAN 1).addFld (twcntR t.chk) F.wrpTwcnt.CLEAN 1
    if t.seat.isSome ∧ (t.second ∨ (mainFails ∧ chkFails)) then .next (s.twinFail t.panel t.main) else .next s

end Sys2Proof.Machine
end

