-- ==== Sys2Proof/Machine/Recovery.lean ====
section
/-! DEFINITION. Recovery of a hung core (R415–R418, Table ERR-10), its test, and the no-retirement counters. -/

namespace Sys2Proof.Machine

/-- The no-retirement counter after a stitch (R415): cleared by a retirement or an entry; up by one for an active thread of
a core granted the whole stitch that waits for nothing another timer bounds. -/
def Thread.countRetire (x : Thread) (held : Bool) : Thread :=
  if x.retired then { x with retired := false, noRetire := 0 }
  else if held && x.started && !x.waiting && !x.halted && x.stall.isNone then { x with noRetire := x.noRetire + 1 }
  else x

/-- A thread of a pair at a compare point, or a checker with nothing to follow, waits for its partner, and the twin rules
bound that wait; other threads count. -/
def State.noRetireTick (s : State) : State :=
  { s with cores := SMap.mapListed (fun _ => Core.init) s.cores fun c x =>
      let held := x.seat.isSome && s.flag (cutCoreR c) F.cutCore.G && s.coreOn c
      let go := fun (k : Nat) (t : Thread) =>
        t.countRetire (held && !(s.paired c && (t.atCompare || (s.isChecker c && !s.behind (2 * c + k)))))
      { x with thr0 := go 0 x.thr0, thr1 := go 1 x.thr1 } }

/-- The machine check of Table ERR-10 step 3 inside a hung thread's state; `core` is the core that hung. -/
def Thread.hung (x : Thread) (isHung : Bool) (core : Nat) : Thread :=
  if isHung && x.canCheck then x.check 0x21 0x01 core false false 0 else x

/-- Basting of a core ends as failed: it is fused out and leaves service (Table ERR-11). -/
def State.coreLost (s : State) (c : Nat) : State := (s.endTest c).coreFails c

/-- The record of a core reset whose writeback fails, which is bolt-contained (R150); its code is not given.
(DESIGN CHOICE, log entry 125.) -/
def flushErr (c : Nat) : ErrEvt := { unitId := unitId 2 c, cls := 2, code := 0x29, action := 8 }

/-- The recovery of a hung core (R417, R418, R437): the seat is saved with the machine check in each hung thread, the core's L2 is
written back and cleared, and the core is tested. On a pair the main core's checkpoint is saved and both cores are tested. A panel
whose seats go at the boundary has none saved (Table ERR-2). A writeback that fails takes the bolt down. A second hang within 100,000
stitches takes the core out of service. (DEDUCED, log entry 88.) -/
def State.recoverHang (s : State) (c : Nat) (fails : HangFails) : State :=
  let x := s.core c
  let tmo := s.hangLimit
  let h0 := x.thr0.hangs tmo
  let h1 := x.thr1.hangs tmo
  match x.seat with
  | none => s
  | some (p, n) =>
    if !h0 && !h1 then s else
    let gone := s.seatsGone p
    let pair := s.paired c
    let m := if s.isChecker c then s.partnerOf c else c
    let y := s.core m
    let (a, b) := if pair then y.ckpt.getD (y.thr0, y.thr1) else (y.thr0, y.thr1)
    let able := gone || (!h0 || a.canCheck) && (!h1 || b.canCheck)
    let a' := a.hung h0 c
    let b' := b.hung h1 c
    let s := s.setCore m (if pair then { y with ckpt := some (a', b') } else { y with thr0 := a', thr1 := b' })
    let s := if gone then s else if fails.save then s.voidSeat p n else s.saveSeat m p n
    let now := s.stitch
    let recent := (s.ticks :: (s.core c).hangs).filter fun t => decide (s.ticks < t + 100000)
    let out := decide (2 ≤ recent.length)
    let action := if fails.save || !able then 6 else if out then 7 else 3
    let e : ErrEvt := { unitId := unitId 1 c, cls := 1, code := 0x21, action := action, flags := flagPanel,
                        panel := s.handle p, req := c, detail := tmo }
    let s := if fails.save then s.panelError p 0x02 e else if able then s.logErr e else s.panelError p 0x02 e
    let s := s.moveCores p (now - tmo) (tmo + 1) (if pair then 2 else 1)
    let reset := fun (s : State) (k : Nat) => ((s.toTest k).flushL2 k).setFld (cutCoreR k) F.cutCore.WH 1
    let s := if pair then reset (reset s m) (s.partnerOf m) else reset s m
    let s := s.setCore c { s.core c with hangs := recent }
    let s := if fails.flush then s.boltError (s.boltOf c) (flushErr c) else s
    if out then (s.endTest c).takeOut (unitId 1 c) else s

/-- CORE_HANG (R417). (DESIGN CHOICE, log entry 89.) -/
def execCoreHang (c : Tile) (fails : HangFails) (s : State) : Host.Outcome State Fault Refusal := .next (s.recoverHang c fails)

/-- At a boundary at which a panel is reset or torn down, its hung cores are recovered, and the machine check goes with the seats
(Table ERR-2). (DEDUCED, log entry 143.) -/
def State.hangsAbsorbed (s : State) : State :=
  let l := (List.range 192).filter fun c => s.hung c && (s.core c).seat.any fun e => s.seatsGone e.1
  let drop := fun (s : State) (c : Nat) => match (s.core c).seat with
    | some (p, _) => if s.pstate p = psTearing then s.dropL2 c p else s
    | none => s
  l.foldl (fun s c => s.recoverHang c { save := false, flush := false }) (l.foldl drop s)

/-- CORE_TEST_COMPLETE (R417, R422): the basting test of a core ends. One that passes may be granted again; one that fails
leaves service for good. A return to service waits for the next state report. (DESIGN CHOICE, log entry 89.) -/
def execCoreTestComplete (c : Tile) (pass : Bool) (s : State) : Host.Outcome State Fault Refusal :=
  if (s.core c).testing.isNone ∨ (s.cut.twin.any fun t => t.main == c.val || t.chk == c.val) then .next s else
  let job := s.jobOf 0x0C04 fun j => j.q.tidx == c.val && j.arg 0 == 0
  let s := s.endTest c
  match pass, job with
  | true, none => .next s
  | true, some j => .next { s with thm := { s.thm with jobs := s.thm.jobs.map fun k => if k.id = j.id then { k with data := [1] } else k } }
  | false, none => .next (s.coreLost c)
  | false, some j => .next ((s.coreLost c).failCmd (some j.id) stFaulted noOff 0)

/-- RAS_MWDOG (R421): 0x7A11 in KICK loads REMAIN with 0xC8; any other value is ignored. -/
def execRasMwdog (v : BitVec 16) (s : State) : Host.Outcome State Fault Refusal := .next (s.kickModule v.toNat)

end Sys2Proof.Machine
end

