-- ==== Sys2Proof/Machine/Reset.lean ====
section
/-! DEFINITION. The module resets (R420, R421, R462, R472, R473, R478): what a cold reset, a warm reset and SAFE_HOLD clear
and keep, and the commands that start them. -/

namespace Sys2Proof.Machine

/-- Units held out by the repair field (R470): cores and tiles. -/
def fusedUnits (repairs : List Nat) : List Nat :=
  (repairs.filter fun k => k / 256 == 1 || k / 256 == 2).map fun k => unitId (k / 256) (k % 256)

/-- Memory after a reset: what was written is ciphertext under destroyed keys (R233), or was never kept; free values.
(DESIGN CHOICE, log entry 1; DESIGN CHOICE, log entry 20.) -/
def State.lostMem (s : State) : List Host.Cell :=
  SMap.mapListed memDefault s.mem fun a _ => Config.freeBits 8 (s.fresh + a)

/-- The machine with everything at reset but what the outside sees and what no reset touches: commands that wait, what was
sent, the free values used, fuses, flash, and the levels of the inputs. -/
def State.blank (s : State) : State :=
  let b := s.boot
  { State.reset with
    pending := s.pending, sent := s.sent, mem := s.lostMem, fresh := s.fresh + 2 ^ 53, ticks := s.ticks
    outUnits := fusedUnits b.repairs
    thm := { ThmSt.init with fuses := s.thm.fuses, conf := s.thm.conf
                             fw := { FwSt.init with a := s.thm.fw.a, b := s.thm.fw.b } }
    boot := { BootSt.init with pwrOk := b.pwrOk, resetN := b.resetN, uvp := b.uvp, ovp := b.ovp, repairs := b.repairs } }

/-- PERST# asserted on every root port (R310). -/
def State.perstAll (s : State) : State := s.emits ((List.finRange 16).map fun r => .pin (.perstN r.val) false)

/-- Time 0 of a cold start (Table BOO-1): only fuses, flash and the Swatch store's cells are kept.
(DESIGN CHOICE, log entry 93; DEDUCED, log entry 95.) -/
def State.coldReset (s : State) : State :=
  let st := s.sw.store
  let c := fun (o : Nat) => SMap.get (fun _ => 0) st.counts o
  let t := s.blank
  ({ t with boot := { t.boot with lastTai := if c 16 = 0 ∧ c 24 = 0 then none else some (c 16, c 24) }
            sw := { SwatchSt.init with store := st, pers := st.pers, counts := st.counts, rows := st.rows } }).perstAll

/-- Registers of the Time Unit, the error collector and HUB.BOOT lie in hub common and outlive the other domains. -/
def hubCommon (a : Nat) : Bool :=
  (decide (0x7F0080000000 ≤ a) && decide (a < 0x7F0080001000)) || (decide (0x7F00B0000000 ≤ a) && decide (a < 0x7F00B0001000)) ||
    a == 0x7F0000000300

/-- The power controller's registers after a warm reset (R461): BROWN, EMCNT and STICKY. -/
def State.keepPower (s old : State) : State :=
  let s := (List.range 427).foldl (fun s d =>
    s.setFld (dstatR d) F.pwrDstat.BROWN (old.fld (dstatR d) F.pwrDstat.BROWN)) s
  let s := s.setFld { kind := .pwrStat } F.pwrStat.EMCNT (old.fld { kind := .pwrStat } F.pwrStat.EMCNT)
  (List.range 8).foldl (fun s p =>
    let r : Reg := { kind := .pwrPortdet, i := p }
    s.setFld r F.pwrPortdet.STICKY (old.fld r F.pwrPortdet.STICKY)) s

/-- Every domain but 425 and 426 in reset: what hub common and Thimble's flash and fuses hold stays. -/
def State.strip (s : State) : State :=
  let t := s.blank
  let keep : State := { t with
    regs := s.regs.keep fun a _ => hubCommon a
    ras := s.ras, sw := s.sw, time := s.time
    tape := { TapeSt.init with sheet := s.tape.sheet, closed := s.tape.closed }
    outUnits := t.outUnits ++ s.boot.chansOut.map (unitId 3)
    thm := { t.thm with taint := s.thm.taint }
    pwr := { PwrSt.init with hot := s.pwr.hot, noRet := s.pwr.noRet, trip := s.pwr.trip }
    boot := { t.boot with slotid := s.boot.slotid, lastTai := s.boot.lastTai, chansOut := s.boot.chansOut, jtag := s.boot.jtag } }
  keep.keepPower s

/-- A carried record (R407). -/
def ErrRec.carried (r : ErrRec) : ErrRec := { r with flags := r.flags ||| 16 }

/-- A warm reset at its boundary (R420, R473, Table BOO-7 step 1): the open sheet ends, the last 128 records are carried, and
the module watchdog is reloaded. -/
def State.warmReset (s : State) : State :=
  let s := s.accumulate
  let n := s.stitch
  let s := s.closeSheet n n false true false
  let next := s.fld { kind := .hubBoltcfg } F.hubBoltcfg.NEXT
  let fatal := s.fld { kind := .rasStat } F.rasStat.FATAL
  let seq := s.fld { kind := .rasSeq } F.rasSeq.LAST
  let t := s.strip
  let t := { t with
    regs := t.regs.keep fun a _ => decide (a < 0x7F00B0000000) && a ≠ 0x7F0000000300 || decide (0x7F00B0001000 ≤ a)
    ras := { RasSt.init with ring := s.ras.sram.map ErrRec.carried, sram := s.ras.sram, fatals := s.ras.fatals
                             holdAfter := s.ras.holdAfter } }
  let t := t.setFld { kind := .rasStat } F.rasStat.FATAL fatal
  let t := t.setFld { kind := .rasSeq } F.rasSeq.LAST seq
  let t := t.wr { kind := .hubBoltcfg } (F.hubBoltcfg.CUR.set (F.hubBoltcfg.NEXT.set 0 next) next)
  let t := t.setFld mwdogR F.rasMwdog.REMAIN 0xE6
  let t := (t.setFld hubBootR F.hubBoot.WARM 1).setFld hubBootR F.hubBoot.PHASE 1
  { t with boot := { t.boot with warmAt := some s.ticks } }.perstAll

/-- SAFE_HOLD (R472): the start stops here, with the report's header final. -/
def State.enterSafeHold (s : State) : State :=
  let (el, s) := s.freeNat
  let boot := s.boot
  let s := s.setFld hubBootR F.hubBoot.SAFEHOLD 1
  let head := s.reportHead (el % 2 ^ 64)
  let t := s.strip
  { t with boot := { t.boot with entries := boot.entries, loaderBad := boot.loaderBad, overflow := boot.overflow
                                 trained := boot.trained, basted := boot.basted, head := head
                                 scanOpen := boot.scanOpen, clearing := boot.clearing }
           clist := s.clist, noSlice := s.noSlice, outUnits := s.outUnits }

/-- Nothing holds the module in reset (R478). (DESIGN CHOICE, log entry 30.) -/
def State.powered (s : State) : Bool := s.boot.pwrOk && s.boot.resetN && !s.boot.uvp && !s.boot.ovp

/-! ### The commands -/

/-- WARM_RESET (R420): a warm reset that has been asked for runs at the boundary. -/
def execWarmReset (s : State) : Host.Outcome State Fault Refusal :=
  .next (if s.resetDue.isSome then s.warmReset else s)

/-- A cold reset; one during the clear before scan waits for its end (R474). -/
def State.coldStart (s : State) : State :=
  if s.boot.clearing then { s with boot := { s.boot with coldAfter := true } } else s.coldReset

/-- MOD_WDOG (R407, R421): the independent watchdog expires: the sticky flag is set in the Swatch controller, and the module
takes a cold reset. -/
def execModWdog (s : State) : Host.Outcome State Fault Refusal :=
  let st := s.sw.store
  let s := { s with sw := { s.sw with store := { st with pers := { st.pers with mwdog := true } } } }
  .next s.coldStart

/-- A trigger of the cold reset is held or released (R462, R478): while one is held the module is in reset, and a start
begins when the last is released. (DESIGN CHOICE, log entry 93.) -/
def State.coldTrigger (s : State) (f : BootSt → BootSt) : State :=
  let was := s.powered
  let s := { s with boot := f s.boot }
  if !was && !s.powered then s else s.coldStart

/-- PWR_OK (R478): low for 1 µs triggers a cold reset; its rise starts a cold start. (DESIGN CHOICE, log entry 13.) -/
def execPwrOk (level : Bool) (s : State) : Host.Outcome State Fault Refusal :=
  if s.boot.pwrOk = level then .next s else .next (s.coldTrigger fun b => { b with pwrOk := level })

/-- MOD_RESET_N (R478): low for 1 µs with PWR_OK high triggers a cold reset, and its release starts a cold start. -/
def execModResetN (level : Bool) (s : State) : Host.Outcome State Fault Refusal :=
  if s.boot.resetN = level then .next s
  else if !s.boot.pwrOk then .next { s with boot := { s.boot with resetN := level } }
  else .next (s.coldTrigger fun b => { b with resetN := level })

/-- UNDERVOLTAGE_LOCKOUT (R478, Table MOD-2): held in reset below 38 V. -/
def execUndervoltageLockout (held : Bool) (s : State) : Host.Outcome State Fault Refusal :=
  if s.boot.uvp = held then .next s else .next (s.coldTrigger fun b => { b with uvp := held })
/-- OVERVOLTAGE_LOCKOUT (R478, Table MOD-2): held in reset above 62 V. -/
def execOvervoltageLockout (held : Bool) (s : State) : Host.Outcome State Fault Refusal :=
  if s.boot.ovp = held then .next s else .next (s.coldTrigger fun b => { b with ovp := held })

/-- A module-fatal record whose CODE the manual does not give (Tables PWR-3 and ERR-3): free.
(DESIGN CHOICE, log entry 87.) -/
def State.fatalRec (s : State) (action : Nat) : State :=
  let (k, s) := s.freeNat
  s.logErr { unitId := unitId 0x0D 0, cls := 3, code := k % 256, action := action }

/-- THERMAL_TRIP (R462, Table PWR-3): at 115 °C every domain but hub common and Thimble goes OFF, and the module is in
SAFE_HOLD; the trip writes a module-fatal record. -/
def execThermalTrip (die : Die) (s : State) : Host.Outcome State Fault Refusal :=
  if s.pwr.trip then .next s else
  let hot := if die.val ∉ s.pwr.hot then s.pwr.hot ++ [die.val] else s.pwr.hot
  let s := { s with pwr := { s.pwr with trip := true, hot := hot } }
  .next ((s.fatalRec 10).emit (.pin .thermAlertN false)).enterSafeHold

/-- THERMAL_TRIP_END (R462): every die reads 90 °C or below; the module leaves SAFE_HOLD by a cold reset. -/
def execThermalTripEnd (s : State) : Host.Outcome State Fault Refusal :=
  if s.pwr.trip then .next s.coldReset else .next s

end Sys2Proof.Machine
end

