-- ==== Sys2Proof/Machine/Jtag.lean ====
section
/-! DEFINITION. The JTAG port (R480, R483, Table MOD-4): boundary scan, internal scan (R474), and run control of an open debug
session (R360, R362, R438). -/

namespace Sys2Proof.Machine

/-- A code is loaded into the instruction register and its data register captured. Only EXTEST, CLAMP and HIGHZ drive the
contacts (R483). The port works while PWR_OK is high. -/
def State.jtagLoad (s : State) (code : Nat) (drives : Bool) (width value : Nat) : State :=
  if !s.boot.pwrOk then s else
  let j := s.boot.jtag
  let s := { s with boot := { s.boot with jtag := { j with ir := code, drive := if drives then some code else none } } }
  s.emit (.jtag width value)

/-- EXTEST (R483): the boundary register's latch drives the contacts. -/
def execExtest (s : State) : Host.Outcome State Fault Refusal :=
  .next (s.jtagLoad 0x00 true 64 s.boot.jtag.latch)
/-- IDCODE (R483, Table MOD-4). -/
def execIdcode (s : State) : Host.Outcome State Fault Refusal := .next (s.jtagLoad 0x01 false 32 0x1019254B)
/-- SAMPLE_PRELOAD (R483): the boundary register samples the contacts and `latch` is loaded into it; nothing is
disturbed. The contacts' order in the register is not given: what was sampled is free. -/
def execSamplePreload (latch : BitVec 64) (s : State) : Host.Outcome State Fault Refusal :=
  if !s.boot.pwrOk then .next s else
  let (v, s) := s.freeNat
  let s := s.jtagLoad 0x02 false 64 (v % 2 ^ 64)
  .next { s with boot := { s.boot with jtag := { s.boot.jtag with latch := latch.toNat } } }
/-- CLAMP (R483): the contacts hold the latch's values, with the bypass register selected. -/
def execClamp (s : State) : Host.Outcome State Fault Refusal := .next (s.jtagLoad 0x04 true 1 0)
/-- HIGHZ (R483): the contacts float, with the bypass register selected. -/
def execHighz (s : State) : Host.Outcome State Fault Refusal := .next (s.jtagLoad 0x05 true 1 0)
/-- BYPASS, which every other code also selects (Table MOD-4). -/
def execBypass (s : State) : Host.Outcome State Fault Refusal := .next (s.jtagLoad 0xFF false 1 0)
/-- TRST_N (R480): the port is reset. -/
def execTrstN (s : State) : Host.Outcome State Fault Refusal :=
  .next (if s.boot.pwrOk then { s with boot := { s.boot with jtag := JtagSt.init } } else s)

/-! ### Internal scan (R474) -/

/-- SCANREQ (R474): HUB.BOOT.SCAN is set, every domain but 426 is held in reset, and the clear begins. What the clear will
zero stands until it ends. (DEDUCED, log entry 97.) -/
def execScanreq (s : State) : Host.Outcome State Fault Refusal :=
  if !s.boot.pwrOk || s.boot.clearing || s.boot.scanOpen then .next (s.jtagLoad 0xC0 false 1 0) else
  let s := s.jtagLoad 0xC0 false 1 0
  let inThm := fun (a : Nat) => decide (thmBase ≤ a) && decide (a < thmBase + 2 ^ 32)
  let t := s.blank
  let t := { t with
    mem := SMap.mapListed memDefault s.mem fun a b => if inThm a then b else Config.freeBits 8 (s.fresh + a)
    thm := { s.thm with firmware := false }, keys := s.keys, hpKeys := s.hpKeys, fwKey := s.fwKey
    sw := { SwatchSt.init with store := s.sw.store, pers := s.sw.store.pers, counts := s.sw.store.counts, rows := s.sw.store.rows }
    boot := { t.boot with slotid := s.boot.slotid, jtag := s.boot.jtag, clearing := true } }
  .next (t.setFld hubBootR F.hubBoot.SCAN 1).perstAll

/-- SCAN_CLEAR_COMPLETE (R474): ladder, SRAM and every key slot are zero and have been checked; the chains open. The fuse
shadows read zero from here to the next cold reset, in which nothing reads them. A cold reset that came during the clear
follows it. (DEDUCED, log entry 97.) -/
def execScanClearComplete (s : State) : Host.Outcome State Fault Refusal :=
  if !s.boot.clearing then .next s else
  let sram := fun (c : Host.Cell) => decide (thmBase + 0x10000000 ≤ c.1) && decide (c.1 < thmBase + 0x10080000)
  let s := { s with
    mem := s.mem.filter fun c => !sram c
    keys := [], hpKeys := [], fwKey := 0
    thm := { s.thm with ladder := Ladder.init, staged := [] }
    boot := { s.boot with clearing := false, scanOpen := true } }
  .next (if s.boot.coldAfter then s.coldReset else s)

/-! ### Run control -/

/-- The debugger may touch a thread: its core's panel has an open session, and it is not a checker; or it is the Thimble core
under THIMBLE scope. -/
def State.debuggable (s : State) (th : Nat) : Bool :=
  s.powered &&
  if th = thmThread then s.thm.dbgs.any fun x => x.opened && bit x.scope scThimble
  else match (s.core (th / 2)).seat with
    | some (p, _) => s.debugNow p && decide (th / 2 ∈ s.debugCores p)
    | none => false

/-- The debugger halts a thread's core; the Cutter pins the core to its seat (R360). -/
def State.debugHalt (s : State) (th : Nat) : State :=
  if th = thmThread then s.setThr th { s.thr th with halted := true } else
  let c := th / 2
  let x := s.core c
  match x.seat with
  | none => s
  | some (p, n) =>
    let stop := fun (t : Thread) => { t with halted := true, stepping := false }
    let s := s.setCore c { x with thr0 := stop x.thr0, thr1 := stop x.thr1 }
    s.wr (cutOvrR c) (F.cutOvr.SEAT.set (F.cutOvr.PANEL.set (F.cutOvr.EN.set 0 1) p) n)

def State.debugResume (s : State) (th : Nat) : State :=
  if th = thmThread then s.setThr th { s.thr th with halted := false, stepping := false } else s.resumeCore (th / 2)

/-- A change to a thread's own state (R438): on a main core it enters the signature and the load-value queue. -/
def State.debugSet (s : State) (th kind idx v : Nat) : State :=
  if th = thmThread ∧ kind = 2 then s.setTcr idx (BitVec.ofNat 64 v) else
  let pair := th ≠ thmThread && s.isMain (th / 2)
  let x := s.thr th
  let s := s.setThr th (x.debugChange (s.panelOf th) kind idx v pair)
  if pair then s.lvqPush th [.debug x.sinceCmp kind idx v] else s

/-- A change to memory: 8 bytes of a granule of the thread's panel (R360), or of Thimble's SRAM under THIMBLE scope. -/
def State.debugMem (s : State) (th a v : Nat) : State :=
  let a := a / 8 * 8
  if th = thmThread then (if inSram a 8 then s.setSram a (leBytes 8 v) else s)
  else
    let p := s.panelOf th
    if (s.potGrant p (a / 65536)).2.1 then (s.visible p a (leBytes 8 v)).debugSet th 3 a v else s

/-- DBGAP (Table MOD-4, R360, R438): a debugger's operation on a thread that an open session reaches. With no session it
selects a 32-bit register that reads zero. (DESIGN CHOICE, log entry 96.) -/
def execDbgap (th : Fin 385) (op : DbgOp) (s : State) : Host.Outcome State Fault Refusal :=
  let t := th.val
  if !s.boot.pwrOk then .next s
  else if !s.debuggable t then .next (s.jtagLoad 0xC1 false 32 0)
  else
    let (v, s) := s.freeNat
    let s := s.jtagLoad 0xC1 false 32 (v % 2 ^ 32)
    .next (match op with
      | .select => s
      | .halt => s.debugHalt t
      | .resume => s.debugResume t
      | .step => if (s.thr t).halted then s.setThr t { s.thr t with halted := false, stepping := true } else s
      | .gpr r w => s.debugSet t 0 r.val w.toNat
      | .pc w => s.debugSet t 1 0 w.toNat
      | .cr n w => s.debugSet t 2 n.toNat w.toNat
      | .mem a w => s.debugMem t a.val w.toNat)

/-- DBG_TRIG_IN (R480): the cross-trigger, active only under an open session. What it does is the debugger's setting, which
the operand carries: the threads it halts or resumes, of those that a session reaches. (DESIGN CHOICE, log entry 96.) -/
def execDbgTrigIn (halt resume : List (Fin 385)) (s : State) : Host.Outcome State Fault Refusal :=
  let go := fun (f : State → Nat → State) (s : State) (l : List (Fin 385)) =>
    l.foldl (fun s t => if s.debuggable t.val then f s t.val else s) s
  .next (go State.debugResume (go State.debugHalt s halt) resume)

end Sys2Proof.Machine
end

