-- ==== Sys2Proof/Machine/OckFw.lean ====
section
/-! DEFINITION. Firmware images, banks and the Firmware group of Ockar (R365, R373–R377, R379, Tables ATT-5 to ATT-8 and
OCK-16). -/

namespace Sys2Proof.Machine

/-! ### Banks -/

def bkEmpty : Nat := 0xFF
def bkNew : Nat := 0x7F
def bkGood : Nat := 0x3F
def bkBad : Nat := 0x1F

def FwSt.bank (x : FwSt) (k : Nat) : FlashBank := if k = 0 then x.a else x.b
def FwSt.setBank (x : FwSt) (k : Nat) (b : FlashBank) : FwSt := if k = 0 then { x with a := b } else { x with b := b }
def State.bank (s : State) (k : Nat) : FlashBank := s.thm.fw.bank k
def State.setFw (s : State) (f : FwSt → FwSt) : State := { s with thm := { s.thm with fw := f s.thm.fw } }
def State.setBank (s : State) (k : Nat) (b : FlashBank) : State := s.setFw fun x => x.setBank k b

/-- A byte of a bank's image area: as shipped, or as programmed since the last erase. -/
def FlashBank.byte (b : FlashBank) (i : Nat) : Byte :=
  SMap.get (fun j => if b.shipped then Config.shippedImage j else 0xFF) b.image i
def FlashBank.read (b : FlashBank) (off n : Nat) : List Byte := (List.range n).map fun i => b.byte (off + i)

/-- A boot record (Table ATT-8). -/
def FlashBank.record (b : FlashBank) : List Byte :=
  (if b.magic then [0x5A#8, 0x50, 0x42, 0x52] else List.replicate 4 0xFF) ++ leBytes 1 b.state ++ leBytes 1 b.tries ++
    List.replicate 2 0xFF ++ leBytes 4 b.seq ++ leBytes 4 b.svn ++ List.replicate 48 0xFF

/-! ### Images (Tables ATT-5 and ATT-6, R373) -/

def imgMax : Nat := 130016256
def imgLen (hdr : List Byte) : Nat := field hdr 12 4
/-- The section entries in use. -/
def imgSects (hdr : List Byte) : List (List Byte) :=
  (List.range (min 16 (field hdr 160 2))).map fun i => (hdr.drop (192 + 16 * i)).take 16

/-- Two sections share bytes of the body. -/
def sectMeet (a b : List Byte) : Bool :=
  decide (field a 4 4 < field b 4 4 + field b 8 4) && decide (field b 4 4 < field a 4 4 + field a 8 4)

def sectsMeet : List (List Byte) → Bool
  | [] => false
  | a :: rest => rest.any (sectMeet a) || sectsMeet rest

/-- The key that SIGNER names. -/
def imgSigner (hdr : List Byte) : Option Nat :=
  (List.range 4).find? fun k => Config.shake256 (Config.fwKeys k) 64 == (hdr.drop 96).take 64

/-- The step of R373 at which an image fails; 0 when it is valid. A section of a TYPE that Table ATT-6 does not name is no failure.
(DEDUCED, log entry 142.) -/
def State.checkImage (s : State) (b : FlashBank) : Nat :=
  let hdr := b.read 0 512
  let n := imgLen hdr
  let msig := b.read (512 + n) 3309
  let sects := imgSects hdr
  let zero := fun (off k : Nat) => field hdr off k == 0
  let form := hdr.take 4 == [0x5A#8, 0x50, 0x46, 0x57] && field hdr 4 2 == 1 && decide (field hdr 6 2 < 2) && zero 162 30 &&
    zero 448 64 && decide (n % 64 = 0) && decide (n ≤ imgMax) && decide (1 ≤ field hdr 160 2) &&
    decide (field hdr 160 2 ≤ 16) && zero (192 + 16 * sects.length) (256 - 16 * sects.length) &&
    sects.all fun e => field e 1 3 == 0 && field e 12 4 == 0
  if !form then 1
  else if field hdr 8 4 < max 1 s.thm.fuses.rollback ∨ 64 < field hdr 8 4 then 2
  else match imgSigner hdr with
    | none => 3
    | some k =>
      if bit s.thm.fuses.revoked k then 3
      else if !Config.mlDsaVerify (Config.fwKeys k) hdr msig then 4
      else if s.thm.conf.ownerkey ≠ [] ∧ (field hdr 6 2 = 0 ∨
          !Config.mlDsaVerify s.thm.conf.ownerkey (hdr ++ msig) (b.read (512 + n + 3309) 3309)) then 5
      else if Config.shake256 (b.read 512 n) 64 ≠ (hdr.drop 32).take 64 then 6
      else if (sects.filter fun e => field e 0 1 == 1).length ≠ 1 ∨ sectsMeet sects ∨
          !(sects.all fun e => decide (field e 4 4 + field e 8 4 ≤ n) && decide (field e 4 4 % 64 = 0) &&
            (field e 0 1 ≠ 1 || decide (field e 8 4 ≤ 458752))) then 7
      else 0

/-- A firmware event of the Swatch store (Table SWT-5, 0xC3). -/
def State.fwEvent (s : State) (svn bank step : Nat) : State :=
  s.swEvent (unitId 0x0A 0) 0xC3 (svn + bank * 2 ^ 32 + step * 2 ^ 40)

/-! ### Updates (R376) -/

/-- What refuses a command that names a bank: no such bank, the running one (no bank runs in recovery), an erase under
way, or another bank's update. -/
def State.bankRefuse (s : State) (k : Nat) (begins : Bool) : Option Ans :=
  if 1 < k then some (.no stBadParam (po 0) 0)
  else if !s.thm.recovery ∧ k = s.thm.fw.running then some (.no stStateConflict noOff 0)
  else if s.thm.fw.erasing.isSome ∨ s.thm.fw.update.any (fun u => u.1 ≠ k) then some (.no stBusy noOff 0)
  else if !begins ∧ s.thm.fw.update.isNone then some (.no stStateConflict noOff 0)
  else none

/-- IMAGE_BEGIN: the boot record and the image area are erased; the reply comes when that is done. One for the bank under update
starts that update afresh. (DEDUCED, log entry 142.) -/
def execImageBegin (s : State) : Host.Outcome State Fault Refusal :=
  .next (s.ockar 0x0A01 [(0, 1), (4, 4)] fun q s =>
    let k := q.f 0 1
    let n := q.f 4 4
    match s.bankRefuse k true with
    | some a => (s, a)
    | none =>
      if n = 0 ∨ imgMax < n ∨ n % 64 ≠ 0 then (s, .no stBadParam (po 4) 0)
      else
        let b := { s.bank k with magic := false, state := bkEmpty, tries := 0xFF, seq := 0xFFFFFFFF, svn := 0xFFFFFFFF }
        ((s.setBank k b).setFw fun x => { x with update := some (k, n), erasing := some k, checked := none }, .later []))

/-- IMAGE_ERASE_COMPLETE (R376). -/
def execImageEraseComplete (s : State) : Host.Outcome State Fault Refusal :=
  match s.thm.fw.erasing with
  | none => .next s
  | some k =>
    let s := (s.setBank k FlashBank.erased).setFw fun x => { x with erasing := none }
    .next (match s.jobOf 0x0A01 fun _ => true with
      | some j => s.finish j.id []
      | none => s)

/-- Program bytes of flash: bits are only cleared. -/
def FlashBank.program (b : FlashBank) (off : Nat) (bs : List Byte) : FlashBank :=
  { b with image := (bs.zipIdx).foldl (fun m e => SMap.insert m (off + e.2) (b.byte (off + e.2) &&& e.1)) b.image }

/-- IMAGE_WRITE: into the erased area. -/
def execImageWrite (s : State) : Host.Outcome State Fault Refusal :=
  .next (s.ockar 0x0A02 [(0, 1), (4, 6), (32, 4032)] fun q s =>
    let k := q.f 0 1
    let off := q.f 4 4
    let n := q.f 8 2
    match s.bankRefuse k false with
    | some a => (s, a)
    | none =>
      let top := 512 + ((s.thm.fw.update.map (·.2)).getD 0) + 2 * 3309
      if n = 0 ∨ 4032 < n then (s, .no stBadParam (po 8) 0)
      else if q.payload.length ≠ 32 + n then (s, .no stBadLength 16 0)
      else if top < off + n then (s, .no stBadParam (po 4) 0)
      else ((s.setBank k ((s.bank k).program off ((q.payload.drop 32).take n))).setFw fun x => { x with checked := none }, .ok []))

/-- IMAGE_CHECK (R373). -/
def execImageCheck (s : State) : Host.Outcome State Fault Refusal :=
  .next (s.ockar 0x0A03 [(0, 1)] fun q s =>
    let k := q.f 0 1
    match s.bankRefuse k true with
    | some a => (s, a)
    | none =>
      let r := s.checkImage (s.bank k)
      (s.setFw fun x => { x with checked := some (k, r) }, .ok (leBytes 1 r)))

/-- ACTIVATE: needs a passing check after the last write. With no bank running, SEQ is Thimble's to choose.
(DEDUCED, log entry 81.) -/
def execActivate (s : State) : Host.Outcome State Fault Refusal :=
  .next (s.ockar 0x0A04 [(0, 1)] fun q s =>
    let k := q.f 0 1
    match s.bankRefuse k true with
    | some a => (s, a)
    | none =>
      match s.thm.fw.checked with
      | none => (s, .no stStale noOff 0)
      | some (c, r) =>
        if c ≠ k then (s, .no stStale noOff 0)
        else if r ≠ 0 ∨ (s.bank k).magic then (s, .no stStateConflict noOff 0)
        else
          let (n, s) := if s.thm.recovery then s.freeNat else ((s.bank s.thm.fw.running).seq + 1, s)
          let seq := n % 2 ^ 32
          let svn := field ((s.bank k).read 8 4) 0 4
          let s := s.setBank k { s.bank k with magic := true, seq := seq, svn := svn, state := bkNew, tries := 0xFF }
          ((s.setFw fun x => { x with update := none, checked := none }).fwEvent svn k 0, .ok (leBytes 4 seq)))

/-- TRY: a warm reset at the next boundary. -/
def execTry (s : State) : Host.Outcome State Fault Refusal :=
  .next (s.ockar 0x0A05 [(0, 1)] fun q s =>
    if 1 < q.f 0 1 then (s, .no stBadParam (po 0) 0)
    else if q.f 0 1 = 0 ∧ !s.tenantsEmpty then (s, .no stStateConflict noOff 0)
    else (s.resetAt .warm, .ok []))

/-- COMMIT (R376, R377): the running bank is GOOD; with ADVANCE the rollback counter rises to its SVN. -/
def execCommit (s : State) : Host.Outcome State Fault Refusal :=
  .next (s.ockar 0x0A06 [(0, 1)] fun q s =>
    let k := s.thm.fw.running
    let b := s.bank k
    if 1 < q.f 0 1 then (s, .no stBadParam (po 0) 0)
    else
      let s := if b.state = bkNew then (s.setBank k { b with state := bkGood }).fwEvent b.svn k 0 else s
      let f := s.thm.fuses
      let s := if q.f 0 1 = 1 then { s with thm := { s.thm with fuses := { f with rollback := max f.rollback s.svn } } } else s
      (s, .ok (leBytes 1 s.thm.fuses.rollback)))

/-- FW_STATUS: PENDING while an erase runs, whose progress is an open value. (DESIGN CHOICE, log entry 83.) -/
def execFwStatus (s : State) : Host.Outcome State Fault Refusal :=
  .next (s.ockar 0x0A07 [] fun q s =>
    let busy := s.thm.fw.erasing.isSome
    let (n, s) := if busy then s.freeNat else (0, s)
    let body := leBytes 1 s.thm.fw.running ++ leBytes 1 (b2n busy) ++ leBytes 2 (n % 1000) ++ leBytes 1 s.thm.fuses.rollback ++
      List.replicate 11 0 ++ (s.bank 0).record ++ (s.bank 1).record
    (s.reply q (if busy then stPending else stOk) s.stitch body, .done))

/-- DECOMMISSION (R365): over I3C only, with every tenant panel EMPTY. -/
def execDecommission (s : State) : Host.Outcome State Fault Refusal :=
  .next (s.ockar 0x0A08 [] fun q s =>
    let i3c := match q.via with
      | .i3c _ => true
      | _ => false
    if !i3c ∨ !s.tenantsEmpty then (s, .no stDenied noOff 0)
    else ({ s with thm := { s.thm with fuses := { s.thm.fuses with life := 7 } } }, .ok []))

end Sys2Proof.Machine
end

