-- ==== Sys2Proof/Machine/Start.lean ====
section
/-! DEFINITION. Starts (R463–R473, Tables BOO-2 and BOO-7): the ROM's work, training, basting, panel 0's loader, the fabric
join and host release. Tests and copies happen outside the model: their outcomes come with the commands. -/

namespace Sys2Proof.Machine

def State.setPhase (s : State) (n : Nat) : State := s.setFld hubBootR F.hubBoot.PHASE n
/-- The current start is a warm start. -/
def State.warmStart (s : State) : Bool := s.flag hubBootR F.hubBoot.WARM

/-! ### The test report (R471) -/

/-- Add an entry: the first 1,024 are kept. -/
def State.addEntry (s : State) (e : RepEnt) : State :=
  if 1024 ≤ s.boot.entries.length then { s with boot := { s.boot with overflow := true } }
  else
    let s := { s with boot := { s.boot with entries := s.boot.entries ++ [e] } }
    s.setFld hubBootR F.hubBoot.NENT s.boot.entries.length

/-- A failing location with the action taken: its entry, and event 0xC1 (R470, R471). -/
def State.failed (s : State) (f : Failure) (action : Nat) : State :=
  let s := s.addEntry { unit := f.unit.toNat, array := f.array.val, result := 1, action := action, pattern := f.pattern.toNat
                        addr := f.addr.toNat, bitNo := f.bitNo.toNat, count := f.count.toNat }
  s.swEvent f.unit.toNat 0xC1 f.pattern.toNat none (leBytes 1 f.array.val ++ leBytes 1 0 ++ leBytes 2 f.bitNo.toNat)
    (some f.addr.toNat)

def failCls (f : Failure) : Nat := f.unit.toNat / 2 ^ 24
def failIdx (f : Failure) : Nat := f.unit.toNat % 2 ^ 24

/-- A unit is out for this start; the module is degraded (Table BOO-6). -/
def State.degrade (s : State) (units : List Nat) : State :=
  if units = [] then s else
  { s with outUnits := s.outUnits ++ units.filter (· ∉ s.outUnits) }.setFld hubBootR F.hubBoot.DEGRADED 1

/-- Fuse a core (1), a tile (2) or a slice (3) out, with its event 0xC2 (R470); a unit that has its entry or finds the field
full is not fused. -/
def State.fuse (s : State) (cls idx : Nat) : State :=
  if cls * 256 + idx ∈ s.boot.repairs ∨ 256 ≤ s.boot.repairs.length then s
  else (s.fuseOut cls idx).swEvent (unitId (if cls = 3 then 2 else cls) idx) 0xC2 (cls - 1)

/-! ### Group R and the ROM (R364, R375, R379) -/

/-- Checking the banks (R375 steps 1 and 2): one that fails R373 is programmed BAD, and so is a NEW one tried three times. -/
def State.checkBank (s : State) (k : Nat) : State :=
  let b := s.bank k
  if !b.magic ∨ (b.state ≠ bkNew ∧ b.state ≠ bkGood) then s else
  let r := s.checkImage b
  let tired := b.state = bkNew ∧ b.tries = 0xF8
  if r ≠ 0 ∨ tired then (s.setBank k { b with state := bkBad }).fwEvent b.svn k r else s

/-- The bank to boot (R375 steps 3 and 4). -/
def State.chooseBank (s : State) : Option Nat :=
  let has := fun (k st : Nat) => (s.bank k).magic && (s.bank k).state == st
  let best := fun (st : Nat) =>
    if has 0 st && has 1 st then some (if (s.bank 0).seq < (s.bank 1).seq then 1 else 0)
    else if has 0 st then some 0 else if has 1 st then some 1 else none
  match best bkNew with
  | some k => some k
  | none => best bkGood

/-- Sections of a type in an image. -/
def sectsOf (hdr : List Byte) (typ : Nat) : List (List Byte) := (imgSects hdr).filter fun e => field e 0 1 == typ

/-- The derivations of Table ATT-1 and the certificates of the start (R364, R366). While the debug taint holds, slots 1 and
2 stay clear (R362). (DESIGN CHOICE, log entry 74.) -/
def State.derive (s : State) : State :=
  let s := s.fillSlot 4 devidSeed false
  let cdi := Config.deviceSecret ++ asciiBytes "ZP192-CDI" ++ padTo 64 Config.mrom ++ padTo 64 s.mfw ++ leBytes 4 s.svn ++
    leBytes 1 s.thm.fuses.life
  let s := s.fillSlot 0 (Config.shake256 cdi 64) false
  let s := s.fillSlot 4 (List.replicate 64 0) false
  if s.thm.taint then s else
  let s := s.fillSlot 1 (Config.shake256 (s.slot 0 ++ asciiBytes "ZP192-ALIAS") 64) false
  let s := s.fillSlot 2 (Config.shake256 (s.slot 0 ++ asciiBytes "ZP192-METER") 64) false
  let aliasKey := Config.mlDsaPub s.aliasSeed
  let meterKey := s.meterKey
  let life := s.thm.fuses.life
  let a := certBody 2 life s.serial s.svn devidKey aliasKey Config.mrom s.mfw
  let m := certBody 3 life s.serial s.svn aliasKey meterKey Config.mrom s.mfw
  let aCert := a ++ padTo 3309 (Config.mlDsaSign (devidSeed.take 32) a s.fresh)
  let mCert := m ++ padTo 3309 (Config.mlDsaSign s.aliasSeed m (s.fresh + 1))
  let s := { s with fresh := s.fresh + 2 }.setFw fun x => { x with alias_ := aCert, meter := mCert }
  let known := s.sw.store.certs.any fun e => field e.2 6 1 == 3 && certKeyHash e.2 == certKeyHash mCert
  let pair := s.sw.store.certs.length / 2 % 64
  if known then s else (s.swWrite (.cert (2 * pair) aCert)).swWrite (.cert (2 * pair + 1) mCert)

/-! ### The configuration record (step 5) -/

/-- Ranges and constraints of R414 on RAS.TMO0–5. -/
def tmoOk (v : Nat → Nat) : Bool :=
  let within := fun (k lo hi : Nat) => decide (lo ≤ v k) && decide (v k ≤ hi)
  within 0 1 4 && within 1 2 20 && within 2 4 50 && within 3 10 1000 && within 4 50 10000 && within 5 100 100000 &&
    decide (v 0 + 3 ≤ v 2) && decide (4 ≤ v 2) && decide (v 2 + 2 ≤ v 3)

/-- RAS.TMO0–5 from the default record of the running image (R414); the defaults of Table ERR-4 where it breaks a rule. -/
def State.loadTmo (s : State) : State :=
  let hdr := s.thm.fw.header
  let put := fun (v : Nat → Nat) => (List.range 6).foldl (fun s k => s.wr { kind := .rasTmo, i := k } (v k)) s
  let dflt := fun k => Reg.reset { kind := .rasTmo, i := k }
  if sectsOf hdr 6 = [] then put dflt
  else if tmoOk (Config.imageTmo hdr) then put (Config.imageTmo hdr)
  else (put dflt).logErr { unitId := unitId 0x0A 0, cls := 0, code := 0x51, action := 0 }

/-- WP.FCFG, WP.FNAME and the port roles, from the record or from the straps and Table WFT-1 (R235, R236, R267). -/
def State.loadFabric (s : State) : State :=
  let c := s.thm.conf
  let fab := if c.fab = [] then [s.boot.slotid, 15, 15, 15, 0, 0] else c.fab
  let g := fun k => fab.getD k 0
  let v := F.wpFcfg.EN.set (F.wpFcfg.KZ.set (F.wpFcfg.KY.set (F.wpFcfg.KX.set (F.wpFcfg.MYID.set 0 (g 0)) (g 1)) (g 2)) (g 3)) (g 4)
  let s := (s.wr fcfgR v).wr { kind := .wpFname } (g 5)
  let s := (List.range 8).foldl (fun s p =>
    let w := match SMap.find c.ports p with
      | some w => w
      | none => if p < 6 ∧ g (1 + p / 2) ≠ 0 then 8 + p / 2 * 2 + p % 2 else 16
    let r := pctlR p
    ((s.setFld r F.wpPctl.ROLE (w / 8)).setFld r F.wpPctl.DIM (w / 2 % 4)).setFld r F.wpPctl.DIR (w % 2)) s
  s.buildRoutes.repair

/-- HP.CFGk, and the root ports that the division creates enabled (R291, R292). -/
def State.loadHost (s : State) : State :=
  (List.range 4).foldl (fun s k =>
    let w := s.thm.conf.hostcfg.getD k 0
    let s := s.wr { kind := .hpCfg, i := k } w
    if F.hpCfg.EN.get w = 0 then s else
    (List.range 4).foldl (fun s j =>
      if bit (bifPorts (F.hpCfg.BIF.get w)) j then s.setFld (rpctlR (4 * k + j)) F.hpRpctl.EN 1 else s) s) s

/-- Firmware loads the configuration record and measures it (Table BOO-2 step 5, Table ATT-3).
(DESIGN CHOICE, log entry 59; DEDUCED, log entry 82.) -/
def State.loadConf (s : State) : State :=
  let c := s.thm.conf
  let s := s.setFw fun x => { x with mcfg := toDigest (Config.shake256 (Config.confBytes c) 64) }
  let s := if s.warmStart then s else
    s.wr { kind := .hubBoltcfg } (F.hubBoltcfg.CUR.set (F.hubBoltcfg.NEXT.set 0 c.bolt) c.bolt)
  let s := match c.pcap with
    | some w => s.setFld { kind := .cutCtrl } F.cutCtrl.PCAP w
    | none => s
  s.loadTmo.loadFabric.loadHost

/-! ### Domains come up (R464) -/

/-- Bring-up order: die bridges, tile uncores, cores, channels, ports, host-port controllers, network engine. -/
def bringOrder : List Nat :=
  (List.range 4).map (384 + ·) ++ (List.range 192).map (192 + ·) ++ List.range 192 ++ (List.range 24).map (388 + ·) ++
    (List.range 8).map (412 + ·) ++ (List.range 4).map (420 + ·) ++ [424]

/-- The next group of at most 16 domains begins OFF → ON, every 10 boundaries. -/
def State.bringGroup (s : State) : State :=
  if s.boot.bringUp = [] then s
  else if 1 < s.boot.bringIn then { s with boot := { s.boot with bringIn := s.boot.bringIn - 1 } }
  else
    let now := s.boot.bringUp.take 16
    let s := { s with boot := { s.boot with bringUp := s.boot.bringUp.drop 16, bringIn := 10 } }
    now.foldl (fun s d => s.startPower d pwOn) s

/-- The start event and the module watchdog's record (R407, Table SWT-5). -/
def State.startEvents (s : State) : State :=
  let mw := s.sw.pers.mwdog
  let s := s.swEvent (unitId 0x0D 0) 0xC0 (if s.warmStart then 2 else if mw then 1 else 0)
  if !mw then s else
  let s := s.logErr { unitId := unitId 0x0D 0, cls := 3, code := 0x59, action := 10 }
  let s := { s with sw := { s.sw with store := { s.sw.store with pers := { s.sw.store.pers with mwdog := false } } } }
  s.setPers { s.sw.pers with mwdog := false }

/-- The ROM can run: the module is powered, and no firmware, recovery, SAFE_HOLD or scan holds it. -/
def State.romReady (s : State) : Bool :=
  s.powered && !s.thm.firmware && !s.thm.recovery && !s.safeHold && !s.pwr.trip && !s.flag hubBootR F.hubBoot.SCAN

/-- Thimble firmware starts at the beginning of SRAM. -/
def State.handOver (s : State) (k : Nat) : State :=
  let b := s.bank k
  let hdr := b.read 0 512
  let s := (s.setFw fun x => { x with running := k, header := hdr }).fwEvent b.svn k 0
  let s := match sectsOf hdr 1 with
    | e :: _ => s.setSram 0x10000000 (b.read (512 + field e 4 4) (field e 8 4))
    | [] => s
  let s := s.derive
  let s := { s with thm := { s.thm with firmware := true } }
  let s := (s.setTcr 0x020 1000).setThr thmThread { Thread.init with started := true, pc := 0x10000000 }
  let s := s.startEvents.loadConf
  let s := { s with boot := { s.boot with bringUp := bringOrder, bringIn := 0 } }
  (s.setPhase (if s.warmStart then 3 else 6)).bringGroup

/-- ROM_BOOT (R375, Tables BOO-2 and BOO-7): group R has ended with the failures named. The ROM chooses a bank, derives the
keys and hands over; it stops in SAFE_HOLD or enters recovery where it must.
(DESIGN CHOICE, log entry 69; DESIGN CHOICE, log entry 94.) -/
def execRomBoot (failures : List Failure) (s : State) : Host.Outcome State Fault Refusal :=
  if !s.romReady then .next s else
  let s := s.setPhase (if s.warmStart then 2 else 4)
  let s := failures.foldl (fun s f => s.failed f 7) s
  if failures ≠ [] ∨ s.ras.holdAfter ∨ s.thm.fuses.life = 7 then .next s.enterSafeHold
  else
    let s := (s.checkBank 0).checkBank 1
    match s.chooseBank with
    | none => .next { s with thm := { s.thm with recovery := true } }
    | some k =>
      let b := s.bank k
      let s := if b.state = bkNew then s.setBank k { b with tries := b.tries * 2 % 256 } else s
      .next (s.handOver k)

/-! ### Training (R205, R233, Table MEM-10) -/

def partner (c : Nat) : Nat := (c + 12) % 24

/-- A channel pair leaves service for this power cycle. -/
def State.pairOut (s : State) (c : Nat) : State :=
  let out := s.boot.chansOut
  let s := { s with boot := { s.boot with chansOut := out ++ [c, partner c].filter (· ∉ out) } }
  s.degrade [unitId 3 c, unitId 3 (partner c)]

/-- A failing data pin: its pair leaves, the partner with an entry of its own, one event for the pair. -/
def State.pinFails (s : State) (f : Failure) : State :=
  let c := (failIdx f) % 24
  let known := decide (c ∈ s.boot.chansOut)
  let s := s.failed f 4
  if known then s else
  let s := s.addEntry { unit := unitId 3 (partner c), array := 18, result := 0, action := 4, pattern := f.pattern.toNat
                        addr := 0, bitNo := 0xFFFF, count := 0 }
  (s.pairOut c).swEvent (unitId 3 (min c (partner c))) 0xC2 3

/-- A failing row: a spare row is marked BAD, any other is moved to a spare (R227, R470). -/
def State.rowFails (s : State) (f : Failure) : State :=
  let c := (failIdx f) % 24
  let row := f.addr.toNat % 2 ^ 22
  let top := 4194304 - 256
  if top ≤ row then (s.failed f 0).spareBad c (row - top)
  else
    let s := match s.spareOf c row with
      | some k => s.spareBad c k
      | none => s
    match s.freeSpare c with
    | none => s.failed f 0
    | some k =>
      let s := (s.failed f 2).remap c row k
      (s.swRow c 0xFF row false true false).swEvent (unitId 3 c) 0xC2 4 none (memSyn c 0 0xFF 0 row 0)

/-- The remaps of a channel, as the Swatch store holds them (R227). (DEDUCED, log entry 133.) -/
def State.loadSpares (s : State) (c : Nat) : State :=
  let waiting := s.sw.wait.filterMap fun w => match w.1 with
    | .spare k v => some (k, v)
    | _ => none
  let s := (s.sw.store.spares ++ waiting).foldl (fun s e => if e.1 / 256 = c then s.wr (mcReg .mcSpare c (e.1 % 256)) e.2 else s) s
  s.setFld (mcReg .mcStatus c) F.mcStatus.SPUSED ((List.range 256).filter fun k => s.flag (mcReg .mcSpare c k) F.mcSpare.V).length

/-- The channel list (R205), what each controller in service holds of it, region 0 (R216), and the Page Owner Table with only
the reserved region FIRMWARE and the spare-row pool OFFLINE (R212, R233). (DESIGN CHOICE, log entry 53.) -/
def State.setChannels (s : State) : State :=
  let low := (List.range 12).filter fun c => c ∉ s.boot.chansOut
  let cl := low ++ low.map (· + 12)
  let s := { s with clist := cl }
  let s := (List.range 24).foldl (fun s c =>
    let r := mcReg .mcCtrl c
    match cl.idxOf? c with
    | some i =>
      let s := s.wr r (F.mcCtrl.LISTIDX.set (F.mcCtrl.PARTNER.set (F.mcCtrl.EN.set 0 1) (partner c)) i)
      let g := F.mcRegion.BASE.set (F.mcRegion.LIMIT.set (F.mcRegion.OWNER.set (F.mcRegion.EN.set 0 1) 1)
        (s.protTop / 65536 - 1)) s.reservedGranule
      s.wr (mcReg .mcRegion c 0) g
    | none => s.wr r (Reg.reset r)) s
  let pool := (s.protTop - cl.length * 409600) / 65536
  { s with pot := (List.range (2 ^ 31 / 65536)).map fun i =>
      let g := s.reservedGranule + i
      (g, mkPot (if pool ≤ g then kOffline else kFirmware) false false false false 0) }

/-- The firmware memory key and panel 0's key (Table BOO-2 step 8, R214, R355). -/
def State.loadKeys (s : State) : State :=
  let (k, s) := s.entropy 64
  let s := { s.fillSlot 3 k false with fwKey := ofLeBytes k }
  let (k, s) := s.entropy 64
  s.pushKey 0 k

/-- TRAINING_COMPLETE (R233): training and memory basting end with the failing pins and rows named.
(DESIGN CHOICE, log entry 49; DESIGN CHOICE, log entry 53; DESIGN CHOICE, log entry 94; DEDUCED, log entry 95.) -/
def execTrainingComplete (failures : List Failure) (s : State) : Host.Outcome State Fault Refusal :=
  let up := (List.range 24).all fun c => s.fld (dstatR (388 + c)) F.pwrDstat.CUR == pwOn
  if !s.thm.firmware || s.boot.trained || !up then .next s else
  let pins := failures.filter fun f => failCls f == 3 && f.array.val == 18
  let rows := failures.filter fun f => failCls f == 3 && f.array.val == 10
  let s := if s.warmStart then s.degrade (s.boot.chansOut.map (unitId 3)) else pins.foldl State.pinFails s
  let s := (List.range 24).foldl (fun s c =>
    let bad := pins.any fun f => failIdx f == c
    let out := s.warmStart && decide (c ∈ s.boot.chansOut)
    let s := s.setFld (mcReg .mcStatus c) F.mcStatus.TRAINED (b2n (!bad && !out))
    (s.setFld (mcReg .mcStatus c) F.mcStatus.FAILED (b2n bad)).loadSpares c) s
  let s := rows.foldl State.rowFails s
  let s := s.setChannels
  let s := if s.warmStart then s else s.clist.foldl (fun s c =>
    let (bs, s) := s.entropy 8192
    s.swWrite (.training c bs)) s
  let s := { s with boot := { s.boot with trained := true } }
  if s.clist.isEmpty then .next s.enterSafeHold
  else .next ((if s.warmStart then s else s.setPhase 8).loadKeys)

/-! ### Compute basting (R468–R470, Table BOO-3) -/

/-- What a failure of group C leads to. A Warp link is named by its tile, and by its port in ADDR [2:0]: 0–3 the torus
links, 4 the gate; a die bridge by class 0x0D, its die and array 9. -/
inductive Outcome' where
  | core (c : Nat)
  | tile (t : Nat)
  | slice (t : Nat)
  | link (t port : Nat)
  | die (d : Nat)
  | port (p : Nat)
  | lane
  | hold
  deriving DecidableEq, Repr

/-- (DESIGN CHOICE, log entry 56.) -/
def failOutcome (f : Failure) : Outcome' :=
  let i := failIdx f
  let a := f.array.val
  match failCls f with
  | 1 => if i < 192 then .core i else .hold
  | 2 =>
    if 192 ≤ i then .hold
    else if a = 4 ∨ a = 5 then .slice i
    else if a = 9 ∧ f.addr.toNat % 8 < 5 then .link i (f.addr.toNat % 8)
    else .tile i
  | 4 => if i < 8 then .port i else .hold
  | 5 => .lane
  | 0x0D => if a = 9 ∧ i < 4 then .die i else .hold
  | _ => .hold

def State.tileOut (s : State) (t : Nat) : State :=
  let s := (s.fuse 2 t).degrade [unitId 2 t]
  { s with noSlice := if t ∈ s.noSlice then s.noSlice else s.noSlice ++ [t] }.avoidTile t

/-- A whole die is out: every tile of it, and its channels with their partners. -/
def State.dieOut (s : State) (d : Nat) : State :=
  let s := (List.range 48).foldl (fun s j => s.tileOut (48 * d + j)) s
  (List.range 6).foldl (fun s j => s.pairOut (6 * d + j)) s

/-- The entry's action code (Table BOO-5) and the failure's effect. -/
def State.bastingFails (s : State) (f : Failure) : State :=
  match failOutcome f with
  | .core c =>
    let new := b2n (decide (s.boot.repairs.length < 256))
    ((s.failed f new).fuse 1 c).degrade [unitId 1 c]
  | .tile t => (s.failed f (b2n (decide (s.boot.repairs.length < 256)))).tileOut t
  | .slice t =>
    let s := (s.failed f 3).fuse 3 t
    { s with noSlice := if t ∈ s.noSlice then s.noSlice else s.noSlice ++ [t] }.setFld hubBootR F.hubBoot.DEGRADED 1
  | .link t port => (s.failed f 0).failLink t port
  | .die d => (s.failed f 1).dieOut d
  | .port p =>
    if s.isWeft p then
      let s := ((s.failed f 5).swEvent (unitId 4 p) 0xC2 5).setFld (pctlR p) F.wpPctl.ROLE 0
      s.degrade [unitId 4 p]
    else s.failed f 0
  | .lane => (s.failed f 6).swEvent f.unit.toNat 0xC2 5
  | .hold => s.failed f 7

/-- Dies whose eight gate links have all failed. -/
def State.gatesDead (s : State) (d : Nat) : Bool := (List.range 8).all fun j => s.linkFailed (48 * d + j) 4

/-- Units that the repair field holds out before basting (R470). -/
def State.applyFuses (s : State) : State :=
  let r := s.boot.repairs
  let tiles := (r.filter fun k => k / 256 == 2).map (· % 256)
  let slices := (r.filter fun k => k / 256 == 3).map (· % 256)
  let s := { s with noSlice := tiles ++ slices.filter (· ∉ tiles) }
  let s := if r = [] then s else s.setFld hubBootR F.hubBoot.DEGRADED 1
  tiles.foldl State.avoidTile s

/-- Panel 0's contract defaults (R311): MINC 2, MAXC 48, WEIGHT 100, shared class, MINL 200, MINW 1 and WDOG 60,000. -/
def dfltContract (maxc bolt : Nat) : List Byte :=
  leBytes 2 2 ++ leBytes 2 maxc ++ leBytes 2 100 ++ leBytes 10 0 ++ leBytes 2 200 ++ leBytes 1 1 ++ leBytes 1 bolt ++
    leBytes 8 0 ++ leBytes 2 60000 ++ leBytes 34 0

/-- Panel 0's MINC, as the record or the defaults give it. -/
def State.minc0 (s : State) : Nat :=
  let c := s.thm.conf.contract0
  if c = [] then 2 else field c 0 2

/-- A bolt's state after basting: it runs with a core and a slice in service, and is OFFLINE without (R469). -/
def State.openBolt (s : State) (b : Nat) : State :=
  let cores := (s.boltCores b).filter s.coreIn
  s.setBoltState b (if cores.isEmpty || (s.sliceList b).isEmpty then 4 else 1)

/-- The lowest-numbered bolt whose cores in service number at least panel 0's MINC (R468). -/
def State.hostBolt (s : State) : Option Nat :=
  (List.range s.nBolts).find? fun b =>
    s.boltState b == 1 && decide (s.minc0 ≤ ((s.boltCores b).filter s.coreIn).length)

/-- Panel 0's contract (R311): the record's, where it passes R312, else the defaults with a corrected record whose CODE the
manual does not give. BOLT is the HOST bolt either way. (DESIGN CHOICE, log entry 87.) -/
def State.writeContract0 (s : State) (b : Nat) : State :=
  let put := fun (c : List Byte) => c.take 19 ++ leBytes 1 b ++ (c.drop 20).take 44
  let cores := ((s.boltCores b).filter s.coreIn).length
  let dflt := dfltContract (min 48 cores) b
  let rec0 := s.thm.conf.contract0
  if rec0 = [] then s.setContract 0 dflt
  else if (s.conRefuse 0 (put rec0)).isNone then s.setContract 0 (put rec0)
  else
    let (k, s) := s.freeNat
    (s.setContract 0 dflt).logErr { unitId := unitId 0x0A 0, cls := 0, code := k % 256, action := 0 }

/-- Tiles after basting: raw enables, and the delay that the echo exchanges measured, a free value (R199, R465).
(DESIGN CHOICE, log entry 57.) -/
def State.readyTile (s : State) (t : Nat) : State := (s.enableCaches t).measureDelay t

/-- BASTING_COMPLETE (R468–R470, Table BOO-2 steps 9 and 10): compute and lane basting end with the failures named; repairs
are applied, the slice lists and the HOST bolt fixed, panel 0 given every way of its slices (Table CCH-2), and its contract
written. (DESIGN CHOICE, log entry 94.) -/
def execBastingComplete (failures : List Failure) (s : State) : Host.Outcome State Fault Refusal :=
  let up := (List.range 388).all fun d => s.fld (dstatR d) F.pwrDstat.CUR == pwOn
  if !s.thm.firmware || !s.boot.trained || s.boot.basted || !up then .next s else
  let s := (s.buildPatterns allNis).applyFuses
  let s := failures.foldl State.bastingFails s
  let dead := (List.range 4).filter s.gatesDead
  let s := dead.foldl State.dieOut s
  let s := if failures.any (fun f => match failOutcome f with | .die _ => true | _ => false) || !dead.isEmpty then
    s.setChannels.loadKeys else s
  let s := (List.range 192).foldl State.readyTile s
  let s := (List.range s.nBolts).foldl State.openBolt s
  let s := { s with boot := { s.boot with basted := true } }
  if failures.any (fun f => failOutcome f == Outcome'.hold) || decide (s.clist.length < 2) then .next s.enterSafeHold
  else match s.hostBolt with
    | none => .next s.enterSafeHold
    | some b =>
      let s := s.setFld { kind := .hubBoltstat } ⟨8 * b + 4, 8 * b + 4⟩ 1
      let s := (s.sliceList b).foldl (fun s t => s.putWays t 0 0xFFFF) s
      .next ((s.writeContract0 b).setPhase (if s.warmStart then 4 else 11))

/-! ### Panel 0's loader (R466) -/

/-- LOADER_COPY_COMPLETE (R466): a copy ended with the loader's bytes, or failed. It is tried once more; the second failure
stops the start in SAFE_HOLD. (DESIGN CHOICE, log entry 74.) -/
def execLoaderCopyComplete (res : Option (List Byte)) (s : State) : Host.Outcome State Fault Refusal :=
  if !s.thm.firmware || !s.boot.basted || s.boot.loaded || s.safeHold then .next s else
  match res with
  | none =>
    let s := { s with boot := { s.boot with copies := s.boot.copies + 1 } }
    .next (if s.boot.copies < 2 then s else { s with boot := { s.boot with loaderBad := true } }.enterSafeHold)
  | some bytes =>
    let c := s.thm.conf
    let n := max 1 c.first
    match s.findRun false false n with
    | (none, s) => .next { s with boot := { s.boot with loaderBad := true } }.enterSafeHold
    | (some g, s) =>
      let (s, ch) := s.prepare 0 kOwned 7 false g n
      let s := ch.foldl (fun s e => s.setPot e.1 e.2) s
      let data := (padTo c.loaderLen bytes).take (n * 65536)
      let s := if data = [] then s else s.ioVisible 0 (g * 65536) data
      let gs := runOf g ((data.length + 65535) / 65536)
      let d := s.launchDigest (g * 65536) (s.ct 0 6 1) gs
      let s := s.setPanel 0 { s.panel 0 with launch := d, entry := g * 65536 }
      let s := { s with boot := { s.boot with loaded := true, first := some (g, n) } }
      .next (if s.warmStart then s else s.setPhase 12)

/-! ### Fabric join and release (R266, R467, R30) -/

/-- FABRIC_JOIN_TIMEOUT (R266): 3 s after the first Weft port began training. -/
def execFabricJoinTimeout (s : State) : Host.Outcome State Fault Refusal :=
  if s.boot.joinAge.any (fun n => decide (300000 ≤ n)) then
    let s := { s with boot := { s.boot with joined := true } }
    .next (if s.follower && s.upPorts.isEmpty && s.flag tuCtrlR F.tuCtrl.MASTER_ELIG then s.setMaster (some s.ownKey) else s)
  else .next s

/-- Release need not wait, or waits no more, for fabric time (R266, R473). -/
def State.joinOver (s : State) : Bool :=
  s.warmStart || !s.flag tuCtrlR F.tuCtrl.FABTIME || !(List.range 8).any s.isWeft || s.boot.joined || s.isMaster ||
    (s.time.followed && s.tuState == tsLocked)

/-- Commitment (R30): with neither a reference nor an Ockar time, from the store's last TAI value, or at TAI 0 with
TIME_FAULT. -/
def State.commit (s : State) : State :=
  if s.committed then s else
  let s := if s.tuState = tsFree ∧ !s.time.ockarSet then
      match s.boot.lastTai with
      | some (sec, ns) => s.setTod (sec % 2 ^ 48 * 1000000000 + ns % 1000000000)
      | none => (s.setTod 0).timeFlag F.tuStatus.TIME_FAULT 0
    else s
  let s := s.setFld tuStatusR F.tuStatus.COMMITTED 1
  let never := s.sw.pers.first = 0 ∧ s.sw.pers.seq = 0xFFFFFFFF
  if never then s.setPers { s.sw.pers with first := s.stitch } else s

/-- The sheet that a start finds interrupted is signed first (R332): after a warm reset those closed in hub SRAM, after a cold
one the last complete copy, if its sheet was not signed. True when stitches went unbilled.
(DESIGN CHOICE, log entry 39.) -/
def State.signInterrupted (s : State) : State × Bool :=
  if s.warmStart then (s.signAll, false) else
  let st := s.sw.store
  let ever := st.pers.first ≠ 0 ∨ st.pers.seq ≠ 0xFFFFFFFF
  match (if st.pers.accsel = 0 then st.accA else st.accB) with
  | some x =>
    if st.sheets.any fun y => field y.hdr 16 8 == x.start then (s, decide ever)
    else ({ s with tape := { s.tape with closed := [{ x with loss := true }] } }.signAll, false)
  | none => (s, decide ever)

/-- HOST_RELEASE (R467): in one boundary time is committed, the Cutter enabled, panel 0's mailbox put in service, and panel
0's seat 0 thread 0 started at level H at the grant's base. (DESIGN CHOICE, log entry 83.) -/
def execHostRelease (s : State) : Host.Outcome State Fault Refusal :=
  if !s.thm.firmware || !s.boot.loaded || s.boot.released || s.safeHold || !s.joinOver then .next s else
  match s.boot.first with
  | none => .next s
  | some (g, _) =>
    let c := s.contract 0
    match s.findRun false (cf' c 12 4 ≠ 0) (saveGranules c) with
    | (none, s) => .next s.enterSafeHold
    | (some sv, s) =>
      let (s, ch) := s.prepare 0 kSave 0 (cf' c 12 4 ≠ 0) sv (saveGranules c)
      let s := ch.foldl (fun s e => s.setPot e.1 e.2) s
      match s.findRun false false 1 with
      | (none, s) => .next s.enterSafeHold
      | (some m, s) =>
        let (s, ch) := s.prepare 0 kOwned 3 false m 1
        let s := ch.foldl (fun s e => s.setPot e.1 e.2) s
        let s := s.commit
        let (s, lost) := s.signInterrupted
        let s := s.setFld { kind := .cutCtrl } F.cutCtrl.EN 1
        let s := s.wr (mbxPageR 0) (F.mbxPage.GRANULE.set (F.mbxPage.EN.set 0 1) m)
        let st := F.hubPstate.TWIN.set (F.hubPstate.SEALED.set 0 (cf' c 6 1 % 2)) (cf' c 6 1 / 2 % 2)
        let s := ((s.wr (pstateR 0) st).setPstate 0 psRunning).wr (pwdogR 0) (F.hubPwdog.PERIOD.set 0 (cf' c 28 2))
        let s := (s.reloadWdog 0).setPanel 0 { s.panel 0 with saveBase := some (sv * 65536), seats := seatsOfCon c }
        let s := (s.dropSeats 0).writeSeat 0 0
          (SeatRec.atStart 0 (some (BitVec.ofNat 64 (g * 65536))) true (bit (cf' c 6 1) 1))
        let sheet := newSheet [] (s.stitch + 1) false true lost
        let s := { s with tape := { s.tape with sheet := some sheet } }
        let s := s.openAcct 0 0
        let (el, s) := s.freeNat
        let s := { s with boot := { s.boot with released := true, head := s.reportHead (el % 2 ^ 64) } }
        let s := s.setPhase (if s.warmStart then 5 else 13)
        .next (if s.warmStart then (List.range 8).foldl (fun s p => s.startLink p) s else s)

end Sys2Proof.Machine
end

