-- ==== Sys2Proof/Machine/Boundary.lean ====
section
/-! DEFINITION. The stitch boundary (R17–R21, Table TIM-2): the tasks of a boundary, in the order in which one needs the
other's result: what belongs to the stitch that ends is counted first, the stitch number rises, then everything that was
staged or accepted takes effect. -/

namespace Sys2Proof.Machine

/-! ### Task 1: line tokens (R229, R230, R308) -/

/-- REMAIN of every panel at one channel becomes its GRANT, and the pool the rest of the channel's tokens. -/
def State.refillLine (s : State) (tok : Nat → Reg) (grant remain : Fld) (poolR : Reg) (pool : Fld) (tokens : Nat) : State :=
  let s := (List.range 512).foldl (fun s p =>
    if s.rd (tok p) = 0 then s else s.setFld (tok p) remain (grant.get (s.rd (tok p)))) s
  let sum := ((List.range 512).map fun p => grant.get (s.rd (tok p))).sum
  s.setFld poolR pool (tokens - sum)

/-- Task 1 at every channel and CXL root port; then the requests that waited for tokens are served, oldest first. -/
def State.lineRefill (s : State) : State :=
  let s := (List.range 24).foldl (fun s c =>
    let s := s.refillLine (fun p => { kind := .mcTok, i := c, j := p }) F.mcTok.GRANT F.mcTok.REMAIN
      { kind := .mcPool, i := c } F.mcPool.POOL (s.lineTokens c)
    let x := s.mc c
    let (stuck, go) := x.waiting.partition fun q => q.res == .wedged
    go.foldl (fun s q => s.mcTake c q) (s.setMc c { x with waiting := stuck })) s
  (List.range 8).foldl (fun s r =>
    let s := s.refillLine (ctokR r) F.hpCtok.GRANT F.hpCtok.REMAIN (cpoolR r) F.hpCpool.POOL (s.lineTokens (24 + r))
    let x := s.cxlOf r
    x.waiting.foldl (fun s q => s.cxlTake r q) (s.setCxl r { x with waiting := [] })) s

/-! ### Task 3: counters -/

def McReq.older (q : McReq) : McReq := { q with age := q.age + 1 }
def ageMiss (e : Option MissEnt) : Option MissEnt := e.map fun x => { x with age := x.age + 1 }

/-- A tile's transaction and request tables and its L3 cleanings. -/
def TileSt.older (x : TileSt) : TileSt :=
  { x with
    home := SMap.mapListed (fun _ => none) x.home fun _ e => e.map fun y => { y with age := y.age + 1 }
    miss := SMap.mapListed (fun _ => none) x.miss fun _ e => ageMiss e
    clean := x.clean.map fun j => { j with age := j.age + 1 } }

/-- A controller's queues; the scrub waits while its domain is in RET (R225). -/
def McSt.older (x : McSt) (on : Bool) : McSt :=
  { x with waiting := x.waiting.map McReq.older, partnerQ := x.partnerQ.map McReq.older
           heldReqs := x.heldReqs.map McReq.older, scrubIn := if on then x.scrubIn - 1 else x.scrubIn }

/-- The Time Unit's counters, and the tasks of the stitch that ends. Task 9, which many reports make up, is done in every
stitch that does not drop it (R22). (DESIGN CHOICE, log entry 106.) -/
def TimeSt.older (x : TimeSt) (ports : List Nat) : TimeSt :=
  { x with
    sinceLock := x.sinceLock + 1, sinceSync := x.sinceSync + 1, electing := x.electing.map (· + 1)
    sincePtp := x.sincePtp + 1
    drops := if 9 ∈ x.dropped then x.drops else SMap.remove x.drops 9
    dropped := [], done := []
    sinceDelay := ports.foldl (fun m p => SMap.insert m p (SMap.get (fun _ => 0) m p + 1)) x.sinceDelay }

/-- Every timeout and watchdog counter advances by one boundary (R12, R20 task 3). -/
def State.advance (s : State) : State :=
  let on := fun (c : Nat) => s.fld (dstatR (388 + c)) F.pwrDstat.CUR == pwOn
  let training := (List.range 8).any fun p => s.isWeft p && s.linkState p == lsTraining
  let s := { s with
    ticks := s.ticks + 1
    tiles := SMap.mapListed (fun _ => TileSt.init) s.tiles fun _ x => x.older
    ioReqs := SMap.mapListed (fun _ => none) s.ioReqs fun _ e => ageMiss e
    mcs := SMap.mapListed (fun _ => McSt.init) s.mcs fun c x => x.older (on c)
    cxl := SMap.mapListed (fun _ => CxlSt.init) s.cxl fun _ x => { x with sent := x.sent.map McReq.older }
    time := s.time.older ((List.range 8).filter fun p => s.isWeft p)
    ras := { s.ras with written := 0, writtenCorr := 0 }
    boot := { s.boot with joinAge := match s.boot.joinAge with
                | some n => some (n + 1)
                | none => if training then some 1 else none } }
  let s := s.missedSamples
  ((((s.hioBoundary.weftBoundary).bobBoundary).claimsAge).twdogTick).swCount 0 1 8

/-! ### Time -/

/-- The stitch number rises by one (R18), and TOD stands at the boundary (R17). -/
def State.nextStitch (s : State) : State := s.setTod ((s.stitch + 1) * 10000)

/-- The BOUNDARY flits (R198, Table WRP-7): from the Time Unit to each die bridge, and from it to its rim tiles; STITCH, CORR
and LEAD. (DESIGN CHOICE, log entry 108.) -/
def State.sendBoundary (s : State) : State :=
  s.emits ((List.range 4).flatMap fun d =>
    .warp .boundary 196 (192 + d) 0 0 false [s.stitch, 0, 256] ::
      (List.range 8).map fun x => .warp .boundary (192 + d) (48 * d + x) 0 0 false [s.stitch, 0, 256])

/-- The master's SYNC cell at every 16th stitch (R34), task 7; CORR, the time to its departure, is measured: free.
(DESIGN CHOICE, log entry 31.) -/
def State.sendSync (s : State) (dropped : Bool) : State :=
  if s.stitch % 16 = 0 ∧ s.isMaster ∧ s.flag tuCtrlR F.tuCtrl.FABTIME then
    if dropped then s.dropTask 7 else
    let s := s.taskDone 7
    let k := s.ownKey
    let (n, s) := s.timeSeq 1
    let (corr, s) := s.freeBits 64
    s.flood (s.timeCell 1 k.qual k.prio1 s.myId n s.stitch corr.toNat 0 (s.stitch * 10000)) none
  else s

/-- PPS_OUT is driven (R39). -/
def State.ppsDriven (s : State) : Bool :=
  s.flag tuCtrlR F.tuCtrl.PPS_OUT_EN &&
    (s.tuState == tsLocked || s.tuState == tsHoldover || (s.tuState == tsFree && s.flag tuCtrlR F.tuCtrl.PPS_FREE))

/-- PPS_OUT rises at the start of a TAI second and stays high for 10 stitches (R39). (DESIGN CHOICE, log entry 34.) -/
def State.ppsOut (s : State) : State :=
  let set := fun (n : Nat) => s.setTime fun x => { x with pulse := n }
  if s.stitch % 100000 = 0 ∧ s.ppsDriven then (set 10).emit (.pin .ppsOut true)
  else if s.time.pulse = 0 then s
  else if s.time.pulse = 1 ∨ !s.ppsDriven then (set 0).emit (.pin .ppsOut false)
  else set (s.time.pulse - 1)

/-- REF10M_OUT carries the steered 10 MHz while it is enabled: its level here says whether it runs (R39).
(DESIGN CHOICE, log entry 34.) -/
def State.out10m (s : State) : State :=
  let on := s.flag tuCtrlR F.tuCtrl.REF10M_OUT_EN
  if on = s.time.out10m then s else (s.setTime fun x => { x with out10m := on }).emit (.pin .ref10mOut on)

/-! ### The Tape -/

/-- At a TAI minute the open sheet ends and the next begins (R332); an account that opens at this boundary belongs to the
next. -/
def State.minuteEnd (s : State) : State :=
  let s := if s.stitch % 6000000 = 0 then s.shortEvents else s
  match s.tape.sheet with
  | none => s
  | some x =>
    if s.stitch < x.stop then s else
    let n := s.stitch
    let (new, old) := x.accts.partition fun a => a.opened && a.first == n
    let s := { s with tape := { s.tape with sheet := some { x with accts := old } } }
    let s := s.closeSheet n n false false true
    let order := fun (a b : Acct) => decide (a.panel < b.panel) || (a.panel == b.panel && decide (a.build < b.build))
    let s := { s with tape := { s.tape with sheet := s.tape.sheet.map fun (y : Sheet) => { y with accts := sortBy order (y.accts ++ new) } } }
    s.tapeStat

/-- At every stitch ≡ 0 mod 6,000 the accumulators begin their way into the store (R332), up to the boundary. -/
def State.accCopy (s : State) : State :=
  if s.stitch % 6000 ≠ 0 then s else
  let s := s.accumulate
  match s.tape.sheet with
  | some x => if x.start < s.stitch then s.swWrite (.acc { x with stop := s.stitch }) else s
  | none => s

/-! ### Protocol repeats -/

/-- Homes repeat RETRY with RSV = 1 to every reservation that waits, and count it (R174, R185). -/
def State.repeatRetries (s : State) : State :=
  s.tiles.foldl (fun s e => (e.2.starve.filter fun r => !r.gone).foldl (fun s r => s.sendRetry e.1 r.agent r.rtid r.line true) s) s

/-- Every hold on a snoop is over: 64 core cycles have passed (R170). (DESIGN CHOICE, log entry 123.) -/
def State.holdsOver (s : State) : State := (s.tiles.filter fun e => e.2.fresh ≠ []).foldl (fun s e => s.endHolds e.1) s

/-- Bolts that the fence holds begin their reset (Table COH-12, step 3). -/
def State.boltResets (s : State) : State :=
  (List.range s.nBolts).foldl (fun s b => if s.boltState b = 2 then s.boltResetStart b else s) s

/-- The contracts as the next allocation reads them (R313). -/
def State.contractsNow (s : State) : RegFile :=
  s.regs.keep fun a _ => decide (Reg.addr { kind := .cutContract } ≤ a) &&
    decide (a ≤ Reg.addr { kind := .cutContract, i := 511, j := 7 })

/-- A contact of the module reference: more than 500 ppm off or missing (R460). -/
def State.refFault (s : State) : State := (s.fatalRec 9).moduleFatal true

/-- What ends with the stitch: the bank of the Tape, the watchdogs that count a stitch in which a panel or a thread had a
core. (DESIGN CHOICE, log entry 29.) -/
def State.endStitch (s : State) (energy : Nat) : State :=
  (((s.accumulate.heldFrames).swapBanks energy).wdogTick).noRetireTick

/-- What takes effect: resets and lifecycles, the allocation with its hems, the masks. (DESIGN CHOICE, log entry 29.) -/
def State.takeEffect (s : State) (x : Reading) : State :=
  let s := ((s.boltResets.outsDue).lifecycle).twinBoundary.hangsAbsorbed
  let s := s.cacheBoundary.cleanOrphans
  let s := s.applyCores (x.saveFails.map (·.val)) (x.restoreFails.map (·.val))
  let s := s.applyMasks
  let s := { s with cut := { s.cut with runnable := s.captureRunnable, contracts := s.contractsNow } }
  let s := s.writePstat
  { s with cut := { s.cut with staged := none } }

/-- The power controller at a boundary; it parks ungranted cores once the Cutter runs. -/
def State.powerTasks (s : State) (x : Reading) : State :=
  let s := s.capBoundary x.pin.toNat x.tmax.toNat
  (if s.flag { kind := .cutCtrl } F.cutCtrl.EN then s.powerBoundary else s).bringGroup

/-- A warm start reaches its bound at this boundary without host release, and without having stopped in SAFE_HOLD, recovery or scan
(Table BOO-1). (DEDUCED, log entry 146.) -/
def State.warmLate (s : State) : Bool :=
  s.warmStart && !s.boot.released && !s.safeHold && !s.thm.recovery && !s.flag hubBootR F.hubBoot.SCAN &&
    s.boot.warmAt.any fun n => decide (n + 200000 ≤ s.ticks + 1)

/-- STITCH_BOUNDARY (R12, R17–R21): the boundary between two stitches. A module held in reset has none.
(DESIGN CHOICE, log entry 28; DESIGN CHOICE, log entry 29; DESIGN CHOICE, log entry 30.) -/
def execStitchBoundary (x : Reading) (s : State) : Host.Outcome State Fault Refusal :=
  if !s.powered then .next s else
  let s := s.wdogsDue
  let due := s.resetDue.isSome
  let late := s.warmLate
  let s := s.holdsOver.endStitch x.energy.toNat
  let s := s.nextStitch.advance
  let s := s.timeSteps
  let s := ((s.lineRefill).portRefill).meterRefill
  let s := s.takeEffect x
  let s := ((s.minuteEnd.accCopy).reportsDue).repeatRetries
  let s := ((s.sendBoundary.sendSync x.noSync).ppsOut.out10m).poolFill
  let s := s.powerTasks x
  let s := if x.refFault then s.refFault else s
  let s := s.tipend 0
  .next (if due then s.warmReset else if late then s.coldStart else s)

end Sys2Proof.Machine
end

