-- ==== Sys2Proof/Machine/IsaVector.lean ====
section
/-! DEFINITION. Vector and mask instructions (R78–R80, Table ISA-8): elements under a governing mask, IEEE 754
arithmetic with sticky flags, vector memory accesses. -/

namespace Sys2Proof.Machine

/-- Write a vector register and retire. -/
def State.retireV (s : State) (th vd : Nat) (v : VWord) : State :=
  let x := s.thr th
  (s.setThr th (x.setVr vd v)).retire th (x.pc + 4) (leBytes 32 v.toNat)

/-- Write a mask register and retire; a write to k0 is discarded (R62). -/
def State.retireK (s : State) (th kd : Nat) (f : Thread → Word) : State :=
  let x := s.thr th
  let v := f x
  (s.setThr th (x.setKr kd v)).retire th (x.pc + 4) (if kd = 0 then [] else leBytes 8 v.toNat)

/-- A vector result given element by element, under the governing mask (R78). -/
def State.vfun (s : State) (th vd k : Nat) (z : Bool) (w : Nat) (f : Thread → Nat → Nat) : State :=
  let x := s.thr th
  s.retireV th vd (masked w (x.kr k) z (x.vr vd) (f x))

/-- A vector integer operation of two sources: `f` gets the element width in bits. -/
def State.vint (s : State) (th vd va vb k : Nat) (z : Bool) (w : Nat) (f : Nat → Nat → Nat → Nat) : State :=
  s.vfun th vd k z w fun x i => f (elemBits w) (elem w (x.vr va) i) (elem w (x.vr vb) i)

/-- A vector comparison into a mask register (R78). -/
def State.vcmp (s : State) (th kd va vb k : Nat) (z : Bool) (w : Nat) (f : Nat → Nat → Nat → Bool) : State :=
  s.retireK th kd fun x => maskedK (elemCount w) (x.kr k) z (x.kr kd) fun i =>
    f (elemBits w) (elem w (x.vr va) i) (elem w (x.vr vb) i)

/-! ### Floating point -/

/-- A reserved FRM takes subcause 0x04 (R79). (DESIGN CHOICE, log entry 116.) -/
def State.withFrm (s : State) (th : Nat) (word : IWord) (body : State → Nat → State) : State :=
  let m := (s.thr th).st F.crSTATUS.FRM
  if 4 < m then s.illegal th 0x04 word else body s m

/-- OR the flags of the active elements into STATUS.FFLAGS (R79). -/
def Thread.addFlags (x : Thread) (fl : List Nat) : Thread :=
  x.setSt F.crSTATUS.FFLAGS (fl.foldl (· ||| ·) (x.st F.crSTATUS.FFLAGS))

/-- The active elements among the `n`. -/
def activeElems (n : Nat) (mask : Word) : List Nat := (List.range n).filter fun i => mask.getLsbD i

/-- A floating-point operation of up to three sources: `f` gets the format, the rounding mode and the elements of
va, vb and vd. -/
def State.vfp (s : State) (th op vd va vb k : Nat) (z : Bool) (w : FpWidth)
    (f : FFmt → Nat → Nat → Nat → Nat → Nat × Nat) : State :=
  s.withFrm th (encodeV 0x39 vd va vb k z w.code op) fun s m =>
    let x := s.thr th
    let r (i : Nat) : Nat × Nat :=
      f (fmtOf w.code) m (elem w.code (x.vr va) i) (elem w.code (x.vr vb) i) (elem w.code (x.vr vd) i)
    let fl := (activeElems (elemCount w.code) (x.kr k)).map fun i => (r i).2
    let v := masked w.code (x.kr k) z (x.vr vd) fun i => (r i).1
    (s.setThr th (x.addFlags fl)).retireV th vd v

/-- A floating-point comparison into a mask register. -/
def State.vfcmp (s : State) (th op kd va vb k : Nat) (z : Bool) (w : FpWidth)
    (f : FFmt → Nat → Nat → Bool × Nat) : State :=
  s.withFrm th (encodeV 0x39 kd va vb k z w.code op) fun s _ =>
    let x := s.thr th
    let r (i : Nat) : Bool × Nat := f (fmtOf w.code) (elem w.code (x.vr va) i) (elem w.code (x.vr vb) i)
    let fl := (activeElems (elemCount w.code) (x.kr k)).map fun i => (r i).2
    let v := maskedK (elemCount w.code) (x.kr k) z (x.kr kd) fun i => (r i).1
    (s.setThr th (x.addFlags fl)).retireK th kd fun _ => v

/-- VFCVTW (R79): widening reads the low n elements of va; narrowing writes the low n elements of the source count
and zeroes the rest. -/
def State.vfcvtw (s : State) (th vd va k : Nat) (z : Bool) (w src : FpWidth) : State :=
  s.withFrm th (encodeV 0x39 vd va src.code k z w.code 15) fun s m =>
    let x := s.thr th
    let n := min (elemCount w.code) (elemCount src.code)
    let r (i : Nat) : Nat × Nat := fChange (fmtOf src.code) (fmtOf w.code) m (elem src.code (x.vr va) i)
    let fl := (activeElems n (x.kr k)).map fun i => (r i).2
    let v := ofElems w.code ((List.range (elemCount w.code)).map fun i =>
      if n ≤ i then 0
      else if (x.kr k).getLsbD i then (r i).1 else if z then 0 else elem w.code (x.vr vd) i)
    (s.setThr th (x.addFlags fl)).retireV th vd v

/-- One level of the pairwise tree (R79): sums of neighbours, with their flags. -/
def pairSums (f : FFmt) (m : Nat) : List Nat → List Nat × List Nat
  | a :: b :: rest =>
    let r := fAdd f m a b
    let t := pairSums f m rest
    (r.1 :: t.1, r.2 :: t.2)
  | l => (l, [])

/-- The tree, level by level (at most `fuel` levels). -/
def treeSum (f : FFmt) (m : Nat) : Nat → List Nat → Nat × List Nat
  | 0, l => (l.headD 0, [])
  | n + 1, l =>
    let r := pairSums f m l
    let t := treeSum f m n r.1
    (t.1, r.2 ++ t.2)

/-- VFREDADD (R79): inactive elements count as −0.0. -/
def State.vfredadd (s : State) (th vd va k : Nat) (z : Bool) (w : FpWidth) : State :=
  s.withFrm th (encodeV 0x3B vd va 0 k z w.code 13) fun s m =>
    let x := s.thr th
    let f := fmtOf w.code
    let es := (List.range (elemCount w.code)).map fun i =>
      if (x.kr k).getLsbD i then elem w.code (x.vr va) i else f.zero true
    let (v, fl) := treeSum f m (5 - w.code) es
    (s.setThr th (x.addFlags fl)).retireV th vd (ofElems w.code [v])

/-! ### Permutes and reductions -/

/-- VCOMPRESS: the active elements of va packed low in vd; the elements above them are zeroed with Z = 1 and kept
with Z = 0, as inactive ones are (R78). -/
def State.vcompress (s : State) (th vd va k : Nat) (z : Bool) (w : Nat) : State :=
  let x := s.thr th
  let act := (activeElems (elemCount w) (x.kr k)).map fun i => elem w (x.vr va) i
  s.retireV th vd (ofElems w ((List.range (elemCount w)).map fun i =>
    if i < act.length then act.getD i 0 else if z then 0 else elem w (x.vr vd) i))

/-- VINS: one element replaced. -/
def State.vins (s : State) (th vd ga gb w : Nat) : State :=
  let x := s.thr th
  let j := (x.gr gb).toNat % elemCount w
  s.retireV th vd (ofElems w ((List.range (elemCount w)).map fun i =>
    if i = j then (x.gr ga).toNat else elem w (x.vr vd) i))

/-- A reduction of the active elements: element 0 the result, every other element zero (R78). -/
def State.vreduce (s : State) (th vd va k w e : Nat) (f : Nat → Nat → Nat → Nat) : State :=
  let x := s.thr th
  let n := elemBits w
  let r := (activeElems (elemCount w) (x.kr k)).foldl (fun a i => f n a (elem w (x.vr va) i) % 2 ^ n) e
  s.retireV th vd (ofElems w [r])

/-! ### Vector memory addresses (Table ISA-8, R80) -/

/-- VLD, VST: the active elements of the 32 bytes at ga + gb; for DEV memory the whole must be 32-byte aligned. -/
def State.linear (s : State) (th ga gb k w : Nat) : List (Word × Nat × Bool) :=
  let x := s.thr th
  let base := x.gr ga + x.gr gb
  let sz := elemBits w / 8
  (activeElems (elemCount w) (x.kr k)).map fun i => (base + BitVec.ofNat 64 (sz * i), sz, base.toNat % 32 == 0)

/-- VLDB: one element at ga + gb, when any element is active. -/
def State.single (s : State) (th ga gb k w : Nat) : List (Word × Nat × Bool) :=
  let x := s.thr th
  let base := x.gr ga + x.gr gb
  let sz := elemBits w / 8
  if activeElems (elemCount w) (x.kr k) = [] then [] else [(base, sz, base.toNat % sz == 0)]

/-- VGATHER, VSCATTER: element i at ga + vb[i] × size, the index zero-extended. (DESIGN CHOICE, log entry 117.) -/
def State.indexed (s : State) (th ga vb k w : Nat) : List (Word × Nat × Bool) :=
  let x := s.thr th
  let sz := elemBits w / 8
  (activeElems (elemCount w) (x.kr k)).map fun i =>
    let a := x.gr ga + BitVec.ofNat 64 (elem w (x.vr vb) i * sz)
    (a, sz, a.toNat % sz == 0)

/-- The bytes of the active elements of a vector register, in order. -/
def State.activeBytes (s : State) (th vs k w : Nat) : List Byte :=
  let x := s.thr th
  (activeElems (elemCount w) (x.kr k)).flatMap fun i => leBytes (elemBits w / 8) (elem w (x.vr vs) i)

/-- Vector integer add under mask. (R78) -/
def execVadd (th : Thr) (vd va vb : VIdx) (k : KIdx) (z : Bool) (w : Fin 4) (s : State) : Host.Outcome State Fault Refusal :=
  .next (s.runInstr th fun s => s.vint th vd va vb k z w fun n a b => a + b)

/-- Vector integer subtract under mask. (R78) -/
def execVsub (th : Thr) (vd va vb : VIdx) (k : KIdx) (z : Bool) (w : Fin 4) (s : State) : Host.Outcome State Fault Refusal :=
  .next (s.runInstr th fun s => s.vint th vd va vb k z w fun n a b => a + 2 ^ n - b)

/-- Vector AND under mask. (R78) -/
def execVand (th : Thr) (vd va vb : VIdx) (k : KIdx) (z : Bool) (w : Fin 4) (s : State) : Host.Outcome State Fault Refusal :=
  .next (s.runInstr th fun s => s.vint th vd va vb k z w fun n a b => a &&& b)

/-- Vector OR under mask. (R78) -/
def execVor (th : Thr) (vd va vb : VIdx) (k : KIdx) (z : Bool) (w : Fin 4) (s : State) : Host.Outcome State Fault Refusal :=
  .next (s.runInstr th fun s => s.vint th vd va vb k z w fun n a b => a ||| b)

/-- Vector XOR under mask. (R78) -/
def execVxor (th : Thr) (vd va vb : VIdx) (k : KIdx) (z : Bool) (w : Fin 4) (s : State) : Host.Outcome State Fault Refusal :=
  .next (s.runInstr th fun s => s.vint th vd va vb k z w fun n a b => a ^^^ b)

/-- Per-element shift left by vb. (R78) (DESIGN CHOICE, log entry 14.) -/
def execVsll (th : Thr) (vd va vb : VIdx) (k : KIdx) (z : Bool) (w : Fin 4) (s : State) : Host.Outcome State Fault Refusal :=
  .next (s.runInstr th fun s => s.vint th vd va vb k z w fun n a b => if b < n then a <<< b else Config.overShift 0 n a b)

/-- Per-element logical shift right by vb. (R78) (DESIGN CHOICE, log entry 14.) -/
def execVsrl (th : Thr) (vd va vb : VIdx) (k : KIdx) (z : Bool) (w : Fin 4) (s : State) : Host.Outcome State Fault Refusal :=
  .next (s.runInstr th fun s => s.vint th vd va vb k z w fun n a b => if b < n then a >>> b else Config.overShift 1 n a b)

/-- Per-element arithmetic shift right by vb. (R78) (DESIGN CHOICE, log entry 14.) -/
def execVsra (th : Thr) (vd va vb : VIdx) (k : KIdx) (z : Bool) (w : Fin 4) (s : State) : Host.Outcome State Fault Refusal :=
  .next (s.runInstr th fun s => s.vint th vd va vb k z w fun n a b => if b < n then ofSigned n (toSigned n a / 2 ^ b) else Config.overShift 2 n a b)

/-- Per-element signed minimum. (R78) -/
def execVmin (th : Thr) (vd va vb : VIdx) (k : KIdx) (z : Bool) (w : Fin 4) (s : State) : Host.Outcome State Fault Refusal :=
  .next (s.runInstr th fun s => s.vint th vd va vb k z w fun n a b => if toSigned n b < toSigned n a then b else a)

/-- Per-element signed maximum. (R78) -/
def execVmax (th : Thr) (vd va vb : VIdx) (k : KIdx) (z : Bool) (w : Fin 4) (s : State) : Host.Outcome State Fault Refusal :=
  .next (s.runInstr th fun s => s.vint th vd va vb k z w fun n a b => if toSigned n a < toSigned n b then b else a)

/-- Per-element unsigned minimum. (R78) -/
def execVminu (th : Thr) (vd va vb : VIdx) (k : KIdx) (z : Bool) (w : Fin 4) (s : State) : Host.Outcome State Fault Refusal :=
  .next (s.runInstr th fun s => s.vint th vd va vb k z w fun n a b => min a b)

/-- Per-element unsigned maximum. (R78) -/
def execVmaxu (th : Thr) (vd va vb : VIdx) (k : KIdx) (z : Bool) (w : Fin 4) (s : State) : Host.Outcome State Fault Refusal :=
  .next (s.runInstr th fun s => s.vint th vd va vb k z w fun n a b => max a b)

/-- Per-element multiply, low half. (R78) -/
def execVmul (th : Thr) (vd va vb : VIdx) (k : KIdx) (z : Bool) (w : Fin 4) (s : State) : Host.Outcome State Fault Refusal :=
  .next (s.runInstr th fun s => s.vint th vd va vb k z w fun n a b => a * b)

/-- Per-element signed multiply, high half. (R78) -/
def execVmulh (th : Thr) (vd va vb : VIdx) (k : KIdx) (z : Bool) (w : Fin 4) (s : State) : Host.Outcome State Fault Refusal :=
  .next (s.runInstr th fun s => s.vint th vd va vb k z w fun n a b => ofSigned n (toSigned n a * toSigned n b / 2 ^ n))

/-- Per-element signed saturating add. (R78) -/
def execVaddsat (th : Thr) (vd va vb : VIdx) (k : KIdx) (z : Bool) (w : Fin 4) (s : State) : Host.Outcome State Fault Refusal :=
  .next (s.runInstr th fun s => s.vint th vd va vb k z w fun n a b => ofSigned n (satSigned n (toSigned n a + toSigned n b)))

/-- Per-element signed saturating subtract. (R78) -/
def execVsubsat (th : Thr) (vd va vb : VIdx) (k : KIdx) (z : Bool) (w : Fin 4) (s : State) : Host.Outcome State Fault Refusal :=
  .next (s.runInstr th fun s => s.vint th vd va vb k z w fun n a b => ofSigned n (satSigned n (toSigned n a - toSigned n b)))

/-- Compare elements for equality into a mask register. (R78) -/
def execVcmpeq (th : Thr) (kd : KIdx) (va vb : VIdx) (k : KIdx) (z : Bool) (w : Fin 4) (s : State) : Host.Outcome State Fault Refusal :=
  .next (s.runInstr th fun s => s.vcmp th kd va vb k z w fun n a b => a == b)

/-- Compare elements signed less-than into a mask register. (R78) -/
def execVcmplt (th : Thr) (kd : KIdx) (va vb : VIdx) (k : KIdx) (z : Bool) (w : Fin 4) (s : State) : Host.Outcome State Fault Refusal :=
  .next (s.runInstr th fun s => s.vcmp th kd va vb k z w fun n a b => decide (toSigned n a < toSigned n b))

/-- Compare elements unsigned less-than into a mask register. (R78) -/
def execVcmpltu (th : Thr) (kd : KIdx) (va vb : VIdx) (k : KIdx) (z : Bool) (w : Fin 4) (s : State) : Host.Outcome State Fault Refusal :=
  .next (s.runInstr th fun s => s.vcmp th kd va vb k z w fun n a b => decide (a < b))

/-- Vector floating-point add. (R79) -/
def execVfadd (th : Thr) (vd va vb : VIdx) (k : KIdx) (z : Bool) (w : FpWidth) (s : State) : Host.Outcome State Fault Refusal :=
  .next (s.runInstr th fun s => s.vfp th 0 vd va vb k z w fun f m a b _ => fAdd f m a b)

/-- Vector floating-point subtract. (R79) -/
def execVfsub (th : Thr) (vd va vb : VIdx) (k : KIdx) (z : Bool) (w : FpWidth) (s : State) : Host.Outcome State Fault Refusal :=
  .next (s.runInstr th fun s => s.vfp th 1 vd va vb k z w fun f m a b _ => fSub f m a b)

/-- Vector floating-point multiply. (R79) -/
def execVfmul (th : Thr) (vd va vb : VIdx) (k : KIdx) (z : Bool) (w : FpWidth) (s : State) : Host.Outcome State Fault Refusal :=
  .next (s.runInstr th fun s => s.vfp th 2 vd va vb k z w fun f m a b _ => fMul f m a b)

/-- Vector floating-point divide. (R79) -/
def execVfdiv (th : Thr) (vd va vb : VIdx) (k : KIdx) (z : Bool) (w : FpWidth) (s : State) : Host.Outcome State Fault Refusal :=
  .next (s.runInstr th fun s => s.vfp th 3 vd va vb k z w fun f m a b _ => fDiv f m a b)

/-- Vector floating-point square root. (R79) -/
def execVfsqrt (th : Thr) (vd va : VIdx) (k : KIdx) (z : Bool) (w : FpWidth) (s : State) : Host.Outcome State Fault Refusal :=
  .next (s.runInstr th fun s => s.vfp th 4 vd va 0 k z w fun f m a _ _ => fSqrt f m a)

/-- Vector floating-point minimum. (R79) -/
def execVfmin (th : Thr) (vd va vb : VIdx) (k : KIdx) (z : Bool) (w : FpWidth) (s : State) : Host.Outcome State Fault Refusal :=
  .next (s.runInstr th fun s => s.vfp th 5 vd va vb k z w fun f _ a b _ => fMin f a b)

/-- Vector floating-point maximum. (R79) -/
def execVfmax (th : Thr) (vd va vb : VIdx) (k : KIdx) (z : Bool) (w : FpWidth) (s : State) : Host.Outcome State Fault Refusal :=
  .next (s.runInstr th fun s => s.vfp th 6 vd va vb k z w fun f _ a b _ => fMax f a b)

/-- Fused multiply-add, vd ← va × vb + vd. (R79) -/
def execVfma (th : Thr) (vd va vb : VIdx) (k : KIdx) (z : Bool) (w : FpWidth) (s : State) : Host.Outcome State Fault Refusal :=
  .next (s.runInstr th fun s => s.vfp th 7 vd va vb k z w fun f m a b c => fFma f m false false a b c)

/-- Fused multiply-subtract, vd ← va × vb − vd. (R79) -/
def execVfms (th : Thr) (vd va vb : VIdx) (k : KIdx) (z : Bool) (w : FpWidth) (s : State) : Host.Outcome State Fault Refusal :=
  .next (s.runInstr th fun s => s.vfp th 8 vd va vb k z w fun f m a b c => fFma f m false true a b c)

/-- Fused negated multiply-add, vd ← −(va × vb) + vd. (R79) -/
def execVfnma (th : Thr) (vd va vb : VIdx) (k : KIdx) (z : Bool) (w : FpWidth) (s : State) : Host.Outcome State Fault Refusal :=
  .next (s.runInstr th fun s => s.vfp th 9 vd va vb k z w fun f m a b c => fFma f m true false a b c)

/-- Floating-point equality compare into a mask. (R79) -/
def execVfcmpeq (th : Thr) (kd : KIdx) (va vb : VIdx) (k : KIdx) (z : Bool) (w : FpWidth) (s : State) : Host.Outcome State Fault Refusal :=
  .next (s.runInstr th fun s => s.vfcmp th 10 kd va vb k z w fun f a b => fCmpEq f a b)

/-- Floating-point less-than compare into a mask. (R79) -/
def execVfcmplt (th : Thr) (kd : KIdx) (va vb : VIdx) (k : KIdx) (z : Bool) (w : FpWidth) (s : State) : Host.Outcome State Fault Refusal :=
  .next (s.runInstr th fun s => s.vfcmp th 11 kd va vb k z w fun f a b => fCmpLt f a b)

/-- Floating-point less-or-equal compare into a mask. (R79) -/
def execVfcmple (th : Thr) (kd : KIdx) (va vb : VIdx) (k : KIdx) (z : Bool) (w : FpWidth) (s : State) : Host.Outcome State Fault Refusal :=
  .next (s.runInstr th fun s => s.vfcmp th 12 kd va vb k z w fun f a b => fCmpLe f a b)

/-- Convert float to signed integer, saturating. (R79) -/
def execVfcvtfi (th : Thr) (vd va : VIdx) (k : KIdx) (z : Bool) (w : FpWidth) (s : State) : Host.Outcome State Fault Refusal :=
  .next (s.runInstr th fun s => s.vfp th 13 vd va 0 k z w fun f m a _ _ => fToInt f m a)

/-- Convert signed integer to float. (R79) -/
def execVfcvtif (th : Thr) (vd va : VIdx) (k : KIdx) (z : Bool) (w : FpWidth) (s : State) : Host.Outcome State Fault Refusal :=
  .next (s.runInstr th fun s => s.vfp th 14 vd va 0 k z w fun f m a _ _ => fOfInt f m a)

/-- Change floating-point width, widening or narrowing. (R79) -/
def execVfcvtw (th : Thr) (vd va : VIdx) (k : KIdx) (z : Bool) (w src : FpWidth) (s : State) : Host.Outcome State Fault Refusal :=
  .next (s.runInstr th fun s => s.vfcvtw th vd va k z w src)

/-- Load 32 bytes into a vector register. (R80) -/
def execVld (th : Thr) (vd : VIdx) (ga gb : GIdx) (k : KIdx) (z : Bool) (w : Fin 4) (s : State) : Host.Outcome State Fault Refusal :=
  .next (s.runInstr th fun s => s.loadVec th (s.linear th ga gb k w) (.vreg vd w ((s.thr th).kr k) z))

/-- Store 32 bytes of a vector register. (R80) -/
def execVst (th : Thr) (vs : VIdx) (ga gb : GIdx) (k : KIdx) (z : Bool) (w : Fin 4) (s : State) : Host.Outcome State Fault Refusal :=
  .next (s.runInstr th fun s => s.storeVec th (s.linear th ga gb k w) (s.activeBytes th vs k w))

/-- Load one element and broadcast it to every element. (R80) -/
def execVldb (th : Thr) (vd : VIdx) (ga gb : GIdx) (k : KIdx) (z : Bool) (w : Fin 4) (s : State) : Host.Outcome State Fault Refusal :=
  .next (s.runInstr th fun s => s.loadVec th (s.single th ga gb k w) (.bcast vd w ((s.thr th).kr k) z))

/-- Load each active element from base plus scaled vector index. (R80) -/
def execVgather (th : Thr) (vd : VIdx) (ga : GIdx) (vb : VIdx) (k : KIdx) (z : Bool) (w : Fin 4) (s : State) : Host.Outcome State Fault Refusal :=
  .next (s.runInstr th fun s => s.loadVec th (s.indexed th ga vb k w) (.vreg vd w ((s.thr th).kr k) z))

/-- Store each active element in ascending order to base plus scaled index. (R80) -/
def execVscatter (th : Thr) (vs : VIdx) (ga : GIdx) (vb : VIdx) (k : KIdx) (z : Bool) (w : Fin 4) (s : State) : Host.Outcome State Fault Refusal :=
  .next (s.runInstr th fun s => s.storeVec th (s.indexed th ga vb k w) (s.activeBytes th vs k w))

/-- Load 8 bytes into a mask register. (R80) -/
def execKld (th : Thr) (kd : KIdx) (ga gb : GIdx) (w : Fin 4) (s : State) : Host.Outcome State Fault Refusal :=
  .next (s.runInstr th fun s => s.load th ((s.thr th).gr ga + (s.thr th).gr gb) 8 (.kreg kd w))

/-- Store 8 bytes of a mask register. (R80) -/
def execKst (th : Thr) (ks : KIdx) (ga gb : GIdx) (w : Fin 4) (s : State) : Host.Outcome State Fault Refusal :=
  .next (s.runInstr th fun s => s.store th ((s.thr th).gr ga + (s.thr th).gr gb) (leBytes 8 ((s.thr th).kr ks).toNat))

/-- Mask AND. (R78) -/
def execKand (th : Thr) (kd ka kb : KIdx) (s : State) : Host.Outcome State Fault Refusal :=
  .next (s.runInstr th fun s => s.retireK th kd fun x => maskN 0 (x.kr ka &&& x.kr kb))

/-- Mask OR. (R78) -/
def execKor (th : Thr) (kd ka kb : KIdx) (s : State) : Host.Outcome State Fault Refusal :=
  .next (s.runInstr th fun s => s.retireK th kd fun x => maskN 0 (x.kr ka ||| x.kr kb))

/-- Mask XOR. (R78) -/
def execKxor (th : Thr) (kd ka kb : KIdx) (s : State) : Host.Outcome State Fault Refusal :=
  .next (s.runInstr th fun s => s.retireK th kd fun x => maskN 0 (x.kr ka ^^^ x.kr kb))

/-- Mask NOT. (R78) -/
def execKnot (th : Thr) (kd ka : KIdx) (s : State) : Host.Outcome State Fault Refusal :=
  .next (s.runInstr th fun s => s.retireK th kd fun x => maskN 0 (~~~x.kr ka))

/-- Move a mask register to a general register. (R78) -/
def execKtog (th : Thr) (rd : GIdx) (ka : KIdx) (s : State) : Host.Outcome State Fault Refusal :=
  .next (s.runInstr th fun s => s.retireGpr th rd ((s.thr th).kr ka))

/-- Move a general register to a mask register. (R78) -/
def execGtok (th : Thr) (kd : KIdx) (ga : GIdx) (s : State) : Host.Outcome State Fault Refusal :=
  .next (s.runInstr th fun s => s.retireK th kd fun x => maskN 0 (x.gr ga))

/-- Permute elements by index. (R78) -/
def execVperm (th : Thr) (vd va vb : VIdx) (k : KIdx) (z : Bool) (w : Fin 4) (s : State) : Host.Outcome State Fault Refusal :=
  .next (s.runInstr th fun s => s.vfun th vd k z w fun x i => elem w (x.vr va) (elem w (x.vr vb) i % elemCount w))

/-- Pack active elements low. (R78) (DEDUCED, log entry 16.) -/
def execVcompress (th : Thr) (vd va : VIdx) (k : KIdx) (z : Bool) (w : Fin 4) (s : State) : Host.Outcome State Fault Refusal :=
  .next (s.runInstr th fun s => s.vcompress th vd va k z w)

/-- Extract one element to a general register, zero-extended. (R78) (DESIGN CHOICE, log entry 118.) -/
def execVext (th : Thr) (rd : GIdx) (va : VIdx) (gb : GIdx) (w : Fin 4) (s : State) : Host.Outcome State Fault Refusal :=
  .next (s.runInstr th fun s => let x := s.thr th; s.retireGpr th rd (BitVec.ofNat 64 (elem w (x.vr va) ((x.gr gb).toNat % elemCount w))))

/-- Insert a general register into one element. (R78) -/
def execVins (th : Thr) (vd : VIdx) (ga gb : GIdx) (w : Fin 4) (s : State) : Host.Outcome State Fault Refusal :=
  .next (s.runInstr th fun s => s.vins th vd ga gb w)

/-- Sum active elements into element 0. (R78) -/
def execVredadd (th : Thr) (vd va : VIdx) (k : KIdx) (z : Bool) (w : Fin 4) (s : State) : Host.Outcome State Fault Refusal :=
  .next (s.runInstr th fun s => s.vreduce th vd va k w 0 fun _ a b => a + b)

/-- Signed minimum of active elements into element 0. (R78) -/
def execVredmin (th : Thr) (vd va : VIdx) (k : KIdx) (z : Bool) (w : Fin 4) (s : State) : Host.Outcome State Fault Refusal :=
  .next (s.runInstr th fun s => s.vreduce th vd va k w (2 ^ (elemBits w - 1) - 1) fun n a b => if toSigned n b < toSigned n a then b else a)

/-- Signed maximum of active elements into element 0. (R78) -/
def execVredmax (th : Thr) (vd va : VIdx) (k : KIdx) (z : Bool) (w : Fin 4) (s : State) : Host.Outcome State Fault Refusal :=
  .next (s.runInstr th fun s => s.vreduce th vd va k w (2 ^ (elemBits w - 1)) fun n a b => if toSigned n a < toSigned n b then b else a)

/-- Floating-point pairwise-tree sum into element 0. (R79) -/
def execVfredadd (th : Thr) (vd va : VIdx) (k : KIdx) (z : Bool) (w : FpWidth) (s : State) : Host.Outcome State Fault Refusal :=
  .next (s.runInstr th fun s => s.vfredadd th vd va k z w)

/-- Broadcast a general register to every element. (R78) -/
def execVbcast (th : Thr) (vd : VIdx) (ga : GIdx) (k : KIdx) (z : Bool) (w : Fin 4) (s : State) : Host.Outcome State Fault Refusal :=
  .next (s.runInstr th fun s => s.vfun th vd k z w fun x _ => (x.gr ga).toNat)

end Sys2Proof.Machine
end

