-- ==== Sys2Proof/Machine/OckPanel.lean ====
section
/-! DEFINITION. The Panel lifecycle and Contracts groups of Ockar (Tables OCK-8 and OCK-9). -/

namespace Sys2Proof.Machine

/-! ### Lifecycle -/

/-- BUILD (R43, R54, R214, R312, R333, R362): contract, save area, mailbox granule and key; BUILT from the next
boundary. (DEDUCED, log entry 79.) -/
def execBuild (s : State) : Host.Outcome State Fault Refusal :=
  .next (s.ockar 0x0201 [(0, 64)] fun q s =>
    let p := q.tidx
    let c := q.payload
    let busy := match s.tape.sheet with
      | some x => x.accts.any fun a => a.panel == p && a.final
      | none => false
    if s.thm.taint then (s, .no stDenied noOff 0)
    else if s.contracted p then (s, .no stStateConflict noOff 0)
    else if busy then (s, .no stBusy noOff 0)
    else
      match s.conRefuse p c with
      | some a => (s, a)
      | none =>
        if !s.entropyOk then (s, .no stInternal noOff 0) else
        let n := saveGranules c
        let mir := cf' c 12 4 ≠ 0
        match s.findRun false mir n with
        | (none, s) => (s, .no stNoResource noOff 0)
        | (some g, s1) =>
          let (key, s) := s1.entropy 64
          let s := s.pushKey p key
          let (s, ch) := s.prepare p kSave 0 mir g n
          let s := ch.foldl (fun s e => s.setPot e.1 e.2) s
          match s.findRun false false 1 with
          | (none, _) => (s1, .no stNoResource noOff 0)
          | (some m, s) =>
            let (s, ch2) := s.prepare p kOwned 3 false m 1
            let s := ch2.foldl (fun s e => s.setPot e.1 e.2) s
            let s := { s with pot := s1.pot }.shootdown (ch ++ ch2) none
            let s := (s.setContract p c).dropSeats p
            let st := F.hubPstate.TWIN.set (F.hubPstate.SEALED.set (F.hubPstate.PANEL.set 0 p) (cf' c 6 1 % 2)) (cf' c 6 1 / 2 % 2)
            let s := ((s.wr (pstateR p) st).wr (pwdogR p) (F.hubPwdog.PERIOD.set 0 (cf' c 28 2))).wr (pfaultR p) 0
            let s := s.wr (mbxPageR p) (F.mbxPage.GRANULE.set (F.mbxPage.EN.set 0 1) m)
            let s := { s with thm := { s.thm with mslots := s.thm.mslots.filter fun e => e.1 / 8 ≠ p } }
            let s := (List.range 192).foldl (fun s t => s.wr { kind := .wrpL3way, i := t, j := p } 0) s
            let b := s.sw.pers.build + 1
            let s := s.setPers { s.sw.pers with build := b }
            let s := s.setPanel p { PanelSt.init with
              saveBase := some (g * 65536), seats := seatsOfCon c, entry := cf' c 32 8, build := b
              triggers := [(.build, s.jobId)] }
            (s, .later [g, m]))

/-- The launch list of a request: granule numbers, or none where an address is out of panel 0's memory or not a granule's
(R368). -/
def State.launchList (s : State) (a n : Nat) : Option (List Nat) :=
  if (runOf (a / 65536) ((a + 8 * n - 1) / 65536 + 1 - a / 65536)).all fun g =>
      potKind (s.potEntry g) == kOwned && potPanel (s.potEntry g) == 0 then
    let l := (List.range n).map fun i => s.memNat (a + 8 * i) 8
    if l.all (· % 65536 == 0) then some (l.map (· / 65536)) else none
  else none

/-- LAUNCH (R43, R368): the list is checked, staging access ends by a table shootdown, the granules are measured, and the
panel starts at the following boundary. -/
def execLaunch (s : State) : Host.Outcome State Fault Refusal :=
  .next (s.ockar 0x0202 [(0, 4), (8, 8)] fun q s =>
    let p := q.tidx
    let n := q.f 0 4
    if n = 0 ∨ 16384 < n then (s, .no stBadParam (po 0) 0)
    else if s.pstate p ≠ psBuilt then (s, .no stStateConflict noOff 0)
    else
      match s.launchList (q.f 8 8) n with
      | none => (s, .no stBadParam (po 8) 0)
      | some gs =>
        let stage := fun g => potKind (s.potEntry g) == kStage && potPanel (s.potEntry g) == p
        if !gs.all stage ∨ (dedupNat gs).length ≠ n then (s, .no stBadParam (po 8) 0)
        else
          let all := s.held p false [kStage]
          let ch := all.map fun g => (g, setBits (s.potEntry g) 15 13 kOwned)
          (s.shootdown ch s.jobId, .later gs))

/-- A panel whose bolt is OFFLINE stays FAULTED until it is torn down (R184). (DESIGN CHOICE, log entry 127.) -/
def State.stranded (s : State) (p : Nat) (t : Trigger) : Bool := t ≠ .tear && s.pstate p == psFaulted && s.boltState (s.panelBolt p) == 4

/-- A lifecycle command of a live panel: refused where Table PNL-4 lists no such transition, else its trigger waits for
the boundary (R43, R45). (DESIGN CHOICE, log entry 127.) -/
def lifeCmd (t : Trigger) (deny0 : Bool) (q : OckReq) (s : State) : State × Ans :=
  let p := q.tidx
  if p = 0 ∧ deny0 then (s, .no stDenied noOff 0)
  else if s.pstate p ∉ t.from_ || s.stranded p t then (s, .no stStateConflict noOff 0)
  else (s.trigger p t s.jobId, .later [])

/-- PAUSE. -/
def execPause (s : State) : Host.Outcome State Fault Refusal := .next (s.ockar 0x0203 [] (lifeCmd .pause true))
/-- RESUME. -/
def execResume (s : State) : Host.Outcome State Fault Refusal := .next (s.ockar 0x0204 [] (lifeCmd .resume false))
/-- RESET. -/
def execReset (s : State) : Host.Outcome State Fault Refusal := .next (s.ockar 0x0205 [] (lifeCmd .reset true))
/-- TEAR (R58). -/
def execTear (s : State) : Host.Outcome State Fault Refusal := .next (s.ockar 0x0206 [] (lifeCmd .tear true))

/-- PANEL_QUERY (Table OCK-8). -/
def execPanelQuery (s : State) : Host.Outcome State Fault Refusal :=
  .next (s.ockar 0x0207 [] fun q s =>
    let p := q.tidx
    let r := pstateR p
    let f := s.fld r F.hubPstate.SEALED + 2 * s.fld r F.hubPstate.TWIN + 4 * s.fld r F.hubPstate.SPAN
    let started := (s.seats.filter fun e => e.1 / 256 == p && e.2.started).length
    (s, .ok (leBytes 1 (s.pstate p) ++ leBytes 1 f ++ leBytes 1 (s.fld (pfaultR p) F.hubPfault.CAUSE) ++
      leBytes 1 (s.fld (pfaultR p) F.hubPfault.RESETS) ++ leBytes 4 (s.handle p) ++ leBytes 8 (s.panel p).build ++
      leBytes 4 (s.held p false [kOwned, kSave, kStage, kMcopy]).length ++ leBytes 4 (s.held p true [kOwned]).length ++
      leBytes 2 started)))

/-! ### Functions (R297, R298) -/

/-- The entry of a function below a root port. -/
def State.funcAt (s : State) (rp rid : Nat) : Option Nat :=
  (List.range 512).find? fun e =>
    let r := func0R (rp / 4) e
    s.flag r F.hpFunc0.V && s.fld r F.hpFunc0.RP == rp && s.fld r F.hpFunc0.RID == rid

/-- A free entry of a controller; which of several is Thimble's choice. (DESIGN CHOICE, log entry 35.) -/
def State.freeFunc (s : State) (k : Nat) : Option Nat × State :=
  let free := fun (s : State) (e : Nat) => decide (e < 512) && !s.flag (func0R k e) F.hpFunc0.V
  let (n, s) := s.freeNat
  (if free s n then some n else (List.range 512).find? (free s), s)

/-- FN_ASSIGN (R297, R298). What the switches on the path hold is for the devices to say: a free value.
(DESIGN CHOICE, log entry 68.) -/
def execFnAssign (s : State) : Host.Outcome State Fault Refusal :=
  .next (s.ockar 0x0208 [(0, 1), (2, 11)] fun q s =>
    let p := q.tidx
    let rp := q.f 0 1
    let rid := q.f 2 2
    let wb := q.f 4 4
    let wl := q.f 8 4
    let rok := q.f 12 1
    let k := rp / 4
    let others := (List.range 512).any fun e =>
      s.flag (func0R k e) F.hpFunc0.V && s.fld (func0R k e) F.hpFunc0.RP == rp && s.fld (func0R k e) F.hpFunc0.PANEL ≠ p
    if 16 ≤ rp ∨ !bit (bifPorts (s.fld { kind := .hpCfg, i := k } F.hpCfg.BIF)) (rp % 4) then (s, .no stBadParam (po 0) 0)
    else if 2 ^ 18 ≤ wb then (s, .no stBadParam (po 4) 0)
    else if 2 ^ 18 ≤ wl ∨ wl < wb then (s, .no stBadParam (po 8) 0)
    else if 1 < rok then (s, .no stBadParam (po 12) 0)
    else if s.panelGone p then (s, .no stStateConflict noOff 0)
    else if (s.funcAt rp rid).isSome then (s, .no stStateConflict (po 2) 0)
    else
      let (acs, s) := s.freeNat
      if others ∧ acs % 2 = 1 then (s, .no stDenied noOff 0)
      else
        match s.freeFunc k with
        | (none, s) => (s, .no stNoResource noOff 0)
        | (some e, s) =>
          let v := F.hpFunc0.BME.set (F.hpFunc0.ROK.set (F.hpFunc0.RID.set (F.hpFunc0.RP.set (F.hpFunc0.PANEL.set
            (F.hpFunc0.V.set 0 1) p) rp) rid) rok) 1
          let s := s.wr (func0R k e) v
          (s.wr (func1R k e) (F.hpFunc1.WBASE.set (F.hpFunc1.WLIMIT.set 0 wl) wb), .ok (leBytes 2 e)))

/-- FN_RELEASE: BME cleared, a function-level reset issued, the entry removed. -/
def execFnRelease (s : State) : Host.Outcome State Fault Refusal :=
  .next (s.ockar 0x0209 [(0, 1), (2, 2)] fun q s =>
    let rp := q.f 0 1
    match (if rp < 16 then s.funcAt rp (q.f 2 2) else none) with
    | none => (s, .no stBadParam (po 0) 0)
    | some e =>
      if s.fld (func0R (rp / 4) e) F.hpFunc0.PANEL ≠ q.tidx then (s, .no stNotOwner (po 2) 0)
      else ((s.issueFlr (rp / 4) e false).funcRemove (rp / 4) e, .ok []))

/-! ### Members (R61, R395) -/

/-- MEMBER_EVENT: with FATE the panel goes FAULTED at the next boundary; else its lowest vector becomes pending. -/
def execMemberEvent (s : State) : Host.Outcome State Fault Refusal :=
  .next (s.ockar 0x0220 [(0, 5)] fun q s =>
    let p := q.tidx
    let src := match q.via with
      | .weft m _ _ => m
      | _ => s.myId
    let req := hdRequester q.head
    if !((s.panel p).members.any fun e => e.1 == src && e.1 * 512 + e.2 == req) then (s, .no stDenied noOff 0)
    else if q.f 4 1 = 0 ∨ 7 < q.f 4 1 then (s, .no stBadParam (po 4) 0)
    else if s.panelGone p then (s, .no stStateConflict noOff 0)
    else if bit (s.ct p 6 1) 2 then (s.trigger p (.fault (q.f 4 1)), .ok [])
    else (s.raise p 0, .ok []))

/-! ### Contracts -/

/-- CONTRACT_SET (R312, R313). -/
def execContractSet (s : State) : Host.Outcome State Fault Refusal :=
  .next (s.ockar 0x0301 [(0, 64)] fun q s =>
    let p := q.tidx
    let c := q.payload
    let fixed := fun (x : List Byte) => (cf' x 6 1 % 4, cf' x 19 1)
    match s.conRefuse p c with
    | some a => (s, a)
    | none =>
      if s.panelGone p then (s, .no stStateConflict noOff 0)
      else if s.pstate p ≠ psBuilt ∧ fixed c ≠ fixed (s.contract p) then
        (s, .no stStateConflict (po (if (fixed c).1 ≠ (fixed (s.contract p)).1 then 6 else 19)) 0)
      else
        let s := s.setContract p c
        let s := (s.setFld (pstateR p) F.hubPstate.SEALED (cf' c 6 1 % 2)).setFld (pstateR p) F.hubPstate.TWIN (cf' c 6 1 / 2 % 2)
        let s := s.setFld (pwdogR p) F.hubPwdog.PERIOD (cf' c 28 2)
        let s := s.setPanel p { s.panel p with entry := cf' c 32 8 }
        (s.onAcct p fun a => { a with sealed := bit (cf' c 6 1) 0, twin := bit (cf' c 6 1) 1 }, .ok []))

/-- CONTRACT_GET. -/
def execContractGet (s : State) : Host.Outcome State Fault Refusal :=
  .next (s.ockar 0x0302 [] fun q s => (s, .ok (s.contract q.tidx)))

/-- OVERRIDE (R326): CUT.OVR of the core. A pin to a panel of another bolt, whose cores all lie in that bolt (R41), is a
STATE_CONFLICT. (DEDUCED, log entry 121.) -/
def execOverride (s : State) : Host.Outcome State Fault Refusal :=
  .next (s.ockar 0x0303 [(0, 4)] fun q s =>
    let m := q.f 0 1
    let n := q.f 1 1
    let p := q.f 2 2
    if 2 < m then (s, .no stBadParam (po 0) 0)
    else if m = 2 ∧ 511 < p then (s, .no stBadParam (po 2) 0)
    else if m = 2 ∧ s.panelGone p then (s, .no stStateConflict noOff 0)
    else if m = 2 ∧ (s.panel p).seats ≤ n then (s, .no stBadParam (po 1) 0)
    else if m = 2 ∧ s.panelBolt p ≠ s.boltOf q.tidx then (s, .no stStateConflict noOff 0)
    else
      let v := match m with
        | 0 => 0
        | 1 => F.cutOvr.WITHHOLD.set (F.cutOvr.EN.set 0 1) 1
        | _ => F.cutOvr.SEAT.set (F.cutOvr.PANEL.set (F.cutOvr.EN.set 0 1) p) n
      (s.wr (cutOvrR q.tidx) v, .ok []))

/-- CUTTER_READ. -/
def execCutterRead (s : State) : Host.Outcome State Fault Refusal :=
  .next (s.ockar 0x0304 [(0, 4)] fun q s =>
    let p := q.f 0 2
    let n := q.f 2 2
    if 511 < p then (s, .no stBadParam (po 0) 0)
    else if n = 0 ∨ 504 < n ∨ 512 < p + n then (s, .no stBadParam (po 2) 0)
    else (s, .ok ((runOf p n).flatMap fun i => leBytes 8 (s.rd { kind := .cutPstat, i := i }))))

end Sys2Proof.Machine
end

