-- ==== Sys2Proof/Machine/RegRows.lean ====
section
/-! DEFINITION. Reads and writes of registers that have no row of their own (R13–R15). -/

namespace Sys2Proof.Machine

/-- Bytes of the register at an address, 8 where none lies. -/
def State.regBytes (s : State) (a : Nat) : Nat :=
  match s.target a with
  | .reg r => (r.width - 8 * (a - r.addr)) / 8
  | _ => 8

/-- REGISTER_WRITE (R13–R15): the fields whose access code lets the owner write take the value or the action; an access that
the column does not list is recorded and, on a core, faults with subcause 0x07 and the physical address.
(DESIGN CHOICE, log entry 26.) -/
def execRegisterWrite (who : RegWho) (addr : BitVec 52) (value : Word) (s : State) : Host.Outcome State Fault Refusal :=
  let a := addr.toNat
  let data := leBytes (s.regBytes a) value.toNat
  let tg := s.target a
  match who with
  | .thimble =>
    match tg with
    | .reg r => .next (s.regStore .thimble r (merged r a data (s.rd r)) (merged r a data 0))
    | _ => .next s
  | .core th =>
    match tg with
    | .reg _ | .noReg =>
      if !s.live th then .next s else
      match s.devStore th a data tg with
      | (s, .refused) => .next (s.except th 0x05 0x07 0 (s.thr th).pc (BitVec.ofNat 64 a))
      | (s, _) => .next s
    | _ => .next s

/-- REGISTER_READ_CLEAR (R13–R15): the value goes to the reader, WO and rsv fields as zero, and RC fields are cleared.
(DESIGN CHOICE, log entry 26.) -/
def execRegisterReadClear (who : RegWho) (addr : BitVec 52) (s : State) : Host.Outcome State Fault Refusal :=
  let a := addr.toNat
  let tg := s.target a
  match who with
  | .thimble =>
    match tg with
    | .reg r =>
      let (s, v) := s.regLoad .thimble r (covered r a (s.regBytes a))
      .next (s.emit (.value a v))
    | _ => .next (s.emit (.value a 0))
  | .core th =>
    match tg with
    | .reg _ | .noReg =>
      if !s.live th then .next s else
      match s.devLoad th a (s.regBytes a) tg with
      | (s, .refused) => .next (s.except th 0x04 0x07 0 (s.thr th).pc (BitVec.ofNat 64 a))
      | (s, .value v) => .next (s.emit (.value a v))
      | (s, _) => .next s
    | _ => .next s

end Sys2Proof.Machine
end

