-- ==== Sys2Proof/Machine/Dispatch.lean ====
section
/-! DEFINITION. What each command does: one arm per constructor, each a call of its meaning. -/

namespace Sys2Proof.Machine

/-- The effect of a command on everything but the queue. -/
def exec (i : Instr) (s : State) : Host.Outcome State Fault Refusal :=
  match i with
  -- Machine/Boundary.lean
  | .stitchBoundary x => Sys2Proof.Machine.execStitchBoundary x s
  -- Machine/TimeUnit.lean
  | .droppedStitch task => Sys2Proof.Machine.execDroppedStitch task s
  | .disciplineStep => Sys2Proof.Machine.execDisciplineStep s
  | .ppsIn edge => Sys2Proof.Machine.execPpsIn edge s
  | .ppsInMissing => Sys2Proof.Machine.execPpsInMissing s
  | .ref10mInLoss => Sys2Proof.Machine.execRef10mInLoss s
  | .ptpSync u sender offset => Sys2Proof.Machine.execPtpSync u sender offset s
  | .announceReceiptTimeout => Sys2Proof.Machine.execAnnounceReceiptTimeout s
  | .ptpDelayReq at_ client seq rxNs p2p => Sys2Proof.Machine.execPtpDelayReq at_ client seq rxNs p2p s
  | .holdoverLimit => Sys2Proof.Machine.execHoldoverLimit s
  | .sync p c residence offset => Sys2Proof.Machine.execSync p c residence offset s
  | .masterLoss => Sys2Proof.Machine.execMasterLoss s
  | .elect p c => Sys2Proof.Machine.execElect p c s
  | .electionEnd => Sys2Proof.Machine.execElectionEnd s
  | .linkDelayMeasurement p => Sys2Proof.Machine.execLinkDelayMeasurement p s
  | .delayReq p c residence => Sys2Proof.Machine.execDelayReq p c residence s
  -- Machine/Weft.lean
  | .delayResp p c roundTrip => Sys2Proof.Machine.execDelayResp p c roundTrip s
  -- Machine/Warp.lean
  | .boundary t stitch corr => Sys2Proof.Machine.execBoundary t stitch corr s
  | .wrpMissb t => Sys2Proof.Machine.execWrpMissb t s
  -- Machine/PanelLife.lean
  | .panelWdog p => Sys2Proof.Machine.execPanelWdog p s
  | .resetComplete p => Sys2Proof.Machine.execResetComplete p s
  | .tearComplete p => Sys2Proof.Machine.execTearComplete p s
  -- Machine/ThmCore.lean
  | .illegalInstruction th word => Sys2Proof.Machine.execIllegalInstruction th word s
  -- Machine/IsaScalar.lean
  | .add th rd ra rb w => Sys2Proof.Machine.execAdd th rd ra rb w s
  | .sub th rd ra rb w => Sys2Proof.Machine.execSub th rd ra rb w s
  | .and th rd ra rb => Sys2Proof.Machine.execAnd th rd ra rb s
  | .or th rd ra rb => Sys2Proof.Machine.execOr th rd ra rb s
  | .xor th rd ra rb => Sys2Proof.Machine.execXor th rd ra rb s
  | .andn th rd ra rb => Sys2Proof.Machine.execAndn th rd ra rb s
  | .sll th rd ra rb w => Sys2Proof.Machine.execSll th rd ra rb w s
  | .srl th rd ra rb w => Sys2Proof.Machine.execSrl th rd ra rb w s
  | .sra th rd ra rb w => Sys2Proof.Machine.execSra th rd ra rb w s
  | .ror th rd ra rb w => Sys2Proof.Machine.execRor th rd ra rb w s
  | .slt th rd ra rb => Sys2Proof.Machine.execSlt th rd ra rb s
  | .sltu th rd ra rb => Sys2Proof.Machine.execSltu th rd ra rb s
  | .min th rd ra rb => Sys2Proof.Machine.execMin th rd ra rb s
  | .max th rd ra rb => Sys2Proof.Machine.execMax th rd ra rb s
  | .minu th rd ra rb => Sys2Proof.Machine.execMinu th rd ra rb s
  | .maxu th rd ra rb => Sys2Proof.Machine.execMaxu th rd ra rb s
  | .mul th rd ra rb w => Sys2Proof.Machine.execMul th rd ra rb w s
  | .mulh th rd ra rb => Sys2Proof.Machine.execMulh th rd ra rb s
  | .mulhu th rd ra rb => Sys2Proof.Machine.execMulhu th rd ra rb s
  | .mulhsu th rd ra rb => Sys2Proof.Machine.execMulhsu th rd ra rb s
  | .div th rd ra rb w => Sys2Proof.Machine.execDiv th rd ra rb w s
  | .divu th rd ra rb w => Sys2Proof.Machine.execDivu th rd ra rb w s
  | .rem th rd ra rb w => Sys2Proof.Machine.execRem th rd ra rb w s
  | .remu th rd ra rb w => Sys2Proof.Machine.execRemu th rd ra rb w s
  | .clz th rd ra => Sys2Proof.Machine.execClz th rd ra s
  | .ctz th rd ra => Sys2Proof.Machine.execCtz th rd ra s
  | .popc th rd ra => Sys2Proof.Machine.execPopc th rd ra s
  | .bswap th rd ra => Sys2Proof.Machine.execBswap th rd ra s
  | .addi th rd ra imm => Sys2Proof.Machine.execAddi th rd ra imm s
  | .andi th rd ra imm => Sys2Proof.Machine.execAndi th rd ra imm s
  | .ori th rd ra imm => Sys2Proof.Machine.execOri th rd ra imm s
  | .xori th rd ra imm => Sys2Proof.Machine.execXori th rd ra imm s
  | .slti th rd ra imm => Sys2Proof.Machine.execSlti th rd ra imm s
  | .sltiu th rd ra imm => Sys2Proof.Machine.execSltiu th rd ra imm s
  | .lui th rd imm => Sys2Proof.Machine.execLui th rd imm s
  | .addpc th rd imm => Sys2Proof.Machine.execAddpc th rd imm s
  | .shiSll th rd ra amount => Sys2Proof.Machine.execShiSll th rd ra amount s
  | .shiSrl th rd ra amount => Sys2Proof.Machine.execShiSrl th rd ra amount s
  | .shiSra th rd ra amount => Sys2Proof.Machine.execShiSra th rd ra amount s
  | .shiRor th rd ra amount => Sys2Proof.Machine.execShiRor th rd ra amount s
  | .lb th rd ra disp => Sys2Proof.Machine.execLb th rd ra disp s
  | .lh th rd ra disp => Sys2Proof.Machine.execLh th rd ra disp s
  | .lw th rd ra disp => Sys2Proof.Machine.execLw th rd ra disp s
  | .ld th rd ra disp => Sys2Proof.Machine.execLd th rd ra disp s
  | .lbu th rd ra disp => Sys2Proof.Machine.execLbu th rd ra disp s
  | .lhu th rd ra disp => Sys2Proof.Machine.execLhu th rd ra disp s
  | .lwu th rd ra disp => Sys2Proof.Machine.execLwu th rd ra disp s
  | .sb th rs ra disp => Sys2Proof.Machine.execSb th rs ra disp s
  | .sh th rs ra disp => Sys2Proof.Machine.execSh th rs ra disp s
  | .sw th rs ra disp => Sys2Proof.Machine.execSw th rs ra disp s
  | .sd th rs ra disp => Sys2Proof.Machine.execSd th rs ra disp s
  | .beq th ra rb hint disp => Sys2Proof.Machine.execBeq th ra rb hint disp s
  | .bne th ra rb hint disp => Sys2Proof.Machine.execBne th ra rb hint disp s
  | .blt th ra rb hint disp => Sys2Proof.Machine.execBlt th ra rb hint disp s
  | .bge th ra rb hint disp => Sys2Proof.Machine.execBge th ra rb hint disp s
  | .bltu th ra rb hint disp => Sys2Proof.Machine.execBltu th ra rb hint disp s
  | .bgeu th ra rb hint disp => Sys2Proof.Machine.execBgeu th ra rb hint disp s
  | .j th disp => Sys2Proof.Machine.execJ th disp s
  | .jal th hint disp => Sys2Proof.Machine.execJal th hint disp s
  | .jalr th rd ra imm => Sys2Proof.Machine.execJalr th rd ra imm s
  | .amoSwap th rd ra rb wide => Sys2Proof.Machine.execAmoSwap th rd ra rb wide s
  | .amoAdd th rd ra rb wide => Sys2Proof.Machine.execAmoAdd th rd ra rb wide s
  | .amoAnd th rd ra rb wide => Sys2Proof.Machine.execAmoAnd th rd ra rb wide s
  | .amoOr th rd ra rb wide => Sys2Proof.Machine.execAmoOr th rd ra rb wide s
  | .amoXor th rd ra rb wide => Sys2Proof.Machine.execAmoXor th rd ra rb wide s
  | .amoMin th rd ra rb wide => Sys2Proof.Machine.execAmoMin th rd ra rb wide s
  | .amoMax th rd ra rb wide => Sys2Proof.Machine.execAmoMax th rd ra rb wide s
  | .amoMinu th rd ra rb wide => Sys2Proof.Machine.execAmoMinu th rd ra rb wide s
  | .amoMaxu th rd ra rb wide => Sys2Proof.Machine.execAmoMaxu th rd ra rb wide s
  | .amoCas th rd ra rb wide => Sys2Proof.Machine.execAmoCas th rd ra rb wide s
  -- Machine/ThmCore.lean
  | .crget th rd crn => Sys2Proof.Machine.execCrget th rd crn s
  | .crset th ra crn => Sys2Proof.Machine.execCrset th ra crn s
  | .crswp th rd ra crn => Sys2Proof.Machine.execCrswp th rd ra crn s
  | .crbs th rd ra crn => Sys2Proof.Machine.execCrbs th rd ra crn s
  | .crbc th rd ra crn => Sys2Proof.Machine.execCrbc th rd ra crn s
  -- Machine/IsaSystem.lean
  | .syscall th code => Sys2Proof.Machine.execSyscall th code s
  | .hostcall th code => Sys2Proof.Machine.execHostcall th code s
  -- Machine/ThmCore.lean
  | .eret th => Sys2Proof.Machine.execEret th s
  | .wait th boundaryWake pulse => Sys2Proof.Machine.execWait th boundaryWake pulse s
  -- Machine/IsaSystem.lean
  | .fence th => Sys2Proof.Machine.execFence th s
  | .ifsync th => Sys2Proof.Machine.execIfsync th s
  | .pbar th => Sys2Proof.Machine.execPbar th s
  | .pflush th => Sys2Proof.Machine.execPflush th s
  | .tlbinvAll th all => Sys2Proof.Machine.execTlbinvAll th all s
  | .tlbinvAsid th ra all => Sys2Proof.Machine.execTlbinvAsid th ra all s
  | .tlbinvVa th ra all => Sys2Proof.Machine.execTlbinvVa th ra all s
  | .tlbinvVaAsid th ra all => Sys2Proof.Machine.execTlbinvVaAsid th ra all s
  -- Machine/IsaVector.lean
  | .vadd th vd va vb k z w => Sys2Proof.Machine.execVadd th vd va vb k z w s
  | .vsub th vd va vb k z w => Sys2Proof.Machine.execVsub th vd va vb k z w s
  | .vand th vd va vb k z w => Sys2Proof.Machine.execVand th vd va vb k z w s
  | .vor th vd va vb k z w => Sys2Proof.Machine.execVor th vd va vb k z w s
  | .vxor th vd va vb k z w => Sys2Proof.Machine.execVxor th vd va vb k z w s
  | .vsll th vd va vb k z w => Sys2Proof.Machine.execVsll th vd va vb k z w s
  | .vsrl th vd va vb k z w => Sys2Proof.Machine.execVsrl th vd va vb k z w s
  | .vsra th vd va vb k z w => Sys2Proof.Machine.execVsra th vd va vb k z w s
  | .vmin th vd va vb k z w => Sys2Proof.Machine.execVmin th vd va vb k z w s
  | .vmax th vd va vb k z w => Sys2Proof.Machine.execVmax th vd va vb k z w s
  | .vminu th vd va vb k z w => Sys2Proof.Machine.execVminu th vd va vb k z w s
  | .vmaxu th vd va vb k z w => Sys2Proof.Machine.execVmaxu th vd va vb k z w s
  | .vmul th vd va vb k z w => Sys2Proof.Machine.execVmul th vd va vb k z w s
  | .vmulh th vd va vb k z w => Sys2Proof.Machine.execVmulh th vd va vb k z w s
  | .vaddsat th vd va vb k z w => Sys2Proof.Machine.execVaddsat th vd va vb k z w s
  | .vsubsat th vd va vb k z w => Sys2Proof.Machine.execVsubsat th vd va vb k z w s
  | .vcmpeq th kd va vb k z w => Sys2Proof.Machine.execVcmpeq th kd va vb k z w s
  | .vcmplt th kd va vb k z w => Sys2Proof.Machine.execVcmplt th kd va vb k z w s
  | .vcmpltu th kd va vb k z w => Sys2Proof.Machine.execVcmpltu th kd va vb k z w s
  | .vfadd th vd va vb k z w => Sys2Proof.Machine.execVfadd th vd va vb k z w s
  | .vfsub th vd va vb k z w => Sys2Proof.Machine.execVfsub th vd va vb k z w s
  | .vfmul th vd va vb k z w => Sys2Proof.Machine.execVfmul th vd va vb k z w s
  | .vfdiv th vd va vb k z w => Sys2Proof.Machine.execVfdiv th vd va vb k z w s
  | .vfsqrt th vd va k z w => Sys2Proof.Machine.execVfsqrt th vd va k z w s
  | .vfmin th vd va vb k z w => Sys2Proof.Machine.execVfmin th vd va vb k z w s
  | .vfmax th vd va vb k z w => Sys2Proof.Machine.execVfmax th vd va vb k z w s
  | .vfma th vd va vb k z w => Sys2Proof.Machine.execVfma th vd va vb k z w s
  | .vfms th vd va vb k z w => Sys2Proof.Machine.execVfms th vd va vb k z w s
  | .vfnma th vd va vb k z w => Sys2Proof.Machine.execVfnma th vd va vb k z w s
  | .vfcmpeq th kd va vb k z w => Sys2Proof.Machine.execVfcmpeq th kd va vb k z w s
  | .vfcmplt th kd va vb k z w => Sys2Proof.Machine.execVfcmplt th kd va vb k z w s
  | .vfcmple th kd va vb k z w => Sys2Proof.Machine.execVfcmple th kd va vb k z w s
  | .vfcvtfi th vd va k z w => Sys2Proof.Machine.execVfcvtfi th vd va k z w s
  | .vfcvtif th vd va k z w => Sys2Proof.Machine.execVfcvtif th vd va k z w s
  | .vfcvtw th vd va k z w src => Sys2Proof.Machine.execVfcvtw th vd va k z w src s
  | .vld th vd ga gb k z w => Sys2Proof.Machine.execVld th vd ga gb k z w s
  | .vst th vs ga gb k z w => Sys2Proof.Machine.execVst th vs ga gb k z w s
  | .vldb th vd ga gb k z w => Sys2Proof.Machine.execVldb th vd ga gb k z w s
  | .vgather th vd ga vb k z w => Sys2Proof.Machine.execVgather th vd ga vb k z w s
  | .vscatter th vs ga vb k z w => Sys2Proof.Machine.execVscatter th vs ga vb k z w s
  | .kld th kd ga gb w => Sys2Proof.Machine.execKld th kd ga gb w s
  | .kst th ks ga gb w => Sys2Proof.Machine.execKst th ks ga gb w s
  | .kand th kd ka kb => Sys2Proof.Machine.execKand th kd ka kb s
  | .kor th kd ka kb => Sys2Proof.Machine.execKor th kd ka kb s
  | .kxor th kd ka kb => Sys2Proof.Machine.execKxor th kd ka kb s
  | .knot th kd ka => Sys2Proof.Machine.execKnot th kd ka s
  | .ktog th rd ka => Sys2Proof.Machine.execKtog th rd ka s
  | .gtok th kd ga => Sys2Proof.Machine.execGtok th kd ga s
  | .vperm th vd va vb k z w => Sys2Proof.Machine.execVperm th vd va vb k z w s
  | .vcompress th vd va k z w => Sys2Proof.Machine.execVcompress th vd va k z w s
  | .vext th rd va gb w => Sys2Proof.Machine.execVext th rd va gb w s
  | .vins th vd ga gb w => Sys2Proof.Machine.execVins th vd ga gb w s
  | .vredadd th vd va k z w => Sys2Proof.Machine.execVredadd th vd va k z w s
  | .vredmin th vd va k z w => Sys2Proof.Machine.execVredmin th vd va k z w s
  | .vredmax th vd va k z w => Sys2Proof.Machine.execVredmax th vd va k z w s
  | .vfredadd th vd va k z w => Sys2Proof.Machine.execVfredadd th vd va k z w s
  | .vbcast th vd ga k z w => Sys2Proof.Machine.execVbcast th vd ga k z w s
  -- Machine/IsaSystem.lean
  | .interruptEntry th => Sys2Proof.Machine.execInterruptEntry th s
  | .secureInterruptEntry th => Sys2Proof.Machine.execSecureInterruptEntry th s
  | .secureInterruptWaitExpiry th => Sys2Proof.Machine.execSecureInterruptWaitExpiry th s
  | .iack th rd => Sys2Proof.Machine.execIack th rd s
  | .ieoi th ra => Sys2Proof.Machine.execIeoi th ra s
  -- Machine/RegAccess.lean
  | .icVec p v value => Sys2Proof.Machine.execIcVec p v value s
  -- Machine/HostIo.lean
  | .interruptMessage r rid data => Sys2Proof.Machine.execInterruptMessage r rid data s
  -- Machine/Coherence.lean
  | .rds t line => Sys2Proof.Machine.execRds t line s
  | .rdx t line => Sys2Proof.Machine.execRdx t line s
  | .upg t line => Sys2Proof.Machine.execUpg t line s
  | .rdio a line ctx => Sys2Proof.Machine.execRdio a line ctx s
  | .wrf a line w => Sys2Proof.Machine.execWrf a line w s
  | .wrp a line mask w => Sys2Proof.Machine.execWrp a line mask w s
  | .snpSh t line htid => Sys2Proof.Machine.execSnpSh t line htid s
  | .snpInv t line htid => Sys2Proof.Machine.execSnpInv t line htid s
  | .snpDrop t line htid => Sys2Proof.Machine.execSnpDrop t line htid s
  | .snpCpy t line htid => Sys2Proof.Machine.execSnpCpy t line htid s
  | .mrd c src line ktag hbolt req res => Sys2Proof.Machine.execMrd c src line ktag hbolt req res s
  | .mwa c src line ktag hbolt req poison wedged => Sys2Proof.Machine.execMwa c src line ktag hbolt req poison wedged s
  | .mdata dst poison => Sys2Proof.Machine.execMdata dst poison s
  | .mwack dst failed => Sys2Proof.Machine.execMwack dst failed s
  | .dataS t rtid poison => Sys2Proof.Machine.execDataS t rtid poison s
  | .dataE t rtid poison => Sys2Proof.Machine.execDataE t rtid poison s
  | .dataM t rtid poison => Sys2Proof.Machine.execDataM t rtid poison s
  -- Machine/Complete.lean
  | .dataIo a rtid poison => Sys2Proof.Machine.execDataIo a rtid poison s
  -- Machine/Coherence.lean
  | .snprespD h htid src poison => Sys2Proof.Machine.execSnprespD h htid src poison s
  | .snprespC h htid src poison => Sys2Proof.Machine.execSnprespC h htid src poison s
  | .snprespI h htid src => Sys2Proof.Machine.execSnprespI h htid src s
  | .snprespS h htid src => Sys2Proof.Machine.execSnprespS h htid src s
  | .snprespWbpend h htid src => Sys2Proof.Machine.execSnprespWbpend h htid src s
  | .wba h src line poison => Sys2Proof.Machine.execWba h src line poison s
  | .wrd h htid poison => Sys2Proof.Machine.execWrd h htid poison s
  | .gntM t rtid => Sys2Proof.Machine.execGntM t rtid s
  | .gack h htid => Sys2Proof.Machine.execGack h htid s
  | .wback t line => Sys2Proof.Machine.execWback t line s
  | .retry a rtid rsv => Sys2Proof.Machine.execRetry a rtid rsv s
  | .retryReissue a rtid => Sys2Proof.Machine.execRetryReissue a rtid s
  | .go a rtid => Sys2Proof.Machine.execGo a rtid s
  -- Machine/Complete.lean
  | .dbgo a rtid => Sys2Proof.Machine.execDbgo a rtid s
  | .cmp a rtid => Sys2Proof.Machine.execCmp a rtid s
  | .errcmp a rtid => Sys2Proof.Machine.execErrcmp a rtid s
  -- Machine/Coherence.lean
  | .crdreq k => Sys2Proof.Machine.execCrdreq k s
  | .crdgnt k => Sys2Proof.Machine.execCrdgnt k s
  | .crdret h c w => Sys2Proof.Machine.execCrdret h c w s
  | .cohTimeout atHome t id => Sys2Proof.Machine.execCohTimeout atHome t id s
  | .boltResetComplete b failed => Sys2Proof.Machine.execBoltResetComplete b failed s
  -- Machine/Warp.lean
  | .flitForward node src fails => Sys2Proof.Machine.execFlitForward node src fails s
  | .patternSwitch ni e => Sys2Proof.Machine.execPatternSwitch ni e s
  -- Machine/Complete.lean
  | .wrpTimeout a rtid => Sys2Proof.Machine.execWrpTimeout a rtid s
  -- Machine/Coherence.lean
  | .l2L3Scrub t found => Sys2Proof.Machine.execL2L3Scrub t found s
  -- Machine/OckMem.lean
  | .wayCleanComplete t => Sys2Proof.Machine.execWayCleanComplete t s
  | .rangeInvComplete p => Sys2Proof.Machine.execRangeInvComplete p s
  | .invComplete t a => Sys2Proof.Machine.execInvComplete t a s
  -- Machine/Memory.lean
  | .patrolScrub c found => Sys2Proof.Machine.execPatrolScrub c found s
  | .spareCopyComplete c bad spareBad => Sys2Proof.Machine.execSpareCopyComplete c bad spareBad s
  | .memTimeout c => Sys2Proof.Machine.execMemTimeout c s
  -- Machine/OckMem.lean
  | .potShootdownAck a => Sys2Proof.Machine.execPotShootdownAck a s
  -- Machine/Weft.lean
  | .weftFrame p f => Sys2Proof.Machine.execWeftFrame p f s
  | .pcsLock p => Sys2Proof.Machine.execPcsLock p s
  | .hello p c => Sys2Proof.Machine.execHello p c s
  | .linkBringupRestart p => Sys2Proof.Machine.execLinkBringupRestart p s
  | .cellForward src => Sys2Proof.Machine.execCellForward src s
  | .bararr c => Sys2Proof.Machine.execBararr c s
  | .barrel p c => Sys2Proof.Machine.execBarrel p c s
  | .rd64 c => Sys2Proof.Machine.execRd64 c s
  | .rd128 c => Sys2Proof.Machine.execRd128 c s
  | .wr64 c => Sys2Proof.Machine.execWr64 c s
  | .wr128 c => Sys2Proof.Machine.execWr128 c s
  | .rdresp c => Sys2Proof.Machine.execRdresp c s
  | .wack c => Sys2Proof.Machine.execWack c s
  | .wretry c => Sys2Proof.Machine.execWretry c s
  | .wftGo c => Sys2Proof.Machine.execWftGo c s
  | .werr c => Sys2Proof.Machine.execWerr c s
  | .msg c => Sys2Proof.Machine.execMsg c s
  | .eth c => Sys2Proof.Machine.execEth c s
  | .ockar c => Sys2Proof.Machine.execOckar c s
  | .linkst p c => Sys2Proof.Machine.execLinkst p c s
  | .linkstOrigination => Sys2Proof.Machine.execLinkstOrigination s
  | .linkstOriginAbsent m => Sys2Proof.Machine.execLinkstOriginAbsent m s
  | .apertureAccess => Sys2Proof.Machine.execApertureAccess s
  | .wftTimeout t => Sys2Proof.Machine.execWftTimeout t s
  -- Machine/Network.lean
  | .uplinkFrame u f fcsOk ns => Sys2Proof.Machine.execUplinkFrame u f fcsOk ns s
  | .sendDescriptor b => Sys2Proof.Machine.execSendDescriptor b s
  | .frameTransmit u ns => Sys2Proof.Machine.execFrameTransmit u ns s
  | .netBobstall b => Sys2Proof.Machine.execNetBobstall b s
  | .uplinkLinkChange u up => Sys2Proof.Machine.execUplinkLinkChange u up s
  -- Machine/HostIo.lean
  | .dmaRequest r rid q => Sys2Proof.Machine.execDmaRequest r rid q s
  | .pcieCompletion r th st data => Sys2Proof.Machine.execPcieCompletion r th st data s
  | .hioCto r => Sys2Proof.Machine.execHioCto r s
  | .hioDpc r => Sys2Proof.Machine.execHioDpc r s
  | .rootPortLinkChange r c => Sys2Proof.Machine.execRootPortLinkChange r c s
  | .flrComplete k e => Sys2Proof.Machine.execFlrComplete k e s
  -- Machine/Cxl.lean
  | .cxlResponse r write line poison => Sys2Proof.Machine.execCxlResponse r write line poison s
  | .hioCxlto r => Sys2Proof.Machine.execHioCxlto r s
  -- Machine/Cutter.lean
  | .cutterAllocation => Sys2Proof.Machine.execCutterAllocation s
  | .commitStaging => Sys2Proof.Machine.execCommitStaging s
  -- Machine/OckMisc.lean
  | .unitStateReport u cfgd what rec_ => Sys2Proof.Machine.execUnitStateReport u cfgd what rec_ s
  -- Machine/Tape.lean
  | .tapeAccumulate => Sys2Proof.Machine.execTapeAccumulate s
  -- Machine/Sign.lean
  | .sheetSign => Sys2Proof.Machine.execSheetSign s
  | .thmLate => Sys2Proof.Machine.execThmLate s
  -- Machine/Thimble.lean
  | .thimbleInterrupt => Sys2Proof.Machine.execThimbleInterrupt s
  | .xq a => Sys2Proof.Machine.execXq a s
  | .transferComplete res => Sys2Proof.Machine.execTransferComplete res s
  -- Machine/Mailbox.lean
  | .mbtake m => Sys2Proof.Machine.execMbtake m s
  | .mbdone v => Sys2Proof.Machine.execMbdone v s
  -- Machine/Thimble.lean
  | .sint v => Sys2Proof.Machine.execSint v s
  | .claimset d => Sys2Proof.Machine.execClaimset d s
  | .claimclr d => Sys2Proof.Machine.execClaimclr d s
  | .thmClaim k => Sys2Proof.Machine.execThmClaim k s
  | .twdog kick => Sys2Proof.Machine.execTwdog kick s
  | .thmSwdog => Sys2Proof.Machine.execThmSwdog s
  | .entropy exp dst => Sys2Proof.Machine.execEntropy exp dst s
  | .derive exp src dst laddr => Sys2Proof.Machine.execDerive exp src dst laddr s
  | .pushall src tag => Sys2Proof.Machine.execPushall src tag s
  | .cleartag tag => Sys2Proof.Machine.execCleartag tag s
  | .clear dst => Sys2Proof.Machine.execClear dst s
  | .ladderExport dst laddr => Sys2Proof.Machine.execLadderExport dst laddr s
  | .bind src ntt => Sys2Proof.Machine.execBind src ntt s
  | .ladderComplete => Sys2Proof.Machine.execLadderComplete s
  | .shakeEngine src dst len out => Sys2Proof.Machine.execShakeEngine src dst len out s
  | .aesEngine src dst len => Sys2Proof.Machine.execAesEngine src dst len s
  | .nttEngine op key msg dst len => Sys2Proof.Machine.execNttEngine op key msg dst len s
  | .engineComplete e => Sys2Proof.Machine.execEngineComplete e s
  | .entfail => Sys2Proof.Machine.execEntfail s
  -- Machine/OckDebug.lean
  | .debugExpiry nonce => Sys2Proof.Machine.execDebugExpiry nonce s
  -- Machine/Start.lean
  | .romBoot failures => Sys2Proof.Machine.execRomBoot failures s
  -- Machine/OckAtt.lean
  | .offerLapse p => Sys2Proof.Machine.execOfferLapse p s
  -- Machine/OckFw.lean
  | .imageEraseComplete => Sys2Proof.Machine.execImageEraseComplete s
  -- Machine/OckMisc.lean
  | .i3cMctpMessage msg => Sys2Proof.Machine.execI3cMctpMessage msg s
  | .entdaa addr => Sys2Proof.Machine.execEntdaa addr s
  | .setdasa static addr => Sys2Proof.Machine.execSetdasa static addr s
  -- Machine/OckInfo.lean
  | .sessionStepTimeout sid => Sys2Proof.Machine.execSessionStepTimeout sid s
  | .sessionIdleTimeout sid => Sys2Proof.Machine.execSessionIdleTimeout sid s
  -- Machine/OckMisc.lean
  | .commandClassBound => Sys2Proof.Machine.execCommandClassBound s
  -- Machine/OckInfo.lean
  | .info => Sys2Proof.Machine.execInfo s
  | .certFetch => Sys2Proof.Machine.execCertFetch s
  | .unitQuery => Sys2Proof.Machine.execUnitQuery s
  | .sessionOffer => Sys2Proof.Machine.execSessionOffer s
  | .sessionProof => Sys2Proof.Machine.execSessionProof s
  | .sessionKey => Sys2Proof.Machine.execSessionKey s
  | .sessionAuth => Sys2Proof.Machine.execSessionAuth s
  | .sessionClose => Sys2Proof.Machine.execSessionClose s
  -- Machine/OckDebug.lean
  | .keyStage => Sys2Proof.Machine.execKeyStage s
  | .opkeyRegister => Sys2Proof.Machine.execOpkeyRegister s
  -- Machine/OckPanel.lean
  | .build => Sys2Proof.Machine.execBuild s
  | .launch => Sys2Proof.Machine.execLaunch s
  | .pause => Sys2Proof.Machine.execPause s
  | .resume => Sys2Proof.Machine.execResume s
  | .reset => Sys2Proof.Machine.execReset s
  | .tear => Sys2Proof.Machine.execTear s
  | .panelQuery => Sys2Proof.Machine.execPanelQuery s
  | .fnAssign => Sys2Proof.Machine.execFnAssign s
  | .fnRelease => Sys2Proof.Machine.execFnRelease s
  | .memberEvent => Sys2Proof.Machine.execMemberEvent s
  | .contractSet => Sys2Proof.Machine.execContractSet s
  | .contractGet => Sys2Proof.Machine.execContractGet s
  | .override => Sys2Proof.Machine.execOverride s
  | .cutterRead => Sys2Proof.Machine.execCutterRead s
  -- Machine/OckMem.lean
  | .grant => Sys2Proof.Machine.execGrant s
  | .release => Sys2Proof.Machine.execRelease s
  | .potRead => Sys2Proof.Machine.execPotRead s
  | .l3Lock => Sys2Proof.Machine.execL3Lock s
  | .l3Unlock => Sys2Proof.Machine.execL3Unlock s
  | .rangeInv => Sys2Proof.Machine.execRangeInv s
  | .cacheDisable => Sys2Proof.Machine.execCacheDisable s
  | .cacheEnable => Sys2Proof.Machine.execCacheEnable s
  | .boltcfgSet => Sys2Proof.Machine.execBoltcfgSet s
  | .hostcfgSet => Sys2Proof.Machine.execHostcfgSet s
  | .regionSet => Sys2Proof.Machine.execRegionSet s
  | .rawRead => Sys2Proof.Machine.execRawRead s
  | .scrubSet => Sys2Proof.Machine.execScrubSet s
  | .hdmSet => Sys2Proof.Machine.execHdmSet s
  | .rpSet => Sys2Proof.Machine.execRpSet s
  -- Machine/OckNet.lean
  | .vpCreate => Sys2Proof.Machine.execVpCreate s
  | .vpRemove => Sys2Proof.Machine.execVpRemove s
  | .vpRead => Sys2Proof.Machine.execVpRead s
  | .rmacSet => Sys2Proof.Machine.execRmacSet s
  | .flowAdd => Sys2Proof.Machine.execFlowAdd s
  | .flowDel => Sys2Proof.Machine.execFlowDel s
  | .flowRead => Sys2Proof.Machine.execFlowRead s
  | .meterSet => Sys2Proof.Machine.execMeterSet s
  | .tmplSet => Sys2Proof.Machine.execTmplSet s
  | .bobCreate => Sys2Proof.Machine.execBobCreate s
  | .bobRings => Sys2Proof.Machine.execBobRings s
  | .bobReset => Sys2Proof.Machine.execBobReset s
  | .uplinkSet => Sys2Proof.Machine.execUplinkSet s
  | .vtepSet => Sys2Proof.Machine.execVtepSet s
  | .vniSet => Sys2Proof.Machine.execVniSet s
  -- Machine/OckFab.lean
  | .fabConfig => Sys2Proof.Machine.execFabConfig s
  | .portSet => Sys2Proof.Machine.execPortSet s
  | .exportAperture => Sys2Proof.Machine.execExport s
  | .unexport => Sys2Proof.Machine.execUnexport s
  | .memberSet => Sys2Proof.Machine.execMemberSet s
  | .barSet => Sys2Proof.Machine.execBarSet s
  | .barCancel => Sys2Proof.Machine.execBarCancel s
  | .routeRead => Sys2Proof.Machine.execRouteRead s
  -- Machine/OckTime.lean
  | .timeCfg => Sys2Proof.Machine.execTimeCfg s
  | .timeSet => Sys2Proof.Machine.execTimeSet s
  | .timeStep => Sys2Proof.Machine.execTimeStep s
  | .utcSet => Sys2Proof.Machine.execUtcSet s
  | .ppsdlySet => Sys2Proof.Machine.execPpsdlySet s
  | .timeRead => Sys2Proof.Machine.execTimeRead s
  | .sheetFetch => Sys2Proof.Machine.execSheetFetch s
  | .recordFetch => Sys2Proof.Machine.execRecordFetch s
  -- Machine/OckAtt.lean
  | .report => Sys2Proof.Machine.execReport s
  | .offerFetch => Sys2Proof.Machine.execOfferFetch s
  | .secretAccept => Sys2Proof.Machine.execSecretAccept s
  -- Machine/OckFw.lean
  | .imageBegin => Sys2Proof.Machine.execImageBegin s
  | .imageWrite => Sys2Proof.Machine.execImageWrite s
  | .imageCheck => Sys2Proof.Machine.execImageCheck s
  | .activate => Sys2Proof.Machine.execActivate s
  | .try => Sys2Proof.Machine.execTry s
  | .commit => Sys2Proof.Machine.execCommit s
  | .fwStatus => Sys2Proof.Machine.execFwStatus s
  | .decommission => Sys2Proof.Machine.execDecommission s
  -- Machine/OckDebug.lean
  | .ownerkeyRegister => Sys2Proof.Machine.execOwnerkeyRegister s
  -- Machine/OckMisc.lean
  | .domainSet => Sys2Proof.Machine.execDomainSet s
  | .pcapSet => Sys2Proof.Machine.execPcapSet s
  | .errFetch => Sys2Proof.Machine.execErrFetch s
  | .panelErrFetch => Sys2Proof.Machine.execPanelErrFetch s
  | .offlineRead => Sys2Proof.Machine.execOfflineRead s
  | .unitService => Sys2Proof.Machine.execUnitService s
  | .swatchRead => Sys2Proof.Machine.execSwatchRead s
  -- Machine/OckDebug.lean
  | .dbgNonce => Sys2Proof.Machine.execDbgNonce s
  | .dbgOpen => Sys2Proof.Machine.execDbgOpen s
  | .dbgConsent => Sys2Proof.Machine.execDbgConsent s
  | .dbgClose => Sys2Proof.Machine.execDbgClose s
  | .dbgauthRegister => Sys2Proof.Machine.execDbgauthRegister s
  -- Machine/OckMisc.lean
  | .testReport => Sys2Proof.Machine.execTestReport s
  -- Machine/Recovery.lean
  | .coreHang c fails => Sys2Proof.Machine.execCoreHang c fails s
  | .coreTestComplete c pass => Sys2Proof.Machine.execCoreTestComplete c pass s
  -- Machine/Reset.lean
  | .warmReset => Sys2Proof.Machine.execWarmReset s
  | .modWdog => Sys2Proof.Machine.execModWdog s
  -- Machine/Recovery.lean
  | .rasMwdog v => Sys2Proof.Machine.execRasMwdog v s
  -- Machine/Twin.lean
  | .twinCompare th sig saveFails => Sys2Proof.Machine.execTwinCompare th sig saveFails s
  | .lvqRecord th => Sys2Proof.Machine.execLvqRecord th s
  | .twinTestOutcome main mainFails chkFails => Sys2Proof.Machine.execTwinTestOutcome main mainFails chkFails s
  | .cmpreq th => Sys2Proof.Machine.execCmpreq th s
  -- Machine/Swatch.lean
  | .swatchFlush => Sys2Proof.Machine.execSwatchFlush s
  | .swatchSample temps mv lanes => Sys2Proof.Machine.execSwatchSample temps mv lanes s
  -- Machine/Power.lean
  | .domainTransitionComplete d => Sys2Proof.Machine.execDomainTransitionComplete d s
  | .wakeSource th src => Sys2Proof.Machine.execWakeSource th src s
  | .portActivity p arming => Sys2Proof.Machine.execPortActivity p arming s
  | .pllLock c => Sys2Proof.Machine.execPllLock c s
  | .grantWake => Sys2Proof.Machine.execGrantWake s
  | .pwrBrownout c => Sys2Proof.Machine.execPwrBrownout c s
  | .tlim d hotter => Sys2Proof.Machine.execTlim d hotter s
  | .thermAlertN die => Sys2Proof.Machine.execThermAlertN die s
  -- Machine/Reset.lean
  | .thermalTrip die => Sys2Proof.Machine.execThermalTrip die s
  | .pwrOk level => Sys2Proof.Machine.execPwrOk level s
  | .modResetN level => Sys2Proof.Machine.execModResetN level s
  | .undervoltageLockout held => Sys2Proof.Machine.execUndervoltageLockout held s
  | .overvoltageLockout held => Sys2Proof.Machine.execOvervoltageLockout held s
  -- Machine/Start.lean
  | .trainingComplete failures => Sys2Proof.Machine.execTrainingComplete failures s
  | .bastingComplete failures => Sys2Proof.Machine.execBastingComplete failures s
  | .loaderCopyComplete res => Sys2Proof.Machine.execLoaderCopyComplete res s
  | .fabricJoinTimeout => Sys2Proof.Machine.execFabricJoinTimeout s
  | .hostRelease => Sys2Proof.Machine.execHostRelease s
  -- Machine/Jtag.lean
  | .scanreq => Sys2Proof.Machine.execScanreq s
  | .scanClearComplete => Sys2Proof.Machine.execScanClearComplete s
  | .extest => Sys2Proof.Machine.execExtest s
  | .idcode => Sys2Proof.Machine.execIdcode s
  | .samplePreload latch => Sys2Proof.Machine.execSamplePreload latch s
  | .clamp => Sys2Proof.Machine.execClamp s
  | .highz => Sys2Proof.Machine.execHighz s
  | .dbgap th op => Sys2Proof.Machine.execDbgap th op s
  | .bypass => Sys2Proof.Machine.execBypass s
  | .dbgTrigIn halt resume => Sys2Proof.Machine.execDbgTrigIn halt resume s
  -- Machine/TimeUnit.lean
  | .tuTodS => Sys2Proof.Machine.execTuTodS s
  -- Machine/RegAccess.lean
  | .hubPwkick p v => Sys2Proof.Machine.execHubPwkick p v s
  | .hubPstateSelfreset p => Sys2Proof.Machine.execHubPstateSelfreset p s
  -- Machine/Mailbox.lean
  | .mbxDbRing p => Sys2Proof.Machine.execMbxDbRing p s
  | .mbxSlot p mask => Sys2Proof.Machine.execMbxSlot p mask s
  -- Machine/Bobbin.lean
  | .sqtail b idx => Sys2Proof.Machine.execSqtail b idx s
  | .rqtail b idx => Sys2Proof.Machine.execRqtail b idx s
  | .cqhead b idx => Sys2Proof.Machine.execCqhead b idx s
  | .arm b on => Sys2Proof.Machine.execArm b on s
  -- Machine/RegAccess.lean
  | .barArrive n => Sys2Proof.Machine.execBarArrive n s
  -- Machine/Weft.lean
  | .wpPctlRetrain p => Sys2Proof.Machine.execWpPctlRetrain p s
  -- Machine/HostIo.lean
  | .hpRpctlRetrain r => Sys2Proof.Machine.execHpRpctlRetrain r s
  -- Machine/TileRows.lean
  | .invDir t => Sys2Proof.Machine.execInvDir t s
  | .invL3 t => Sys2Proof.Machine.execInvL3 t s
  | .invL2 t => Sys2Proof.Machine.execInvL2 t s
  | .invL1 t => Sys2Proof.Machine.execInvL1 t s
  -- Machine/Warp.lean
  | .wrpPatternSel ni e sel => Sys2Proof.Machine.execWrpPatternSel ni e sel s
  -- Machine/Weft.lean
  | .wpPsel d sel unreach => Sys2Proof.Machine.execWpPsel d sel unreach s
  -- Machine/RegRows.lean
  | .registerWrite who addr value => Sys2Proof.Machine.execRegisterWrite who addr value s
  | .registerReadClear who addr => Sys2Proof.Machine.execRegisterReadClear who addr s
  -- Machine/Reset.lean
  | .thermalTripEnd => Sys2Proof.Machine.execThermalTripEnd s
  -- Machine/Power.lean
  | .thermAlertRelease => Sys2Proof.Machine.execThermAlertRelease s
  -- Machine/Weft.lean
  | .pcsLockLoss p => Sys2Proof.Machine.execPcsLockLoss p s
  -- Machine/TimeUnit.lean
  | .ptpAnnounce u domain a => Sys2Proof.Machine.execPtpAnnounce u domain a s
  | .ptpServiceMessage at_ => Sys2Proof.Machine.execPtpServiceMessage at_ s
  -- Machine/Thimble.lean
  | .entropyHealthPass => Sys2Proof.Machine.execEntropyHealthPass s
  -- Machine/TimeUnit.lean
  | .ref10mInReturn => Sys2Proof.Machine.execRef10mInReturn s
  -- Machine/Jtag.lean
  | .trstN => Sys2Proof.Machine.execTrstN s

end Sys2Proof.Machine
end

