-- ==== Sys2Proof/Machine/Step.lean ====
section
/-! DEFINITION. One step: the command at the front of the queue runs. -/

namespace Sys2Proof.Machine

/-- The front command's effect, with the queue's rest; with no command waiting the module idles. A command
stands for its event whenever it comes, and one whose event cannot occur changes nothing.
(DESIGN CHOICE, log entry 2; DESIGN CHOICE, log entry 7; DESIGN CHOICE, log entry 98.) -/
def step (s : State) : Host.Outcome State Fault Refusal :=
  match s.pending with
  | [] => .next s
  | c :: rest => exec c { s with pending := rest }

/-- `s` with the command that a word spells at the front of its queue; unchanged where the word spells none.
(DESIGN CHOICE, log entry 5.) -/
def State.withFetchWord (s : State) (nbits w : Nat) : State :=
  match decodeTableWord nbits w with
  | some c => { s with pending := c :: s.pending }
  | none => s

end Sys2Proof.Machine
end

