-- ==== Sys2Proof/Machine/Messages.lean ====
section
/-! DEFINITION. The coherence messages as Warp flits (R163, R166, R189): opcodes and classes of Table COH-7, the payload of a
control flit (Table COH-8), the payload of a data flit, pairs; and a directory entry as its 160 stored bits (Table COH-5). -/

namespace Sys2Proof.Machine

/-- The opcode of a message (Table COH-7; BOUNDARY by R198). -/
def WarpOp.code : WarpOp → Nat
  | .rds => 0x01 | .rdx => 0x02 | .upg => 0x03 | .rdio => 0x04 | .wrf => 0x05 | .wrp => 0x06
  | .snpSh => 0x10 | .snpInv => 0x11 | .snpDrop => 0x12 | .snpCpy => 0x13 | .mrd => 0x14
  | .dataS => 0x20 | .dataE => 0x21 | .dataM => 0x22 | .dataIo => 0x23 | .snprespD => 0x24 | .snprespC => 0x25
  | .wba => 0x26 | .wrd => 0x28 | .mwa => 0x29 | .mdata => 0x2B
  | .gntM => 0x30 | .gack => 0x31 | .snprespI => 0x32 | .snprespS => 0x33 | .snprespWbpend => 0x34 | .wback => 0x35
  | .retry => 0x36 | .go => 0x37 | .dbgo => 0x38 | .cmp => 0x39 | .errcmp => 0x3A | .mwack => 0x3B
  | .crdreq => 0x3C | .crdgnt => 0x3D | .crdret => 0x3E | .boundary => 0x3F

/-- The class of a message (Tables COH-7 and COH-11). -/
def WarpOp.cls : WarpOp → Nat
  | .rds | .rdx | .upg | .rdio | .wrf | .wrp => 4
  | .snpSh | .snpInv | .snpDrop | .snpCpy | .mrd => 3
  | .dataS | .dataE | .dataM | .dataIo | .snprespD | .snprespC | .wba | .wrd | .mwa | .mdata => 2
  | .gntM | .gack | .snprespI | .snprespS | .snprespWbpend | .wback | .retry | .go | .dbgo | .cmp | .errcmp | .mwack => 1
  | .crdreq | .crdgnt | .crdret | .boundary => 0

/-- The messages whose flit carries 64 bytes of data; the first flit of a pair carries its address. -/
def WarpOp.hasData : WarpOp → Bool
  | .dataS | .dataE | .dataM | .dataIo | .snprespD | .snprespC | .wrd | .mdata => true
  | _ => false

/-- The address flits of a pair; the data flit has the next opcode (R163). -/
def WarpOp.isPair : WarpOp → Bool
  | .wba | .mwa => true
  | _ => false

/-- The fields of a control flit (Table COH-8). -/
structure Control where
  line  : Nat
  mask  : Nat
  rtid  : Nat
  htid  : Nat
  req   : Nat
  rcnt  : Nat
  rsv   : Bool
  ktag  : Nat
  hbolt : Nat
  deriving DecidableEq, Repr

/-- Its 64 payload bytes as a number, byte 0 in bits [7:0]. -/
def Control.payload (c : Control) : Nat :=
  c.line % 2 ^ 46 * 2 ^ 6 + c.mask % 2 ^ 64 * 2 ^ 64 + c.rtid % 256 * 2 ^ 128 + c.htid % 256 * 2 ^ 136 + c.req % 256 * 2 ^ 144 +
    (min 8 c.rcnt * 16 + b2n c.rsv * 2) * 2 ^ 152 + c.ktag % 512 * 2 ^ 160 + c.hbolt % 256 * 2 ^ 176

/-- The endpoint ID of an end of a message, as the module's outputs number it: agents by their ID, homes from 256, channels from
512; a CXL root port stands behind its host-port controller. -/
def endpointOf (n : Nat) : Nat :=
  if n < 256 then n else if n < 512 then n - 256 else if n < 536 then 200 + (n - 512) else 194 + (n - 536) / 4

/-- A flit's header without its route word, which the interface writes (Table WRP-3). -/
def flitHead (code cls src tid : Nat) (poison pair : Bool) : BitVec 64 :=
  BitVec.ofNat 64 (hTID.set (hSRC.set (hOPCODE.set (hPAIR.set (setBits (hCLASS.set 0 cls) 25 25 (b2n poison)) (b2n pair)) code) src) tid)

/-- The flit of a request as a home receives it. -/
def HomeReq.flit (q : HomeReq) (op : WarpOp) (mask hbolt : Nat) : Flit :=
  { head := flitHead op.code 4 q.agent q.rtid false false
    data := BitVec.ofNat 512 (Control.payload { line := q.line, mask := mask, rtid := q.rtid, htid := 0xFF, req := q.agent
                                                rcnt := q.rcnt, rsv := q.rsv, ktag := q.ktag, hbolt := hbolt }) }

/-- The payload of a BOUNDARY flit (Table WRP-7): the stitch, CORR and LEAD. -/
def boundaryPayload (more : List Nat) : Nat :=
  more.getD 0 0 % 2 ^ 64 + more.getD 1 0 % 2 ^ 32 * 2 ^ 64 + more.getD 2 0 % 2 ^ 32 * 2 ^ 96

/-- The flits of a message of the module (R163): one, or the two of a pair. A response names its requester's entry toward a requester
and the home's toward a home; the data of a line are its bytes. -/
def State.flits (s : State) : Out → List Flit
  | .warp op src dst tid line poison more =>
    let e := endpointOf src
    let toHome := 256 ≤ dst
    let ctl : Control := { line := line, mask := 0, rtid := if toHome then 0xFF else tid, htid := if toHome then tid else 0xFF
                           req := if toHome then e else dst, rcnt := 0, rsv := op = .retry ∧ more = [1]
                           ktag := match op with | .mwa | .wba => more.headD 0 | .mrd => more.headD 0 | _ => s.lineOwner line
                           hbolt := s.homeBolt line }
    let bytes := ofLeBytes (s.bytes (line * 64) 64)
    let head := fun (code : Nat) (pair : Bool) => flitHead code op.cls e tid poison pair
    if op.isPair then
      [{ head := head op.code true, data := BitVec.ofNat 512 ctl.payload }, { head := head (op.code + 1) false, data := BitVec.ofNat 512 bytes }]
    else [{ head := head op.code false
            data := BitVec.ofNat 512 (if op.hasData then bytes else if op = .boundary then boundaryPayload more else ctl.payload) }]
  | _ => []

/-- A directory entry as it is stored (Table COH-5): its fields, and check bits over bits [143:0] by a DEC-TED code that the manual
does not give: free. (DESIGN CHOICE, log entry 128.) -/
def DirEnt.word (d : DirEnt) (line : Nat) : Nat :=
  let st := match d.st with | .i => 0 | .sh => 1 | .em => 2
  let own := if d.st = .em then d.owner % 256 else 0
  let shr := if d.st = .sh then d.sharers % 2 ^ 64 else 0
  let w := shr + d.busy.getD 0 % 64 * 2 ^ 64 + b2n d.busy.isSome * 2 ^ 70 + own * 2 ^ 71 + st * 2 ^ 79 + line / 2 % 2 ^ 45 * 2 ^ 82 +
    d.ktag % 512 * 2 ^ 127
  w + (Config.dirCheck w % 2 ^ 16) * 2 ^ 144

end Sys2Proof.Machine
end

