-- ==== Sys2Proof/Safety.lean ====
section
/-! DEFINITION. What a safe state is, in the terms that claims use. -/

namespace Sys2Proof.Machine

/-- Every thread of a core and of the Thimble core stands at a multiple of four. -/
def State.pcAligned (s : State) : Prop := ∀ th : Fin 385, (s.thr th.val).pc.toNat % 4 = 0

/-- A program counter that is a multiple of four, at a thread's start, at its last checkpoint. -/
def Core.aligned (c : Core) : Bool :=
  c.thr0.pc.toNat % 4 == 0 && c.thr1.pc.toNat % 4 == 0

/-- A step neither faults nor is refused. -/
def State.steps (s : State) : Prop := ∃ t, step s = .next t

/-! ### What an instruction leaves alone -/

/-- The performance counters PMC0 to PMC7 (Table ISA-9), which advance with what the core does. -/
def isPmc (n : Nat) : Bool := decide (0x080 ≤ n) && decide (n ≤ 0x087)

/-- From `x` to `y` no register of a thread has changed but those named: general registers `gs`, vector registers `vs`, mask
registers `ks`, control registers `cs`, and the performance counters. -/
def Thread.keeps (x y : Thread) (gs vs ks cs : List Nat) : Prop :=
  (∀ r, r ∉ gs → y.gr r = x.gr r) ∧ (∀ r, r ∉ vs → y.vr r = x.vr r) ∧ (∀ r, r ∉ ks → y.kr r = x.kr r) ∧
  (∀ n, n ∉ cs → isPmc n = false → y.cr0 n = x.cr0 n)

/-- From `s` to `t` nothing outside the cores has changed: no memory byte, no memory-mapped register, no other unit. (The
count of free values used is the model's own.) -/
def State.coresOnly (s t : State) : Prop := { t with cores := s.cores, fresh := s.fresh } = s

/-- An instruction of thread `th` has run and retired with its next pc `pc`: nothing has changed but the named registers of
the thread, its pc and counters, and its core's prediction state. -/
def State.ran (s t : State) (th : Nat) (pc : Word) (gs vs ks cs : List Nat) : Prop :=
  s.coresOnly t ∧ (∀ k, k ≠ th → t.thr k = s.thr k) ∧
  (∀ c, (t.core c).seat = (s.core c).seat ∧ (t.core c).tlb = (s.core c).tlb ∧ (t.core c).held = (s.core c).held) ∧
  (t.thr th).pc = pc ∧ (s.thr th).keeps (t.thr th) gs vs ks cs

/-! ### When an instruction runs -/

/-- The next instruction of thread `th` runs in `s`, and `u` is the state in which its own effect starts: the thread executes
(R85), no imprecise machine check is due (R409), and the fetch ends without a fault (R95), after the thread's own buffered
stores to its line are visible (R127). On the Thimble core no interrupt is due (R341) and the
fetch has no translation (R340). (DESIGN CHOICE, log entry 6.) -/
def State.startsIn (s : State) (th : Nat) (u : State) : Prop :=
  if th = thmThread then
    u = s ∧ s.thmDue = false ∧ s.thmLive = true ∧ (inRom (s.thr th).pc.toNat 4 || inSram (s.thr th).pc.toNat 4) = true
  else
    (s.applyDebug th).live th = true ∧ ((s.applyDebug th).thr th).imprecise = none ∧
    ∃ v a, (s.applyDebug th).translate th .fetch ((s.applyDebug th).thr th).pc true = (v, .ok a) ∧ v.poisoned a.pa 4 = false ∧
      (v.core (th / 2)).held.any (fun h => h.thread == th % 2 && h.pa / 64 == a.pa / 64) = false ∧
      ∃ r, (v.fetchWait th a.pa).fetchReach th a = (u, r) ∧ r ≠ .wait

end Sys2Proof.Machine
end

