-- ==== Sys2Proof/Certificates/Slice0/Obligations.lean ====
section
/-! DEFINITION. The statements for the provers, from the manual's numbered rules. `Sys2Proof.Spec` holds the manual's tables
as relations: what an instruction is to leave, row by row. -/

/-! ### Tables ISA-3, ISA-4 and the immediate group: what `rd` receives -/

namespace Sys2Proof.Spec
open Sys2Proof Sys2Proof.Machine

/-- A W = 1 form (R66): bits [31:0] of the sources, the 32-bit result sign-extended. -/
def low32 (f : BitVec 32 → BitVec 32 → BitVec 32) (a b : Word) : Word := (f (a.setWidth 32) (b.setWidth 32)).signExtend 64

/-- Signed division of Table ISA-3 with the fixed results of R67, at any width. -/
def quotS {n : Nat} (a b : BitVec n) : BitVec n :=
  if b = 0 then BitVec.allOnes n else if a = BitVec.intMin n ∧ b = BitVec.allOnes n then a
  else BitVec.ofInt n (a.toInt.tdiv b.toInt)
/-- Signed remainder. -/
def remdS {n : Nat} (a b : BitVec n) : BitVec n :=
  if b = 0 then a else if a = BitVec.intMin n ∧ b = BitVec.allOnes n then 0 else BitVec.ofInt n (a.toInt.tmod b.toInt)
/-- Unsigned division and remainder. -/
def quotU {n : Nat} (a b : BitVec n) : BitVec n :=
  if b = 0 then BitVec.allOnes n else BitVec.ofNat n (a.toNat / b.toNat)
def remdU {n : Nat} (a b : BitVec n) : BitVec n := if b = 0 then a else BitVec.ofNat n (a.toNat % b.toNat)

/-- One row per operation: the instruction of thread `th` with destination `rd`, and the value of the destination as a function of
the thread's registers before it. -/
inductive ScalarRow (th : AnyThr) (rd ra rb : GIdx) (imm : BitVec 16) : Instr → (Thread → Word) → Prop where
  | add : ScalarRow th rd ra rb imm (.add th rd ra rb false) fun x => x.gr ra + x.gr rb
  | addW : ScalarRow th rd ra rb imm (.add th rd ra rb true) fun x => low32 (· + ·) (x.gr ra) (x.gr rb)
  | sub : ScalarRow th rd ra rb imm (.sub th rd ra rb false) fun x => x.gr ra - x.gr rb
  | subW : ScalarRow th rd ra rb imm (.sub th rd ra rb true) fun x => low32 (· - ·) (x.gr ra) (x.gr rb)
  | and : ScalarRow th rd ra rb imm (.and th rd ra rb) fun x => x.gr ra &&& x.gr rb
  | or : ScalarRow th rd ra rb imm (.or th rd ra rb) fun x => x.gr ra ||| x.gr rb
  | xor : ScalarRow th rd ra rb imm (.xor th rd ra rb) fun x => x.gr ra ^^^ x.gr rb
  | andn : ScalarRow th rd ra rb imm (.andn th rd ra rb) fun x => x.gr ra &&& ~~~x.gr rb
  | sll : ScalarRow th rd ra rb imm (.sll th rd ra rb false) fun x => x.gr ra <<< ((x.gr rb).toNat % 64)
  | sllW : ScalarRow th rd ra rb imm (.sll th rd ra rb true) fun x => low32 (fun a b => a <<< (b.toNat % 32)) (x.gr ra) (x.gr rb)
  | srl : ScalarRow th rd ra rb imm (.srl th rd ra rb false) fun x => x.gr ra >>> ((x.gr rb).toNat % 64)
  | srlW : ScalarRow th rd ra rb imm (.srl th rd ra rb true) fun x => low32 (fun a b => a >>> (b.toNat % 32)) (x.gr ra) (x.gr rb)
  | sra : ScalarRow th rd ra rb imm (.sra th rd ra rb false) fun x => (x.gr ra).sshiftRight ((x.gr rb).toNat % 64)
  | sraW : ScalarRow th rd ra rb imm (.sra th rd ra rb true) fun x =>
      low32 (fun a b => a.sshiftRight (b.toNat % 32)) (x.gr ra) (x.gr rb)
  | ror : ScalarRow th rd ra rb imm (.ror th rd ra rb false) fun x => (x.gr ra).rotateRight ((x.gr rb).toNat % 64)
  | rorW : ScalarRow th rd ra rb imm (.ror th rd ra rb true) fun x =>
      low32 (fun a b => a.rotateRight (b.toNat % 32)) (x.gr ra) (x.gr rb)
  | slt : ScalarRow th rd ra rb imm (.slt th rd ra rb) fun x => if (x.gr ra).toInt < (x.gr rb).toInt then 1 else 0
  | sltu : ScalarRow th rd ra rb imm (.sltu th rd ra rb) fun x => if (x.gr ra).toNat < (x.gr rb).toNat then 1 else 0
  | min : ScalarRow th rd ra rb imm (.min th rd ra rb) fun x => if (x.gr ra).toInt ≤ (x.gr rb).toInt then x.gr ra else x.gr rb
  | max : ScalarRow th rd ra rb imm (.max th rd ra rb) fun x => if (x.gr ra).toInt ≤ (x.gr rb).toInt then x.gr rb else x.gr ra
  | minu : ScalarRow th rd ra rb imm (.minu th rd ra rb) fun x => if (x.gr ra).toNat ≤ (x.gr rb).toNat then x.gr ra else x.gr rb
  | maxu : ScalarRow th rd ra rb imm (.maxu th rd ra rb) fun x => if (x.gr ra).toNat ≤ (x.gr rb).toNat then x.gr rb else x.gr ra
  | mul : ScalarRow th rd ra rb imm (.mul th rd ra rb false) fun x => BitVec.ofInt 64 ((x.gr ra).toInt * (x.gr rb).toInt)
  | mulW : ScalarRow th rd ra rb imm (.mul th rd ra rb true) fun x =>
      low32 (fun a b => BitVec.ofInt 32 (a.toInt * b.toInt)) (x.gr ra) (x.gr rb)
  | mulh : ScalarRow th rd ra rb imm (.mulh th rd ra rb) fun x => BitVec.ofInt 64 ((x.gr ra).toInt * (x.gr rb).toInt / 2 ^ 64)
  | mulhu : ScalarRow th rd ra rb imm (.mulhu th rd ra rb) fun x => BitVec.ofNat 64 ((x.gr ra).toNat * (x.gr rb).toNat / 2 ^ 64)
  | mulhsu : ScalarRow th rd ra rb imm (.mulhsu th rd ra rb) fun x => BitVec.ofInt 64 ((x.gr ra).toInt * (x.gr rb).toNat / 2 ^ 64)
  | div : ScalarRow th rd ra rb imm (.div th rd ra rb false) fun x => quotS (x.gr ra) (x.gr rb)
  | divW : ScalarRow th rd ra rb imm (.div th rd ra rb true) fun x => low32 quotS (x.gr ra) (x.gr rb)
  | divu : ScalarRow th rd ra rb imm (.divu th rd ra rb false) fun x => quotU (x.gr ra) (x.gr rb)
  | divuW : ScalarRow th rd ra rb imm (.divu th rd ra rb true) fun x => low32 quotU (x.gr ra) (x.gr rb)
  | rem : ScalarRow th rd ra rb imm (.rem th rd ra rb false) fun x => remdS (x.gr ra) (x.gr rb)
  | remW : ScalarRow th rd ra rb imm (.rem th rd ra rb true) fun x => low32 remdS (x.gr ra) (x.gr rb)
  | remu : ScalarRow th rd ra rb imm (.remu th rd ra rb false) fun x => remdU (x.gr ra) (x.gr rb)
  | remuW : ScalarRow th rd ra rb imm (.remu th rd ra rb true) fun x => low32 remdU (x.gr ra) (x.gr rb)
  | addi : ScalarRow th rd ra rb imm (.addi th rd ra imm) fun x => x.gr ra + imm.signExtend 64
  | andi : ScalarRow th rd ra rb imm (.andi th rd ra imm) fun x => x.gr ra &&& imm.zeroExtend 64
  | ori : ScalarRow th rd ra rb imm (.ori th rd ra imm) fun x => x.gr ra ||| imm.zeroExtend 64
  | xori : ScalarRow th rd ra rb imm (.xori th rd ra imm) fun x => x.gr ra ^^^ imm.zeroExtend 64
  | slti : ScalarRow th rd ra rb imm (.slti th rd ra imm) fun x => if (x.gr ra).toInt < imm.toInt then 1 else 0
  | sltiu : ScalarRow th rd ra rb imm (.sltiu th rd ra imm) fun x => if (x.gr ra).toNat < (imm.signExtend 64).toNat then 1 else 0
  | lui : ScalarRow th rd ra rb imm (.lui th rd imm) fun _ => imm.signExtend 64 <<< 16
  | addpc : ScalarRow th rd ra rb imm (.addpc th rd imm) fun x => x.pc + (imm.signExtend 64 <<< 16)
  | shiSll {n : Fin 64} : ScalarRow th rd ra rb imm (.shiSll th rd ra (.full n)) fun x => x.gr ra <<< n.val
  | shiSllW {n : Fin 32} : ScalarRow th rd ra rb imm (.shiSll th rd ra (.word n)) fun x => ((x.gr ra).setWidth 32 <<< n.val).signExtend 64
  | shiSrl {n : Fin 64} : ScalarRow th rd ra rb imm (.shiSrl th rd ra (.full n)) fun x => x.gr ra >>> n.val
  | shiSrlW {n : Fin 32} : ScalarRow th rd ra rb imm (.shiSrl th rd ra (.word n)) fun x => ((x.gr ra).setWidth 32 >>> n.val).signExtend 64
  | shiSra {n : Fin 64} : ScalarRow th rd ra rb imm (.shiSra th rd ra (.full n)) fun x => (x.gr ra).sshiftRight n.val
  | shiSraW {n : Fin 32} : ScalarRow th rd ra rb imm (.shiSra th rd ra (.word n)) fun x =>
      (((x.gr ra).setWidth 32).sshiftRight n.val).signExtend 64
  | shiRor {n : Fin 64} : ScalarRow th rd ra rb imm (.shiRor th rd ra (.full n)) fun x => (x.gr ra).rotateRight n.val
  | shiRorW {n : Fin 32} : ScalarRow th rd ra rb imm (.shiRor th rd ra (.word n)) fun x =>
      (((x.gr ra).setWidth 32).rotateRight n.val).signExtend 64

/-- The predicate of a conditional branch (R69). -/
inductive BranchRow (th : AnyThr) (ra rb : GIdx) (h : Bool) (d : BitVec 15) : Instr → (Word → Word → Prop) → Prop where
  | beq : BranchRow th ra rb h d (.beq th ra rb h d) fun a b => a = b
  | bne : BranchRow th ra rb h d (.bne th ra rb h d) fun a b => a ≠ b
  | blt : BranchRow th ra rb h d (.blt th ra rb h d) fun a b => a.toInt < b.toInt
  | bge : BranchRow th ra rb h d (.bge th ra rb h d) fun a b => b.toInt ≤ a.toInt
  | bltu : BranchRow th ra rb h d (.bltu th ra rb h d) fun a b => a.toNat < b.toNat
  | bgeu : BranchRow th ra rb h d (.bgeu th ra rb h d) fun a b => b.toNat ≤ a.toNat

end Sys2Proof.Spec

open Sys2Proof Sys2Proof.Machine Sys2Proof.Spec

/-- Every integer operation of Tables ISA-3 and ISA-4 and of the immediate group gives `rd` the value its row states, g0
staying zero; the pc moves on by four, and no other register, no byte of memory and nothing else of the module changes.
The operations never trap (R67). -/
def Sys2Proof.Spec.IntegerOperations : Prop :=
  ∀ th rd ra rb imm i f, ScalarRow th rd ra rb imm i f → ∀ s u : State, s.startsIn th u →
    ∃ t, exec i s = .next t ∧ (t.thr th).gr rd = (if rd.val = 0 then 0 else f (u.thr th)) ∧
      u.ran t th ((u.thr th).pc + 4) [rd] [] [] [] ∧ ∀ a, t.byte a = u.byte a

/-- CLZ, CTZ, POPC and BSWAP (Table ISA-3, R67): the counts of zeros that stand above the highest and below the lowest set
bit, 64 for zero; the number of set bits; and the bytes in reverse order. -/
def Sys2Proof.Spec.BitCounts : Prop :=
  ∀ (th : AnyThr) (rd ra : GIdx) (s u : State), s.startsIn th u →
    let a := (u.thr th).gr ra
    let gives := fun (i : Instr) (P : BitVec 64 → Prop) => ∃ t, exec i s = .next t ∧
      u.ran t th ((u.thr th).pc + 4) [rd] [] [] [] ∧ (∀ b, t.byte b = u.byte b) ∧
      (rd.val = 0 → (t.thr th).gr rd = 0) ∧ (rd.val ≠ 0 → P ((t.thr th).gr rd))
    gives (.clz th rd ra) (fun v => let c := v.toNat
      c ≤ 64 ∧ (∀ j, 64 - c ≤ j → a.getLsbD j = false) ∧ (c < 64 → a.getLsbD (63 - c) = true)) ∧
    gives (.ctz th rd ra) (fun v => let c := v.toNat
      c ≤ 64 ∧ (∀ j, j < c → a.getLsbD j = false) ∧ (c < 64 → a.getLsbD c = true)) ∧
    gives (.popc th rd ra) (fun v => v.toNat = ((List.range 64).filter fun j => a.getLsbD j).length) ∧
    gives (.bswap th rd ra) (fun v => ∀ j, j < 8 → v.extractLsb' (8 * j) 8 = a.extractLsb' (8 * (7 - j)) 8)

/-- How the prediction of a control transfer comes out (R109, R110): in `w` the wrong path of a wrong one has left its traces, in which no
register of the thread and no byte of memory has changed; after a right one, and on the Thimble core, nothing has. -/
def Sys2Proof.Spec.resolved (u w : State) (th low : Nat) (wrong : Bool) : Prop :=
  w = u.resolve th low wrong ∧ (wrong = false ∨ th = thmThread → w = u) ∧
  (u.thr th).keeps (w.thr th) [] [] [] [] ∧ (w.thr th).pc = (u.thr th).pc ∧ ∀ a, w.byte a = u.byte a

/-- The direction a conditional branch is predicted to take (R100): its hint, reversed by an entry of the current generation with C of
four or more while OVREN = 1. -/
def Sys2Proof.Spec.foreseen (u : State) (th : Nat) (h : Bool) : Bool :=
  let c := u.core (th / 2)
  let e := SMap.get (fun _ => ((0 : Nat), (0 : Nat))) c.overrides (bits (u.thr th).pc.toNat 14 2)
  if (u.thr th).crFld 0x030 F.crHINTCTL.OVREN = 1 ∧ e.2 = c.pgen ∧ 4 ≤ e.1 then !h else h

/-- A conditional branch goes to its own address plus four times its sign-extended displacement when its comparison
holds, and to the next instruction otherwise, whatever its hint and its prediction; no register and no byte of memory changes. -/
def Sys2Proof.Spec.BranchTargets : Prop :=
  ∀ th ra rb h d i P, BranchRow th ra rb h d i P → ∀ s u : State, s.startsIn th u → ∀ taken : Bool,
    (taken = true ↔ P ((u.thr th).gr ra) ((u.thr th).gr rb)) →
    ∃ t w, exec i s = .next t ∧ resolved u w th 1 (foreseen u th h != taken) ∧
      ∃ pc, w.ran t th pc [] [] [] [] ∧ (∀ a, t.byte a = u.byte a) ∧
      (P ((u.thr th).gr ra) ((u.thr th).gr rb) → pc = (u.thr th).pc + d.signExtend 64 * 4) ∧
      (¬P ((u.thr th).gr ra) ((u.thr th).gr rb) → pc = (u.thr th).pc + 4)

/-- A conditional branch of a thread with OVREN = 1 trains the entry of bits [14:2] of its address as R101 says: a stale
entry starts from C = 0 under the current generation, a contrary outcome counts up to 7, an agreeing one down to 0. With
OVREN = 0 no entry changes. After a wrong prediction the entries are those that the wrong path has left (R110). -/
def Sys2Proof.Spec.BranchTraining : Prop :=
  ∀ th ra rb h d i P, BranchRow th ra rb h d i P → ∀ s u : State, s.startsIn th u → th.val ≠ thmThread → ∀ taken : Bool,
    (taken = true ↔ P ((u.thr th).gr ra) ((u.thr th).gr rb)) →
    let w := u.resolve th 1 (foreseen u th h != taken)
    let c := w.core (th.val / 2)
    let k := bits (u.thr th).pc.toNat 14 2
    let e := fun (x : Core) j => SMap.get (fun _ => ((0 : Nat), (0 : Nat))) x.overrides j
    let old := if (e c k).2 = c.pgen then (e c k).1 else 0
    ∃ t, exec i s = .next t ∧ (t.core (th.val / 2)).pgen = c.pgen ∧ (∀ j, j ≠ k → e (t.core (th.val / 2)) j = e c j) ∧
      if (u.thr th).crFld 0x030 F.crHINTCTL.OVREN = 1 then
        (e (t.core (th.val / 2)) k).2 = c.pgen ∧
        (taken = h → (e (t.core (th.val / 2)) k).1 = old - 1) ∧
        (taken ≠ h → (e (t.core (th.val / 2)) k).1 = Nat.min (old + 1) 7)
      else e (t.core (th.val / 2)) k = e c k

/-- J, JAL and JALR (R70): the target, and the return address that JAL leaves in g1 and JALR in rd; JALR reads ra before it
writes rd. A JALR is predicted from the return stack or the indirect target cache (R103, R104); J and JAL never wrongly. -/
def Sys2Proof.Spec.JumpTargets : Prop :=
  ∀ (th : AnyThr) (s u : State), s.startsIn th u →
    (∀ d, ∃ t, exec (.j th d) s = .next t ∧ u.ran t th ((u.thr th).pc + d.signExtend 64 * 4) [] [] [] [] ∧
      ∀ a, t.byte a = u.byte a) ∧
    (∀ h d, ∃ t, exec (.jal th h d) s = .next t ∧ u.ran t th ((u.thr th).pc + d.signExtend 64 * 4) [1] [] [] [] ∧
      (t.thr th).gr 1 = (u.thr th).pc + 4 ∧ ∀ a, t.byte a = u.byte a) ∧
    (∀ (rd ra : GIdx) (imm : BitVec 16), ∃ t w pc, exec (.jalr th rd ra imm) s = .next t ∧
      (let isRet := rd.val = 0 ∧ ra.val = 1 ∧ imm = 0
       let goes := bits ((u.thr th).gr ra + imm.signExtend 64).toNat 56 2
       let x := u.thr th
       let c := u.core (th.val / 2)
       let told := fun n : Nat => if isRet then x.crFld 0x030 F.crHINTCTL.RSEN = 1 ∧ x.retStack.head? = some (n, true)
         else x.crFld 0x030 F.crHINTCTL.ITCEN = 1 ∧ SMap.get (fun _ => none) c.itc (bits x.pc.toNat 13 2) = some (n, c.pgen)
       (∀ n, told n → resolved u w th (if rd.val = 1 then 0 else if isRet then 2 else 1) (n != goes)) ∧
       ((∀ n, ¬told n) → w = u)) ∧
      w.ran t th pc [rd] [] [] [] ∧
      pc.toNat % 4 = 0 ∧ pc.toNat / 4 = ((u.thr th).gr ra + imm.signExtend 64).toNat / 4 ∧
      (t.thr th).gr rd = (if rd.val = 0 then 0 else (u.thr th).pc + 4) ∧ ∀ a, t.byte a = u.byte a)

/-- The integer operations (R67, Tables ISA-3 and ISA-4).
Model's choices that it rests on: log entries 6, 15, 18. -/
def Obligations.ScalarResults : Prop := Spec.IntegerOperations ∧ Spec.BitCounts

/-- The corner cases of the integer operations (R67): none of the operations traps; a zero divisor gives all ones for DIV and
DIVU, and the dividend for REM and REMU; the most negative value divided by −1 gives itself for DIV and zero for REM; the W
forms do so at 32 bits; CLZ and CTZ of zero give 64. -/
def Obligations.IntegerCorners : Prop :=
  (∀ th rd ra rb imm i f, ScalarRow th rd ra rb imm i f → ∀ s u : State, s.startsIn th u →
    ∃ t, exec i s = .next t ∧ u.ran t th ((u.thr th).pc + 4) [rd] [] [] []) ∧
  ∀ (th : AnyThr) (rd ra rb : GIdx) (s u : State), s.startsIn th u → rd.val ≠ 0 →
    let a := (u.thr th).gr ra
    let b := (u.thr th).gr rb
    let a32 := a.setWidth 32
    let b32 := b.setWidth 32
    let gives := fun (i : Instr) (v : Word) =>
      ∃ t, exec i s = .next t ∧ u.ran t th ((u.thr th).pc + 4) [rd] [] [] [] ∧ (t.thr th).gr rd = v
    (b = 0 → gives (.div th rd ra rb false) (BitVec.allOnes 64) ∧ gives (.divu th rd ra rb false) (BitVec.allOnes 64) ∧
      gives (.rem th rd ra rb false) a ∧ gives (.remu th rd ra rb false) a) ∧
    (a = BitVec.intMin 64 → b = BitVec.allOnes 64 → gives (.div th rd ra rb false) a ∧ gives (.rem th rd ra rb false) 0) ∧
    (b32 = 0 → gives (.div th rd ra rb true) (BitVec.allOnes 64) ∧ gives (.divu th rd ra rb true) (BitVec.allOnes 64) ∧
      gives (.rem th rd ra rb true) (a32.signExtend 64) ∧ gives (.remu th rd ra rb true) (a32.signExtend 64)) ∧
    (a32 = BitVec.intMin 32 → b32 = BitVec.allOnes 32 →
      gives (.div th rd ra rb true) (a32.signExtend 64) ∧ gives (.rem th rd ra rb true) 0) ∧
    (∃ p b', gives (.popc th rd ra) p ∧ gives (.bswap th rd ra) b') ∧
    (∃ c z, gives (.clz th rd ra) c ∧ gives (.ctz th rd ra) z ∧ (a = 0 → c = 64 ∧ z = 64))

/-- Branches and jumps go where their rows say, and conditional branches train overrides (R69, R70, R100, R101, R103, R104, R109, R110).
Model's choices that it rests on: log entry 22. -/
def Obligations.ControlTransfers : Prop := Spec.BranchTargets ∧ Spec.JumpTargets ∧ Spec.BranchTraining

/-! ### Loads, stores and atomics -/

namespace Sys2Proof.Spec
open Sys2Proof Sys2Proof.Machine

/-- A load's size in bytes and whether it sign-extends (R67). -/
inductive LoadRow (th : AnyThr) (rd ra : GIdx) (disp : BitVec 16) : Instr → Nat → Bool → Prop where
  | lb : LoadRow th rd ra disp (.lb th rd ra disp) 1 true
  | lh : LoadRow th rd ra disp (.lh th rd ra disp) 2 true
  | lw : LoadRow th rd ra disp (.lw th rd ra disp) 4 true
  | ld : LoadRow th rd ra disp (.ld th rd ra disp) 8 false
  | lbu : LoadRow th rd ra disp (.lbu th rd ra disp) 1 false
  | lhu : LoadRow th rd ra disp (.lhu th rd ra disp) 2 false
  | lwu : LoadRow th rd ra disp (.lwu th rd ra disp) 4 false

/-- A store's size in bytes. -/
inductive StoreRow (th : AnyThr) (rs ra : GIdx) (disp : BitVec 16) : Instr → Nat → Prop where
  | sb : StoreRow th rs ra disp (.sb th rs ra disp) 1
  | sh : StoreRow th rs ra disp (.sh th rs ra disp) 2
  | sw : StoreRow th rs ra disp (.sw th rs ra disp) 4
  | sd : StoreRow th rs ra disp (.sd th rs ra disp) 8

/-- The value a load leaves, from the bytes it read. -/
def loaded (n : Nat) (sg : Bool) (bs : List Byte) : Word :=
  if sg then BitVec.ofInt 64 (toSigned (8 * n) (ofLeBytes bs)) else BitVec.ofNat 64 (ofLeBytes bs)

/-- An operation of Table ISA-5: what is written, from the old value and rb's, at either width. -/
inductive AmoRow (th : Thr) (rd ra rb : GIdx) (wide : Bool) : Instr → ((n : Nat) → BitVec n → BitVec n → BitVec n) → Prop where
  | swap : AmoRow th rd ra rb wide (.amoSwap th rd ra rb wide) fun _ _ b => b
  | add : AmoRow th rd ra rb wide (.amoAdd th rd ra rb wide) fun _ a b => a + b
  | and : AmoRow th rd ra rb wide (.amoAnd th rd ra rb wide) fun _ a b => a &&& b
  | or : AmoRow th rd ra rb wide (.amoOr th rd ra rb wide) fun _ a b => a ||| b
  | xor : AmoRow th rd ra rb wide (.amoXor th rd ra rb wide) fun _ a b => a ^^^ b
  | min : AmoRow th rd ra rb wide (.amoMin th rd ra rb wide) fun _ a b => if a.toInt ≤ b.toInt then a else b
  | max : AmoRow th rd ra rb wide (.amoMax th rd ra rb wide) fun _ a b => if a.toInt ≤ b.toInt then b else a
  | minu : AmoRow th rd ra rb wide (.amoMinu th rd ra rb wide) fun _ a b => if a.toNat ≤ b.toNat then a else b
  | maxu : AmoRow th rd ra rb wide (.amoMaxu th rd ra rb wide) fun _ a b => if a.toNat ≤ b.toNat then b else a

/-- A thread whose accesses go straight to memory: it is not on a twin-needle pair, its core holds no store back, and its
write-combining buffers are empty. -/
def plainThread (s : State) (th : Nat) : Prop :=
  s.paired (th / 2) = false ∧ (s.core (th / 2)).held = [] ∧ (s.thr th).wc = []

/-- Every part of an access lies in protected or CXL memory mapped WB. -/
def wbMemory (hs : List Half) : Prop := ∀ h ∈ hs, h.x.target.owned = true ∧ h.x.mt = .wb

/-- What a checked WB access finds: no cross-bolt store of the thread is open and every part is homed in the core's own bolt (R156);
the thread's write-combining buffers to its lines are written out (R118), the caches are asked for the lines, and `w` is the state
that this leaves, `r` what they answer. -/
def reached (v w : State) (th : Nat) (own : Bool) (hs : List Half) (r : Reach) : Prop :=
  v.crossOpen th = false ∧ (∀ h ∈ hs, v.crossHalf th h = false) ∧
  (v.drainWc th fun l => hs.any fun h => h.x.mt == .wb && h.x.pa / 64 == l).reachLines (th / 2) (th % 2) own false
    (v.cacheLines th hs) = (w, r)

/-- A byte after stores of byte strings at addresses, from the byte before them. -/
def storedByte (parts : List (Nat × List Byte)) (old : Byte) (a : Nat) : Byte :=
  parts.foldl (fun b p => if p.1 ≤ a ∧ a < p.1 + p.2.length then p.2.getD (a - p.1) 0 else b) old

/-- The physical address and the bytes of each part of a checked access. -/
def placed (hs : List Half) (data : List Byte) : List (Nat × List Byte) := (cutData hs data).map fun p => (p.1.x.pa, p.2)

/-- A store has run: thread `th` stands at `pc` with its registers but `gs` as they were, the bytes of memory are those of `parts` over
the old ones, and no memory-mapped register and no other thread has changed. -/
def storeRan (s t : State) (th : Nat) (pc : Word) (gs : List Nat) (parts : List (Nat × List Byte)) : Prop :=
  (t.thr th).pc = pc ∧ (s.thr th).keeps (t.thr th) gs [] [] [] ∧ (∀ k, k ≠ th → t.thr k = s.thr k) ∧
  (∀ r, t.rd r = s.rd r) ∧ ∀ a, t.byte a = storedByte parts (s.byte a) a

/-- What exception entry to level `l` leaves (R83): the cause, subcause, code and NEST and SEC bits in ECAUSE, the address of
the instruction in EPC, the address that failed in EADDR, the old level and interrupt enable, the level's EXL bit set, IE
cleared, the level, and the handler's address. -/
def enteredAt (s t : State) (th l cause sub code : Nat) (sec : Bool) (epc eaddr : Word) : Prop :=
  let x := s.thr th
  let y := t.thr th
  let b := fun n => if l = 2 then n else n + 0x100
  y.cr0 (b 1) = epc &&& ~~~3#64 ∧ y.cr0 (b 3) = eaddr ∧
  (y.cr0 (b 2)).toNat = cause + sub * 256 + (if x.st (if l = 2 then F.crSTATUS.HEXL else F.crSTATUS.SEXL) = 1 then 65536 else 0) +
    (if sec then 131072 else 0) + code * 1048576 ∧
  y.pl = l ∧ y.st F.crSTATUS.IE = 0 ∧
  (if l = 2 then y.st F.crSTATUS.HEXL = 1 ∧ y.st F.crSTATUS.HPP = x.pl ∧ y.st F.crSTATUS.HPIE = x.st F.crSTATUS.IE
   else y.st F.crSTATUS.SEXL = 1 ∧ y.st F.crSTATUS.SPP = x.pl % 2 ∧ y.st F.crSTATUS.SPIE = x.st F.crSTATUS.IE) ∧
  y.pc = (x.cr0 (b 4) &&& ~~~0xFFF#64) + (if cause = 0x20 then 0x100 else if cause = 0x10 then 0x200 else if cause = 0x11 then 0x300 else 0)

/-- An exception taken at the thread's own level (R82): at H when raised at H, else at S. -/
def entered (s t : State) (th cause sub code : Nat) (epc eaddr : Word) : Prop :=
  enteredAt s t th (if (s.thr th).pl = 2 then 2 else 1) cause sub code false epc eaddr

end Sys2Proof.Spec

/-- LB to LWU (R67, R68) from memory mapped WB: `rd` receives the bytes at ra + sext(disp16), extended as the row says, also
when the access crosses a line; no other register and no byte changes. `v` is the state in which the checked translation of
the access has left its accessed bits, `w` the one in which the caches have been reached. Where they lack a line the thread waits
for it with its registers as they were, and executes the load again; a stale copy gives open bytes.
Model's choices that it rests on: log entries 6, 19, 123. -/
def Obligations.LoadResults : Prop :=
  ∀ th rd ra disp i n sg, LoadRow th rd ra disp i n sg → th.val ≠ thmThread → ∀ s u v hs, s.startsIn th u → plainThread u th →
    let a := (u.thr th).gr ra + disp.signExtend 64
    u.checkAccess th .load a n (a.toNat % n == 0) = (v, .ok hs) → wbMemory hs → (∀ h ∈ hs, v.poisoned h.x.pa h.n = false) →
    ∀ w r, reached v w th false hs r →
    (r = .hit → ∃ t, exec i s = .next t ∧ w.ran t th ((w.thr th).pc + 4) [rd] [] [] [] ∧ (∀ b, t.byte b = w.byte b) ∧
      (t.thr th).gr rd = (if rd.val = 0 then 0 else loaded n sg (hs.flatMap fun h => w.bytes h.x.pa h.n))) ∧
    (r = .stale → ∃ t, exec i s = .next t ∧ w.ran t th ((w.thr th).pc + 4) [rd] [] [] [] ∧ (∀ b, t.byte b = w.byte b)) ∧
    (r = .wait → exec i s = .next w)

/-- SB to SD (R67, R68) to memory mapped WB: the low bytes of rs go to the bytes at ra + sext(disp16), low byte first, also
across a line; every other byte, every register of the thread but the pc, every memory-mapped register and every other
thread is as before, from the state `w` in which the core's L2 has the lines in M. While it lacks one the thread waits, and executes
the store again.
Model's choices that it rests on: log entries 6, 19, 123. -/
def Obligations.StoreResults : Prop :=
  ∀ th rs ra disp i n, StoreRow th rs ra disp i n → th.val ≠ thmThread → ∀ s u v hs, s.startsIn th u → plainThread u th →
    let a := (u.thr th).gr ra + disp.signExtend 64
    u.checkAccess th .store a n (a.toNat % n == 0) = (v, .ok hs) → wbMemory hs →
    ∀ w r, reached v w th true hs r →
    (r ≠ .wait → ∃ t, exec i s = .next t ∧
      storeRan w t th ((w.thr th).pc + 4) [] (placed hs (leBytes n ((u.thr th).gr rs).toNat))) ∧
    (r = .wait → exec i s = .next w)

/-- The loads and stores of the Thimble core (R339, Table THM-2): a naturally aligned access to its ROM, SRAM or mailbox window
completes; a store changes its bytes alone.
Model's choices that it rests on: log entry 6. -/
def Obligations.ThimbleMemory : Prop :=
  ∀ (th : AnyThr), th.val = thmThread → ∀ (r ra : GIdx) (disp : BitVec 16) (s u : State), s.startsIn th u →
    let a := ((u.thr th).gr ra + disp.signExtend 64).toNat
    (∀ i n sg, LoadRow th r ra disp i n sg → a % n = 0 → (inRom a n || inSram a n || inMailbox a n) = true →
      ∃ t, exec i s = .next t ∧ u.ran t th ((u.thr th).pc + 4) [r] [] [] [] ∧ (∀ b, t.byte b = u.byte b) ∧
        (t.thr th).gr r = (if r.val = 0 then 0 else loaded n sg (u.thmBytes a n))) ∧
    (∀ i n, StoreRow th r ra disp i n → a % n = 0 → inRom a n = false → (inSram a n || inMailbox a n) = true →
      ∃ t, exec i s = .next t ∧
        storeRan u t th ((u.thr th).pc + 4) [] [(2 ^ 52 + a, leBytes n ((u.thr th).gr r).toNat)])

/-- A load or store whose translation or check fails takes the exception that the check names at the thread's own level,
with EPC the instruction and EADDR the address; nothing is performed. -/
def Sys2Proof.Spec.ScalarFaults : Prop :=
  ∀ (th : AnyThr) (r ra : GIdx) (disp : BitVec 16) (s u v : State) (cause sub : Nat) (ea : Word), th.val ≠ thmThread →
    s.startsIn th u → cause < 256 → sub < 256 →
    let a := (u.thr th).gr ra + disp.signExtend 64
    (∀ i n sg, LoadRow th r ra disp i n sg →
      u.checkAccess th .load a n (a.toNat % n == 0) = (v, .error (.exc cause sub ea)) →
      ∃ t, exec i s = .next t ∧ entered v t th cause sub 0 (v.thr th).pc ea ∧ ∀ b, t.byte b = v.byte b) ∧
    (∀ i n, StoreRow th r ra disp i n →
      u.checkAccess th .store a n (a.toNat % n == 0) = (v, .error (.exc cause sub ea)) →
      ∃ t, exec i s = .next t ∧ entered v t th cause sub 0 (v.thr th).pc ea ∧ ∀ b, t.byte b = v.byte b)

/-- An AMO's translation has found memory, the operand is not poisoned, and `w` is the state in which the L2 has been asked for
its line in M (R72, R171), with its answer. -/
def atomicReached (v w : State) (th n : Nat) (x : Xlat) (r : Reach) : Prop :=
  x.target.owned = true ∧ v.poisoned x.pa n = false ∧ v.crossOpen th = false ∧
  (v.drainAll th).reachLines (th / 2) (th % 2) true false [x.pa / 64] = (w, r)

/-- The AMO operations but CAS (R71, R171, Table ISA-5) on 8 or 4 bytes of memory: the result goes to the bytes at ra, `rd` receives
the old value, a 4-byte one sign-extended, and nothing else of the thread or of memory changes. While the line is not in M the thread
waits, and executes the AMO again. -/
def Sys2Proof.Spec.AtomicOperations : Prop :=
  ∀ th rd ra rb wide i f, AmoRow th rd ra rb wide i f → ∀ s u v x, s.startsIn th u → plainThread u th →
    let n := if wide then 8 else 4
    let a := (u.thr th).gr ra
    a.toNat % n = 0 → u.translate th .amo a true = (v, .ok x) → ∀ w r, atomicReached v w th n x r →
    let old := w.memNat x.pa n
    let new := if wide then (f 64 (BitVec.ofNat 64 old) ((u.thr th).gr rb)).toNat
      else (f 32 (BitVec.ofNat 32 old) (((u.thr th).gr rb).setWidth 32)).toNat
    (r ≠ .wait → ∃ t, exec i s = .next t ∧ storeRan w t th ((w.thr th).pc + 4) [rd] [(x.pa, leBytes n new)] ∧
      (t.thr th).gr rd = (if rd.val = 0 then 0 else if wide then BitVec.ofNat 64 old else (BitVec.ofNat 32 old).signExtend 64)) ∧
    (r = .wait → exec i s = .next w)

/-- AMO CAS (R71): memory takes rb's value when it holds rd's, and keeps its own otherwise; `rd` receives the old value. The
16-byte form does so with the pairs rd, rd + 1 and rb, rb + 1, and takes subcause 0x03 where one is odd or zero. While the line is
not in M the thread waits. -/
def Sys2Proof.Spec.CompareAndSwap : Prop :=
  ∀ (th : Thr) (rd ra rb : GIdx) (s u v w : State) (x : Xlat) (r : Reach), s.startsIn th u → plainThread u th →
    let a := (u.thr th).gr ra
    let y := u.thr th
    (a.toNat % 8 = 0 → u.translate th .amo a true = (v, .ok x) → atomicReached v w th 8 x r → r ≠ .wait →
      let old := w.memNat x.pa 8
      let new := if old = (y.gr rd).toNat then (y.gr rb).toNat else old
      ∃ t, exec (.amoCas th rd ra rb false) s = .next t ∧
        storeRan w t th ((w.thr th).pc + 4) [rd] [(x.pa, leBytes 8 new)] ∧
        (t.thr th).gr rd = (if rd.val = 0 then 0 else BitVec.ofNat 64 old)) ∧
    (rd.val % 2 = 0 → rd.val ≠ 0 → rb.val % 2 = 0 → rb.val ≠ 0 →
      a.toNat % 16 = 0 → u.translate th .amo a true = (v, .ok x) → atomicReached v w th 16 x r → r ≠ .wait →
      let two := fun (r : Nat) => (y.gr r).toNat + (y.gr (r + 1)).toNat * 2 ^ 64
      let old := w.memNat x.pa 16
      let new := if old = two rd then two rb else old
      ∃ t, exec (.amoCas th rd ra rb true) s = .next t ∧
        storeRan w t th ((w.thr th).pc + 4) [rd, rd + 1] [(x.pa, leBytes 16 new)] ∧
        (t.thr th).gr rd = BitVec.ofNat 64 old ∧ (t.thr th).gr (rd + 1) = BitVec.ofNat 64 (old / 2 ^ 64)) ∧
    (rd.val % 2 = 1 ∨ rd.val = 0 ∨ rb.val % 2 = 1 ∨ rb.val = 0 →
      ∃ t, exec (.amoCas th rd ra rb true) s = .next t ∧
        ∃ w, entered u t th 0x02 0x03 0 (u.thr th).pc w ∧ ∀ b, t.byte b = u.byte b)

/-- An AMO whose address is not naturally aligned takes cause 0x03 with the address in EADDR and is not performed; one whose
check fails takes the exception of the check (R72). -/
def Sys2Proof.Spec.AtomicTraps : Prop :=
  ∀ th rd ra rb wide i f, AmoRow th rd ra rb wide i f → ∀ s u, s.startsIn th u →
    let n := if wide then 8 else 4
    let a := (u.thr th).gr ra
    (a.toNat % n ≠ 0 → ∃ t, exec i s = .next t ∧ entered u t th 0x03 0 0 (u.thr th).pc a ∧ ∀ b, t.byte b = u.byte b) ∧
    (∀ cause sub ea, cause < 256 → sub < 256 → a.toNat % n = 0 →
      (u.translate th .amo a true).2 = .error (.exc cause sub ea) →
      ∃ t, exec i s = .next t ∧ entered u t th cause sub 0 (u.thr th).pc ea ∧ ∀ b, t.byte b = u.byte b)

/-- The AMO operations (R71, R171, Table ISA-5).
Model's choices that it rests on: log entries 19, 123. -/
def Obligations.AtomicResults : Prop := Spec.AtomicOperations ∧ Spec.CompareAndSwap

/-! ### Vector instructions (Table ISA-8) -/

namespace Sys2Proof.Spec
open Sys2Proof Sys2Proof.Machine

/-- Element `j` of vector register `r` at width code `w`, as an unsigned and as a signed number. -/
def el (w : Nat) (x : Thread) (r j : Nat) : Nat := (x.vr r).toNat / 2 ^ (8 * 2 ^ w * j) % 2 ^ (8 * 2 ^ w)
def sel (w : Nat) (x : Thread) (r j : Nat) : Int := toSigned (8 * 2 ^ w) (el w x r j)
/-- A number cut to an element, two's complement for a negative one. -/
def cut (w : Nat) (v : Int) : Nat := (v % 2 ^ (8 * 2 ^ w)).toNat
/-- A number held within the signed range of an element. -/
def sat (w : Nat) (v : Int) : Int := max (-(2 ^ (8 * 2 ^ w - 1))) (min (2 ^ (8 * 2 ^ w - 1) - 1) v)

/-- Element `j` of the destination while it is active, for the operations whose result the manual states. A shift is listed
for counts below the element's width. -/
inductive VecRow (th : Thr) (vd va vb : VIdx) (ga : GIdx) (k : KIdx) (z : Bool) (w : Fin 4) :
    Instr → (Thread → Nat → Int) → (Thread → Nat → Prop) → Prop where
  | vadd : VecRow th vd va vb ga k z w (.vadd th vd va vb k z w) (fun x j => el w x va j + el w x vb j) fun _ _ => True
  | vsub : VecRow th vd va vb ga k z w (.vsub th vd va vb k z w) (fun x j => (el w x va j : Int) - el w x vb j) fun _ _ => True
  | vand : VecRow th vd va vb ga k z w (.vand th vd va vb k z w) (fun x j => (el w x va j &&& el w x vb j : Nat)) fun _ _ => True
  | vor : VecRow th vd va vb ga k z w (.vor th vd va vb k z w) (fun x j => (el w x va j ||| el w x vb j : Nat)) fun _ _ => True
  | vxor : VecRow th vd va vb ga k z w (.vxor th vd va vb k z w) (fun x j => (el w x va j ^^^ el w x vb j : Nat)) fun _ _ => True
  | vsll : VecRow th vd va vb ga k z w (.vsll th vd va vb k z w) (fun x j => el w x va j * 2 ^ el w x vb j)
      fun x j => el w x vb j < 8 * 2 ^ w.val
  | vsrl : VecRow th vd va vb ga k z w (.vsrl th vd va vb k z w) (fun x j => (el w x va j / 2 ^ el w x vb j : Nat))
      fun x j => el w x vb j < 8 * 2 ^ w.val
  | vsra : VecRow th vd va vb ga k z w (.vsra th vd va vb k z w) (fun x j => sel w x va j / 2 ^ el w x vb j)
      fun x j => el w x vb j < 8 * 2 ^ w.val
  | vmin : VecRow th vd va vb ga k z w (.vmin th vd va vb k z w) (fun x j => min (sel w x va j) (sel w x vb j)) fun _ _ => True
  | vmax : VecRow th vd va vb ga k z w (.vmax th vd va vb k z w) (fun x j => max (sel w x va j) (sel w x vb j)) fun _ _ => True
  | vminu : VecRow th vd va vb ga k z w (.vminu th vd va vb k z w) (fun x j => (min (el w x va j) (el w x vb j) : Nat))
      fun _ _ => True
  | vmaxu : VecRow th vd va vb ga k z w (.vmaxu th vd va vb k z w) (fun x j => (max (el w x va j) (el w x vb j) : Nat))
      fun _ _ => True
  | vmul : VecRow th vd va vb ga k z w (.vmul th vd va vb k z w) (fun x j => el w x va j * el w x vb j) fun _ _ => True
  | vmulh : VecRow th vd va vb ga k z w (.vmulh th vd va vb k z w)
      (fun x j => sel w x va j * sel w x vb j / 2 ^ (8 * 2 ^ w.val)) fun _ _ => True
  | vaddsat : VecRow th vd va vb ga k z w (.vaddsat th vd va vb k z w) (fun x j => sat w (sel w x va j + sel w x vb j))
      fun _ _ => True
  | vsubsat : VecRow th vd va vb ga k z w (.vsubsat th vd va vb k z w) (fun x j => sat w (sel w x va j - sel w x vb j))
      fun _ _ => True
  | vperm : VecRow th vd va vb ga k z w (.vperm th vd va vb k z w) (fun x j => el w x va (el w x vb j % (32 / 2 ^ w.val)))
      fun _ _ => True
  | vbcast : VecRow th vd va vb ga k z w (.vbcast th vd ga k z w) (fun x _ => (x.gr ga).toNat) fun _ _ => True

/-- The comparisons that write a mask register. -/
inductive CompareRow (th : Thr) (kd : KIdx) (va vb : VIdx) (k : KIdx) (z : Bool) (w : Fin 4) :
    Instr → (Thread → Nat → Prop) → Prop where
  | eq : CompareRow th kd va vb k z w (.vcmpeq th kd va vb k z w) fun x j => el w x va j = el w x vb j
  | lt : CompareRow th kd va vb k z w (.vcmplt th kd va vb k z w) fun x j => sel w x va j < sel w x vb j
  | ltu : CompareRow th kd va vb k z w (.vcmpltu th kd va vb k z w) fun x j => el w x va j < el w x vb j

/-- A value of a mask register: its bits at and above the element count are zero (R78). -/
def lowBits (w : Nat) (v : Word) : Word := BitVec.ofNat 64 (v.toNat % 2 ^ (32 / 2 ^ w))

/-- The mask operations and the moves between mask and general registers. -/
inductive MaskRow (th : Thr) (kd ka kb : KIdx) (ga : GIdx) : Instr → (Thread → Word) → Prop where
  | kand : MaskRow th kd ka kb ga (.kand th kd ka kb) fun x => lowBits 0 (x.kr ka &&& x.kr kb)
  | kor : MaskRow th kd ka kb ga (.kor th kd ka kb) fun x => lowBits 0 (x.kr ka ||| x.kr kb)
  | kxor : MaskRow th kd ka kb ga (.kxor th kd ka kb) fun x => lowBits 0 (x.kr ka ^^^ x.kr kb)
  | knot : MaskRow th kd ka kb ga (.knot th kd ka) fun x => lowBits 0 (~~~x.kr ka)
  | gtok : MaskRow th kd ka kb ga (.gtok th kd ga) fun x => lowBits 0 (x.gr ga)

/-- The reductions: element 0, from the active elements in ascending order. -/
inductive ReduceRow (th : Thr) (vd va : VIdx) (k : KIdx) (z : Bool) (w : Fin 4) : Instr → (List Int → Int) → Prop where
  | add : ReduceRow th vd va k z w (.vredadd th vd va k z w) fun l => l.sum
  | min : ReduceRow th vd va k z w (.vredmin th vd va k z w) fun l => l.foldl min (2 ^ (8 * 2 ^ w.val - 1) - 1)
  | max : ReduceRow th vd va k z w (.vredmax th vd va k z w) fun l => l.foldl max (-2 ^ (8 * 2 ^ w.val - 1))

/-- The floating-point operations on elements: result and flags of one element, from the format, the rounding mode and the
elements of va, vb and vd. -/
inductive FloatRow (th : Thr) (vd va vb : VIdx) (k : KIdx) (z : Bool) (w : FpWidth) :
    Instr → (FFmt → Nat → Nat → Nat → Nat → Nat × Nat) → Nat → Prop where
  | vfadd : FloatRow th vd va vb k z w (.vfadd th vd va vb k z w) (fun f m a b _ => fAdd f m a b) vb
  | vfsub : FloatRow th vd va vb k z w (.vfsub th vd va vb k z w) (fun f m a b _ => fSub f m a b) vb
  | vfmul : FloatRow th vd va vb k z w (.vfmul th vd va vb k z w) (fun f m a b _ => fMul f m a b) vb
  | vfdiv : FloatRow th vd va vb k z w (.vfdiv th vd va vb k z w) (fun f m a b _ => fDiv f m a b) vb
  | vfsqrt : FloatRow th vd va vb k z w (.vfsqrt th vd va k z w) (fun f m a _ _ => fSqrt f m a) 0
  | vfmin : FloatRow th vd va vb k z w (.vfmin th vd va vb k z w) (fun f _ a b _ => fMin f a b) vb
  | vfmax : FloatRow th vd va vb k z w (.vfmax th vd va vb k z w) (fun f _ a b _ => fMax f a b) vb
  | vfma : FloatRow th vd va vb k z w (.vfma th vd va vb k z w) (fun f m a b c => fFma f m false false a b c) vb
  | vfms : FloatRow th vd va vb k z w (.vfms th vd va vb k z w) (fun f m a b c => fFma f m false true a b c) vb
  | vfnma : FloatRow th vd va vb k z w (.vfnma th vd va vb k z w) (fun f m a b c => fFma f m true false a b c) vb
  | vfcvtfi : FloatRow th vd va vb k z w (.vfcvtfi th vd va k z w) (fun f m a _ _ => fToInt f m a) 0
  | vfcvtif : FloatRow th vd va vb k z w (.vfcvtif th vd va k z w) (fun f m a _ _ => fOfInt f m a) 0

/-- The floating-point comparisons. -/
inductive FloatCompareRow (th : Thr) (kd : KIdx) (va vb : VIdx) (k : KIdx) (z : Bool) (w : FpWidth) :
    Instr → (FFmt → Nat → Nat → Bool × Nat) → Prop where
  | eq : FloatCompareRow th kd va vb k z w (.vfcmpeq th kd va vb k z w) fCmpEq
  | lt : FloatCompareRow th kd va vb k z w (.vfcmplt th kd va vb k z w) fCmpLt
  | le : FloatCompareRow th kd va vb k z w (.vfcmple th kd va vb k z w) fCmpLe

/-- The flags of the active elements, ORed into the old FFLAGS. -/
def flagsOf (old n : Nat) (mask : Word) (fl : Nat → Nat) : Nat :=
  ((List.range n).filter fun j => mask.getLsbD j).foldl (fun a j => a ||| fl j) old

/-- The vector and mask memory instructions: their parts as (address, bytes, aligned for a device), and what a load's bytes
make of the destination. -/
def activeBelow (mask : Word) (j : Nat) : Nat := ((List.range j).filter fun i => mask.getLsbD i).length

end Sys2Proof.Spec

/-- A vector integer operation, VPERM or VBCAST (R78): each active element of vd receives its row's result cut to the element
width; an inactive one is zeroed with Z = 1 and kept with Z = 0; nothing else changes. (For a shift by the width or more
the manual gives no result.) -/
def Sys2Proof.Spec.VectorElements : Prop :=
  ∀ th vd va vb ga k z w i f ok, VecRow th vd va vb ga k z w i f ok → ∀ s u : State, s.startsIn th u →
    ∃ t, exec i s = .next t ∧ u.ran t th ((u.thr th).pc + 4) [] [vd] [] [] ∧ (∀ a, t.byte a = u.byte a) ∧
      ∀ j, j < 32 / 2 ^ w.val →
        (((u.thr th).kr k).getLsbD j = true → ok (u.thr th) j → el w (t.thr th) vd j = cut w (f (u.thr th) j)) ∧
        (((u.thr th).kr k).getLsbD j = false → el w (t.thr th) vd j = if z then 0 else el w (u.thr th) vd j)

/-- A comparison into a mask register (R78): bit j of kd is the comparison of elements j while j is active, zero with Z = 1
or the old bit with Z = 0 while it is not, and zero at and above the number of elements. A write to k0 is discarded. -/
def Sys2Proof.Spec.VectorCompares : Prop :=
  ∀ th kd va vb k z w i P, CompareRow th kd va vb k z w i P → ∀ s u : State, s.startsIn th u →
    ∃ t, exec i s = .next t ∧ u.ran t th ((u.thr th).pc + 4) [] [] [kd] [] ∧ (∀ a, t.byte a = u.byte a) ∧
      (kd.val = 0 → (t.thr th).kr 0 = BitVec.allOnes 64) ∧
      (kd.val ≠ 0 → ∀ j, ((t.thr th).kr kd).getLsbD j = true ↔
        j < 32 / 2 ^ w.val ∧ (if ((u.thr th).kr k).getLsbD j then P (u.thr th) j
          else z = false ∧ ((u.thr th).kr kd).getLsbD j = true))

/-- The mask operations and GTOK write kd, KTOG writes rd with a mask register, VEXT writes rd with the element that gb names
modulo the number of elements; k0 and g0 keep their values. -/
def Sys2Proof.Spec.MaskMoves : Prop :=
  (∀ th kd ka kb ga i f, MaskRow th kd ka kb ga i f → ∀ s u : State, s.startsIn th u →
    ∃ t, exec i s = .next t ∧ u.ran t th ((u.thr th).pc + 4) [] [] [kd] [] ∧ (∀ a, t.byte a = u.byte a) ∧
      (t.thr th).kr kd = if kd.val = 0 then BitVec.allOnes 64 else f (u.thr th)) ∧
  (∀ (th : Thr) (rd : GIdx) (ka : KIdx) (s u : State), s.startsIn th u →
    ∃ t, exec (.ktog th rd ka) s = .next t ∧ u.ran t th ((u.thr th).pc + 4) [rd] [] [] [] ∧ (∀ a, t.byte a = u.byte a) ∧
      (t.thr th).gr rd = if rd.val = 0 then 0 else (u.thr th).kr ka) ∧
  (∀ (th : Thr) (rd gb : GIdx) (va : VIdx) (w : Fin 4) (s u : State), s.startsIn th u →
    ∃ t, exec (.vext th rd va gb w) s = .next t ∧ u.ran t th ((u.thr th).pc + 4) [rd] [] [] [] ∧ (∀ a, t.byte a = u.byte a) ∧
      ((t.thr th).gr rd).toNat =
        if rd.val = 0 then 0 else el w (u.thr th) va (((u.thr th).gr gb).toNat % (32 / 2 ^ w.val)))

/-- VCOMPRESS packs the active elements low; VINS replaces the element that gb names; the reductions write element 0 from the
active elements and zero every other, the identity when none is active (R78). -/
def Sys2Proof.Spec.VectorPacking : Prop :=
  (∀ (th : Thr) (vd va : VIdx) (k : KIdx) (z : Bool) (w : Fin 4) (s u : State), s.startsIn th u →
    ∃ t, exec (.vcompress th vd va k z w) s = .next t ∧ u.ran t th ((u.thr th).pc + 4) [] [vd] [] [] ∧
      (∀ a, t.byte a = u.byte a) ∧
      ∀ j, j < 32 / 2 ^ w.val → ((u.thr th).kr k).getLsbD j = true →
        el w (t.thr th) vd (activeBelow ((u.thr th).kr k) j) = el w (u.thr th) va j) ∧
  (∀ (th : Thr) (vd : VIdx) (ga gb : GIdx) (w : Fin 4) (s u : State), s.startsIn th u →
    ∃ t, exec (.vins th vd ga gb w) s = .next t ∧ u.ran t th ((u.thr th).pc + 4) [] [vd] [] [] ∧ (∀ a, t.byte a = u.byte a) ∧
      ∀ j, j < 32 / 2 ^ w.val → el w (t.thr th) vd j =
        if j = ((u.thr th).gr gb).toNat % (32 / 2 ^ w.val) then cut w ((u.thr th).gr ga).toNat else el w (u.thr th) vd j) ∧
  (∀ th vd va k z w i f, ReduceRow th vd va k z w i f → ∀ s u : State, s.startsIn th u →
    ∃ t, exec i s = .next t ∧ u.ran t th ((u.thr th).pc + 4) [] [vd] [] [] ∧ (∀ a, t.byte a = u.byte a) ∧
      el w (t.thr th) vd 0 = cut w (f (((List.range (32 / 2 ^ w.val)).filter fun j => ((u.thr th).kr k).getLsbD j).map
        fun j => sel w (u.thr th) va j)) ∧
      ∀ j, 0 < j → j < 32 / 2 ^ w.val → el w (t.thr th) vd j = 0)

/-- A floating-point operation on elements or comparison, under a rounding mode that STATUS.FRM names (R79): each active
element gets its operation's result, inactive ones are zeroed or kept, and the active elements' flags are ORed into
STATUS.FFLAGS, with no trap; no other field of STATUS changes. -/
def Sys2Proof.Spec.FloatElements : Prop :=
  (∀ th vd va vb k z w i f vb', FloatRow th vd va vb k z w i f vb' → ∀ s u : State, s.startsIn th u →
    (u.thr th).st F.crSTATUS.FRM ≤ 4 →
    let x := u.thr th
    let c := w.code
    let r := fun j => f (fmtOf c) (x.st F.crSTATUS.FRM) (el c x va j) (el c x vb' j) (el c x vd j)
    ∃ t, exec i s = .next t ∧ u.ran t th (x.pc + 4) [] [vd] [] [0] ∧ (∀ a, t.byte a = u.byte a) ∧
      (∀ j, j < 32 / 2 ^ c → el c (t.thr th) vd j =
        if (x.kr k).getLsbD j then cut c (r j).1 else if z then 0 else el c x vd j) ∧
      (t.thr th).cr0 0 = BitVec.ofNat 64 (F.crSTATUS.FFLAGS.set (x.cr0 0).toNat
        (flagsOf (x.st F.crSTATUS.FFLAGS) (32 / 2 ^ c) (x.kr k) fun j => (r j).2))) ∧
  (∀ th kd va vb k z w i f, FloatCompareRow th kd va vb k z w i f → ∀ s u : State, s.startsIn th u →
    (u.thr th).st F.crSTATUS.FRM ≤ 4 →
    let x := u.thr th
    let c := w.code
    let r := fun j => f (fmtOf c) (el c x va j) (el c x vb j)
    ∃ t, exec i s = .next t ∧ u.ran t th (x.pc + 4) [] [] [kd] [0] ∧ (∀ a, t.byte a = u.byte a) ∧
      (kd.val = 0 → (t.thr th).kr 0 = BitVec.allOnes 64) ∧
      (kd.val ≠ 0 → ∀ j, ((t.thr th).kr kd).getLsbD j = true ↔
        j < 32 / 2 ^ c ∧ (if (x.kr k).getLsbD j then (r j).1 = true else z = false ∧ (x.kr kd).getLsbD j = true)) ∧
      (t.thr th).cr0 0 = BitVec.ofNat 64 (F.crSTATUS.FFLAGS.set (x.cr0 0).toNat
        (flagsOf (x.st F.crSTATUS.FFLAGS) (32 / 2 ^ c) (x.kr k) fun j => (r j).2)))

/-- VFCVTW (R79) changes the width of the low elements that both widths have and zeroes the destination elements above them;
VFREDADD leaves the pairwise-tree sum in element 0, inactive elements taken as −0.0, and zero in every other. -/
def Sys2Proof.Spec.FloatWidthAndSum : Prop :=
  ∀ (th : Thr) (vd va : VIdx) (k : KIdx) (z : Bool) (w src : FpWidth) (s u : State), s.startsIn th u →
    (u.thr th).st F.crSTATUS.FRM ≤ 4 →
    let x := u.thr th
    let c := w.code
    let m := x.st F.crSTATUS.FRM
    let n := Nat.min (32 / 2 ^ c) (32 / 2 ^ src.code)
    (∃ t, exec (.vfcvtw th vd va k z w src) s = .next t ∧ u.ran t th (x.pc + 4) [] [vd] [] [0] ∧ (∀ a, t.byte a = u.byte a) ∧
      ∀ j, j < 32 / 2 ^ c → el c (t.thr th) vd j =
        if n ≤ j then 0
        else if (x.kr k).getLsbD j then cut c (fChange (fmtOf src.code) (fmtOf c) m (el src.code x va j)).1
        else if z then 0 else el c x vd j) ∧
    (∃ t, exec (.vfredadd th vd va k z w) s = .next t ∧ u.ran t th (x.pc + 4) [] [vd] [] [0] ∧ (∀ a, t.byte a = u.byte a) ∧
      el c (t.thr th) vd 0 = cut c (treeSum (fmtOf c) m (5 - c) ((List.range (32 / 2 ^ c)).map fun j =>
        if (x.kr k).getLsbD j then el c x va j else (fmtOf c).zero true)).1 ∧
      ∀ j, 0 < j → j < 32 / 2 ^ c → el c (t.thr th) vd j = 0)

/-- A NaN among the operands of VFADD, VFSUB, VFMUL, VFDIV and the fused forms gives the first one in the order va, vb, vd with
its quiet bit set and its other bits kept, and a signalling one sets IV (R79). -/
def Sys2Proof.Spec.NaNPropagation : Prop :=
  ∀ (w : FpWidth) (m a b c : Nat), m ≤ 4 → a < 2 ^ (fmtOf w.code).width → b < 2 ^ (fmtOf w.code).width →
    let f := fmtOf w.code
    let first := fun (l : List Nat) => l.find? f.isNaN
    let q := fun (x : Nat) => x ||| 2 ^ (f.mb - 1)
    (∀ x, first [a, b] = some x →
      (∀ g ∈ [fAdd f m a b, fSub f m a b, fMul f m a b, fDiv f m a b, fMin f a b, fMax f a b],
        g.1 = q x ∧ (g.2 = 1 ↔ f.isSNaN a = true ∨ f.isSNaN b = true))) ∧
    (∀ x p n, first [a, b, c] = some x → (fFma f m p n a b c).1 = q x)

/-- A reserved rounding mode takes subcause 0x04 at the thread's own level and changes no vector register (R79). -/
def Sys2Proof.Spec.ReservedRounding : Prop :=
  ∀ th vd va vb k z w i f vb', FloatRow th vd va vb k z w i f vb' → ∀ s u : State, s.startsIn th u →
    4 < (u.thr th).st F.crSTATUS.FRM →
    ∃ t word, exec i s = .next t ∧ entered u t th 0x02 0x04 0 (u.thr th).pc word ∧
      (∀ r, (t.thr th).vr r = (u.thr th).vr r) ∧ ∀ a, t.byte a = u.byte a

/-- Vector integer operations and comparisons, mask operations, moves between register kinds, permutes and reductions (R78,
Table ISA-8).
Model's choices that it rests on: log entries 6, 14, 16, 118. -/
def Obligations.VectorResults : Prop :=
  Spec.VectorElements ∧ Spec.VectorCompares ∧ Spec.MaskMoves ∧ Spec.VectorPacking

/-- Vector floating point, with NaN operands and the rounding modes that the manual reserves (R79).
Model's choices that it rests on: log entries 6, 17, 113, 116. -/
def Obligations.FloatResults : Prop :=
  Spec.FloatElements ∧ Spec.FloatWidthAndSum ∧ Spec.NaNPropagation ∧ Spec.ReservedRounding

/-! ### Vector memory -/

namespace Sys2Proof.Spec
open Sys2Proof Sys2Proof.Machine

/-- The active elements, lowest first. -/
def actives (w : Nat) (mask : Word) : List Nat := (List.range (32 / 2 ^ w)).filter fun j => mask.getLsbD j

/-- The address of element `j` of a vector load or store, and whether device memory would accept it (Table ISA-8, R80): VLD and
VST at ga + gb as a whole, VGATHER and VSCATTER at ga + vb[j] × size. -/
inductive ElementRow (th : Thr) (v : VIdx) (ga gb : GIdx) (vb : VIdx) (k : KIdx) (z : Bool) (w : Fin 4) :
    Bool → Instr → (Thread → Nat → Word) → (Thread → Nat → Bool) → Prop where
  | vld : ElementRow th v ga gb vb k z w true (.vld th v ga gb k z w)
      (fun x j => x.gr ga + x.gr gb + BitVec.ofNat 64 (2 ^ w.val * j)) fun x _ => (x.gr ga + x.gr gb).toNat % 32 == 0
  | vst : ElementRow th v ga gb vb k z w false (.vst th v ga gb k z w)
      (fun x j => x.gr ga + x.gr gb + BitVec.ofNat 64 (2 ^ w.val * j)) fun x _ => (x.gr ga + x.gr gb).toNat % 32 == 0
  | vgather : ElementRow th v ga gb vb k z w true (.vgather th v ga vb k z w)
      (fun x j => x.gr ga + BitVec.ofNat 64 (el w x vb j * 2 ^ w.val))
      fun x j => (x.gr ga + BitVec.ofNat 64 (el w x vb j * 2 ^ w.val)).toNat % 2 ^ w.val == 0
  | vscatter : ElementRow th v ga gb vb k z w false (.vscatter th v ga vb k z w)
      (fun x j => x.gr ga + BitVec.ofNat 64 (el w x vb j * 2 ^ w.val))
      fun x j => (x.gr ga + BitVec.ofNat 64 (el w x vb j * 2 ^ w.val)).toNat % 2 ^ w.val == 0

/-- The parts of the active elements: address, bytes, and whether device memory would accept it. -/
def elementParts (w : Nat) (mask : Word) (addr : Nat → Word) (al : Nat → Bool) : List (Word × Nat × Bool) :=
  (actives w mask).map fun j => (addr j, 2 ^ w, al j)

end Sys2Proof.Spec

/-- VLD and VGATHER from memory mapped WB (R78, R80): each active element receives the bytes at its address, in ascending
order of the elements; inactive ones are zeroed or kept. VLDB gives the one element at ga + gb to every active element. A load whose
lines the caches lack waits for them. -/
def Sys2Proof.Spec.VectorLoads : Prop :=
  (∀ th vd ga gb vb k z w i addr al, ElementRow th vd ga gb vb k z w true i addr al → ∀ s u v hs, s.startsIn th u →
    plainThread u th →
    let x := u.thr th
    let es := elementParts w (x.kr k) (addr x) (al x)
    u.checkAll th .load es = (v, .ok hs) → wbMemory hs → (∀ h ∈ hs, v.poisoned h.x.pa h.n = false) →
    ∀ y r, reached v y th false hs r →
    let bs := hs.flatMap fun h => y.bytes h.x.pa h.n
    (r = .hit → ∃ t, exec i s = .next t ∧ y.ran t th ((y.thr th).pc + 4) [] [vd] [] [] ∧ (∀ a, t.byte a = y.byte a) ∧
      ∀ j, j < 32 / 2 ^ w.val → el w (t.thr th) vd j =
        if (x.kr k).getLsbD j then field bs (2 ^ w.val * activeBelow (x.kr k) j) (2 ^ w.val)
        else if z then 0 else el w (y.thr th) vd j) ∧
    (r = .wait → exec i s = .next y)) ∧
  (∀ (th : Thr) (vd : VIdx) (ga gb : GIdx) (k : KIdx) (z : Bool) (w : Fin 4) s u v hs, s.startsIn th u →
    plainThread u th →
    let x := u.thr th
    let a := x.gr ga + x.gr gb
    let es := if actives w (x.kr k) = [] then [] else [(a, 2 ^ w.val, a.toNat % 2 ^ w.val == 0)]
    u.checkAll th .load es = (v, .ok hs) → wbMemory hs →
    (∀ h ∈ hs, v.poisoned h.x.pa h.n = false) → ∀ y, reached v y th false hs .hit →
    ∃ t, exec (.vldb th vd ga gb k z w) s = .next t ∧ y.ran t th ((y.thr th).pc + 4) [] [vd] [] [] ∧
      (∀ a, t.byte a = y.byte a) ∧
      ∀ j, j < 32 / 2 ^ w.val → el w (t.thr th) vd j =
        if (x.kr k).getLsbD j then ofLeBytes (hs.flatMap fun h => y.bytes h.x.pa h.n)
        else if z then 0 else el w (y.thr th) vd j)

/-- VST and VSCATTER to memory mapped WB (R80): the active elements' bytes go to their addresses in ascending order, the
highest winning where they overlap; every other byte and every register is as before. While the L2 lacks a line in M the thread
waits. -/
def Sys2Proof.Spec.VectorStores : Prop :=
  ∀ th vs ga gb vb k z w i addr al, ElementRow th vs ga gb vb k z w false i addr al → ∀ s u v hs, s.startsIn th u →
    plainThread u th →
    let x := u.thr th
    u.checkAll th .store (elementParts w (x.kr k) (addr x) (al x)) = (v, .ok hs) → wbMemory hs →
    let data := (actives w (x.kr k)).flatMap fun j => leBytes (2 ^ w.val) (el w x vs j)
    ∀ y r, reached v y th true hs r →
    (r ≠ .wait → ∃ t, exec i s = .next t ∧ storeRan y t th ((y.thr th).pc + 4) [] (placed hs data)) ∧
    (r = .wait → exec i s = .next y)

/-- KLD and KST (R80): a mask register receives the 8 bytes at ga + gb, with bits at and above the
element count zero, or gives them; a load into k0 is discarded. -/
def Sys2Proof.Spec.MaskMemory : Prop :=
  ∀ (th : Thr) (kr : KIdx) (ga gb : GIdx) (w : Fin 4) s u v y hs r, s.startsIn th u → plainThread u th →
    let x := u.thr th
    let a := x.gr ga + x.gr gb
    (u.checkAccess th .load a 8 (a.toNat % 8 == 0) = (v, .ok hs) → wbMemory hs →
      (∀ h ∈ hs, v.poisoned h.x.pa h.n = false) → reached v y th false hs .hit →
      ∃ t, exec (.kld th kr ga gb w) s = .next t ∧ y.ran t th ((y.thr th).pc + 4) [] [] [kr] [] ∧
        (∀ b, t.byte b = y.byte b) ∧
        (t.thr th).kr kr = if kr.val = 0 then BitVec.allOnes 64
          else lowBits w (BitVec.ofNat 64 (ofLeBytes (hs.flatMap fun h => y.bytes h.x.pa h.n)))) ∧
    (u.checkAccess th .store a 8 (a.toNat % 8 == 0) = (v, .ok hs) → wbMemory hs →
      reached v y th true hs r → r ≠ .wait →
      ∃ t, exec (.kst th kr ga gb w) s = .next t ∧
        storeRan y t th ((y.thr th).pc + 4) [] (placed hs (leBytes 8 (x.kr kr).toNat)))

/-- A vector load or store whose check fails takes the exception of its lowest faulting active element, and nothing is
performed: every register and every byte is as before the instruction (R80). -/
def Sys2Proof.Spec.VectorFaults : Prop :=
  ∀ th v ga gb vb k z w ld i addr al, ElementRow th v ga gb vb k z w ld i addr al → ∀ s u cause sub ea, s.startsIn th u →
    cause < 256 → sub < 256 →
    (u.checkAll th (if ld then .load else .store) (elementParts w ((u.thr th).kr k) (addr (u.thr th)) (al (u.thr th)))).2 =
      .error (.exc cause sub ea) →
    ∃ t, exec i s = .next t ∧ entered u t th cause sub 0 (u.thr th).pc ea ∧
      (∀ r, (t.thr th).gr r = (u.thr th).gr r ∧ (t.thr th).vr r = (u.thr th).vr r ∧ (t.thr th).kr r = (u.thr th).kr r) ∧
      ∀ a, t.byte a = u.byte a

/-- Vector and mask loads and stores (R80).
Model's choices that it rests on: log entries 6, 19, 117, 123. -/
def Obligations.VectorMemory : Prop := Spec.VectorLoads ∧ Spec.VectorStores ∧ Spec.MaskMemory

/-- A load, store, atomic or vector access whose address or check fails takes the exception the manual names, and is not performed.
Model's choices that it rests on: log entry 6. -/
def Obligations.AccessFaults : Prop := Spec.ScalarFaults ∧ Spec.VectorFaults ∧ Spec.AtomicTraps

/-! ### Control registers, calls, returns, barriers and interrupts -/

namespace Sys2Proof.Spec
open Sys2Proof Sys2Proof.Machine

/-- A control-register instruction of a core's thread is legal at its level (R73, R81, R497). -/
def crLegal (s : State) (th : Nat) (word : IWord) : Prop :=
  let x := s.thr th
  illegalSub word.toNat x.pl (s.panelOf th == 0) x.utr x.uctr (x.st F.crSTATUS.FRM) = none

/-- The instructions that change a control register: the instruction, its opcode field, where the old value goes. -/
inductive CrWriteRow (th : AnyThr) (rd ra : GIdx) (crn : BitVec 12) : Instr → Nat → Nat → Prop where
  | crset : CrWriteRow th rd ra crn (.crset th ra crn) 1 0
  | crswp : CrWriteRow th rd ra crn (.crswp th rd ra crn) 2 rd
  | crbs : CrWriteRow th rd ra crn (.crbs th rd ra crn) 3 rd
  | crbc : CrWriteRow th rd ra crn (.crbc th rd ra crn) 4 rd

/-- What each leaves in a plain register. -/
def crPlain (sfn : Nat) (old v : Word) : Word :=
  if sfn = 3 then old ||| v else if sfn = 4 then old &&& ~~~v else v

/-- TLB entries that TLBINV removes, by mode (Table ISA-7). -/
def tlbKilled (mode : Nat) (a asid : Nat) (e : TlbEntry) : Prop :=
  match mode with
  | 0 => True
  | 1 => e.asid = a % 4096 ∧ e.glob = false
  | 2 => a / 2 ^ e.size = e.va
  | _ => a / 2 ^ e.size = e.va ∧ (e.glob = true ∨ e.asid = asid)

inductive TlbRow (th : Thr) (ra : GIdx) (all : Bool) : Instr → Nat → Prop where
  | all : TlbRow th ra all (.tlbinvAll th all) 0
  | asid : TlbRow th ra all (.tlbinvAsid th ra all) 1
  | va : TlbRow th ra all (.tlbinvVa th ra all) 2
  | vaAsid : TlbRow th ra all (.tlbinvVaAsid th ra all) 3

/-- Vector `j` of the panel is deliverable to the thread that runs the seat, at a target level (R89). -/
def vectorReady (s : State) (p n t lvl j : Nat) : Prop :=
  let v := s.rd { kind := .icVec, i := p, j := j }
  j < 2048 ∧ F.icVec.EN.get v = 1 ∧ F.icVec.PEND.get v = 1 ∧ F.icVec.ACTIVE.get v = 0 ∧ F.icVec.SEAT.get v = n ∧
  F.icVec.THR.get v = t ∧ (if p = 0 ∧ (j = 2047 ∨ F.icVec.HLVL.get v = 1) then 2 else 1) = lvl

def vectorPrio (s : State) (p j : Nat) : Nat := F.icVec.PRIO.get (s.rd { kind := .icVec, i := p, j := j })

/-- The thread may take an event between instructions (R85). -/
def between (s : State) (th p n : Nat) : Prop :=
  s.seatOf th = some (p, n) ∧ s.canTake th = true ∧ s.paired (th / 2) = false

end Sys2Proof.Spec

/-- CRGET on a core (R74, R81): `rd` receives the register's value: FPCTL as the two fields of STATUS, PANEL the handle,
STITCH the number of the last boundary that its tile has applied and TIME the time at which that stitch began (R17, R19, R198), every
other number the stored register that the level reaches; nothing else changes. (IACK and IEOI
have statements of their own, TWIN.PAIRED is live.) -/
def Sys2Proof.Spec.ControlReads : Prop :=
  ∀ (th : AnyThr) (rd : GIdx) (crn : BitVec 12) (s u : State), th.val ≠ thmThread → s.startsIn th u →
    u.paired (th.val / 2) = false → crLegal u th (encodeS rd 0 0 crn.toNat) → crn ≠ 0x060 → crn ≠ 0x070 → crn ≠ 0x071 →
    let x := u.thr th
    ∃ t, exec (.crget th rd crn) s = .next t ∧ u.ran t th (x.pc + 4) [rd] [] [] [] ∧ (∀ a, t.byte a = u.byte a) ∧
      (rd.val ≠ 0 → (t.thr th).gr rd =
        if crn = 0x006 then BitVec.ofNat 64 (x.st F.crSTATUS.FRM + x.st F.crSTATUS.FFLAGS * 256)
        else if crn = 0x010 then BitVec.ofNat 64 (u.fld { kind := .wpFcfg } F.wpFcfg.MYID * 512 + u.panelOf th)
        else if crn = 0x012 then BitVec.ofNat 64 (u.tile (th.val / 2)).bnd
        else if crn = 0x013 then BitVec.ofNat 64 ((u.tile (th.val / 2)).bnd * 10000)
        else if 1 ≤ crn.toNat ∧ crn.toNat ≤ 5 ∧ x.pl ≠ 2 then x.cr0 (crn.toNat + 0x100)
        else x.cr0 crn.toNat)

/-- CRSET, CRSWP, CRBS and CRBC on the plain registers EADDR and SCRATCH (R74, R81): the register that the level reaches
receives ra, ra, the old value with ra's bits set, or with ra's bits cleared; `rd` of the last three receives the value from
before the write; no other register changes. -/
def Sys2Proof.Spec.ControlWrites : Prop :=
  ∀ th rd ra crn i sfn d, CrWriteRow th rd ra crn i sfn d → crn = 0x003 ∨ crn = 0x005 → ∀ s u : State, th.val ≠ thmThread →
    s.startsIn th u → u.paired (th.val / 2) = false → 1 ≤ (u.thr th).pl → (u.thr th).pl ≤ 2 →
    let x := u.thr th
    let n := if x.pl = 2 then crn.toNat else crn.toNat + 0x100
    ∃ t, exec i s = .next t ∧ u.ran t th (x.pc + 4) [d] [] [] [n] ∧ (∀ a, t.byte a = u.byte a) ∧
      (t.thr th).cr0 n = crPlain sfn (x.cr0 n) (x.gr ra) ∧ (t.thr th).gr d = if d = 0 then 0 else x.cr0 n

/-- CRBC with bit 0 of ra set clears MCHK.VALID, CRSET with it set does too, and no CRBS ever clears it (R74). -/
def Sys2Proof.Spec.MachineCheckValid : Prop :=
  ∀ (th : AnyThr) (rd ra : GIdx) (s u : State), th.val ≠ thmThread → s.startsIn th u → u.paired (th.val / 2) = false →
    1 ≤ (u.thr th).pl → (u.thr th).pl ≤ 2 →
    let valid := fun (t : State) => (t.thr th).crFld 0x050 F.crMCHK.VALID
    ∃ a b c, exec (.crbc th rd ra 0x050) s = .next a ∧ exec (.crset th ra 0x050) s = .next b ∧
      exec (.crbs th rd ra 0x050) s = .next c ∧
      (((u.thr th).gr ra).getLsbD 0 = true → valid a = 0 ∧ valid b = 0) ∧
      (((u.thr th).gr ra).getLsbD 0 = false → valid a = valid u ∧ valid b = valid u) ∧ valid c = valid u

/-- No control-register write raises the level: CRSET, CRSWP, CRBS and CRBC of any register leave PL as it was, unless they take
an exception, which enters S or H (R63). -/
def Sys2Proof.Spec.NoWriteRaisesLevel : Prop :=
  ∀ th rd ra crn i sfn d, CrWriteRow th rd ra crn i sfn d → ∀ s u : State, th.val ≠ thmThread → s.startsIn th u →
    crLegal u th (encodeS d ra sfn crn.toNat) → ∃ t, exec i s = .next t ∧ (t.thr th).pl = (u.thr th).pl

/-- What a level may not reach (R65, R73, R81): a control register marked "—" or read-only for the level, SYSCALL at H, HOSTCALL
outside panel 0, and ERET, WAIT and TLBINV at U take an illegal instruction exception with subcause 0x01, and a number that
the table does not list takes 0x00; the register is not written. -/
def Sys2Proof.Spec.PrivilegeTraps : Prop :=
  ∀ (th : AnyThr) (thr : Thr) (rd ra : GIdx) (s u : State), th.val = thr.val → s.startsIn th u →
    let x := u.thr th
    let traps := fun (i : Instr) (sub : Nat) =>
      ∃ t w, exec i s = .next t ∧ entered u t th 0x02 sub 0 x.pc w ∧ ∀ r, (t.thr th).gr r = x.gr r
    (x.pl = 0 → traps (.crget th rd 0x000) 1 ∧ traps (.crset th ra 0x004) 1 ∧ traps (.crswp th rd ra 0x040) 1 ∧
      traps (.crset th ra 0x010) 1 ∧ traps (.eret th) 1 ∧ (∀ b p, traps (.wait th b p) 1) ∧ ∀ a, traps (.tlbinvAll thr a) 1) ∧
    (x.pl ≠ 2 → traps (.crget th rd 0x041) 1 ∧ traps (.crbs th rd ra 0x101) 1) ∧
    (traps (.crbc th rd ra 0x012) 1 ∧ traps (.crset th ra 0x070) 1) ∧
    (traps (.crget th rd 0x007) 0 ∧ traps (.crset th ra 0x0FF) 0) ∧
    (x.pl = 2 → ∀ c, traps (.syscall thr c) 1) ∧ (u.panelOf th ≠ 0 → ∀ c, traps (.hostcall thr c) 1)

/-- SYSCALL at U or S enters S with cause 0x08, HOSTCALL in panel 0 enters H with cause 0x09, both with their code and with EPC
the next instruction (R82, R83). -/
def Sys2Proof.Spec.SystemCalls : Prop :=
  ∀ (th : Thr) (code : BitVec 12) (s u : State), s.startsIn th u →
    ((u.thr th).pl ≤ 1 → ∃ t, exec (.syscall th code) s = .next t ∧
      enteredAt u t th 1 0x08 0 code.toNat false ((u.thr th).pc + 4) 0 ∧ ∀ a, t.byte a = u.byte a) ∧
    (u.panelOf th = 0 → ∃ t, exec (.hostcall th code) s = .next t ∧
      enteredAt u t th 2 0x09 0 code.toNat false ((u.thr th).pc + 4) 0 ∧ ∀ a, t.byte a = u.byte a)

/-- ERET at S restores the pc from EPC, PL from SPP and IE from SPIE of the S bank and clears SEXL; at H it does so from the H bank
(R84). No general register and no byte of memory changes. -/
def Sys2Proof.Spec.ExceptionReturn : Prop :=
  ∀ (th : AnyThr) (s u : State), th.val ≠ thmThread → s.startsIn th u →
    let x := u.thr th
    (x.pl = 1 → ∃ t, exec (.eret th) s = .next t ∧ u.ran t th (x.cr0 0x101 &&& ~~~3#64) [] [] [] [0] ∧
      (t.thr th).pl = x.st F.crSTATUS.SPP ∧ (t.thr th).st F.crSTATUS.IE = x.st F.crSTATUS.SPIE ∧
      (t.thr th).st F.crSTATUS.SEXL = 0 ∧ (t.thr th).st F.crSTATUS.HEXL = x.st F.crSTATUS.HEXL ∧ ∀ a, t.byte a = u.byte a) ∧
    (x.pl = 2 → ∃ t, exec (.eret th) s = .next t ∧ u.ran t th (x.cr0 0x001 &&& ~~~3#64) [] [] [] [0] ∧
      (t.thr th).pl = x.st F.crSTATUS.HPP ∧ (t.thr th).st F.crSTATUS.IE = x.st F.crSTATUS.HPIE ∧
      (t.thr th).st F.crSTATUS.HEXL = 0 ∧ (t.thr th).st F.crSTATUS.SEXL = x.st F.crSTATUS.SEXL ∧ ∀ a, t.byte a = u.byte a)

/-- FENCE and IFSYNC empty the thread's write-combining buffers: every buffered byte is in memory, every other byte as before
(R75, R118, R129); they wait until the CMP of a cross-bolt store has come (R156). -/
def Sys2Proof.Spec.Barriers : Prop :=
  ∀ (th : AnyThr) (i : Instr) (s u : State), i = .fence th ∨ i = .ifsync th → th.val ≠ thmThread → s.startsIn th u →
    u.paired (th.val / 2) = false →
    let x := u.thr th
    (SMap.risingFrom 0 x.wc = true → u.crossOpen th = false →
      (∀ e ∈ x.wc, (u.target e.1).owned = true ∧ u.granuleBolt (e.1 / 65536) = u.boltOf (th.val / 2)) →
      ∃ t, exec i s = .next t ∧ (t.thr th).pc = x.pc + 4 ∧ (t.thr th).wc = [] ∧ x.keeps (t.thr th) [] [] [] [] ∧
        ∀ a, t.byte a = (SMap.find x.wc a).getD (u.byte a)) ∧
    ((u.drainAll th).crossOpen th = true → exec i s = .next (u.drainAll th))

/-- PBAR empties its thread's return stack and increments PGEN, clearing both shared tables when it passes from 7 to 0 (R106);
PFLUSH clears both tables and both return stacks and zeroes PGEN (R107). -/
def Sys2Proof.Spec.PredictionBarriers : Prop :=
  ∀ (th : AnyThr) (s u : State), th.val ≠ thmThread → s.startsIn th u →
    let c := u.core (th.val / 2)
    (∃ t, exec (.pbar th) s = .next t ∧ (t.thr th).pc = (u.thr th).pc + 4 ∧ (t.thr th).retStack = [] ∧
      (u.thr th).keeps (t.thr th) [] [] [] [] ∧ (t.core (th.val / 2)).pgen = (if c.pgen = 7 then 0 else c.pgen + 1) ∧
      (t.core (th.val / 2)).overrides = (if c.pgen = 7 then [] else c.overrides) ∧
      (t.core (th.val / 2)).itc = (if c.pgen = 7 then [] else c.itc)) ∧
    (∃ t, exec (.pflush th) s = .next t ∧ (t.thr th).pc = (u.thr th).pc + 4 ∧ (u.thr th).keeps (t.thr th) [] [] [] [] ∧
      (t.core (th.val / 2)).pgen = 0 ∧ (t.core (th.val / 2)).overrides = [] ∧ (t.core (th.val / 2)).itc = [] ∧
      (t.core (th.val / 2)).thr0.retStack = [] ∧ (t.core (th.val / 2)).thr1.retStack = [])

/-- The four TLBINV operations at S or H (R76, Table ISA-7): the entries that the mode names are gone from this core, or from
every core that runs the panel when broadcast; every other entry stays. -/
def Sys2Proof.Spec.TlbInvalidation : Prop :=
  ∀ th ra all i mode, TlbRow th ra all i mode → ∀ s u : State, s.startsIn th u →
    1 ≤ (u.thr th).pl → (u.thr th).pl ≤ 2 →
    let x := u.thr th
    let asid := x.crFld (if x.pl = 2 then 0x041 else 0x040) F.crPTBASE.ASID
    let hit := fun c => if all then c < 192 ∧ (u.core c).seat.isSome = true ∧ (u.core c).panel = u.panelOf th else c = th.val / 2
    ∃ t, exec i s = .next t ∧ (t.thr th).pc = x.pc + 4 ∧ x.keeps (t.thr th) [] [] [] [] ∧
      ∀ c e, e ∈ (t.core c).tlb ↔ e ∈ (u.core c).tlb ∧ ¬(hit c ∧ tlbKilled mode (x.gr ra).toNat asid e)

/-- WAIT at S or H with no wake source asserted stops the thread at the WAIT; where an enabled source is asserted as it commits, it
completes at once and sets WAKE_PENDING (R77). -/
def Sys2Proof.Spec.WaitInstruction : Prop :=
  ∀ (th : AnyThr) (bw pulse : Bool) (s u : State), th.val ≠ thmThread → s.startsIn th u → u.paired (th.val / 2) = false →
    1 ≤ (u.thr th).pl → (u.thr th).pl ≤ 2 →
    let x := u.thr th
    (u.wakeAsserted th bw pulse = false → ∃ t, exec (.wait th bw pulse) s = .next t ∧ (t.thr th).waiting = true ∧
      (t.thr th).pc = x.pc ∧ x.keeps (t.thr th) [] [] [] []) ∧
    (u.seatOf th ≠ none → bw = true → x.crFld 0x020 F.crPWRMODE.STITCHW = 1 → ∃ t, exec (.wait th bw pulse) s = .next t ∧
      u.ran t th (x.pc + 4) [] [] [] [0x020] ∧ (t.thr th).crFld 0x020 F.crPWRMODE.WAKE_PENDING = 1)

/-- A read of IACK gives the highest-priority deliverable vector of the read's level, the lowest number among equals, clears its
PEND and sets its ACTIVE; with none it gives NONE. Vector 2047 of panel 0 stays pending while a further twin mismatch waits. A write of IEOI clears ACTIVE of the vector named (R90). -/
def Sys2Proof.Spec.InterruptAcknowledge : Prop :=
  ∀ (th : Thr) (p n : Nat) (s u : State), s.startsIn th u → u.paired (th.val / 2) = false → u.seatOf th = some (p, n) → p < 512 →
    1 ≤ (u.thr th).pl → (u.thr th).pl ≤ 2 →
    let ready := vectorReady u p n (th.val % 2) (u.thr th).pl
    (∀ (rd : GIdx) j, rd.val ≠ 0 → ready j →
      (∀ i, ready i → vectorPrio u p i ≤ vectorPrio u p j ∧ (vectorPrio u p i = vectorPrio u p j → j ≤ i)) →
      ∃ t, exec (.iack th rd) s = .next t ∧ (t.thr th).gr rd = BitVec.ofNat 64 (vectorPrio u p j * 65536 + j) ∧
        t.fld { kind := .icVec, i := p, j := j } F.icVec.PEND = (if p = 0 ∧ j = 2047 ∧ 2 ≤ u.twinEvents.length then 1 else 0) ∧
        t.fld { kind := .icVec, i := p, j := j } F.icVec.ACTIVE = 1 ∧
        ∀ i, i < 2048 → i ≠ j → t.rd { kind := .icVec, i := p, j := i } = u.rd { kind := .icVec, i := p, j := i }) ∧
    (∀ (rd : GIdx), rd.val ≠ 0 → (∀ j, ¬ready j) →
      ∃ t, exec (.iack th rd) s = .next t ∧ (t.thr th).gr rd = 0x80000000 ∧ u.ran t th ((u.thr th).pc + 4) [rd] [] [] []) ∧
    (∀ (ra : GIdx), ∃ t, exec (.ieoi th ra) s = .next t ∧
      let r : Reg := { kind := .icVec, i := p, j := ((u.thr th).gr ra).toNat % 2048 }
      t.fld r F.icVec.ACTIVE = 0 ∧ t.fld r F.icVec.PEND = u.fld r F.icVec.PEND ∧ t.fld r F.icVec.EN = u.fld r F.icVec.EN ∧
      (t.thr th).pc = (u.thr th).pc + 4)

/-- A thread with IE = 1 takes its highest-priority deliverable vector with PRIO ≥ IPL and a target level no lower than its own as
cause 0x20, at the vector's level and at the next instruction (R82, R83, R89); with IE = 0 it takes none. A twin mismatch, vector
2047 of panel 0, precedes every other vector, as cause 0x11 at H with CODE the panel (R82, R85). -/
def Sys2Proof.Spec.InterruptEntry : Prop :=
  ∀ (th : Thr) (p n : Nat) (s : State), between s th p n → p < 512 →
    let x := s.thr th
    let can := fun j l => vectorReady s p n (th.val % 2) l j ∧ x.st F.crSTATUS.IPL ≤ vectorPrio s p j ∧ x.pl ≤ l
    (∀ q ∈ s.sint, ¬(q.1 = p ∧ q.2.1 = n ∧ q.2.2.1 = th.val % 2)) →
    (∀ j l, x.st F.crSTATUS.IE = 1 → (p = 0 → ¬can 2047 2) → can j l →
      (∀ i m, can i m → vectorPrio s p i ≤ vectorPrio s p j ∧ (vectorPrio s p i = vectorPrio s p j → j ≤ i)) →
      ∃ t, exec (.interruptEntry th) s = .next t ∧ enteredAt s t th l 0x20 0 0 false x.pc 0 ∧ ∀ a, t.byte a = s.byte a) ∧
    (p = 0 → x.st F.crSTATUS.IE = 1 → can 2047 2 →
      ∃ t, exec (.interruptEntry th) s = .next t ∧ enteredAt s t th 2 0x11 0 (s.twinEvents.headD 0) false x.pc 0 ∧
        ∀ a, t.byte a = s.byte a) ∧
    (x.st F.crSTATUS.IE = 0 → exec (.interruptEntry th) s = .next s)

/-- A secure interrupt is taken whatever IE and IPL hold, at H in panel 0 and at S elsewhere, with SEC = 1 and CODE its number, and
is consumed (R87), before any other event (R85); while the target level's EXL bit is 1 it waits, and after the wait it is taken with NEST = 1. One for S is
not taken while the thread runs at H. -/
def Sys2Proof.Spec.SecureInterrupts : Prop :=
  ∀ (th : Thr) (p n num : Nat) (rest : List (Nat × Nat × Nat × Nat)) (s : State), between s th p n → num < 64 →
    s.sint = (p, n, th.val % 2, num) :: rest → (p, n, th.val % 2, num) ∉ rest →
    let x := s.thr th
    let l := if p = 0 then 2 else 1
    let exl := x.st (if l = 2 then F.crSTATUS.HEXL else F.crSTATUS.SEXL)
    (x.pl ≤ l → exl = 0 → ∃ t, exec (.secureInterruptEntry th) s = .next t ∧ enteredAt s t th l 0x20 0 num true x.pc 0 ∧
      t.sint = rest ∧ exec (.interruptEntry th) s = .next t) ∧
    (exl = 1 ∨ l < x.pl → exec (.secureInterruptEntry th) s = .next s) ∧
    (x.pl ≤ l → ∃ t, exec (.secureInterruptWaitExpiry th) s = .next t ∧ enteredAt s t th l 0x20 0 num true x.pc 0 ∧ t.sint = rest)

/-- An illegal word takes cause 0x02 with its subcause and the word in EADDR at the thread's own level, and no general register
changes (R64, R65): here a reserved major opcode (0x00), a field not zero (0x02), and the words of all zeros and all ones. -/
def Sys2Proof.Spec.IllegalWords : Prop :=
  ∀ (th : AnyThr) (w : IWord) (s u : State), th.val ≠ thmThread → s.startsIn th u → s.applyDebug th = s →
    u.thr th = s.thr th → u.panelOf th = s.panelOf th →
    let m := w.toNat / 2 ^ 26
    let traps := fun (sub : Nat) => ∃ t, exec (.illegalInstruction th w) s = .next t ∧
      entered u t th 0x02 sub 0 (u.thr th).pc (w.setWidth 64) ∧ (∀ r, (t.thr th).gr r = (u.thr th).gr r) ∧
      ∀ a, t.byte a = u.byte a
    (m = 0 ∨ w = 0xFFFFFFFF ∨ (0x0B ≤ m ∧ m ≤ 0x0F) ∨ m = 0x17 ∨ (0x1C ≤ m ∧ m ≤ 0x1F) ∨ (0x2A ≤ m ∧ m ≤ 0x2F) ∨
      (0x31 ≤ m ∧ m ≤ 0x37) ∨ 0x3C ≤ m → traps 0) ∧
    ((m = 8 ∨ m = 9) → w.toNat / 2 ^ 16 % 32 ≠ 0 → traps 2) ∧ (m = 0x26 → w.toNat / 2 ^ 25 % 2 = 1 → traps 2)

/-- Which instruction a word is (R64, R66, Tables ISA-1 to ISA-8): one is selected exactly where the encoding is not reserved and no field
that must be zero is set; a word of each format, with every field where its table puts it, selects its instruction. -/
def Sys2Proof.Spec.WordsSelect : Prop :=
  (∀ (th : AnyThr) (w : IWord) (b p panel0 utr uctr : Bool) (pl frm : Nat), th.val ≠ thmThread →
    let sub := illegalSub w.toNat pl panel0 utr uctr frm
    (decodeWord th w b p = none ↔ sub = some 0x00 ∨ sub = some 0x02)) ∧
  (∀ (th : Thr) (d a r : GIdx) (k : KIdx) (h z b p : Bool) (v : Fin 4) (x : BitVec 16) (y : BitVec 15) (o : BitVec 25) (c : BitVec 12) (n : Fin 64),
    let any : AnyThr := th.castLE (by decide)
    let word := fun (m f1 f2 low : Nat) => BitVec.ofNat 32 (m * 2 ^ 26 + f1 * 2 ^ 21 + f2 * 2 ^ 16 + low)
    let sel := fun (w : IWord) (i : Instr) => decodeWord any w b p = some i
    let B := fun (q : Bool) => if q then 1 else 0
    let vec := fun (m op : Nat) => word m d a (r * 2 ^ 11 + k * 2 ^ 8 + B z * 2 ^ 7 + v * 2 ^ 5 + op)
    sel (word 0x01 d a (r * 2 ^ 11 + B h * 2 ^ 10)) (.add any d a r h) ∧ sel (word 0x01 d a (r * 2 ^ 11 + 0x005)) (.andn any d a r) ∧
    sel (word 0x01 d a (r * 2 ^ 11 + B h * 2 ^ 10 + 0x017)) (.remu any d a r h) ∧ sel (word 0x01 d a 0x021) (.ctz any d a) ∧
    sel (word 0x02 d a x.toNat) (.addi any d a x) ∧ sel (word 0x08 d 0 x.toNat) (.lui any d x) ∧
    sel (word 0x0A d a (2 * 2 ^ 6 + n)) (.shiSra any d a (.full n)) ∧
    sel (word 0x13 d a x.toNat) (.ld any d a x) ∧ sel (word 0x18 d a x.toNat) (.sb any d a x) ∧
    sel (word 0x24 d a (B h * 2 ^ 15 + y.toNat)) (.bltu any d a h y) ∧
    sel (BitVec.ofNat 32 (0x27 * 2 ^ 26 + B h * 2 ^ 25 + o.toNat)) (.jal any h o) ∧ sel (word 0x28 d a x.toNat) (.jalr any d a x) ∧
    sel (word 0x29 d a (r * 2 ^ 11 + 1 * 2 ^ 4 + 3)) (.amoOr th d a r true) ∧ sel (word 0x29 d a (r * 2 ^ 11 + 2 * 2 ^ 4 + 9)) (.amoCas th d a r true) ∧
    sel (word 0x30 0 0 (5 * 2 ^ 12 + c.toNat)) (.syscall th c) ∧ sel (word 0x30 0 0 (8 * 2 ^ 12)) (.wait any b p) ∧
    sel (word 0x30 0 a (0xD * 2 ^ 12 + B h * 2 ^ 2 + 2)) (.tlbinvVa th a h) ∧
    sel (vec 0x38 14) (.vaddsat th d a r k z v) ∧ sel (vec 0x3A 3) (.vgather th d a r k z v) ∧ sel (vec 0x3B 6) (.vperm th d a r k z v) ∧
    (v.val = 2 → sel (vec 0x39 7) (.vfma th d a r k z .single)) ∧
    sel (word 0x39 d a (3 * 2 ^ 11 + k * 2 ^ 8 + B z * 2 ^ 7 + 1 * 2 ^ 5 + 15)) (.vfcvtw th d a k z .half .double))

/-- With translation off at the thread's level and no buffered store to the line of the pc, an instruction starts in the state it
is in, once the core's caches have given the line at the pc; nothing is asked of them for an address that is no memory (R91, R94,
R127, R130). While they lack the line the instruction waits, and no register of the thread changes.
Model's choices that it rests on: log entries 6, 123. -/
def Obligations.FetchWithoutTranslation : Prop :=
  ∀ (th : Nat) (s u : State), th ≠ thmThread → s.applyDebug th = s →
    (s.thr th).crFld (if (s.thr th).pl = 2 then 0x041 else 0x040) F.crPTBASE.TEN = 0 →
    (∀ e ∈ (s.thr th).wc, e.1 / 64 ≠ (s.thr th).pc.toNat / 64) →
    (s.startsIn th u → ∃ a r, s.translate th .fetch (s.thr th).pc true = (s, .ok a) ∧ a.pa = (s.thr th).pc.toNat ∧
      s.fetchReach th a = (u, r) ∧ r ≠ .wait ∧ (a.target.owned = false → u = s)) ∧
    (∀ a (k : AnyThr) rd ra rb w, k.val = th → s.live th = true → (s.thr th).imprecise = none → s.poisoned (s.thr th).pc.toNat 4 = false →
      (s.core (th / 2)).held = [] → s.translate th .fetch (s.thr th).pc true = (s, .ok a) → s.fetchReach th a = (u, .wait) →
      exec (.add k rd ra rb w) s = .next u ∧ u.thr th = s.thr th)

/-- Reads and writes of control registers on a core (R63, R74, R81).
Model's choices that it rests on: log entries 6, 111. -/
def Obligations.ControlRegisters : Prop := Spec.ControlReads ∧ Spec.ControlWrites ∧ Spec.MachineCheckValid ∧ Spec.NoWriteRaisesLevel

/-- What a level may not do, words that are no instruction, and which instruction a word is (R64–R66, R73, R81).
Model's choices that it rests on: log entry 6. -/
def Obligations.IllegalInstructions : Prop := Spec.PrivilegeTraps ∧ Spec.IllegalWords ∧ Spec.WordsSelect

/-- SYSCALL, HOSTCALL and ERET (R82, R83, R84).
Model's choices that it rests on: log entries 6, 112. -/
def Obligations.CallsAndReturns : Prop := Spec.SystemCalls ∧ Spec.ExceptionReturn

/-- The barriers, TLBINV and WAIT (R75, R76, R77, R106, R107).
Model's choices that it rests on: log entries 6, 23, 24. -/
def Obligations.SystemOperations : Prop := Spec.Barriers ∧ Spec.PredictionBarriers ∧ Spec.TlbInvalidation ∧ Spec.WaitInstruction

/-- Interrupts and secure interrupts (R87, R89, R90).
Model's choices that it rests on: log entries 7, 120. -/
def Obligations.Interrupts : Prop := Spec.InterruptAcknowledge ∧ Spec.InterruptEntry ∧ Spec.SecureInterrupts

/-! ### The Time Unit -/

namespace Sys2Proof.Spec
open Sys2Proof Sys2Proof.Machine

/-- The tracking of the module's own reference: `own` on a follower, `main` otherwise (R493). -/
def refTrack (s : State) : Track := if s.follower then s.time.own else s.time.main

/-- Table TIM-6 on the loss of the reference: FREERUN and HOLDOVER stay, LOCKED goes to HOLDOVER, ACQUIRING to the state
from which it was entered. -/
def afterLoss (st : Nat) (fromHold : Bool) : Nat :=
  match st with
  | 2 => 3
  | 1 => if fromHold then 3 else 0
  | n => n

/-- The module follows its own reference and the reference is lost: REF_LOST is set, STATE moves as Table TIM-6 gives, and
OWNSTATE with it (Table TIM-5); the count of samples is empty. -/
def refLost (s t : State) : Prop :=
  t.flag tuStatusR F.tuStatus.REF_LOST = true ∧ t.tuState = afterLoss s.tuState s.time.main.fromHold ∧
  t.ownState = t.tuState ∧ t.time.main.good = 0 ∧ t.time.main.samples = []

/-- No register changes, and of the Time Unit's other state only the samples of the module's own reference. -/
def onlySamples (s t : State) (new : List Sample) (bad : Nat) : Prop :=
  { t with time := s.time } = s ∧ refTrack t = { refTrack s with samples := (refTrack s).samples ++ new } ∧ t.time.badEdges = bad

/-- PPS_IN with REF10M_IN present (R27, R29): an edge is a sample of the own reference at its distance from the expected
instant, PPSDLY added; after lock one more than 1 µs away is rejected, which breaks the count of samples, as a missing edge
does. The third rejected or missing edge in a row loses the reference. -/
def PpsInputs : Prop :=
  ∀ s : State, s.refsel = 1 →
    (∀ edge : Int, s.time.ref10m = true →
      let off := edge + toI32 (s.rd { kind := .tuPpsdly })
      let rejected := s.ownState = 2 ∧ 1000 < off.natAbs
      ∃ t, exec (.ppsIn edge) s = .next t ∧
        (¬rejected → onlySamples s t [.offset off] 0) ∧
        (rejected → s.time.badEdges < 2 → onlySamples s t [.broken] (s.time.badEdges + 1)) ∧
        (rejected → 2 ≤ s.time.badEdges → s.follower = false → refLost s t)) ∧
    ∃ t, exec .ppsInMissing s = .next t ∧
      (s.time.badEdges < 2 → onlySamples s t [.broken] (s.time.badEdges + 1)) ∧
      (2 ≤ s.time.badEdges → s.follower = false → refLost s t)

/-- REF10M_IN lost for 10 stitches, or no master heard before the announce receipt timeout: the followed reference is lost
(R27, R28). With REF10M_IN back, PPS_IN counts again. -/
def ReferenceInputs : Prop :=
  ∀ s : State,
    (s.refsel = 1 → s.time.ref10m = true → s.follower = false →
      ∃ t, exec .ref10mInLoss s = .next t ∧ t.time.ref10m = false ∧ refLost s t) ∧
    (s.refsel = 2 → s.follower = false →
      ∃ t, exec .announceReceiptTimeout s = .next t ∧ t.time.masters = [] ∧ refLost s t) ∧
    ∃ t, exec .ref10mInReturn s = .next t ∧ t.time.ref10m = true ∧ { t with time := s.time } = s

/-- The PTP client (R28, R29): an Announce of the module's domain on the client's uplink is remembered in place of the
sender's last one, with the boundary at which it came and that of the one before; a Sync of the chosen master, the one whose data
set is lowest of those that qualify, is a sample. A message of another domain does nothing, nor a Sync of another sender. -/
def PtpClient : Prop :=
  ∀ (u : Uplink) (s : State), s.ptpClient u = true →
    (∀ (a : Announce) (dom : Byte), dom.toNat = s.fld tuCtrlR F.tuCtrl.PTPDOM →
      ∃ t, exec (.ptpAnnounce u dom a) s = .next t ∧ { t with time := s.time } = s ∧
        ∀ b, b ∈ t.time.masters ↔
          (b = { ann := a, at_ := s.ticks, prev := (s.time.masters.find? fun m => m.ann.sender == a.sender).map (·.at_) }) ∨
            b ∈ s.time.masters ∧ b.ann.sender ≠ a.sender) ∧
    (∀ (a : Announce) (dom : Byte) x off, dom.toNat ≠ s.fld tuCtrlR F.tuCtrl.PTPDOM →
      exec (.ptpAnnounce u dom a) s = .next s ∧ exec (.ptpSync u ⟨dom, x⟩ off) s = .next s) ∧
    ∀ (best : Announce) (dom : Byte) (off : Int), dom.toNat = s.fld tuCtrlR F.tuCtrl.PTPDOM → best ∈ s.qualified →
      (∀ b ∈ s.qualified, b = best ∨ lexLt (annKey best) (annKey b) = true) →
      (∃ t, exec (.ptpSync u ⟨dom, best.sender⟩ off) s = .next t ∧ onlySamples s t [.offset off] s.time.badEdges) ∧
      ∀ x, x ≠ best.sender → exec (.ptpSync u ⟨dom, x⟩ off) s = .next s

/-- The discipline step (R18, R21, R29, R30, Table TIM-6), here with one sample waiting, on a module alone: a present reference
takes FREERUN and HOLDOVER to ACQUIRING; the 16th sample in a row within 100 ns takes ACQUIRING to LOCKED, and a sample
outside 100 ns starts the count again; before commitment an offset of more than 1 µs is taken out of TOD in one write, under PPS_IN
of the nanoseconds only until Ockar has set a time (log entry 105), and otherwise slew and frequency correction together move the
stitch by no more than 2 ns. A second step in the same stitch, or one in a stitch that has dropped the task, does nothing. -/
def DisciplineStep : Prop :=
  (∀ s : State, s.time.over 6 = true → exec .disciplineStep s = .next s) ∧
  ∀ (o : Int) (s : State), s.time.over 6 = false → s.flag tuCtrlR F.tuCtrl.FABTIME = false → s.isMaster = false →
    s.time.main.samples = [.offset o] →
    let steps := s.committed = false ∧ 1000 < o.natAbs
    ∃ t, exec .disciplineStep s = .next t ∧ t.time.main.samples = [] ∧ t.time.over 6 = true ∧
      t.rd { kind := .tuOffset } = ofI32 (max (-2147483647) (min 2147483647 o)) ∧
      (s.tuState = 0 ∨ s.tuState = 3 → t.tuState = 1 ∧ t.time.main.fromHold = decide (s.tuState = 3)) ∧
      (s.tuState = 1 → o.natAbs ≤ 100 → s.time.main.good = 15 → t.tuState = 2) ∧
      (s.tuState = 1 → o.natAbs ≤ 100 → s.time.main.good < 15 → t.tuState = 1 ∧ t.time.main.good = s.time.main.good + 1) ∧
      (s.tuState = 1 → 100 < o.natAbs → t.tuState = 1 ∧ t.time.main.good = 0) ∧
      (s.tuState = 2 → t.tuState = 2) ∧
      (steps → 0 ≤ (s.tod : Int) - o → (s.tod : Int) - o < 2 ^ 48 * 1000000000 → s.tod < 2 ^ 48 * 1000000000 →
        (t.tod : Int) = if s.refsel = 1 ∧ s.time.ockarSet = false
          then s.tod / 1000000000 * 1000000000 + ((s.tod : Int) - o) % 1000000000 else s.tod - o) ∧
      (¬steps → t.tod = s.tod ∧ t.stitch = s.stitch ∧
        (-o * 65536 - t.time.slew).natAbs * 100000 + (toI32 (t.rd { kind := .tuFreqadj })).natAbs ≤ 131072 * 100000) ∧
      (s.committed = true → 10000000 < o.natAbs → t.flag tuStatusR F.tuStatus.TIME_FAULT = true)

/-- HOLDOVER for 8 hours since LOCKED was left: the clock class advertised becomes 52; it is 7 before, 6 in LOCKED and 248 in
FREERUN and ACQUIRING (R37). A read of TU.TOD_S latches the nanoseconds of the same instant (R26). -/
def HoldoverAndReads : Prop :=
  ∀ s : State,
    (s.tuState = 3 → 2880000000 ≤ s.time.sinceLock →
      ∃ t, exec .holdoverLimit s = .next t ∧ t.clockClass = 52 ∧ { t with time := s.time } = s) ∧
    (s.tuState = 3 → s.time.class52 = false → s.clockClass = 7) ∧ (s.tuState = 2 → s.clockClass = 6) ∧
    (s.tuState = 0 ∨ s.tuState = 1 → s.clockClass = 248) ∧
    ∃ t, exec .tuTodS s = .next t ∧ t.time.latched = some (s.rd { kind := .tuTodNs }) ∧ { t with time := s.time } = s

/-- A dropped stitch of a task that can overrun (R21, R22): TU.DROPn counts it, the task is over for the stitch, a plan of the Cutter's
is given up, and the run of drops grows by one; the 100th
drop in a row and every further 100th is recorded as PERSISTENT_DROP with the task and the count in DETAIL, while the collector
still takes corrected records in this stitch. Of a task that is done or dropped already nothing happens. -/
def DroppedStitches : Prop :=
  (∀ (n : Fin 16) (s : State), s.time.over n = true → exec (.droppedStitch n) s = .next s) ∧
  ∀ (n : Fin 16) (s : State), 5 ≤ n.val → n.val ≤ 10 → n.val ≠ 7 → s.time.over n = false →
    s.ras.writtenCorr < 191 → (∀ e ∈ s.ras.ring.take s.ras.written, e.code ≠ 0x02) →
    let r : Reg := { kind := .tuDrop, i := n }
    let k := (SMap.find s.time.drops n).getD 0 + 1
    ∃ t, exec (.droppedStitch n) s = .next t ∧ t.fld r F.tuDrop.COUNT = min (2 ^ 64 - 1) (s.fld r F.tuDrop.COUNT + 1) ∧
      SMap.find t.time.drops n = some k ∧ t.time.over n = true ∧ (n.val = 5 ∨ n.val = 8 → t.cut.plan = none) ∧
      (k % 100 = 0 → ∃ e ∈ t.ras.ring, e.code = 0x02 ∧ e.detail % 256 = n.val ∧ e.detail / 2 ^ 32 = k)

/-! Fabric time -/

/-- The key an ELECT cell carries (Table TIM-7). -/
def cellKey (c : Cell) : ElectKey := { prio1 := cd c 2 1, qual := cd c 1 1, modid := cd c 4 2 % 4096 }

/-- Lower keys win, compared as (PRIO1, QUAL, module ID) (R32). -/
def keyLess (a b : ElectKey) : Prop :=
  a.prio1 < b.prio1 ∨ a.prio1 = b.prio1 ∧ (a.qual < b.qual ∨ a.qual = b.qual ∧ a.modid < b.modid)

/-- ELECT while an election is open (R33): a key that beats the best seen becomes the best and goes out of every other UP
port; another changes nothing. With none open, the cell opens one. -/
def ElectionKeys : Prop :=
  ∀ (p : Port) (c : Cell) (s : State), s.portUp p = true → s.flag tuCtrlR F.tuCtrl.FABTIME = true →
    (s.time.electing = none → ∃ t, exec (.elect p c) s = .next t ∧ t.time.electing = some 0 ∧ t.regs = s.regs) ∧
    ∀ n k, s.time.electing = some n → s.time.best = some k →
      (keyLess (cellKey c) k → ∃ t, exec (.elect p c) s = .next t ∧ t.time.best = some (cellKey c) ∧
        t.time.electing = some n ∧ t.weft.own.length + 1 = s.weft.own.length + s.upPorts.length ∧ t.regs = s.regs) ∧
      (¬keyLess (cellKey c) k → exec (.elect p c) s = .next s)

/-- The end of an election, 128 stitches after it began here (R32, R495): the module whose key is best is master, itself only while it
is eligible; with no key the module has no master, MASTER_ID is its own ID and IS_MASTER is 0. Time does not move (R33). -/
def ElectionEnds : Prop :=
  ∀ (n : Nat) (s : State), s.time.electing = some n → 128 ≤ n →
    ∃ t, exec .electionEnd s = .next t ∧ t.time.electing = none ∧ t.tod = s.tod ∧ t.stitch = s.stitch ∧
      (∀ k, s.time.best = some k → k.modid < 4096 → t.fld tuStatusR F.tuStatus.MASTER_ID = k.modid ∧
        t.isMaster = (decide (k.modid = s.myId) && s.flag tuCtrlR F.tuCtrl.MASTER_ELIG)) ∧
      (s.time.best = none → t.fld tuStatusR F.tuStatus.MASTER_ID = s.myId ∧ t.isMaster = false)

/-- SYNC of the master that a follower follows, or the first SYNC of a module without a master, whose sender it takes (R29, R34, R35,
R495): one sample of its offset, passed on out of the other UP ports with the link's measured delay (WP.LDLY, 1/16 ns) and the
residence time added to CORR (units of 2^-16 ns) and HOPS one higher; an offset of more than 1 µs sets ALIGN_FAULT; it never steps
time. A candidate whose PRIO1 is lower than the sender's has an election open after it (R33). -/
def SyncCells : Prop :=
  ∀ (p : Port) (c : Cell) (residence : BitVec 64) (o : Int) (s : State), s.portUp p = true → s.follower = true →
    let m := cd c 4 2 % 4096
    m ≠ s.myId → (s.time.known = true → s.fld tuStatusR F.tuStatus.MASTER_ID = m) → SMap.find s.time.syncSeen m = none →
    ∃ t f, exec (.sync p c residence o) s = .next t ∧ t.time.main.samples = s.time.main.samples ++ [.offset o] ∧
      t.time.sinceSync = 0 ∧ t.tod = s.tod ∧ t.stitch = s.stitch ∧ t.fld tuStatusR F.tuStatus.MASTER_ID = m ∧
      (∀ q ∈ s.upPorts, q ≠ p.val → (some q, f) ∈ t.weft.own) ∧ cd f 0 16 = cd c 0 16 ∧
      cd f 16 8 = (cd c 16 8 + s.fld { kind := .wpLdly, i := p } F.wpLdly.DELAY * 4096 + residence.toNat) % 2 ^ 64 ∧
      cd f 38 2 = (cd c 38 2 + 1) % 65536 ∧
      (1000 < o.natAbs → t.flag tuStatusR F.tuStatus.ALIGN_FAULT = true) ∧
      (s.flag tuCtrlR F.tuCtrl.MASTER_ELIG = true → s.fld tuCtrlR F.tuCtrl.PRIO1 < cd c 2 1 → t.time.electing.isSome = true)

/-- MASTER_LOSS (R34): with no SYNC of the master in the 64 stitches after the last one's, a LOCKED follower enters HOLDOVER,
sets REF_LOST and starts an election. A module that has been given a master which never sent one only starts an election (log
entry 107). -/
def MasterLost : Prop :=
  ∀ s : State, s.follower = true → 65 ≤ s.time.sinceSync →
    (s.time.followed = true → s.tuState = 2 →
      ∃ t, exec .masterLoss s = .next t ∧ t.tuState = 3 ∧ t.flag tuStatusR F.tuStatus.REF_LOST = true ∧
        t.ownState = s.ownState ∧ t.time.electing.isSome = true) ∧
    (s.time.followed = false → s.time.known = true →
      ∃ t, exec .masterLoss s = .next t ∧ t.regs = s.regs ∧ t.time.electing.isSome = true)

/-- The delay exchange of a link (R34, R36): every 1,024 stitches a DELAY_REQ waits to leave by the port, and a DELAY_REQ received is
answered out of its port with a DELAY_RESP; each carries its sender's key and the next SEQ of its own type. -/
def DelayExchange : Prop :=
  ∀ (p : Port) (s : State), s.portUp p = true →
    (1024 ≤ (SMap.find s.time.sinceDelay p).getD 0 →
      ∃ t c, exec (.linkDelayMeasurement p) s = .next t ∧ t.weft.own = s.weft.own ++ [(some p.val, c)] ∧
        cd c 0 1 = 3 ∧ cd c 1 1 = s.qual ∧ cd c 2 1 = s.fld tuCtrlR F.tuCtrl.PRIO1 ∧ cd c 4 2 = s.myId ∧
        cd c 6 2 = (SMap.find s.time.seqs 3).getD 0 % 65536 ∧ SMap.find t.time.delayReq p = some (cd c 6 2) ∧ t.regs = s.regs) ∧
    ∀ (q : Cell) (res : BitVec 64), ∃ t c, exec (.delayReq p q res) s = .next t ∧
      t.weft.own = s.weft.own ++ [(some p.val, c)] ∧ cd c 0 1 = 4 ∧ cd c 1 1 = s.qual ∧
      cd c 2 1 = s.fld tuCtrlR F.tuCtrl.PRIO1 ∧ cd c 4 2 = s.myId ∧ cd c 6 2 = (SMap.find s.time.seqs 4).getD 0 % 65536 ∧
      cd c 16 8 = res.toNat ∧ { t with weft := s.weft, time := s.time } = s

/-- The PTP service (R37): where PTP is served, a Delay_Req (or under P2P a Pdelay_Req) is answered with its receive
timestamp, under two-step P2P with a follow-up behind it; an Announce with the module's domain, clock class and UTC offset, and the
grandmaster's priorities, identity and steps, which on a boundary clock are its master's one step on, goes out before a Sync, which
a Follow_Up follows under two-step. -/
def PtpService : Prop :=
  ∀ (port : PtpPort) (s : State), s.ptpServed port = true →
    (∀ client seq rx, ∃ t, exec (.ptpDelayReq port client seq rx (s.flag tuCtrlR F.tuCtrl.PTP_P2P)) s = .next t ∧
      { t with sent := s.sent } = s ∧
      t.sent = s.sent ++ [.ptp port (if s.flag tuCtrlR F.tuCtrl.PTP_P2P then 3 else 9) [seq.toNat, client.toNat, rx.toNat]] ++
        (if s.flag tuCtrlR F.tuCtrl.PTP_P2P && s.flag tuCtrlR F.tuCtrl.PTP_2STEP
          then [.ptp port 0xA [seq.toNat, client.toNat, s.tod]] else [])) ∧
    ∃ t gm, exec (.ptpServiceMessage port) s = .next t ∧ { t with sent := s.sent } = s ∧
      (∀ a, s.refsel = 2 → s.ptpMaster = some a → gm = [a.prio1.toNat, a.prio2.toNat, a.gm.toNat, a.steps.toNat + 1]) ∧
      (s.refsel ≠ 2 → gm = [128, 128, Config.clockIdentity.toNat, 0]) ∧
      t.sent = s.sent ++ [.ptp port 0xB ([s.fld tuCtrlR F.tuCtrl.PTPDOM, s.clockClass, s.rd { kind := .tuUtcofs }] ++ gm)] ++
        (if s.flag tuCtrlR F.tuCtrl.PTP_2STEP then [.ptp port 0 [], .ptp port 8 [s.tod]] else [.ptp port 0 [s.tod]])

end Sys2Proof.Spec

/-- The module's own time reference: inputs, client, discipline, holdover; and dropped stitches (R18, R21, R22,
R26–R30, R37).
Model's choices that it rests on: log entries 7, 9, 31, 103, 104, 105, 106. -/
def Obligations.TimeReference : Prop :=
  Spec.PpsInputs ∧ Spec.ReferenceInputs ∧ Spec.PtpClient ∧ Spec.DisciplineStep ∧ Spec.HoldoverAndReads ∧ Spec.PtpService ∧
  Spec.DroppedStitches

/-- Elections, SYNC cells and link delays (R32–R36, R495).
Model's choices that it rests on: log entries 9, 31, 33, 107. -/
def Obligations.FabricTime : Prop :=
  Spec.ElectionKeys ∧ Spec.ElectionEnds ∧ Spec.SyncCells ∧ Spec.MasterLost ∧ Spec.DelayExchange

/-! ### Panels -/

namespace Sys2Proof.Spec
open Sys2Proof Sys2Proof.Machine

/-- The watchdog's expiry (R45, R56, Table ERR-11). The count of a RUNNING panel that held a core falls by one at the boundary, and
the one that reaches zero has expired, whatever comes after it; a tenant's expiry is a trigger for a panel reset and,
the fourth within 6,000,000 stitches, for FAULTED; panel 0's asks for a module reset and writes a HOST_PANEL record of class
3. -/
def PanelWatchdog : Prop :=
  ∀ (p : Panel) (s : State), s.pstate p = psRunning → (s.panel p).wdogDue = true →
    let recent := (s.panel p).wdogHits.filter fun t => decide (s.ticks < t + 6000000)
    ∃ t, exec (.panelWdog p) s = .next t ∧ (t.panel p).wdogDue = false ∧
      (p.val ≠ 0 → recent.length < 3 → (t.panel p).triggers = (s.panel p).triggers ++ [(.wdog, none)] ∧
        t.resetDue = s.resetDue) ∧
      (p.val ≠ 0 → 3 ≤ recent.length → (t.panel p).triggers = (s.panel p).triggers ++ [(.fault 1, none)]) ∧
      (p.val = 0 → t.resetDue.isSome = true ∧ ∃ e ∈ t.ras.ring, e.cls = 3 ∧ e.code = 0x4D) ∧ t.pstate p = psRunning

/-- The count of the watchdog (R56): at one, in a stitch in which the RUNNING panel held a core, the boundary's count brings it to zero,
and the expiry is due. -/
def WatchdogCount : Prop :=
  ∀ (p : Panel) (c : Tile) (s : State), s.pstate p = psRunning → s.flag (cutCoreR c) F.cutCore.G = true →
    s.fld (cutCoreR c) F.cutCore.PANEL = p → s.fld (pwdogR p) F.hubPwdog.REMAIN = 1 →
    (s.wdogTick.panel p).wdogDue = true ∧ s.wdogTick.fld (pwdogR p) F.hubPwdog.REMAIN = 0

/-- RESET_COMPLETE and TEAR_COMPLETE (R43): the end of the panel's RESETTING or TEARING is accepted, and takes effect at the next boundary; the
state stays until then. -/
def PanelEnds : Prop :=
  ∀ (p : Panel) (s : State),
    (s.pstate p = psResetting → (∀ x ∈ (s.panel p).triggers, x.1 ≠ .resetDone) →
      ∃ t, exec (.resetComplete p) s = .next t ∧ t.pstate p = psResetting ∧
        (t.panel p).triggers = (s.panel p).triggers ++ [(.resetDone, none)]) ∧
    (s.pstate p = psTearing → (∀ x ∈ (s.panel p).triggers, x.1 ≠ .tearDone) →
      ∃ t, exec (.tearComplete p) s = .next t ∧ t.pstate p = psTearing ∧
        (t.panel p).triggers = (s.panel p).triggers ++ [(.tearDone, none)])

/-- RESETTING ends at the boundary (R43, R45, R56, Table PNL-14): RUNNING, SELFRESET cleared, the watchdog reloaded, every seat record
cleared but seat 0's, whose thread 0 stands at the contract's entry address at level S. -/
def PanelResetEnds : Prop :=
  ∀ (p : Panel) (s : State), p.val ≠ 0 → s.pstate p = psResetting → (s.panel p).triggers = [(.resetDone, none)] →
    let t := s.panelBoundary p
    t.pstate p = psRunning ∧ t.fld (pstateR p) F.hubPstate.SELFRESET = 0 ∧
      t.fld (pwdogR p) F.hubPwdog.REMAIN = s.fld (pwdogR p) F.hubPwdog.PERIOD ∧
      (t.seat p 0).thr0.pc = BitVec.ofNat 64 (s.ct p 32 8) &&& ~~~3#64 ∧ (t.seat p 0).thr0.pl = 1 ∧
      (t.seat p 0).thr0.started = true ∧ (t.seat p 0).thr1.started = false ∧
      ∀ n, 0 < n → n < 256 → (t.seat p n).valid = false

/-- TEARING ends at the boundary (R43, R58, R59): EMPTY with every other field of the page zero but PANEL, no contract, no seat record,
no trigger; the other panels' states stay. -/
def PanelTearEnds : Prop :=
  ∀ (p : Panel) (s : State), s.pstate p = psTearing → (s.panel p).triggers = [(.tearDone, none)] →
    let t := s.panelBoundary p
    t.pstate p = psEmpty ∧ t.rd (pwdogR p) = 0 ∧ t.rd (pfaultR p) = 0 ∧
      t.fld (pstateR p) F.hubPstate.PANEL = p ∧ (∀ j, j < 8 → t.rd { kind := .cutContract, i := p, j := j } = 0) ∧
      (∀ n, n < 256 → t.seat p n = SeatRec.init) ∧ (t.panel p).triggers = [] ∧
      ∀ q : Panel, q ≠ p → t.pstate q = s.pstate q

/-- One transition at a boundary (R43, R44), where no command waits for its answer: of the triggers that lead out of RUNNING a
fault beats a pause, and a trigger that leads out of another state is dropped. -/
def TransitionOrder : Prop :=
  ∀ (p : Panel) (c : Nat) (s : State), p.val ≠ 0 → c < 256 → s.pstate p = psRunning →
    ((s.panel p).triggers = [(.pause, none), (.fault c, none)] ∨ (s.panel p).triggers = [(.fault c, none), (.pause, none)] →
      (s.panelBoundary p).pstate p = psFaulted ∧ (s.panelBoundary p).fld (pfaultR p) F.hubPfault.CAUSE = c) ∧
    ((s.panel p).triggers = [(.resume, none), (.pause, none), (.launch, none)] → (s.panelBoundary p).pstate p = psPaused) ∧
    ((s.panel p).triggers = [(.resume, none)] → (s.panelBoundary p).pstate p = psRunning)

end Sys2Proof.Spec

/-- The lifecycle of panels: the watchdog, the ends of RESETTING and TEARING, and the order of triggers (R43, R44, R45, R56,
R58, R59).
Model's choices that it rests on: log entries 29, 36. -/
def Obligations.PanelLifecycle : Prop :=
  Spec.PanelWatchdog ∧ Spec.WatchdogCount ∧ Spec.PanelEnds ∧ Spec.PanelResetEnds ∧ Spec.PanelTearEnds ∧ Spec.TransitionOrder

/-! ### Coherence -/

namespace Sys2Proof.Spec
open Sys2Proof Sys2Proof.Machine

/-- A message was sent, by whatever transaction entry or extra fields. -/
def said (s t : State) (op : WarpOp) (src dst : Nat) : Prop :=
  ∃ new, t.sent = s.sent ++ new ∧ ∃ id line poison more, Out.warp op src dst id line poison more ∈ new

/-- The home can open a transaction for a line: none of its arrays is being invalidated, the line is not BUSY, nobody holds a
reservation in its set, transaction entry `id` is the lowest free one, and for a line without a directory entry a way is free (R151,
R165, R172, R173). -/
def homeOpens (s : State) (h : Tile) (line : Line) (id : Nat) : Prop :=
  s.boltUp (s.boltOf h) = true ∧ s.homeHeld h = false ∧ (s.dirEnt h line).busy = none ∧
  (∀ e ∈ (s.tile h).starve, e.set ≠ dirSet line) ∧ s.freeTx h = some id ∧
  ((s.dirEnt h line).st = .i → s.dirVictim h (dirSet line) = some none)

/-- The home tile of a line as an I/O agent learns it, from the owner that its own check found (R155). -/
def ioHome (s : State) (a : Agent) (line : Line) : Option Nat :=
  s.homeIn (s.panelBolt (potPanel (s.potFor a (line / 1024)))) line

/-- An open transaction of the home, and the line BUSY with it. -/
def opened (t : State) (h : Tile) (line : Line) (id : Nat) (op : HomeOp) (agent rtid : Nat) : Prop :=
  (t.dirEnt h line).busy = some id ∧
  ∃ x, t.tx h id = some x ∧ x.op = op ∧ x.line = line ∧ x.agent = agent ∧ x.rtid = rtid

/-- The requester's entry, as issued. -/
def waitsFor (t : State) (a rtid : Nat) (op : HomeOp) (line : Line) : Prop :=
  ∃ m, t.req a rtid = some m ∧ m.op = op ∧ m.line = line ∧ m.retry = false

/-- The request an L2 issues from a stable state, and the transient state it enters (Table COH-9). -/
inductive MissRow (t : Tile) (line : Line) : Instr → HomeOp → L2St → L2St → Prop where
  | rds : MissRow t line (.rds t line) .rds .i .isD
  | rdx : MissRow t line (.rdx t line) .rdx .i .imD
  | upg : MissRow t line (.upg t line) .upg .sh .smA

/-- RDS, RDX and UPG of an L2 that may issue them (R159, R164, R165): a miss entry is reserved, the line goes transient, and the
home opens a transaction; a home whose line is BUSY opens nothing and answers RETRY (R173), and one whose arrays are being invalidated
holds the request (R151). -/
def MissRequests : Prop :=
  ∀ t line i op st tr, MissRow t line i op st tr → ∀ (h : Tile) (k : Nat) (s : State), s.l2Ready t line = true →
    (s.l2 t line).st = st → (st = .sh → (s.l2 t line).tag = s.corePanel t) → s.homeOf line = some h.val →
    (∀ e ∈ (s.tile t).selv, e.line ≠ line.val) → s.freeReq t = some k →
    (∀ id, homeOpens s h line id →
      ∃ u, exec i s = .next u ∧ (u.l2 t line).st = tr ∧ waitsFor u t k op line ∧ opened u h line id op t k) ∧
    (s.boltUp (s.boltOf h) = true → s.homeHeld h = false → (s.dirEnt h line).busy ≠ none →
      ∃ u, exec i s = .next u ∧ (u.l2 t line).st = tr ∧ waitsFor u t k op line ∧ said s u .retry (homeEnd h) t ∧
        (u.dirEnt h line).busy = (s.dirEnt h line).busy) ∧
    (s.boltUp (s.boltOf h) = true → s.homeHeld h = true →
      ∃ u q, exec i s = .next u ∧ (u.l2 t line).st = tr ∧ waitsFor u t k op line ∧ (u.tile h).homeQ = (s.tile h).homeQ ++ [q] ∧
        q.op = op ∧ q.agent = t.val ∧ q.rtid = k ∧ q.line = line.val ∧ u.sent = s.sent)

/-- A miss looks into the selvedge buffer first (R143): a QUEUED entry of the same panel comes back in M, and no request leaves. -/
def SelvedgeHits : Prop :=
  ∀ t line i op tr, MissRow t line i op .i tr → ∀ (e : Selv) (s : State), s.l2Ready t line = true → (s.l2 t line).st = .i →
    (s.tile t).selv = [e] → e.line = line.val → e.tag = s.corePanel t → e.sent = false → s.l2Victim t line e.tag = .free →
    ∃ u, exec i s = .next u ∧ (u.l2 t line).st = .m ∧ (u.tile t).selv = [] ∧ u.sent = s.sent

/-- The bytes of a write that its requester's entry holds for WRD: those that the mask selects. -/
def holdsBytes (t : State) (a rtid : Nat) (line : Line) (mask : BitVec 64) (data : List Byte) : Prop :=
  ∃ m, t.req a rtid = some m ∧
    ∀ ad b, (ad, b) ∈ m.data ↔ ∃ j, j < 64 ∧ mask.getLsbD j = true ∧ ad = line.val * 64 + j ∧ b = data.getD j 0

/-- The requests of I/O agents and of cores to other bolts (R157, R175–R177): an entry is reserved; a write opens a transaction
and is answered DBGO at once, its bytes staying with the requester; a partial write of every byte is a full-line write; a read that
the slice can answer is answered DATA_IO. A fenced bolt answers ERRCMP (R181). -/
def IoRequests : Prop :=
  ∀ (a : Agent) (line : Line) (ctx : Fin 16384) (data : List Byte) (h : Tile) (k id : Nat) (s : State), s.freeReq a = some k →
    ioHome s a line = some h.val →
    (homeOpens s h line id →
      (∃ u, exec (.wrf a line ⟨ctx, data⟩) s = .next u ∧ waitsFor u a k .wrf line ∧ holdsBytes u a k line (BitVec.allOnes 64) data ∧
        opened u h line id .wrf a k ∧ said s u .dbgo (homeEnd h) a) ∧
      (∀ mask, ∃ u, exec (.wrp a line mask ⟨ctx, data⟩) s = .next u ∧
        let op := if mask = BitVec.allOnes 64 then .wrf else .wrp
        waitsFor u a k op line ∧ holdsBytes u a k line mask data ∧ opened u h line id op a k ∧ said s u .dbgo (homeEnd h) a) ∧
      (∃ u, exec (.rdio a line ctx) s = .next u ∧ waitsFor u a k .rdio line ∧
        (s.inSlice h line = true → (s.dirEnt h line).st ≠ .em → said s u .dataIo (homeEnd h) a ∧ u.tx h id = none))) ∧
    (s.boltUp (s.boltOf h) = false →
      ∃ u, exec (.rdio a line ctx) s = .next u ∧ said s u .errcmp (homeEnd h) a)

/-- Table COH-9 for a snoop of a line: the state it finds, the state it leaves, the answer. -/
inductive SnoopRow (t : Tile) (line : Line) (htid : Htid) : Instr → L2St → L2St → WarpOp → Prop where
  | shS : SnoopRow t line htid (.snpSh t line htid) .sh .sh .snprespS
  | shE : SnoopRow t line htid (.snpSh t line htid) .e .sh .snprespC
  | shM : SnoopRow t line htid (.snpSh t line htid) .m .sh .snprespD
  | invS : SnoopRow t line htid (.snpInv t line htid) .sh .i .snprespI
  | invE : SnoopRow t line htid (.snpInv t line htid) .e .i .snprespC
  | invM : SnoopRow t line htid (.snpInv t line htid) .m .i .snprespD
  | invU : SnoopRow t line htid (.snpInv t line htid) .smA .imD .snprespI
  | dropS : SnoopRow t line htid (.snpDrop t line htid) .sh .i .snprespI
  | dropE : SnoopRow t line htid (.snpDrop t line htid) .e .i .snprespI
  | dropM : SnoopRow t line htid (.snpDrop t line htid) .m .i .snprespI
  | dropU : SnoopRow t line htid (.snpDrop t line htid) .smA .imD .snprespI
  | cpyS : SnoopRow t line htid (.snpCpy t line htid) .sh .sh .snprespS
  | cpyE : SnoopRow t line htid (.snpCpy t line htid) .e .e .snprespC
  | cpyM : SnoopRow t line htid (.snpCpy t line htid) .m .m .snprespD
  | shU : SnoopRow t line htid (.snpSh t line htid) .smA .smA .snprespI
  | cpyU : SnoopRow t line htid (.snpCpy t line htid) .smA .smA .snprespI
  | shD : SnoopRow t line htid (.snpSh t line htid) .isD .isD .snprespI
  | invD : SnoopRow t line htid (.snpInv t line htid) .isD .isD .snprespI
  | dropD : SnoopRow t line htid (.snpDrop t line htid) .imD .imD .snprespI
  | cpyD : SnoopRow t line htid (.snpCpy t line htid) .imD .imD .snprespI
  | shI : SnoopRow t line htid (.snpSh t line htid) .i .i .snprespI
  | invI : SnoopRow t line htid (.snpInv t line htid) .i .i .snprespI
  | dropI : SnoopRow t line htid (.snpDrop t line htid) .i .i .snprespI
  | cpyI : SnoopRow t line htid (.snpCpy t line htid) .i .i .snprespI

/-- Every snoop of a line that is not held is answered at once, with exactly one message to the home under its HTID, and leaves the
line as Table COH-9 says (R164); a line in M is the recorded owner's (R180), and a line in I is not in the selvedge buffer. -/
def Snoops : Prop :=
  ∀ t line htid i st st' ans, SnoopRow t line htid i st st' ans → ∀ (h : Tile) (s : State), s.boltUp (s.boltOf t) = true →
    s.flag { kind := .wrpCctl, i := t } F.wrpCctl.L2_EN = true → s.snoopHeld t line = false →
    s.homeOf line = some h.val → (s.l2 t line).st = st →
    (st = .m → s.recorded t line = true) → (st = .i → ∀ e ∈ (s.tile t).selv, e.line ≠ line.val) →
    ∃ u p, exec i s = .next u ∧ (u.l2 t line).st = st' ∧
      u.sent = s.sent ++ [.warp ans t (homeEnd h) htid line p []] ∧ (u.tile t).selv = (s.tile t).selv

/-- A snoop that finds the line in the selvedge buffer forces it to SENT and is answered SNPRESP_WBPEND (R168); with the L2
disabled it is answered "not present" whatever the array holds (R147). -/
def SnoopsOfWritebacks : Prop :=
  ∀ t line htid i ans, SnoopRow t line htid i .i .i ans → ∀ (h : Tile) (s : State), s.boltUp (s.boltOf t) = true →
    s.homeOf line = some h.val →
    (s.flag { kind := .wrpCctl, i := t } F.wrpCctl.L2_EN = true → s.snoopHeld t line = false → (s.l2 t line).st = .i →
      (∃ e ∈ (s.tile t).selv, e.line = line.val) →
      ∃ u, exec i s = .next u ∧ said s u .snprespWbpend t (homeEnd h) ∧
        ∀ e ∈ (u.tile t).selv, e.line = line.val → e.sent = true) ∧
    (s.flag { kind := .wrpCctl, i := t } F.wrpCctl.L2_EN = false →
      ∃ u, exec i s = .next u ∧ u.sent = s.sent ++ [.warp .snprespI t (homeEnd h) htid line false []] ∧ u.l2 t line = s.l2 t line)

/-- A snoop of a line that has been filled and whose access has not been performed yet waits in the L2's snoop queue, unanswered
(R158, R170); when the hold ends the line is open to snoops again and the queue holds none for it. At a boundary every hold is over. -/
def HeldSnoops : Prop :=
  (∀ t line htid i st st' ans, SnoopRow t line htid i st st' ans → ∀ s : State, s.boltUp (s.boltOf t) = true →
    s.flag { kind := .wrpCctl, i := t } F.wrpCctl.L2_EN = true → line.val ∈ (s.tile t).fresh → (s.tile t).snpQ.length < 16 →
    ∃ u e, exec i s = .next u ∧ (u.tile t).snpQ = (s.tile t).snpQ ++ [e] ∧ e.line = line.val ∧ e.htid = htid.val ∧ u.sent = s.sent ∧
      u.l2 t line = s.l2 t line) ∧
  ∀ (t : Tile) (line : Nat) (s : State), line ∈ (s.tile t).fresh →
    (let u := s.endHold t line
     line ∉ (u.tile t).fresh ∧
       (s.flag { kind := .wrpCctl, i := t } F.wrpCctl.INV_L2 = false → ∀ e ∈ (u.tile t).snpQ, e.line ≠ line)) ∧
    (s.holdsOver.tile t).fresh = []

/-- Data and grants at an L2: the request and the transient states they answer, and the state entered (Table COH-9). -/
inductive FillRow (t : Tile) (rtid : Fin 48) (poison : Bool) : Instr → HomeOp → L2St → L2St → Prop where
  | s : FillRow t rtid poison (.dataS t rtid poison) .rds .isD .sh
  | e : FillRow t rtid poison (.dataE t rtid poison) .rds .isD .e
  | m : FillRow t rtid poison (.dataM t rtid poison) .rdx .imD .m
  | mu : FillRow t rtid poison (.dataM t rtid poison) .upg .smA .m
  | md : FillRow t rtid poison (.dataM t rtid poison) .upg .imD .m
  | g : FillRow t rtid poison (.gntM t rtid) .upg .smA .m

/-- A fill with a way to fill (R47, R144, R164, R170): the line takes its state under the panel whose access missed, it is held against
snoops, the miss entry is free, and GACK goes to the home. One that matches no entry is a protocol error: the bolt is fenced (R180,
R181). -/
def Fills : Prop :=
  ∀ t rtid poison i op st st', FillRow t rtid poison i op st st' → ∀ s : State, s.boltUp (s.boltOf t) = true →
    (∀ (h : Tile) m, s.req t rtid = some m → m.op = op → (s.l2 t m.line).st = st → s.homeIn m.bolt m.line = some h.val →
      s.flag { kind := .wrpCctl, i := t } F.wrpCctl.L2_EN = true → s.pstate m.tag ≠ psTearing →
      s.l2Victim t m.line m.tag ≠ .full →
      ∃ u, exec i s = .next u ∧ (u.l2 t m.line).st = st' ∧ (u.l2 t m.line).tag = m.tag ∧ u.req t rtid = none ∧
        m.line ∈ (u.tile t).fresh ∧ said s u .gack t (homeEnd h)) ∧
    (s.req t rtid = none → s.isHostBolt (s.boltOf t) = false → s.nBolts ≤ 4 →
      ∃ u, exec i s = .next u ∧ u.boltState (s.boltOf t) = 2 ∧ ∃ e ∈ u.ras.ring, e.cls = 2 ∧ e.code = 0x28)

/-- WB accesses of a core at its caches (R131, R164, R171): a load or fetch hits the line in S, E or M and leaves its state; a store or
AMO hits it in E or M and leaves it in M; a store to a line in S asks for it by UPG, one that misses by RDX, a load that misses by
RDS, and waits. No byte changes. (The replay of a waiting access is the model's choice, log entry 123.) -/
def CoreAccesses : Prop :=
  ∀ (t : Tile) (line : Line) (ctx : Nat) (code : Bool) (s : State), s.cachedLine t line = true →
    s.flag { kind := .wrpCctl, i := t } F.wrpCctl.INV_L2 = false → s.flag { kind := .wrpCctl, i := t } F.wrpCctl.INV_L1 = false →
    ((s.l2 t line).tag = s.corePanel t → s.known t line = true →
      ((s.l2 t line).st.stable = true → ∃ u, s.reachLine t line ctx false code = (u, .hit) ∧ (u.l2 t line).st = (s.l2 t line).st ∧
        ∀ a, u.byte a = s.byte a) ∧
      ((s.l2 t line).st = .e ∨ (s.l2 t line).st = .m → ∃ u, s.reachLine t line ctx true false = (u, .hit) ∧
        (u.l2 t line).st = .m ∧ ∀ a, u.byte a = s.byte a)) ∧
    ∀ (h : Tile) (k : Nat), s.homeOf line = some h.val → (∀ e ∈ (s.tile t).selv, e.line ≠ line.val) → s.freeReq t = some k →
      s.l2Ready t line = true →
      ((s.l2 t line).st = .sh → (s.l2 t line).tag = s.corePanel t →
        ∃ u, s.reachLine t line ctx true false = (u, .wait) ∧ (u.l2 t line).st = .smA ∧ waitsFor u t k .upg line) ∧
      ((s.l2 t line).st = .i →
        (∃ u, s.reachLine t line ctx true false = (u, .wait) ∧ (u.l2 t line).st = .imD ∧ waitsFor u t k .rdx line) ∧
        (s.l1Hit t line code = false →
          ∃ u, s.reachLine t line ctx false code = (u, .wait) ∧ (u.l2 t line).st = .isD ∧ waitsFor u t k .rds line))

end Sys2Proof.Spec

/-- The requests of L2s and of I/O agents (R143, R151, R155, R157, R159, R165, R173, R175–R177, R181).
Model's choices that it rests on: log entries 8, 19. -/
def Obligations.CoherenceRequests : Prop := Spec.MissRequests ∧ Spec.SelvedgeHits ∧ Spec.IoRequests

/-- Accesses, snoops and fills at an L2 (R131, R144, R147, R164, R168, R170, R171, R180, Table COH-9).
Model's choices that it rests on: log entries 8, 123. -/
def Obligations.CacheTransitions : Prop :=
  Spec.Snoops ∧ Spec.SnoopsOfWritebacks ∧ Spec.HeldSnoops ∧ Spec.Fills ∧ Spec.CoreAccesses

namespace Sys2Proof.Spec
open Sys2Proof Sys2Proof.Machine

/-- The answers to snoops, and what each adds to the transaction. -/
inductive AnswerRow (h : Tile) (htid : Htid) (src : Tile) (p : Bool) : Instr → (HomeTx → HomeTx) → Prop where
  | d : AnswerRow h htid src p (.snprespD h htid src p) fun x => { x with snpData := true, dirty := true, poison := x.poison || p }
  | c : AnswerRow h htid src p (.snprespC h htid src p) fun x => { x with snpData := true, poison := x.poison || p }
  | i : AnswerRow h htid src p (.snprespI h htid src) fun x => x
  | s : AnswerRow h htid src p (.snprespS h htid src) fun x => x
  | w : AnswerRow h htid src p (.snprespWbpend h htid src) fun x => { x with wbpend := true }

/-- An answer that is not the last is counted, and the transaction goes on waiting; the last answer with the owner's data grants
RDX its line in M (R165, Table COH-10). -/
def SnoopAnswers : Prop :=
  (∀ h htid src p i f, AnswerRow h htid src p i f → ∀ (x : HomeTx) (s : State), s.boltUp (s.boltOf h) = true →
    s.tx h htid = some x → 2 ≤ x.snoops →
    ∃ u, exec i s = .next u ∧ u.tx h htid = some (f { x with snoops := x.snoops - 1 }) ∧ u.sent = s.sent ∧ u.regs = s.regs) ∧
  (∀ (h : Tile) (htid : Htid) (src : Tile) (p : Bool) (x : HomeTx) (s : State), s.boltUp (s.boltOf h) = true →
    s.tx h htid = some x → x.snoops = 1 → x.op = .rdx → x.granted = false → x.exact = false → x.wbpend = false → x.wbFrom = none →
    ∃ u, exec (.snprespD h htid src p) s = .next u ∧
      u.sent = s.sent ++ [.warp .dataM (homeEnd h) x.agent x.rtid x.line (x.poison || p) []] ∧
      ∃ y, u.tx h htid = some y ∧ y.granted = true ∧ y.gack = true)

/-- GACK closes a granted transaction (R165): its entry is free, the line is no longer BUSY, and after RDX or UPG the requester is
the recorded owner. -/
def Grants : Prop :=
  ∀ (h : Tile) (htid : Htid) (x : HomeTx) (s : State), s.boltUp (s.boltOf h) = true → s.tx h htid = some x →
    x.op = .rds ∨ x.op = .rdx ∨ x.op = .upg → x.snoops = 0 → x.wbpend = false → x.granted = true → x.gack = true →
    x.mwack = 0 → x.next = none → x.wbFrom = none → s.pstate x.ktag ≠ psTearing →
    ∃ u, exec (.gack h htid) s = .next u ∧ u.tx h htid = none ∧ (u.dirEnt h x.line).busy = none ∧
      (x.op ≠ .rds → (u.dirEnt h x.line).st = .em ∧ (u.dirEnt h x.line).owner = x.agent)

/-- The write data of a full-line write (R175), when every snoop is answered: the bytes that the requester holds are the line's from
then on, the line goes to memory, and CMP follows MWACK. -/
def IoWrites : Prop :=
  ∀ (h : Tile) (htid : Htid) (p : Bool) (x : HomeTx) (s : State), s.boltUp (s.boltOf h) = true → s.tx h htid = some x →
    x.op = .wrf → x.snoops = 0 → x.wbpend = false → x.next = none → x.wbFrom = none →
    (∀ m, x.wrd = true → x.wrdHere = false → x.written = false → s.req x.agent x.rtid = some m → s.pstate x.ktag ≠ psTearing →
      ∃ u, exec (.wrd h htid p) s = .next u ∧
        (∀ a, u.byte a = m.data.foldl (fun b e => if e.1 = a then e.2 else b) (s.byte a)) ∧
        ∃ y, u.tx h htid = some y ∧ y.written = true ∧ y.mwack = x.mwack + 1 ∧ y.poison = p) ∧
    (x.written = true → x.mwack = 1 →
      ∃ u, exec (.mwack (.home h htid) false) s = .next u ∧ u.tx h htid = none ∧ said s u .cmp (homeEnd h) x.agent ∧
        u.dirEnt h x.line = DirEnt.free)

/-- A writeback of the recorded owner while the line is not BUSY (R142, R165, R169): the entry goes to I; the slice takes the data
and WBACK goes out, or, where the slice is off, WBACK waits for memory's MWACK. -/
def Writebacks : Prop :=
  ∀ (h src : Tile) (line : Line) (p : Bool) (s : State), s.boltUp (s.boltOf h) = true → (s.dirEnt h line).st = .em →
    (s.dirEnt h line).owner = src → (s.dirEnt h line).busy = none → (s.dirEnt h line).ktag < 512 → s.pstate (s.dirEnt h line).ktag ≠ psTearing →
    (s.l3On h = false → ∃ u, exec (.wba h src line p) s = .next u ∧ u.dirEnt h line = DirEnt.free ∧
      (line.val, some src.val) ∈ (u.tile h).wbs) ∧
    (s.l3On h = true → s.l3Leaving h = false → (SMap.find (s.tile h).l3 (line / 2)).isSome = true →
      ∃ u, exec (.wba h src line p) s = .next u ∧ u.dirEnt h line = DirEnt.free ∧ said s u .wback (homeEnd h) src ∧
        (u.tile h).sector line = { valid := true, dirty := true, poison := p })

/-- MWACK of a writeback that went to memory is answered to its L2 with WBACK (R165); that of a line the slice cast out is awaited by
no one. -/
def WritebackAcks : Prop :=
  ∀ (h src : Tile) (line : Line) (s : State), s.boltUp (s.boltOf h) = true →
    ((s.tile h).wbs = [(line.val, some src.val)] →
      ∃ u, exec (.mwack (.alone h line) false) s = .next u ∧ (u.tile h).wbs = [] ∧ said s u .wback (homeEnd h) src) ∧
    ((s.tile h).wbs = [(line.val, none)] →
      ∃ u, exec (.mwack (.alone h line) false) s = .next u ∧ (u.tile h).wbs = [] ∧ u.sent = s.sent)

/-- WBACK frees the selvedge entry (R142). -/
def WbackFrees : Prop :=
  ∀ (t : Tile) (line : Line) (e : Selv) (s : State), s.boltUp (s.boltOf t) = true → (s.tile t).selv = [e] →
    e.line = line.val → e.left = true → (s.tile t).fills = [] →
    ∃ u, exec (.wback t line) s = .next u ∧ (u.tile t).selv = [] ∧ u.sent = s.sent

/-- Memory read data completes a read (R165, R177): DATA_IO for RDIO, and for a core read of a line nobody owns DATA_E. -/
def ReadData : Prop :=
  ∀ (h : Tile) (htid : Htid) (p : Bool) (x : HomeTx) (s : State), s.boltUp (s.boltOf h) = true → s.tx h htid = some x →
    x.snoops = 0 → x.wbpend = false → x.memSent = true → x.memDone = false → x.granted = false → x.next = none →
    x.wbHere = false → x.snpData = false → x.exact = false → x.wbFrom = none →
    (x.op = .rdio → x.mwack = 0 → ∃ u, exec (.mdata (.home h htid) p) s = .next u ∧ u.tx h htid = none ∧
      said s u .dataIo (homeEnd h) x.agent) ∧
    (x.op = .rds → (s.dirEnt h x.line).st = .i → ∃ u, exec (.mdata (.home h htid) p) s = .next u ∧
      said s u .dataE (homeEnd h) x.agent ∧ ∃ y, u.tx h htid = some y ∧ y.granted = true ∧ y.gack = true)

/-- RETRY, the interval after it, and GO (R173, R174): the entry stays and counts; the request is issued again, under the
reservation after GO. A GO that matches no reservation is a protocol error (R180). -/
def Retries : Prop :=
  ∀ (a : Agent) (rtid : Fin 256) (m : MissEnt) (s : State), s.req a rtid = some m →
    (a.val < 192 → s.boltUp (s.boltOf a) = true) →
    (∀ rsv, ∃ u, exec (.retry a rtid rsv) s = .next u ∧
      u.req a rtid = some { m with rcnt := min 8 (m.rcnt + 1), rsv := m.rsv || rsv, retry := true, age := 0 } ∧ u.sent = s.sent) ∧
    (∀ h : Tile, s.homeIn m.bolt m.line = some h.val → m.retry = true → m.rsv = false →
      ∃ u, exec (.retryReissue a rtid) s = .next u ∧ u.req a rtid = some { m with retry := false, age := 0 } ∧
        ∃ new, u.sent = s.sent ++ new ∧ (s.boltUp (s.boltOf h) = false → new = [.warp .errcmp (homeEnd h) a rtid m.line false []])) ∧
    (∀ h : Tile, s.homeIn m.bolt m.line = some h.val → m.rsv = true → m.retry = true →
      ∃ u, exec (.go a rtid) s = .next u ∧ u.req a rtid = some { m with retry := false, age := 0 }) ∧
    (m.rsv = false → a.val < 192 → s.isHostBolt (s.boltOf a) = false → s.nBolts ≤ 4 →
      ∃ u, exec (.go a rtid) s = .next u ∧ u.boltState (s.boltOf a) = 2)

/-- Credits (R142, R158, R159): a home grants up to 32 pooled writeback credits, a channel up to 32 each for reads and for writes, and
both keep further requests waiting; a granted credit sends the writeback that waits for it, or a memory message, or goes back; a
returned one is free again, or goes to the next that waits. -/
def Credits : Prop :=
  ∀ (t h : Tile) (c : Chan) (w : Bool) (s : State),
    ((s.tile h).pool < 32 → ∃ u, exec (.crdreq (.writeback t h)) s = .next u ∧ (u.tile h).pool = (s.tile h).pool + 1 ∧
      said s u .crdgnt (homeEnd h) t) ∧
    (32 ≤ (s.tile h).pool → ∃ u, exec (.crdreq (.writeback t h)) s = .next u ∧ (u.tile h).poolQ = (s.tile h).poolQ ++ [t.val] ∧
      u.sent = s.sent) ∧
    ((s.mc c).granted w < 32 → ∃ u, exec (.crdreq (.memory h c w)) s = .next u ∧ (u.mc c).granted w = (s.mc c).granted w + 1 ∧
      (u.mc c).granted (!w) = (s.mc c).granted (!w) ∧ said s u .crdgnt (mcEnd c) (homeEnd h)) ∧
    (32 ≤ (s.mc c).granted w → ∃ u, exec (.crdreq (.memory h c w)) s = .next u ∧ (u.mc c).poolQ = (s.mc c).poolQ ++ [(h.val, w)] ∧
      u.sent = s.sent) ∧
    (∀ e, (s.tile t).selv = [e] → e.left = false → s.homeOf e.line = some h.val →
      ∃ u, exec (.crdgnt (.writeback t h)) s = .next u ∧ (u.tile t).selv = [{ e with sent := true, left := true, pooled := true }] ∧
        said s u .wba t (homeEnd h)) ∧
    ((s.tile t).selv = [] → (s.tile h).poolQ = [] →
      ∃ u, exec (.crdgnt (.writeback t h)) s = .next u ∧ (u.tile h).pool = (s.tile h).pool - 1) ∧
    ((s.tile h).memQ = [] → ∃ u, exec (.crdgnt (.memory h c w)) s = .next u ∧
      SMap.find (u.tile h).memPool (2 * c + b2n w) = some ((SMap.find (s.tile h).memPool (2 * c + b2n w)).getD 0 + 1)) ∧
    ((s.tile h).memQ = [] → SMap.find (s.tile h).memUse (2 * c + b2n w) = some 1 →
      ∃ u, exec (.crdret h c w) s = .next u ∧ SMap.find (u.tile h).memUse (2 * c + b2n w) = none) ∧
    (SMap.find (s.tile h).memUse (2 * c + b2n w) = none →
      ((s.mc c).poolQ = [] → ∃ u, exec (.crdret h c w) s = .next u ∧ (u.mc c).granted w = (s.mc c).granted w - 1) ∧
      (∀ g : Tile, (s.mc c).poolQ = [(g.val, w)] → ∃ u, exec (.crdret h c w) s = .next u ∧ (u.mc c).poolQ = [] ∧
        (u.mc c).granted w = (s.mc c).granted w ∧ said s u .crdgnt (mcEnd c) (homeEnd g)))

/-- A seat runs on the core of a thread, and on no other. -/
def runsAlone (s : State) (th : Nat) (seat : Option (Nat × Nat)) : Prop :=
  seat.isSome ∧ (s.core (th / 2)).seat = seat ∧ (∀ c < 192, (s.core c).seat = seat → c = th / 2) ∧ s.isChecker (th / 2) = false

/-- Ends of requests (R156, R177, R181, R301): the copy, CMP or ERRCMP frees the requester's entry; a core's store that receives
ERRCMP owes its thread an imprecise machine check; an entry that waited RAS.TMO1 stitches ends as by ERRCMP and is recorded
(R412). DBGO sends the write data. A core of a fenced bolt discards each of these (R181). -/
def RequestEnds : Prop :=
  ∀ (a : Agent) (rtid : Fin 256) (m : MissEnt) (s : State), s.req a rtid = some m → a.val < 192 ∨ a.val = 192 ∨ a.val = 199 →
    ((a.val < 192 → s.boltUp (s.boltOf a) = true ∧ (s.thr (2 * a.val + m.ctx % 2)).stall = none) →
      (m.op = .rdio → ∀ p, ∃ u, exec (.dataIo a rtid p) s = .next u ∧ u.req a rtid = none ∧ u.regs = s.regs) ∧
      (m.op = .wrf ∨ m.op = .wrp → ∃ u, exec (.cmp a rtid) s = .next u ∧ u.req a rtid = none ∧ u.regs = s.regs) ∧
      (∃ u, exec (.errcmp a rtid) s = .next u ∧ u.req a rtid = none ∧
        (a.val < 192 → m.op = .wrf ∨ m.op = .wrp → runsAlone s (2 * a.val) m.seat → (u.thr (2 * a.val + m.ctx % 2)).imprecise = some 0x26)) ∧
      (m.op = .rdio ∨ m.op = .wrf ∨ m.op = .wrp → s.rd { kind := .rasTmo, i := 1 } ≤ m.age →
        ∃ u, exec (.wrpTimeout a rtid) s = .next u ∧ u.req a rtid = none) ∧
      (∀ h : Tile, s.homeIn m.bolt m.line = some h.val → s.pieceAt a rtid = none →
        ∃ u, exec (.dbgo a rtid) s = .next u ∧ said s u .wrd a (homeEnd h) ∧ u.req a rtid = some m)) ∧
    (a.val < 192 → s.boltUp (s.boltOf a) = false → ∀ i p, i = .dataIo a rtid p ∨ i = .cmp a rtid ∨ i = .errcmp a rtid ∨
      i = .dbgo a rtid ∨ i = .retry a rtid p ∨ i = .go a rtid → exec i s = .next s)

/-- A cross-bolt load of an unpaired thread (R156, R177, R409), the last part of its access: DATA_IO delivers the bytes of the line
and the load retires; poison or ERRCMP is a precise machine check with the address in EADDR. -/
def CrossBoltLoads : Prop :=
  ∀ (t : Tile) (k : Bool) (rtid : Fin 256) (m : MissEnt) (d : LoadDest) (pa : Nat) (h : Half) (got : List Byte) (a : Agent) (s : State),
    a.val = t.val → s.req t rtid = some m → m.op = .rdio → m.ctx = b2n k → s.boltUp (s.boltOf t) = true → s.paired t = false →
    let th := 2 * t.val + b2n k
    (s.thr th).stall = some ⟨some d, pa, h, got, []⟩ → h.isDev = false →
    (∃ u, exec (.dataIo a rtid false) s = .next u ∧ u.req t rtid = none ∧ (u.thr th).stall = none ∧
      (u.thr th).pc = (s.thr th).pc + 4 ∧ (∀ b, u.byte b = s.byte b) ∧
      ∀ rd n sg, d = .gpr rd n sg → 0 < rd → rd < 32 → (u.thr th).gr rd =
        if sg then BitVec.ofInt 64 (toSigned (8 * n) (ofLeBytes (got ++ s.bytes h.x.pa h.n)))
        else BitVec.ofNat 64 (ofLeBytes (got ++ s.bytes h.x.pa h.n))) ∧
    ((s.thr th).canCheck = true →
      (∃ u, exec (.errcmp a rtid) s = .next u ∧ u.req t rtid = none ∧ (u.thr th).stall = none ∧
        (u.thr th).crFld 0x050 F.crMCHK.VALID = 1 ∧ (u.thr th).crFld 0x050 F.crMCHK.CODE = 0x26 ∧
        (u.thr th).crFld 0x050 F.crMCHK.PRECISE = 1 ∧ (∀ b, u.byte b = s.byte b)) ∧
      (∃ u, exec (.dataIo a rtid true) s = .next u ∧ (u.thr th).crFld 0x050 F.crMCHK.CODE = 0x20 ∧
        (u.thr th).crFld 0x050 F.crMCHK.POISON = 1))

/-- A transaction that waits RAS.TMO2 stitches is a bolt-contained error (R179–R183): recorded, and the bolt fenced; in the bolt of
panel 0 it takes the module down. -/
def CoherenceTimeouts : Prop :=
  ∀ (t : Tile) (id : Htid) (s : State), s.nBolts ≤ 4 → s.boltState (s.boltOf t) = 1 →
    (∃ x, s.tx t id = some x ∧ s.rd { kind := .rasTmo, i := 2 } ≤ x.age) →
    ∃ u, exec (.cohTimeout true t id) s = .next u ∧ (∃ e ∈ u.ras.ring, e.cls = 2 ∧ e.code = 0x29) ∧
      (s.isHostBolt (s.boltOf t) = false → u.boltState (s.boltOf t) = 2) ∧
      (s.isHostBolt (s.boltOf t) = true → u.resetDue.isSome = true)

/-- The end of a bolt reset (R182, R184): the bolt runs again when a core and a slice are left, OFFLINE when none is, or after its
fourth reset within 100,000 stitches. A bolt that runs again has the way masks that it had (R150). -/
def BoltResets : Prop :=
  ∀ (b : Bolt) (s : State), s.boltState b = 3 →
    let hits := (SMap.find s.boltHits b).getD []
    let alive := (s.boltCores b).filter s.coreIn ≠ [] ∧ s.sliceList b ≠ [] ∧ hits.length < 4 ∧ s.unitOut 0x0B b = false
    ∃ u, exec (.boltResetComplete b []) s = .next u ∧ (alive → s.nBolts ≤ 4 → u.boltState b = 1) ∧ (¬alive → u.boltState b = 4) ∧
      (alive → ∀ (t : Tile) (p : Panel) (v : BitVec 32), t.val ∈ s.boltCores b → (s.tile t).ways = [(p.val, v.toNat)] →
        u.rd { kind := .wrpL3way, i := t, j := p } = v.toNat)

/-- Array errors that the scrubber finds (R145, R146, Table CCH-3): one or two bits are corrected and counted; three in a clean L2
line drop it, in a dirty one poison it; three in a tag fence the bolt. -/
def ScrubErrors : Prop :=
  ∀ (t : Tile) (e : ArrayErr) (s : State), e.array.val = 2 →
    let cnt : Reg := { kind := .wrpCerrcnt, i := t }
    (e.bits.val ≤ 2 → ∃ u, exec (.l2L3Scrub t [e]) s = .next u ∧
      u.fld cnt F.wrpCerrcnt.L2COR = min 255 (s.fld cnt F.wrpCerrcnt.L2COR + 1) ∧ u.l2 t e.line = s.l2 t e.line) ∧
    (e.bits.val = 3 → e.tag = false → ∃ u, exec (.l2L3Scrub t [e]) s = .next u ∧
      u.fld cnt F.wrpCerrcnt.UNCOR = min 255 (s.fld cnt F.wrpCerrcnt.UNCOR + 1) ∧
      ((s.l2 t e.line).st = .m → (u.l2 t e.line).poison = true ∧ (u.meta e.line).poison = true) ∧
      ((s.l2 t e.line).st = .sh ∨ (s.l2 t e.line).st = .e → (u.l2 t e.line).st = .i)) ∧
    (e.bits.val = 3 → e.tag = true → s.nBolts ≤ 4 → s.boltState (s.boltOf t) = 1 → s.isHostBolt (s.boltOf t) = false →
      ∃ u, exec (.l2L3Scrub t [e]) s = .next u ∧ u.boltState (s.boltOf t) = 2)

/-- The invalidations Thimble starts (R147): the array is empty, and the bit reads 1. -/
def Invalidations : Prop :=
  ∀ (t : Tile) (s : State),
    let done := fun (u : State) f => u.flag (cctlR t) f = true
    (∃ u, exec (.invDir t) s = .next u ∧ done u F.wrpCctl.INV_DIR ∧ (u.tile t).dir = []) ∧
    (∃ u, exec (.invL3 t) s = .next u ∧ done u F.wrpCctl.INV_L3 ∧ (u.tile t).l3 = []) ∧
    (∃ u, exec (.invL2 t) s = .next u ∧ done u F.wrpCctl.INV_L2 ∧ (∀ e ∈ (u.tile t).selv, e.left = true) ∧
      ∀ line, (u.l2 t line).st ≠ .sh ∧ (u.l2 t line).st ≠ .e ∧ (u.l2 t line).st ≠ .m) ∧
    (∃ u, exec (.invL1 t) s = .next u ∧ done u F.wrpCctl.INV_L1 ∧ (u.tile t).l1i = [] ∧ (u.tile t).l1d = [] ∧
      (u.tile t).l2 = (s.tile t).l2)

end Sys2Proof.Spec

/-- Home transactions: answers, grants, writes, writebacks, data, retries, credits and the ends of requests (R142, R156, R158, R159,
R165, R169, R173–R177, R180, R181, R409).
Model's choices that it rests on: log entries 8, 40, 45, 129. -/
def Obligations.HomeTransactions : Prop :=
  Spec.SnoopAnswers ∧ Spec.Grants ∧ Spec.IoWrites ∧ Spec.Writebacks ∧ Spec.WritebackAcks ∧ Spec.WbackFrees ∧ Spec.ReadData ∧
  Spec.Retries ∧ Spec.Credits ∧ Spec.RequestEnds ∧ Spec.CrossBoltLoads

/-- Failures of caches and of the protocol, and invalidations (R145–R147, R179–R184).
Model's choices that it rests on: log entries 9, 20, 36. -/
def Obligations.BoltsAndArrays : Prop :=
  Spec.CoherenceTimeouts ∧ Spec.BoltResets ∧ Spec.ScrubErrors ∧ Spec.Invalidations

/-! ### Memory controllers and CXL memory -/

namespace Sys2Proof.Spec
open Sys2Proof Sys2Proof.Machine

/-- The controller accepts and serves a request for a line at once: its row is not held for sparing, and its panel has a token or
the pool has one (R227, R230). -/
def served (s : State) (c : Chan) (line : Line) (ktag : Panel) : Prop :=
  (∀ e ∈ (s.mc c).held, e.1 ≠ (mapLine s.clist line).2.1) ∧
  (0 < s.fld (mcReg .mcTok c ktag) F.mcTok.REMAIN ∨ 0 < s.fld (mcReg .mcPool c) F.mcPool.POOL)

/-- No enabled region covers the line (R216). -/
def noRegion (s : State) (c : Chan) (line : Line) : Prop :=
  ∀ k, k < 16 → s.flag (mcReg .mcRegion c k) F.mcRegion.EN = true →
    line / 1024 < s.fld (mcReg .mcRegion c k) F.mcRegion.BASE ∨ s.fld (mcReg .mcRegion c k) F.mcRegion.LIMIT < line / 1024

/-- A home's read of a line (R214, R215, R224, Table MEM-4): it is answered MDATA and its credit returns; the answer carries
POISON when the panel's key slot is empty, when the stored key tag is another, or when the line is poisoned, and none when all
three are in order and the line reads clean or corrected. -/
def MemoryReads : Prop :=
  ∀ (c : Chan) (m : MemDest) (t : Tile) (id : Htid) (line : Line) (k : Panel) (b : Bolt) (a : Agent) (s : State),
    m.val = c.val → served s c line k → noRegion s c line →
    let bad := s.keyValid c k = false ∨ (s.meta line).ktag ≠ k ∨ (s.meta line).poison = true
    let answers := fun (res : ReadOut) (p : Bool) =>
      ∃ u, exec (.mrd m (.home t id) line k b a res) s = .next u ∧ u.meta line = s.meta line ∧
        u.sent = s.sent ++ [.warp .mdata (mcEnd c) (homeEnd t) id line p [], .warp .crdret (mcEnd c) (homeEnd t) c 0 false []]
    (bad → ∀ res, res ≠ .wedged → answers res true) ∧ (¬bad → answers .clean false) ∧
    (¬bad → ∀ w n y h, answers (.corrected w n y h) false)

/-- Slot `k` has bits in check group `g` of the trailer (R207). -/
def inGroup (k g : Nat) : Prop := k < 25 ∧ 12 * k ≤ 50 * g + 49 ∧ 50 * g ≤ 12 * k + 11

/-- An uncorrectable line (R209, R223, R224, R226): unmirrored, it is answered with POISON and stays poisoned; mirrored, the controller
asks its partner for the copy, on one of eight standing credits, and does not answer yet. A trailer group that fails (`w` = 16 + g) poisons
every unmirrored line whose field it protects. A row whose error stays, or whose trailer fails, is held for the lowest free spare. -/
def UncorrectableReads : Prop :=
  ∀ (c : Chan) (m : MemDest) (t : Tile) (id : Htid) (line : Line) (k : Panel) (b : Bolt) (a : Agent) (w y : Nat) (addr hard : Bool)
    (s : State), m.val = c.val → served s c line k → noRegion s c line → s.keyValid c k = true → (s.meta line).ktag = k →
    (s.meta line).poison = false →
    let row := (mapLine s.clist line).2.1
    let reads := (s.mc c).partnerQ.filter fun q => q.write == false
    ∃ u, exec (.mrd m (.home t id) line k b a (.bad w y addr hard)) s = .next u ∧
      (s.mirrored line = false → (u.meta line).poison = true ∧ said s u .mdata (mcEnd c) (homeEnd t)) ∧
      (s.mirrored line = true → (∃ q ∈ (u.mc c).partnerQ, q.line = line ∧ q.write = false) ∧
        (w < 16 → u.sent = s.sent ++ if reads.length < 8 then [.warp .mrd (mcEnd c) (mcEnd ((c + 12) % 24)) 0xFF (s.copyLine line) false []]
          else [])) ∧
      (16 ≤ w → ∀ j, inGroup j (w - 16) → s.mirrored (lineAt s.clist c row j) = false → (u.meta (lineAt s.clist c row j)).poison = true) ∧
      (∀ e, 16 ≤ w ∨ (hard = true ∧ s.mirrored line = false) → row < 4194048 → s.freeSpare c = some e → (row, e) ∈ (u.mc c).held)

/-- A home's write of an unmirrored line (R214, R215, R222, R224): MWACK and the credit return; under a loaded key the slot takes the
request's key tag and its poison; with the slot empty, or the panel in TEARING, nothing is written. -/
def MemoryWrites : Prop :=
  ∀ (c : Chan) (m : MemDest) (t : Tile) (id : Htid) (line : Line) (k : Panel) (b : Bolt) (a : Agent) (p : Bool) (s : State),
    m.val = c.val → served s c line k → noRegion s c line →
    let dropped := s.keyValid c k = false ∨ s.pstate k = psTearing
    ∃ u, exec (.mwa m (.home t id) line k b a p false) s = .next u ∧
      (dropped → u.meta line = s.meta line) ∧
      (¬dropped → (u.meta line).ktag = k ∧ (u.meta line).poison = p) ∧
      (dropped ∨ s.mirrored line = false →
        u.sent = s.sent ++ [.warp .mwack (mcEnd c) (homeEnd t) id line false [], .warp .crdret (mcEnd c) (homeEnd t) c 1 false []]) ∧
      (¬dropped → s.mirrored line = true → u.sent = s.sent ++
        if ((s.mc c).partnerQ.filter fun q => q.write == true).length < 8 then
          [.warp .mwa (mcEnd c) (mcEnd ((c + 12) % 24)) 0xFF (s.copyLine line) p [k.val]] else [])

/-- The partner's answer for a mirrored line (R222, R223): its good copy of a read clears the poison and answers the home; its MWACK
answers the home's write, and a failed copy is marked stale by POISON in its trailer. -/
def PartnerAnswers : Prop :=
  ∀ (c : Chan) (t id : Nat) (line : Line) (q : McReq) (s : State), (s.mc c).partnerQ = [q] → q.line = line.val →
    q.home = some (t, id) → q.req ≠ 0xFF →
    (q.write = false → ∃ u, exec (.mdata (.primary c line) false) s = .next u ∧ (u.meta line).poison = false ∧
      said s u .mdata (mcEnd c) (homeEnd t) ∧ (u.mc c).partnerQ = []) ∧
    (q.write = true → ∀ failed, ∃ u, exec (.mwack (.primary c line) failed) s = .next u ∧
      said s u .mwack (mcEnd c) (homeEnd t) ∧ (u.mc c).partnerQ = [] ∧ (failed = true → (u.meta (s.copyLine line)).poison = true))

/-- Tokens (R229, R230): a read by a home of a panel with tokens left takes one, or two when the row's trailer is not cached, from
REMAIN. A request without a token waits, and nothing is answered. -/
def LineTokens : Prop :=
  ∀ (c : Chan) (m : MemDest) (t : Tile) (id : Htid) (line : Line) (k : Panel) (b : Bolt) (a : Agent) (s : State),
    m.val = c.val → noRegion s c line → (∀ e ∈ (s.mc c).held, e.1 ≠ (mapLine s.clist line).2.1) →
    let remain := fun (u : State) => u.fld (mcReg .mcTok c k) F.mcTok.REMAIN
    ∃ u, exec (.mrd m (.home t id) line k b a .clean) s = .next u ∧
      (2 ≤ remain s → remain u + (if (mapLine s.clist line).2.1 ∈ (s.mc c).trailers then 1 else 2) = remain s) ∧
      (remain s = 0 → s.fld (mcReg .mcPool c) F.mcPool.POOL = 0 → u.sent = s.sent ∧
        (u.mc c).waiting.length = (s.mc c).waiting.length + 1)

/-- A request in a HOST region from another panel's line is refused (R216): MDATA with POISON. -/
def RegionChecks : Prop :=
  ∀ (c : Chan) (m : MemDest) (t : Tile) (id : Htid) (line : Line) (k : Panel) (b : Bolt) (a : Agent) (s : State),
    m.val = c.val → served s c line k → k.val ≠ 0 → a.val ≠ 192 →
    s.flag (mcReg .mcRegion c 0) F.mcRegion.EN = true → s.fld (mcReg .mcRegion c 0) F.mcRegion.OWNER = 2 →
    s.fld (mcReg .mcRegion c 0) F.mcRegion.BASE ≤ line / 1024 → line / 1024 ≤ s.fld (mcReg .mcRegion c 0) F.mcRegion.LIMIT →
    ∃ u, exec (.mrd m (.home t id) line k b a .clean) s = .next u ∧
      Out.warp .mdata (mcEnd c) (homeEnd t) id line true [] ∈ u.sent ∧ (∃ e ∈ u.ras.ring, e.cls = 1 ∧ e.code = 0x14)

/-- Patrol scrub (R225): a due row moves the pass on by one row and arms the interval. -/
def PatrolScrub : Prop :=
  ∀ (c : Chan) (found : List (Fin 25 × ReadOut)) (s : State), s.flag (mcReg .mcCtrl c) F.mcCtrl.EN = true →
    s.fld (dstatR (388 + c)) F.pwrDstat.CUR = 0 → (s.mc c).scrubIn = 0 →
    ∃ u, exec (.patrolScrub c found) s = .next u ∧
      u.fld (mcReg .mcScrub c) F.mcScrub.ROW = (s.fld (mcReg .mcScrub c) F.mcScrub.ROW + 1) % 4194304 ∧
      (u.mc c).scrubIn = s.fld (mcReg .mcScrub c) F.mcScrub.PERIOD * 360000000 / 4194304

/-- The end of a sparing copy (R227): the remap is valid and counted, and no longer held; a slot that could not be corrected is
poisoned; a spare that proved bad is marked BAD and not used. -/
def SpareCopies : Prop :=
  ∀ (c : Chan) (row k : Nat) (rest : List (Nat × Nat)) (bad : List (Fin 25)) (s : State), (s.mc c).held = (row, k) :: rest →
    row < 4194304 → k < 256 → (s.mc c).heldReqs = [] →
    (∃ u, exec (.spareCopyComplete c bad false) s = .next u ∧ (u.mc c).held = rest ∧
      u.flag (mcReg .mcSpare c k) F.mcSpare.V = true ∧ u.fld (mcReg .mcSpare c k) F.mcSpare.ROW = row ∧
      (∀ e ∈ bad, (u.meta (lineAt s.clist c row e)).poison = true)) ∧
    ∃ u, exec (.spareCopyComplete c bad true) s = .next u ∧ u.flag (mcReg .mcSpare c k) F.mcSpare.BAD = true ∧
      u.flag (mcReg .mcSpare c k) F.mcSpare.V = s.flag (mcReg .mcSpare c k) F.mcSpare.V

/-- A request of a wedged channel past its timeout (R231): a read is answered with POISON, a write with MWACK, and the event is
MEM_TIMEOUT. -/
def MemoryTimeouts : Prop :=
  ∀ (c : Chan) (t id : Nat) (q : McReq) (s : State), (s.mc c).waiting = [q] → q.home = some (t, id) →
    s.rd { kind := .rasTmo, i := 0 } < q.age →
    ∃ u, exec (.memTimeout c) s = .next u ∧ (u.mc c).waiting = [] ∧
      u.sent = s.sent ++ [.warp (if q.write then .mwack else .mdata) (mcEnd c) (homeEnd t) id q.line (!q.write) [],
        .warp .crdret (mcEnd c) (homeEnd t) c (b2n q.write) false []]

/-- CXL memory (R305–R308): a home's request with a token and a loaded key goes to the device, which answers it; a write of a panel in
TEARING is discarded and acknowledged (R162); one without a token waits; a device that does not answer in 2 stitches is answered for: poison to a read, MWACK to a write. -/
def CxlRequests : Prop :=
  ∀ (r : Fin 8) (m : MemDest) (t : Tile) (id : Htid) (line : Line) (k : Panel) (b : Bolt) (a : Agent) (s : State),
    m.val = 24 + r.val →
    (s.fld (ctokR r k) F.hpCtok.REMAIN ≠ 0 → SMap.find s.hpKeys (r / 4 * 512 + k) = some true →
      (∃ u, exec (.mrd m (.home t id) line k b a .clean) s = .next u ∧ u.sent = s.sent ++ [.cxl r false line false] ∧
        u.fld (ctokR r k) F.hpCtok.REMAIN + 1 = s.fld (ctokR r k) F.hpCtok.REMAIN) ∧
      (∀ p, ∃ u, exec (.mwa m (.home t id) line k b a p false) s = .next u ∧ u.sent = s.sent ++
        [if s.pstate k = psTearing then .warp .mwack (mcEnd (24 + r)) (homeEnd t) id line false [] else .cxl r true line p])) ∧
    (s.fld (ctokR r k) F.hpCtok.REMAIN = 0 → s.fld (cpoolR r) F.hpCpool.POOL = 0 →
      ∃ u, exec (.mrd m (.home t id) line k b a .clean) s = .next u ∧ u.sent = s.sent ∧
        (u.cxlOf r).waiting.length = (s.cxlOf r).waiting.length + 1)

def CxlAnswers : Prop :=
  ∀ (r : Fin 8) (t id : Nat) (line : Line) (q : McReq) (s : State), (s.cxlOf r).sent = [q] → q.line = line.val →
    q.home = some (t, id) →
    (∀ p, ∃ u, exec (.cxlResponse r q.write line p) s = .next u ∧ (u.cxlOf r).sent = [] ∧
      u.sent = s.sent ++ [.warp (if q.write then .mwack else .mdata) (mcEnd (24 + r)) (homeEnd t) id line
        (!q.write && (p || (s.meta line).poison)) []]) ∧
    (2 ≤ q.age → ∃ u, exec (.hioCxlto r) s = .next u ∧ (u.cxlOf r).sent = [] ∧
      u.sent = s.sent ++ [.warp (if q.write then .mwack else .mdata) (mcEnd (24 + r)) (homeEnd t) id line (!q.write) []])

end Sys2Proof.Spec

/-- Memory controllers: reads, writes, mirrors, tokens and regions (R209, R214–R216, R222–R224, R226, R229, R230).
Model's choices that it rests on: log entries 8, 89, 131. -/
def Obligations.MemoryAccesses : Prop :=
  Spec.MemoryReads ∧ Spec.UncorrectableReads ∧ Spec.MemoryWrites ∧ Spec.PartnerAnswers ∧ Spec.LineTokens ∧ Spec.RegionChecks

/-- Patrol scrub, sparing and timeouts of memory (R225, R227, R231); CXL memory (R305–R308).
Model's choices that it rests on: log entries 44, 89. -/
def Obligations.MemoryUpkeep : Prop :=
  Spec.PatrolScrub ∧ Spec.SpareCopies ∧ Spec.MemoryTimeouts ∧ Spec.CxlRequests ∧ Spec.CxlAnswers

/-! ### The Warp network -/

namespace Sys2Proof.Spec
open Sys2Proof Sys2Proof.Machine

/-- The counts of a route that R191 lets a stage obey. -/
def legalHops (h : Nat) : Prop := hXS.get h % 8 ≤ 4 ∧ hYS.get h % 8 ≤ 3 ∧ hYD.get h % 8 ≤ 3

/-- Where each stage sends a flit (R190): at a tile with PH = 0 along XS, then YS, then out of the gate or to its own interface;
with PH = 1 along YD, then to its own interface; at a bridge by BP1, or by BP2 when it comes from the hub switch; at the hub
switch by HP. Toward a gate or the hub switch the bridge sets PH. -/
def StageHops : Prop :=
  ∀ h : Nat, legalHops h →
    (∀ (t : Tile) (q : Fin 6), hPH.get h = 0 →
      (0 < hXS.get h % 8 → ∃ g, hop t q h = .out (hXS.get h / 8) g ∧ hXS.get g + 1 = hXS.get h ∧ hYS.get g = hYS.get h) ∧
      (hXS.get h % 8 = 0 → 0 < hYS.get h % 8 →
        ∃ g, hop t q h = .out (2 + hYS.get h / 8) g ∧ hYS.get g + 1 = hYS.get h ∧ hXS.get g = hXS.get h) ∧
      (hXS.get h % 8 = 0 → hYS.get h % 8 = 0 → hEXIT.get h = 1 →
        hop t q h = if t.val % 48 < 8 then .out portGate (hDL.set h 0) else .bad) ∧
      (hXS.get h % 8 = 0 → hYS.get h % 8 = 0 → hEXIT.get h = 0 →
        hop t q h = if hBP1.get h = 0 ∧ hHP.get h = 0 ∧ hBP2.get h = 0 then .out portNi h else .bad)) ∧
    (∀ (t : Tile) (q : Fin 6), hPH.get h = 1 →
      (0 < hYD.get h % 8 → ∃ g, hop t q h = .out (2 + hYD.get h / 8) g ∧ hYD.get g + 1 = hYD.get h) ∧
      (hYD.get h % 8 = 0 → hop t q h = .out portNi h)) ∧
    (∀ (d : Fin 4) (q : Fin 16),
      let p := if q.val = 14 then hBP2.get h else hBP1.get h
      (q.val < 8 → p < 8 → hop (192 + d) q h = .bad) ∧
      (8 ≤ q.val ∨ 8 ≤ p → ∃ g, hop (192 + d) q h = .out p g ∧ hDL.get g = 0 ∧
        hPH.get g = if p < 8 ∨ p = 14 then 1 else hPH.get h)) ∧
    (∀ q : Fin 14, hop 196 q h = if 14 ≤ hHP.get h then .bad else .out (hHP.get h) (hDL.set h 0))

/-- The worked example: the lock line's request and the read of its memory pass the routers of Table WRP-11. -/
def ExampleRoutes : Prop :=
  (routeLinks 12 5 (0x800000AB <<< 32) 24 = [(12, 1), (10, 1), (8, 1), (9, 3), (25, 3)]) ∧
  (routeLinks 41 5 (0x80285DB0 <<< 32) 24 = [(41, 3), (33, 3), (17, 3), (1, 4), (192, 14), (196, 2)]) ∧
  (routeLinks 194 10 (0x80C41C00 <<< 32) 24 = [(194, 14), (196, 0), (192, 1), (1, 2), (17, 2), (33, 2)])

/-- The flit first in the only channel in use, its link standing and no fence up. -/
def alone (s : State) (node : WarpNode) (port : Fin 32) (cls : Fin 7) (ph dl : Bool) (f : Flit) (rest : List Flit) : Prop :=
  s.warp.bufs = [(chanKey (nodeNum node) port cls (b2n ph) (b2n dl), f :: rest)] ∧ s.warp.pairs = [] ∧
  hCLASS.get f.head.toNat = cls ∧
  ∀ d : Fin 4, s.fenced (192 + d) = false

/-- FLIT_FORWARD (R190–R192, R200): a flit alone moves into the next channel with the header its stage gives it, or to the agent that
sinks it, also after four resends of which the last one is good; a flit whose route cannot be obeyed is discarded and counted in
BADHDR; when the fourth resend fails too, both ends of the link fail. -/
def FlitMoves : Prop :=
  ∀ (node : WarpNode) (port : Fin 32) (cls : Fin 7) (ph dl : Bool) (f : Flit) (rest : List Flit) (s : State),
    alone s node port cls ph dl f rest →
    let n := nodeNum node
    let k := chanKey n port cls (b2n ph) (b2n dl)
    (hop n port f.head.toNat = .bad → ∃ u, exec (.flitForward node (.link port cls ph dl) 0) s = .next u ∧ u.chanBuf k = rest ∧
      u.sent = s.sent ∧ (∀ t : Tile, node = .tile t →
        u.fld { kind := .wrpRstat, i := t } F.wrpRstat.BADHDR = min 255 (s.fld { kind := .wrpRstat, i := t } F.wrpRstat.BADHDR + 1))) ∧
    (∀ p h, hop n port f.head.toNat = .out p h → s.linkFailed n p = false →
      (∀ k', nextChan n p h = some k' → ∃ u, exec (.flitForward node (.link port cls ph dl) 0) s = .next u ∧ u.chanBuf k = rest ∧
        u.chanBuf k' = [{ f with head := BitVec.ofNat 64 h }] ∧ u.sent = s.sent) ∧
      (nextChan n p h = none → ∃ u, exec (.flitForward node (.link port cls ph dl) 0) s = .next u ∧ u.chanBuf k = rest ∧
        u.sent = s.sent ++ [.flit (endpointAt n p) { f with head := BitVec.ofNat 64 h }]) ∧
      (∀ (t : Tile) (dir : Fin 4), node = .tile t → p = dir →
        (∃ u, exec (.flitForward node (.link port cls ph dl) 5) s = .next u ∧ u.linkFailed t dir = true ∧
          u.linkFailed (torusStep t dir).1 (dir ^^^ 1) = true) ∧
        ∃ u k', exec (.flitForward node (.link port cls ph dl) 4) s = .next u ∧ nextChan n p h = some k' ∧
          u.chanBuf k' = [{ f with head := BitVec.ofNat 64 h }] ∧ u.linkFailed t dir = false))

/-- An interface whose chosen route word has V = 0 answers a request ERRCMP itself and sends nothing (R196). -/
def RoutelessRequests : Prop :=
  ∀ (t : Tile) (e : Fin 256) (f : Flit) (s : State), 3 ≤ hCLASS.get f.head.toNat →
    bit (s.routeWord (.tile t) e) 31 = false →
    ∃ u, exec (.flitForward (.tile t) (.agent (.tile t) e f) 0) s = .next u ∧ u.warp = s.warp ∧
      u.sent = s.sent ++ [.warp .errcmp t t (hTID.get f.head.toNat) 0 false []]

/-- An interface whose route word is valid puts the flit, with that word in bits [63:32], bit 31, PH and DL 0 and its own endpoint ID
as SRC, into the channel of its input port; a full channel keeps it waiting (R188, R190, R192, R196). -/
def Injections : Prop :=
  ∀ (node : WarpNode) (ni : Ni) (e : Fin 256) (f : Flit) (s : State), nodeNum node = (niPlace ni).1 →
    bit (s.routeWord ni e) 31 = true →
    ∃ hd : BitVec 64, hd.toNat / 2 ^ 32 = s.routeWord ni e % 2 ^ 32 ∧ bit hd.toNat 31 = false ∧ hPH.get hd.toNat = 0 ∧
      hDL.get hd.toNat = 0 ∧ hSRC.get hd.toNat = niEndpoint ni ∧ hCLASS.get hd.toNat = hCLASS.get f.head.toNat ∧
      hOPCODE.get hd.toNat = hOPCODE.get f.head.toNat ∧ hTID.get hd.toNat = hTID.get f.head.toNat ∧
      let k := keyOf (niPlace ni).1 (niPlace ni).2 hd.toNat
      ((s.chanBuf k).length < 2 → ∃ u, exec (.flitForward node (.agent ni e f) 0) s = .next u ∧
        u.chanBuf k = s.chanBuf k ++ [{ f with head := hd }] ∧ u.sent = s.sent) ∧
      (2 ≤ (s.chanBuf k).length → exec (.flitForward node (.agent ni e f) 0) s = .next s)

/-- Table COH-7: opcode and class of every message. -/
def messageTable : List (WarpOp × Nat × Nat) :=
  [(.rds, 0x01, 4), (.rdx, 0x02, 4), (.upg, 0x03, 4), (.rdio, 0x04, 4), (.wrf, 0x05, 4), (.wrp, 0x06, 4),
   (.snpSh, 0x10, 3), (.snpInv, 0x11, 3), (.snpDrop, 0x12, 3), (.snpCpy, 0x13, 3), (.mrd, 0x14, 3),
   (.dataS, 0x20, 2), (.dataE, 0x21, 2), (.dataM, 0x22, 2), (.dataIo, 0x23, 2), (.snprespD, 0x24, 2), (.snprespC, 0x25, 2),
   (.wba, 0x26, 2), (.wrd, 0x28, 2), (.mwa, 0x29, 2), (.mdata, 0x2B, 2)] ++
  [(.gntM, 0x30, 1), (.gack, 0x31, 1), (.snprespI, 0x32, 1), (.snprespS, 0x33, 1), (.snprespWbpend, 0x34, 1), (.wback, 0x35, 1),
   (.retry, 0x36, 1), (.go, 0x37, 1), (.dbgo, 0x38, 1), (.cmp, 0x39, 1), (.errcmp, 0x3A, 1), (.mwack, 0x3B, 1),
   (.crdreq, 0x3C, 0), (.crdgnt, 0x3D, 0), (.crdret, 0x3E, 0), (.boundary, 0x3F, 0)]

/-- Messages as flits (R163, R166, R189): opcode and class by Table COH-7; SRC, TID and poison in the header; a writeback or memory
write is a pair whose second flit has the next opcode and the 64 data bytes; a BOUNDARY flit carries the
payload of Table WRP-7, and every other control flit the address in bits [51:6] of the payload. -/
def MessageFlits : Prop :=
  (∀ r ∈ messageTable, r.1.code = r.2.1 ∧ r.1.cls = r.2.2) ∧
  ∀ (op : WarpOp) (src dst tid line : Nat) (poison : Bool) (more : List Nat) (s : State),
    let fs := s.flits (.warp op src dst tid line poison more)
    fs.length = (if op.isPair then 2 else 1) ∧
    ∀ (i : Nat) (f : Flit), fs[i]? = some f →
      hOPCODE.get f.head.toNat = op.code + i ∧ hCLASS.get f.head.toNat = op.cls ∧ hSRC.get f.head.toNat = endpointOf src % 256 ∧
      hTID.get f.head.toNat = tid % 256 ∧ hPAIR.get f.head.toNat = b2n (op.isPair && i == 0) ∧ bit f.head.toNat 25 = poison ∧
      (if op.hasData ∨ i = 1 then f.data.toNat = ofLeBytes (s.bytes (line * 64) 64) % 2 ^ 512
       else if op = .boundary then f.data.toNat = boundaryPayload more
       else f.data.toNat / 64 % 2 ^ 46 = line % 2 ^ 46)

/-- Pattern tables (R197): a change of SEL sets PEND, and while PEND is set the interface keeps the old word; writing the old value
back leaves nothing waiting; once nothing sent on the old word is open and no pair is half sent, PATTERN_SWITCH clears PEND and
the new word is in use. -/
def PatternChanges : Prop :=
  ∀ (ni : Ni) (e : Fin 256) (sel : Bool) (s : State),
    let word := fun (b : Bool) => if b then s.rd (niAlt ni e) else s.rd (niPri ni e)
    (s.rd (niSel ni e) = b2n (!sel) → ∃ u, exec (.wrpPatternSel ni e sel) s = .next u ∧ u.rd (niSel ni e) = b2n sel + 2 ∧
      u.routeWord ni e = word (!sel)) ∧
    (s.rd (niSel ni e) = b2n (!sel) + 2 → ∃ u, exec (.wrpPatternSel ni e sel) s = .next u ∧ u.rd (niSel ni e) = b2n sel ∧
      u.routeWord ni e = word sel) ∧
    (s.rd (niSel ni e) = b2n sel ∨ s.rd (niSel ni e) = b2n sel + 2 → exec (.wrpPatternSel ni e sel) s = .next s) ∧
    (s.rd (niSel ni e) = b2n sel + 2 →
      (s.openToward ni e = false → niEndpoint ni ∉ s.warp.mid →
        ∃ u, exec (.patternSwitch ni e) s = .next u ∧ u.rd (niSel ni e) = b2n sel ∧ u.routeWord ni e = word sel) ∧
      (s.openToward ni e = true ∨ niEndpoint ni ∈ s.warp.mid → exec (.patternSwitch ni e) s = .next s))

/-- The time grid at the tiles (R198, R199): a tile keeps the BOUNDARY flit's stitch and forwards it +Y up to the fifth hop from the
rim, its wait added to CORR; a tile without it applies the boundary by count, counts MISSB and reports. -/
def TileBoundaries : Prop :=
  ∀ (t : Tile) (s : State),
    (∀ (b : Word) (corr wait : BitVec 32), ∃ u, exec (.boundary t b ⟨corr, wait⟩) s = .next u ∧ (u.tile t).bnd = b.toNat ∧
      u.sent = s.sent ++ (if yPos (t.val % 48 / 8) = 5 then [] else
        [.warp .boundary t (torusStep t 2).1 0 0 false [b.toNat, (corr + wait).toNat, 256]])) ∧
    ((s.tile t).bnd < s.stitch → s.ras.writtenCorr < 192 → ∃ u, exec (.wrpMissb t) s = .next u ∧ (u.tile t).bnd = (s.tile t).bnd + 1 ∧
      u.fld { kind := .wrpRstat, i := t } F.wrpRstat.MISSB = min 255 (s.fld { kind := .wrpRstat, i := t } F.wrpRstat.MISSB + 1) ∧
      ∃ e ∈ u.ras.ring, e.cls = 0 ∧ e.code = 0x2D ∧ e.unitId = unitId 2 t)

end Sys2Proof.Spec

/-- The Warp: routing, forwarding, the messages' flits, pattern tables and the time grid (R163, R166, R188–R192, R196–R200, Table WRP-11).
Model's choices that it rests on: log entries 54, 57, 101, 108. -/
def Obligations.WarpRouting : Prop :=
  Spec.StageHops ∧ Spec.ExampleRoutes ∧ Spec.FlitMoves ∧ Spec.Injections ∧ Spec.MessageFlits ∧ Spec.RoutelessRequests ∧ Spec.PatternChanges ∧ Spec.TileBoundaries

/-! ### The Weft fabric -/

namespace Sys2Proof.Spec
open Sys2Proof Sys2Proof.Machine

/-- No request of the module to another is open. -/
def nothingOut (s : State) : Prop := s.weft.out = [] ∧ s.weft.ockq = []

/-- A frame as a port sends it: the cell, its SEQ, the ACK and whether it asks for a resend (Table WFT-3). -/
def framed (o : Out) (p : Port) (c : Cell) (seq ack : Nat) (nak : Bool) : Prop :=
  ∃ f, o = .frame p f ∧ f.cell = c ∧ bits f.hdr.toNat 11 0 = seq ∧ bits f.hdr.toNat 23 12 = ack ∧ bit f.hdr.toNat 35 = nak ∧
    f.crc = frameCrc f.hdr f.cell

/-- A link in use with all its numbers in range and no credit waiting to be returned. -/
def tidy (s : State) (p : Port) : Prop :=
  s.portUp p = true ∧ (s.link p).sndSeq < 4096 ∧ (s.link p).rcvSeq < 4096 ∧ (s.link p).owed = []

/-- The selections that R265 asks for: each destination the lowest word whose every link is usable, or UNREACH. -/
def routesRepaired (u : State) : Prop :=
  ∀ d : Fin 4096, d.val ≠ u.myId →
    (∀ w : Fin 4, u.wordUsable (u.rd (routeR d w)) = true → (∀ v : Fin 4, v < w → u.wordUsable (u.rd (routeR d v)) = false) →
      u.fld (pselR d) F.wpPsel.SEL = w ∧ u.flag (pselR d) F.wpPsel.UNREACH = false) ∧
    ((∀ w : Fin 4, u.wordUsable (u.rd (routeR d w)) = false) → u.flag (pselR d) F.wpPsel.UNREACH = true)

/-- A LOCAL cell floods out of every UP port but one (R261, R264). -/
def floods (s : State) (c : Cell) (except : Option Nat) : List (Option Nat × Cell) :=
  (s.upPorts.filter fun q => some q ≠ except).map fun q => (some q, c)

/-- Bring-up (R235, R241, Table WFT-4): RETRAIN, or 100,000 stitches after a failure, starts step 1 with the role, dimension and direction
that WP.PCTL has; a write of them while the port is UP changes none of the three; lock sends NULL frames from SEQ 0
that return 16 credits for every channel, and HELLO; loss of lock fails a link in use and ends a bring-up in DOWN. -/
def LinkBringup : Prop :=
  ∀ (p : Port) (s : State), s.isWeft p = true →
    (s.portUp p = true → ∀ v, ∃ u, exec (.registerWrite .thimble (0x7F0030000000 + 0x10000 * p.val) v) s = .next u ∧
      u.portRole p = s.portRole p ∧ u.portDim p = s.portDim p ∧ u.portDir p = s.portDir p) ∧
    (s.unitOut 4 p = false → nothingOut s → s.fld (pctlR p) F.wpPctl.ROLE = 1 →
      (∃ u, exec (.wpPctlRetrain p) s = .next u ∧ u.linkState p = lsTraining ∧ u.portDim p = s.fld (pctlR p) F.wpPctl.DIM ∧
        u.portDir p = s.fld (pctlR p) F.wpPctl.DIR ∧ u.flag (pctlR p) F.wpPctl.RETRAIN = false ∧
        (u.link p).replay = []) ∧
      (s.linkState p = lsDown → 100000 ≤ (s.link p).since →
        ∃ u, exec (.linkBringupRestart p) s = .next u ∧ u.linkState p = lsTraining)) ∧
    ((s.link p).since < 100000 → exec (.linkBringupRestart p) s = .next s) ∧
    (s.linkState p = lsTraining → ∃ u fs, exec (.pcsLock p) s = .next u ∧ u.linkState p = lsPcs ∧ (u.link p).owed = [] ∧
      u.sent = s.sent ++ fs ∧ (∀ o ∈ fs, ∃ f, o = .frame p f ∧ cf f.cell cTYPE = 0 ∧ bits f.hdr.toNat 11 0 = 0) ∧
      (∀ vc : Fin 14, (fs.map fun o => match o with
        | .frame _ f => if bits f.hdr.toNat 31 28 = vc then bits f.hdr.toNat 34 32 else 0
        | _ => 0).sum = 16) ∧
      ∃ e ∈ u.weft.own, e.1 = some p.val ∧ cf e.2 cTYPE = 0x02 ∧ cd e.2 0 1 = 1 ∧ cd e.2 8 8 = s.rd { kind := .wpFname } % 2 ^ 64) ∧
    (nothingOut s → s.linkState p = lsUp → ∃ u, exec (.pcsLockLoss p) s = .next u ∧ u.linkState p = lsFailed ∧
      (u.link p).replay = [] ∧ u.fld (pstatR p) F.wpPstat.FAILS = min 255 (s.fld (pstatR p) F.wpPstat.FAILS + 1) ∧
      routesRepaired u) ∧
    (s.linkState p = lsTraining ∨ s.linkState p = lsPcs ∨ s.linkState p = lsHello →
      ∃ u, exec (.pcsLockLoss p) s = .next u ∧ u.linkState p = lsDown ∧
        u.fld (pstatR p) F.wpPstat.FAILS = min 255 (s.fld (pstatR p) F.wpPstat.FAILS + 1))

/-- HELLO from a compatible peer (R263): FNAME and shape equal, the peer's dimension equal and its direction opposite, its ID the
neighbour that R237 names. -/
def sameFabric (s : State) (c : Cell) : Prop :=
  cd c 4 1 = s.fld fcfgR F.wpFcfg.KX + 16 * s.fld fcfgR F.wpFcfg.KY ∧ cd c 5 1 % 16 = s.fld fcfgR F.wpFcfg.KZ ∧
  cd c 8 8 = s.rd { kind := .wpFname }
def rightlyCabled (s : State) (p : Port) (c : Cell) : Prop :=
  let dim := s.portDim p
  let dir := s.portDir p
  cd c 0 1 = 1 ∧ bits (cd c 1 1) 4 3 = dim ∧ bits (cd c 1 1) 5 5 = 1 - dir ∧
  ∀ j : Fin 3, coord (cd c 2 2 % 4096) j =
    if j.val = dim then (coord s.myId j + (if dir = 0 then 1 else s.ring_ dim - 1)) % s.ring_ dim else coord s.myId j

def HelloChecks : Prop :=
  ∀ (p : Port) (c : Cell) (s : State), s.isWeft p = true → s.portDim p < 3 →
    (s.linkState p = lsPcs → sameFabric s c → rightlyCabled s p c →
      ∃ u, exec (.hello p c) s = .next u ∧ u.linkState p = lsHello ∧ u.fld (pstatR p) F.wpPstat.PEER = cd c 2 2 % 4096 ∧
        u.fld (pstatR p) F.wpPstat.PEERPORT = bits (cd c 1 1) 2 0) ∧
    (s.linkState p = lsPcs ∨ s.linkState p = lsHello →
      (¬ sameFabric s c → ∃ u, exec (.hello p c) s = .next u ∧ u.linkState p = lsIsolated) ∧
      (sameFabric s c → ¬ rightlyCabled s p c → ∃ u, exec (.hello p c) s = .next u ∧ u.linkState p = lsMiscabled))

/-- DELAY_RESP (R34, Table WFT-4 steps 5 and 6): the open exchange gives WP.LDLY, and a port in HELLO becomes UP and floods its link
state; an answer nobody asked for changes nothing. -/
def DelayMeasured : Prop :=
  ∀ (p : Port) (c : Cell) (rt : BitVec 64) (s : State), s.isWeft p = true → nothingOut s →
    (SMap.find s.time.delayReq p.val).isSome = true → cd c 16 8 ≤ rt.toNat →
    ∃ u, exec (.delayResp p c rt) s = .next u ∧
      u.fld { kind := .wpLdly, i := p } F.wpLdly.DELAY = min 0xFFFF ((rt.toNat - cd c 16 8) / 2 / 4096) ∧
      (s.linkState p = lsHello → u.linkState p = lsUp ∧ ∃ e ∈ u.weft.own, e.1 = some p.val ∧ cf e.2 cTYPE = 0x41) ∧
      (s.linkState p ≠ lsHello → u.linkState p = s.linkState p) ∧
      ∀ v : State, SMap.find v.time.delayReq p.val = none → exec (.delayResp p c rt) v = .next v

/-- WEFT_FRAME on a link in use (R240, R241, R243): a bad frame counts in CRCERR and is answered with NAK; the next good one is
acknowledged, and a routed cell of the right class takes its place in its channel; a cell of a wrong class counts in
DISCARD; NAK has every unacknowledged frame sent again, and the fifth time fails the link. -/
def FramesArrive : Prop :=
  ∀ (p : Port) (f : WFrame) (s : State), tidy s p →
    let h := f.hdr.toNat
    let good := f.fecOk = true ∧ f.crc = frameCrc f.hdr f.cell
    let next := good ∧ bits h 11 0 = ((s.link p).rcvSeq + 1) % 4096 ∧ cf f.cell cTYPE ≠ 0
    (¬good → ∃ u o, exec (.weftFrame p f) s = .next u ∧ u.sent = s.sent ++ [o] ∧
      framed o p nullCell (s.link p).sndSeq (s.link p).rcvSeq true ∧
      u.fld (lcntR p) F.wpLcnt.CRCERR = min 65535 (s.fld (lcntR p) F.wpLcnt.CRCERR + 1)) ∧
    (next → (s.link p).replay = [] → (s.link p).nak = false →
      (cellClass (cf f.cell cTYPE) = some (cf f.cell cCLASS) → cf f.cell cLOCAL = 0 →
        (SMap.get (fun _ => []) (s.link p).bufs (cellVc f.cell)).length < 16 →
        ∃ u o, exec (.weftFrame p f) s = .next u ∧ u.sent = s.sent ++ [o] ∧
          framed o p nullCell (s.link p).sndSeq (bits h 11 0) false ∧
          SMap.get (fun _ => []) (u.link p).bufs (cellVc f.cell) =
            SMap.get (fun _ => []) (s.link p).bufs (cellVc f.cell) ++ [f.cell]) ∧
      (cellClass (cf f.cell cTYPE) = some (cf f.cell cCLASS) → cf f.cell cLOCAL = 1 →
        ∃ u o, exec (.weftFrame p f) s = .next u ∧ u.sent = s.sent ++ [.cell (some p) f.cell, o] ∧
          framed o p nullCell (s.link p).sndSeq (bits h 11 0) false) ∧
      (cellClass (cf f.cell cTYPE) ≠ some (cf f.cell cCLASS) → ∃ u, exec (.weftFrame p f) s = .next u ∧
        u.fld (lcntR p) F.wpLcnt.DISCARD = min 65535 (s.fld (lcntR p) F.wpLcnt.DISCARD + 1))) ∧
    (good → cf f.cell cTYPE = 0 → bit h 35 = true → ∀ seq c n, (s.link p).replay = [(seq, c, n)] → seq ≠ bits h 23 12 →
      seq < 4096 →
      (n < 4 → ∃ u o, exec (.weftFrame p f) s = .next u ∧ u.sent = s.sent ++ [o] ∧ framed o p c seq (s.link p).rcvSeq (s.link p).nak ∧
        (u.link p).replay = [(seq, c, n + 1)] ∧
        u.fld (lcntR p) F.wpLcnt.REPLAY = min 65535 (s.fld (lcntR p) F.wpLcnt.REPLAY + 1)) ∧
      (4 ≤ n → nothingOut s → ∃ u, exec (.weftFrame p f) s = .next u ∧ u.linkState p = lsFailed ∧ (u.link p).replay = [])) ∧
    (good → cf f.cell cTYPE = 0 → ∀ c n rest, (s.link p).replay = (bits h 23 12, c, n) :: rest → bit h 35 = false →
      ∃ u, exec (.weftFrame p f) s = .next u ∧ (u.link p).replay = rest)

/-- Link state (R264, R265): a later LINKST of an origin is recorded, flooded on and, when it reports a change, answered by the
selections R265 asks for; an old one changes nothing. Every 100,000 stitches the module floods its own; an origin silent for
300,000 stitches is absent. -/
def LinkStates : Prop :=
  ∀ s : State, nothingOut s →
    (∀ (p : Port) (c : Cell), s.portUp p = true → cd c 0 2 % 4096 ≠ s.myId →
      let m := cd c 0 2 % 4096
      let rec_ : LinkRec := { seq := cd c 4 4, up := cd c 8 1, peers := (List.range 8).map fun i => cd c (10 + 2 * i) 2 % 4096, age := 0 }
      (SMap.find s.weft.links' m = none → ∃ u, exec (.linkst p c) s = .next u ∧ SMap.find u.weft.links' m = some rec_ ∧
        u.weft.own = s.weft.own ++ floods s c (some p.val) ∧ routesRepaired u) ∧
      (∀ r, SMap.find s.weft.links' m = some r → cd c 4 4 = r.seq → exec (.linkst p c) s = .next s) ∧
      (∀ r, SMap.find s.weft.links' m = some r → cd c 4 4 = (r.seq + 1) % 2 ^ 32 → r.seq < 2 ^ 32 →
        ∃ u, exec (.linkst p c) s = .next u ∧ SMap.find u.weft.links' m = some rec_ ∧
          u.weft.own = s.weft.own ++ floods s c (some p.val) ∧ (r.up ≠ rec_.up ∨ r.peers ≠ rec_.peers → routesRepaired u))) ∧
    (100000 ≤ s.weft.sinceOrig → ∃ u c, exec .linkstOrigination s = .next u ∧ u.weft.sinceOrig = 0 ∧
      u.weft.own = s.weft.own ++ floods s c none ∧ cf c cTYPE = 0x41 ∧ cf c cLOCAL = 1 ∧ cd c 0 2 = s.myId ∧
      cd c 4 4 = s.stitch % 2 ^ 32) ∧
    (s.weft.sinceOrig < 100000 → exec .linkstOrigination s = .next s) ∧
    (∀ (m : Fin 4096) (r : LinkRec), SMap.find s.weft.links' m = some r →
      (300000 ≤ r.age → ∃ u, exec (.linkstOriginAbsent m) s = .next u ∧ SMap.find u.weft.links' m = none ∧ routesRepaired u) ∧
      (r.age < 300000 → exec (.linkstOriginAbsent m) s = .next s))

/-- The forwarding rule (R247) for the lowest leg with a count: where its port is UP, the count fits the ring, the dimensions of the
legs with counts ascend and a dateline is announced, the cell leaves by it with the count lower by one, LEG set, and DL as
R247 gives; otherwise it is discarded. With no count left it is delivered at its destination only (R243). -/
def ForwardingRule : Prop :=
  ∀ (inj : Bool) (c : Cell) (s : State),
    let r := cf c cROUTE
    ((∀ k < 3, legCnt r k = 0) → s.cellHop inj c = if cf c cDST = s.myId then .deliver else .bad) ∧
    ∀ k < 3, (∀ j < k, legCnt r j = 0) → 0 < legCnt r k →
      let p := legPort r k
      let dim := fun j => s.portDim (legPort r j)
      let date := s.flag (pctlR p) F.wpPctl.DATELINE
      let ok := s.portUp p = true ∧ legCnt r k ≤ s.ring_ (dim k) - 1 ∧
        (∀ i j, k ≤ i → i < j → j < 3 → 0 < legCnt r i → 0 < legCnt r j → dim i < dim j) ∧ (date = true → bit r (24 + k) = true)
      (¬ok → s.cellHop inj c = .bad) ∧
      (ok → ∃ d, s.cellHop inj c = .out p d ∧ legCnt (cf d cROUTE) k + 1 = legCnt r k ∧ rLEG.get (cf d cROUTE) = k ∧
        cf d cDST = cf c cDST ∧ cf d cTYPE = cf c cTYPE ∧ d.data = c.data ∧
        cf d cDL = if date then 1 else if inj ∨ rLEG.get r ≠ k then (if bit r (24 + k) then 0 else 1) else cf c cDL)

/-- CELL_FORWARD of a cell that waits at a port alone (R241, R247): delivered, discarded and counted, sent with the next SEQ when a
credit is held, or kept. -/
def CellsForwarded : Prop :=
  ∀ (p : Port) (cls : Fin 7) (dl : Bool) (c : Cell) (s : State),
    let vc := 2 * cls.val + b2n dl
    let i := Instr.cellForward (.link p cls dl)
    let waits := fun (u : State) => SMap.get (fun _ => []) (u.link p).bufs vc
    s.headCell p vc = some c → cf c cCLASS = cls →
    (s.cellHop false c = .deliver → ∃ u, exec i s = .next u ∧ u.sent = s.sent ++ [.cell none c] ∧ waits u = (waits s).drop 1 ∧
      SMap.get (fun _ => 0) (u.link p).owed vc = SMap.get (fun _ => 0) (s.link p).owed vc + 1) ∧
    (s.cellHop false c = .bad → ∃ u, exec i s = .next u ∧ u.sent = s.sent ∧ waits u = (waits s).drop 1 ∧
      u.fld (lcntR p) F.wpLcnt.DISCARD = min 65535 (s.fld (lcntR p) F.wpLcnt.DISCARD + 1)) ∧
    (∀ (q : Port) (d : Cell), s.cellHop false c = .out q d →
      (s.canLeave q d = false → exec i s = .next s) ∧
      (s.canLeave q d = true → q ≠ p → (∀ x ∈ s.contend q, x = (p.val, cls.val)) → (s.link q).rcvSeq < 4096 → (s.link q).owed = [] →
        ∃ u o, exec i s = .next u ∧ u.sent = s.sent ++ [o] ∧ waits u = (waits s).drop 1 ∧
          framed o q d (((s.link q).sndSeq + 1) % 4096) (s.link q).rcvSeq (s.link q).nak ∧
          (u.link q).replay = (s.link q).replay ++ [((((s.link q).sndSeq + 1) % 4096), d, 0)]))

/-- The module's own cells (R245, R247, R258): an own cell for the module itself is delivered without a port; one that leaves arms its
entry's timeout. -/
def OwnCells : Prop :=
  ∀ (c : Cell) (s : State), s.weft.own = [(none, c)] →
    (s.cellHop true c = .deliver → ∃ u, exec (.cellForward (.own 0)) s = .next u ∧ u.weft.own = [] ∧ u.sent = s.sent ++ [.cell none c]) ∧
    (∀ (k : Fin 1024) (x : OutEnt), s.weft.out = [(k.val, some x)] → x.dst = cf c cDST → x.cls = cf c cCLASS → c ∈ x.cells → x.age = none →
      s.cellHop true c ≠ .bad →
      (∀ q d, s.cellHop true c = .out q d → s.canLeave q d = true ∧ s.cellFunded q c = true ∧
        ∀ y ∈ s.contend q, y = (8, cf d cCLASS)) →
      ∃ u, exec (.cellForward (.own 0)) s = .next u ∧ u.weft.own = [] ∧ u.outEnt k = some { x with age := some 0 })

/-- A change of selection (R246): SEL and UNREACH as Thimble writes them; with a request open toward the destination PEND is set and
every cell still takes the old word. -/
def SelectionChanges : Prop :=
  ∀ (d : Fin 4096) (w v : Fin 4) (un : Bool) (s : State), d.val ≠ s.myId → s.fld (pselR d) F.wpPsel.SEL = v → w ≠ v →
    s.flag (pselR d) F.wpPsel.PEND = false →
    let word := fun (j : Fin 4) => if bit (s.rd (routeR d j)) 31 then some (s.rd (routeR d j)) else none
    ∃ u, exec (.wpPsel d w un) s = .next u ∧ u.fld (pselR d) F.wpPsel.SEL = w ∧ u.flag (pselR d) F.wpPsel.UNREACH = un ∧
      (un = true → u.wordTo d = none) ∧
      (un = false → s.weft.out = [] → u.wordTo d = word w) ∧
      (un = false → ∀ k x, s.weft.out = [(k, some x)] → x.dst = d →
        u.flag (pselR d) F.wpPsel.PEND = true ∧ u.wordTo d = word v)

/-- Stitch barriers (R260, R261): the root counts arrivals of its own GEN, one for a module, and the last floods BARREL with RSTITCH two stitches on; the
first copy of a BARREL is flooded on and falls due; a late one releases every matching context at once and sets LATE. -/
def StitchBarriers : Prop :=
  ∀ s : State,
    (∀ (c : Cell) (n : Nat), s.rootCtx (cf c cARG % 64) = some n →
      let r := barR n
      let arrived := s.fld (barcntR n) F.wpBarcnt.ARRIVED
      let seen := fun (v : State) => SMap.get (fun _ => []) v.weft.counted n
      (s.fld r F.wpBar.GEN ≠ cf c cTAG % 256 ∨ cellSrc c ∈ seen s → exec (.bararr c) s = .next s) ∧
      (s.fld r F.wpBar.GEN = cf c cTAG % 256 → cellSrc c ∉ seen s → arrived + 1 < s.fld r F.wpBar.COUNT →
        ∃ u, exec (.bararr c) s = .next u ∧ u.fld (barcntR n) F.wpBarcnt.ARRIVED = arrived + 1 ∧ cellSrc c ∈ seen u ∧
          u.weft.own = s.weft.own) ∧
      (s.fld r F.wpBar.GEN = cf c cTAG % 256 → cellSrc c ∉ seen s → arrived + 1 = s.fld r F.wpBar.COUNT →
        ∃ u b, exec (.bararr c) s = .next u ∧ u.weft.own = s.weft.own ++ floods s b none ∧ cf b cTYPE = 0x04 ∧
          cd b 0 8 = (s.stitch + 2) % 2 ^ 64 ∧
          (s.myId, cf c cARG % 64, cf c cTAG % 256, s.stitch + 2) ∈ u.weft.relDue)) ∧
    (∀ (p : Port) (c : Cell), s.portUp p = true →
      let root := bits (cf c cARG) 17 6
      let rctx := bits (cf c cARG) 5 0
      let gen := cf c cTAG % 256
      ((root, rctx, gen) ∈ s.weft.relSeen → exec (.barrel p c) s = .next s) ∧
      ((root, rctx, gen) ∉ s.weft.relSeen → ∃ u, exec (.barrel p c) s = .next u ∧
        u.weft.own = s.weft.own ++ floods s c (some p.val) ∧ (root, rctx, gen) ∈ u.weft.relSeen ∧
        (s.stitch < cd c 0 8 → (root, rctx, gen, cd c 0 8) ∈ u.weft.relDue) ∧
        (cd c 0 8 ≤ s.stitch → ∀ n : Fin 256,
          let f := fun (v : State) g => v.fld (barR n) g
          if f s F.wpBar.COUNT ≠ 0 ∧ f s F.wpBar.ROOT = root ∧ f s F.wpBar.RCTX = rctx ∧ f s F.wpBar.GEN = gen then
            f u F.wpBar.ARRIVE = 0 ∧ f u F.wpBar.DONE = 1 ∧ f u F.wpBar.LATE = 1 ∧ f u F.wpBar.GEN = (gen + 1) % 256 ∧
            u.fld (barcntR n) F.wpBarcnt.ARRIVED = 0 ∧
            u.flag { kind := .icVec, i := f s F.wpBar.PANEL, j := f s F.wpBar.VECTOR } F.icVec.PEND = true
          else u.rd (barR n) = s.rd (barR n))))

/-- The engine takes the oldest aperture access when an entry is free (R251, R254): one cell, RD64 or WR64 with the bytes written in
its mask, SEQ next in its class; an unreachable module is answered UNREACHABLE without a cell (R246). -/
def ApertureAccesses : Prop :=
  ∀ (q : ApReq) (k : Nat) (s : State), s.weft.apq = [q] → s.freeOut = some k → q.m < 4096 → q.off < 2 ^ 32 →
    s.panelOf q.th < 512 → (s.stoppedAt q.m 4) = none →
    (∀ w, s.wordTo q.m = some w → w < 2 ^ 32 → (s.takeSeq q.m 4).1 < 65536 →
      ∃ u c, exec .apertureAccess s = .next u ∧ u.weft.apq = [] ∧ u.weft.own = s.weft.own ++ [(none, c)] ∧
        u.outEnt k = some { use := if q.store then .store q.th q.seat else .load q.th, dst := q.m, cls := 4, cells := [c], age := none } ∧
        cf c cTYPE = (if q.store then 0x12 else 0x10) ∧ cf c cCLASS = 4 ∧ cf c cDST = q.m ∧ cf c cROUTE = w ∧
        cf c cTAG = (s.takeSeq q.m 4).1 ∧ cf c cSRCH = s.handle (s.panelOf q.th) ∧ cf c cARG = q.off / 64 * 64 ∧
        (q.store = true → q.data.length = q.n → q.off % 64 + q.n ≤ 64 →
          (∀ i < q.n, (cellBytes c)[q.off % 64 + i]? = q.data[i]?) ∧
          ∀ i < 64, bit (cd c 64 8) i = decide (q.off % 64 ≤ i ∧ i < q.off % 64 + q.n))) ∧
    (s.wordTo q.m = none → s.weft.ockq = [] → ∃ u, exec .apertureAccess s = .next u ∧ u.weft.apq = [] ∧ u.weft.own = s.weft.own ∧
      u.outEnt k = none ∧ (q.store = true → q.th < 384 → runsAlone s q.th q.seat → (u.thr q.th).imprecise = some 0x26))

/-- An entry of a class toward a module is open, alone, with no selection change waiting. -/
def oneOut (s : State) (k : Fin 1024) (x : OutEnt) : Prop :=
  s.weft.out = [(k.val, some x)] ∧ s.weft.ockq = [] ∧ x.dst < 4096 ∧ s.flag (pselR x.dst) F.wpPsel.PEND = false

/-- Ends of requests (R252, R258, R265): RDRESP and WACK free the entry, a load gets its bytes; WERR and the timeout complete it with a
code, which a store raises as an imprecise machine check; a younger entry is left alone. WRETRY stops the class, and GO
sends every cell of it again from the SEQ named. -/
def RemoteEnds : Prop :=
  ∀ (k : Fin 1024) (x : OutEnt) (c y : Cell) (s : State), oneOut s k x → x.cells = [y] → x.dst = cellSrc c →
    (x.cls = 4 → cf y cTAG = cf c cTAG →
      (∃ u, exec (.wack c) s = .next u ∧ u.outEnt k = none) ∧
      (∀ (th : Thr) seat, x.use = .store th seat → runsAlone s th seat → ∃ u, exec (.werr c) s = .next u ∧ u.outEnt k = none ∧ (u.thr th).imprecise = some 0x26) ∧
      (∀ (th : Thr) (rd : GIdx) (size pa : Nat) (h : Half), x.use = .load th → rd.val ≠ 0 → h.n = size → h.x.pa % 64 + size ≤ 64 →
        (s.thr th).stall = some ⟨some (.gpr rd size false), pa, h, [], []⟩ → s.paired (th / 2) = false → cf c cPOISON = 0 →
        ∃ u, exec (.rdresp c) s = .next u ∧ u.outEnt k = none ∧ (u.thr th).stall = none ∧
          (u.thr th).gr rd = BitVec.ofNat 64 (ofLeBytes (((cellBytes c).drop (h.x.pa % 64)).take size)) ∧
          (u.thr th).pc = (s.thr th).pc + 4)) ∧
    (∀ (th : Thr) seat, x.use = .store th seat → runsAlone s th seat →
      (∀ a, x.age = some a → s.rd { kind := .rasTmo, i := 4 } ≤ a → ∃ u, exec (.wftTimeout (.entry k)) s = .next u ∧
        u.outEnt k = none ∧ (u.thr th).imprecise = some 0x26) ∧
      (∀ a, x.age = some a → a < s.rd { kind := .rasTmo, i := 4 } → exec (.wftTimeout (.entry k)) s = .next s)) ∧
    (cf c cARG % 8 = x.cls → cf y cTAG = cf c cTAG →
      (∃ u, exec (.wretry c) s = .next u ∧ s.weft.out = u.weft.out ∧ u.stoppedAt x.dst x.cls = some (cf c cTAG) ∧
        ∀ e ∈ u.weft.own, e ∈ s.weft.own ∧ ¬(e.1 = none ∧ cf e.2 cDST = x.dst ∧ cf e.2 cCLASS = x.cls ∧
          seqFrom (cf e.2 cTAG) (cf c cTAG) < 32768)) ∧
      ((s.stoppedAt x.dst x.cls).isSome → ∃ u, exec (.wftGo c) s = .next u ∧ u.stoppedAt x.dst x.cls = none ∧
        u.weft.own = s.weft.own ++ [(none, y)]) ∧
      (s.stoppedAt x.dst x.cls = none → exec (.wftGo c) s = .next s))

/-- A request of another module that the target allows, with every entry of the engine free (R251, R256). -/
def allowed (s : State) (c : Cell) (write : Bool) (line : Nat) : Prop :=
  s.weft.blocked = [] ∧ s.weft.inb = [] ∧ (∀ r, r < 128 → s.req 198 r = none) ∧ s.flag fcfgR F.wpFcfg.EN = true ∧
  s.inCheck (cf c cARG) (cf c cSRCH) write = some line ∧
  ∀ l ∈ [line, line + 1], (s.homeIn (s.panelBolt (potPanel (s.potFor 198 (l / 1024)))) l).isSome = true

/-- The request types: the instruction, writes or not, lines asked for. -/
inductive RemoteRow (c : Cell) : Instr → Bool → Nat → Prop where
  | rd64 : RemoteRow c (.rd64 c) false 1
  | rd128 : RemoteRow c (.rd128 c) false 2
  | wr64 : RemoteRow c (.wr64 c) true 1
  | wr128 : RemoteRow c (.wr128 c) true 2

/-- Requests of other modules (R252, R253, R256): an allowed one takes an entry and issues RDIO, or WRF or WRP, for each of its lines,
with the bytes that its mask names; a refused access is answered WERR DENIED; with no room the cell is answered
WRETRY and its source is blocked. -/
def RemoteRequests : Prop :=
  ∀ c i w n, RemoteRow c i w n → ∀ s : State,
    (∀ line, allowed s c w line → ∃ u e, exec i s = .next u ∧ u.inEnt 0 = some e ∧ e.src = cellSrc c ∧ e.seq = cf c cTAG ∧
      e.srch = cf c cSRCH ∧ e.line = line ∧ e.issued = true ∧ e.open_ = n ∧
      (∀ j < n, ∃ r m, u.req 198 r = some m ∧ m.line = line + j ∧ m.ctx = 0 ∧
        if w then (m.op = .wrf ∨ m.op = .wrp) ∧
            ∀ i < 64, (line * 64 + 64 * j + i, (cellBytes c).getD (64 * j + i) 0) ∈ m.data ↔ n = 2 ∨ bit (cd c 64 8) i = true
        else m.op = .rdio)) ∧
    (∀ word, s.wordTo (cellSrc c) = some word → s.weft.blocked = [] → cf c cCLASS = 4 →
      (s.inEnt 0 = none → s.flag fcfgR F.wpFcfg.EN = true → s.inCheck (cf c cARG) (cf c cSRCH) w = none →
        ∃ u, exec i s = .next u ∧
          u.weft.own = s.weft.own ++ [(none, mkCell 0x24 (cellSrc c) (cf c cSRCH) (cf c cTAG) 2 false false word [])]) ∧
      ((∀ k, k < 128 → s.inEnt k ≠ none) → ∃ u, exec i s = .next u ∧ u.weft.blocked = [(cellSrc c, 4, cf c cTAG)] ∧
        u.weft.own = s.weft.own ++ [(none, mkCell 0x22 (cellSrc c) (cf c cSRCH) (cf c cTAG) 4 false false word [])]))

/-- Messages, frames and packets in segments (R259, R262, R274): a segment of a MSG goes at 128 × SEGMENT of the buffer the first one
took, while the bobbin runs and the Page Owner Table still lets its panel write there; a bobbin that accepts none is answered WERR DENIED; a segment that is not the last of a frame or packet is kept, and
the last is answered WACK and frees its entry, for which the oldest blocked source gets GO (R252). -/
def SegmentsArrive : Prop :=
  ∀ (c : Cell) (word : Nat) (s : State), s.weft.blocked = [] → s.weft.held = [] → s.wordTo (cellSrc c) = some word →
    let wack := (none, mkCell 0x21 (cellSrc c) (cf c cSRCH) (cf c cTAG) 0 false false word [])
    let b := cf c cARG % 16384
    (∀ (x : Partial) (a : Nat), s.weft.partials = [x] → x.typ = 0x30 → x.src = cf c cSRCH → x.arg = b → x.buf = some a →
      0 < bits (cf c cARG) 18 14 → bits (cf c cARG) 18 14 * 128 + 128 ≤ bits (cf c cARG) 31 19 → cf c cPOISON = 0 → cf c cLAST = 0 →
      let mayWrite := s.bobState b == bRun && s.rangeOk 193 (s.bobPanel b) (a + 128 * bits (cf c cARG) 18 14) 128 true
      (mayWrite = true → ∃ u, exec (.msg c) s = .next u ∧ u.weft = s.weft ∧
        ∀ i < 128, u.byte (a + 128 * bits (cf c cARG) 18 14 + i) = (cellBytes c).getD i 0) ∧
      (mayWrite = false → ∃ u, exec (.msg c) s = .next u ∧ u.mem = s.mem ∧ u.weft.partials = [] ∧
        u.weft.own = s.weft.own ++ [(none, mkCell 0x24 (cellSrc c) (cf c cSRCH) (cf c cTAG) 2 false false word [])])) ∧
    (bits (cf c cARG) 18 14 = 0 → s.flag (bctlR b) F.neBctl.MSGEN = false → ∃ u, exec (.msg c) s = .next u ∧
      u.weft.own = s.weft.own ++ [(none, mkCell 0x24 (cellSrc c) (cf c cSRCH) (cf c cTAG) 2 false false word [])]) ∧
    (s.weft.partials = [] → cf c cLAST = 0 →
      (∃ u x, exec (.eth c) s = .next u ∧ u.weft.partials = [x] ∧ x.typ = 0x31 ∧ x.src = cellSrc c ∧ x.bytes = cellBytes c ∧
        u.weft.own = s.weft.own) ∧
      (s.thm.taken = [] → ∃ u x, exec (.ockar c) s = .next u ∧ u.weft.partials = [x] ∧ x.typ = 0x40 ∧ x.src = cellSrc c ∧
        x.bytes = cellBytes c ∧ u.weft.own = s.weft.own)) ∧
    (∀ x, s.weft.partials = [x] → x.typ = 0x31 → x.src = cellSrc c → cf c cLAST = 1 →
      s.vpUp (bits (cf c cARG) 31 20) = false → ∃ u, exec (.eth c) s = .next u ∧ u.weft.partials = [] ∧ wack ∈ u.weft.own ∧
        ∀ m q w, m ≠ cellSrc c → s.wordTo m = some w →
          ∃ v, exec (.eth c) (s.setWeft fun y => { y with blocked := [(m, 5, q)] }) = .next v ∧ SMap.find v.weft.held 5 = some (m, q) ∧
            (none, mkCell 0x23 m (s.handle 0) q 5 false false w []) ∈ v.weft.own)

end Sys2Proof.Spec

/-- Weft links (R34, R235, R240, R241, R243, R263–R265).
Model's choices that it rests on: log entries 57, 58, 130. -/
def Obligations.WeftLinks : Prop :=
  Spec.LinkBringup ∧ Spec.HelloChecks ∧ Spec.DelayMeasured ∧ Spec.FramesArrive ∧ Spec.LinkStates

/-- Weft cells, routes, barriers and the module's own requests (R243–R247, R251, R252, R254, R258, R260, R261).
Model's choices that it rests on: log entries 55, 101. -/
def Obligations.WeftCells : Prop :=
  Spec.ForwardingRule ∧ Spec.CellsForwarded ∧ Spec.OwnCells ∧ Spec.SelectionChanges ∧ Spec.StitchBarriers ∧ Spec.ApertureAccesses ∧
  Spec.RemoteEnds

/-- What the Weft engine does for other modules (R252, R253, R256, R259, R262, R274).
Model's choices that it rests on: log entries 8, 19, 51. -/
def Obligations.WeftTargets : Prop := Spec.RemoteRequests ∧ Spec.SegmentsArrive

/-! ### The network engine -/

namespace Sys2Proof.Spec
open Sys2Proof Sys2Proof.Machine

/-- The doorbells with a tail or head (R282): the register, the free-running index on the other side, the ring's size, and what
they then hold apart. -/
inductive DoorRow (b : Bobbin) (i : BitVec 16) (s : State) : Instr → Reg → Nat → Prop where
  | sq : DoorRow b i s (.sqtail b i) (sqtailR b)
      (if s.sqSize b < idxSub i.toNat (s.fld (bstatR b) F.neBstat.SQHEAD) then 1 else 0)
  | rq : DoorRow b i s (.rqtail b i) (rqtailR b)
      (if s.rqSize b < idxSub i.toNat (s.fld (bstatR b) F.neBstat.RQHEAD) then 1 else 0)
  | cq : DoorRow b i s (.cqhead b i) (cqheadR b)
      (if s.cqSize b < idxSub (s.fld (bstatR b) F.neBstat.CQTAIL) i.toNat then 1 else 0)

/-- A doorbell write (R282) holds its index, and one that makes tail minus head exceed the ring stops a running bobbin with CAUSE 0x01. -/
def Doorbells : Prop :=
  (∀ b i s row r over_, DoorRow b i s row r over_ → (s.bob b).owed = [] → ∃ u, exec row s = .next u ∧ u.rd r = i.toNat ∧
    (s.bobState b = bRun → over_ = 1 → u.bobState b = bStopped ∧ u.fld (bstatR b) F.neBstat.CAUSE = 1) ∧
    (over_ = 0 → u = s.wr r i.toNat)) ∧
  (∀ (b : Bobbin) (s : State), exec (.arm b true) s = .next (s.wr (armR b) 1) ∧ exec (.arm b false) s = .next s)

/-- The slot of the next completion, its phase, and the check of its access (R281, R283, Table NET-12). -/
def cqSlot (s : State) (b : Bobbin) : Nat := s.rd (cqbaseR b) + 32 * ((s.bob b).done % s.cqSize b)
def cqOk (s : State) (b : Bobbin) : Prop := s.neCheck (s.bobPanel b) (cqSlot s b) 32 true = .ok

/-- A completion has been written in the ring's next slot, its PHASE the parity of the pass, and an armed VECTOR has been raised. -/
def completed (s u : State) (b : Bobbin) (r : List Byte) : Prop :=
  u.bytes (cqSlot s b) 32 = r ++ [if (s.bob b).done / s.cqSize b % 2 = 0 then 1 else 0] ∧
  u.fld (bstatR b) F.neBstat.CQTAIL = ((s.bob b).done + 1) % 65536 ∧
  (bit (s.rd (armR b)) 0 = true → u.rd (armR b) = 0 ∧
    u.flag { kind := .icVec, i := s.bobPanel b, j := s.fld (bctlR b) F.neBctl.VECTOR } F.icVec.PEND = true)

/-- A completion that waited for CQ space is written when CQHEAD makes room (R282, R283). -/
def CompletionsWritten : Prop :=
  ∀ (b : Bobbin) (i : BitVec 16) (r : List Byte) (s : State), s.bobState b = bRun → (s.bob b).owed = [r] → r.length = 31 → cqOk s b →
    idxSub (s.fld (bstatR b) F.neBstat.CQTAIL) i.toNat < s.cqSize b →
    ∃ u, exec (.cqhead b i) s = .next u ∧ (u.bob b).owed = [] ∧ completed s u b r

/-- The engine serves the bobbin's send ring (R283, R289): in service, running, work posted, its panel RUNNING or PAUSED, its own
sends and completions all written, and room in the CQ. -/
def sendsFrom (s : State) (b : Bobbin) : Prop :=
  s.flag (bctlR b) F.neBctl.EN = true ∧ s.bobState b = bRun ∧
  (s.pstate (s.bobPanel b) = psRunning ∨ s.pstate (s.bobPanel b) = psPaused) ∧
  idxSub (s.rd (sqtailR b)) (s.fld (bstatR b) F.neBstat.SQHEAD) ≠ 0 ∧ (s.bob b).sends = [] ∧ (s.bob b).owed = [] ∧
  s.cqFull b = false ∧ cqOk s b

/-- The address of the next send descriptor, and the descriptor (Table NET-10). -/
def sqSlot (s : State) (b : Bobbin) : Nat := s.rd (sqbaseR b) + 32 * (s.fld (bstatR b) F.neBstat.SQHEAD % s.sqSize b)
def sqDesc (s : State) (b : Bobbin) : SendDesc := readDesc (s.bytes (sqSlot s b) 32)

/-- A frame of one descriptor that is not sent (R283): DENIED for a refused access, BADDESC for a malformed descriptor, TOOLONG for a
frame over the limit; one completion, and the bobbin runs on. -/
def SendsRefused : Prop :=
  ∀ (b : Bobbin) (s : State), sendsFrom s b →
    let p := s.bobPanel b
    let head := s.fld (bstatR b) F.neBstat.SQHEAD
    let d := sqDesc s b
    let ends := fun (status : Nat) => ∃ u, exec (.sendDescriptor b) s = .next u ∧ u.bobState b = bRun ∧
      u.fld (bstatR b) F.neBstat.SQHEAD = (head + 1) % 65536 ∧ (∀ k f, Out.ether k f ∈ u.sent → Out.ether k f ∈ s.sent) ∧
      u.net.wait = s.net.wait ∧ completed s u b (complRec 0 0 head 0x01 status 0 0 0 0 0)
    (s.neCheck p (sqSlot s b) 32 false = .denied → ends 0x01) ∧
    (s.neCheck p (sqSlot s b) 32 false = .ok → bit d.flags 0 = false →
      (d.len = 0 ∨ 16384 < d.len ∨ 64 ≤ d.flags → ends 0x03) ∧
      (d.bad = false →
        (s.neCheck p d.addr d.len false = .denied → ends 0x01) ∧
        (s.neCheck p d.addr d.len false = .ok → 9212 < d.len → bit d.flags 3 = false →
          (∀ i, (s.meta (d.addr / 64 + i)).poison = false) → ends 0x02)))

/-- A frame of one descriptor without offloads (R272, R273, R283): from an address that is not the port's it is dropped and counted;
one whose destination nobody of the domain has, with UPLEN = 1 and an uplink in service, waits for that uplink. -/
def SendsSwitched : Prop :=
  ∀ (b : Bobbin) (s : State), sendsFrom s b →
    let p := s.bobPanel b
    let d := sqDesc s b
    let f := s.bytes d.addr d.len
    let v := s.fld (bctlR b) F.neBctl.VP
    s.neCheck p (sqSlot s b) 32 false = .ok → d.flags = 0 → d.bad = false → s.neCheck p d.addr d.len false = .ok →
    (∀ i, (s.meta (d.addr / 64 + i)).poison = false) → lenOk f = true → s.vpUp v = true → s.net.flows = [] →
    (s.vpMac v (frSrc f) = false → ∃ u, exec (.sendDescriptor b) s = .next u ∧ u.net.wait = s.net.wait ∧
      u.fld (vpdropR v) F.neVpdrop.TX = min (2 ^ 32 - 1) (s.fld (vpdropR v) F.neVpdrop.TX + 1)) ∧
    (s.vpMac v (frSrc f) = true → frTagged f = false → frGroup f = false → (∀ w < 4096, s.vpMac w (frDst f) = false) → s.net.rmacs = [] →
      s.vpPanel v = p → s.flag (vpctlR v) F.neVpctl.UPLEN = true → s.fld (vpctlR v) F.neVpctl.TMPL = 0 →
      let k := s.fld (vpctlR v) F.neVpctl.UPL
      s.uplinkOn k = true → ∃ u, exec (.sendDescriptor b) s = .next u ∧
        u.net.wait = s.net.wait ++ [{ bob := some b.val, panel := p, send := s.net.nextSend, to_ := .uplink k, data := f }] ∧
        u.fld (bstatR b) F.neBstat.SQHEAD = (s.fld (bstatR b) F.neBstat.SQHEAD + 1) % 65536)

/-- What a bobbin without service, work or a panel that runs does: nothing (R283, R289, R290). -/
def SendsHeld : Prop :=
  ∀ (b : Bobbin) (s : State), s.flag (bctlR b) F.neBctl.EN = false ∨ s.bobState b ≠ bRun ∨
    s.rd (sqtailR b) = s.fld (bstatR b) F.neBstat.SQHEAD ∨ s.pstate (s.bobPanel b) = psFaulted → exec (.sendDescriptor b) s = .next s

/-- FRAME_TRANSMIT (R274, R286–R288): a waiting frame leaves its uplink while its panel's REMAIN, or an enabled POOL, is above zero, and
is charged its length with FCS plus 20 bytes; otherwise, and while its bobbin does not run (R290), it waits. A frame for another module leaves in ceil((L + 16) / 128)
ETH cells, LAST on the final one. -/
def FramesLeave : Prop :=
  ∀ (x : TxFrame) (ns : Fin 10000) (s : State), s.net.wait = [x] → x.panel < 512 →
    let runs := ∀ b, x.bob = some b → s.bobState b = bRun
    (∀ k : Uplink, x.to_ = .uplink k →
      let r := ptokR x.panel (k / 4) 0
      let rem := remGet (s.fld r F.nePtok.REMAIN)
      let pooled := s.flag r F.nePtok.POOLEN = true ∧ 0 < s.pool (2 * k)
      (0 < rem ∨ pooled → s.linkUp k = true → s.uplinkHere k = true → runs → ∃ u, exec (.frameTransmit (some k) ns) s = .next u ∧
        u.sent = s.sent ++ [.ether k x.data] ∧ u.net.wait = [] ∧
        (0 < rem → u.fld r F.nePtok.REMAIN = remPut (rem - (x.data.length + 24 : Nat))) ∧
        (rem ≤ 0 → u.fld r F.nePtok.REMAIN = s.fld r F.nePtok.REMAIN ∧ u.pool (2 * k) = s.pool (2 * k) - (x.data.length + 24 : Nat))) ∧
      (¬(0 < rem ∨ pooled) ∨ ¬runs → exec (.frameTransmit (some k) ns) s = .next s)) ∧
    (∀ m vp src swd k w, x.to_ = .fabric m vp src swd → runs → s.freeOut = some k → s.wordTo m = some w → w < 2 ^ 32 → m < 4096 →
      s.stoppedAt m 5 = none → vp < 4096 → src < 4096 → swd < 4096 → x.data.length < 65536 →
      ∃ (u : State) (cells : List Cell), exec (.frameTransmit none ns) s = .next u ∧ u.net.wait = [] ∧
        u.weft.own = s.weft.own ++ cells.map (fun c => (none, c)) ∧ cells.length = (x.data.length + 16 + 127) / 128 ∧
        (∀ c ∈ cells, cf c cTYPE = 0x31 ∧ cf c cDST = m ∧ cf c cARG = vp * 2 ^ 20 + swd * 2 ^ 8) ∧
        (∀ i (h : i < cells.length), cf cells[i] cLAST = if i + 1 = cells.length then 1 else 0) ∧
        (cells.flatMap cellBytes).take (16 + x.data.length) = leBytes 2 x.data.length ++ leBytes 2 src ++ leBytes 12 0 ++ x.data)

/-- A good frame on an uplink for a local virtual port (R270, R273, R284, R287): it fills the next posted buffer of the port's bobbin and is
charged to the panel's receive tokens. A frame with a bad FCS or out of length is counted against its uplink; it, and one for nobody,
changes no memory. -/
def FramesReceived : Prop :=
  ∀ (k : Uplink) (f : List Byte) (ns : Fin 10000) (v b a : Nat) (s : State), s.uplinkOn k = true → s.linkUp k = true →
    s.flag (upcfgR k) F.neUpcfg.DECAP = false → frTagged f = false → frGroup f = false → etherType f ≠ 0x8808 →
    let swd := s.fld (upcfgR k) F.neUpcfg.SWD
    (∀ ok, lenOk f = false ∨ ok = false → ∃ u, exec (.uplinkFrame k f ok ns) s = .next u ∧ u.mem = s.mem ∧ u.sent = s.sent ∧
      SMap.get (fun _ => 0) u.net.upDrops k = SMap.get (fun _ => 0) s.net.upDrops k + 1) ∧
    ((∀ w < 4096, s.vpMac w (frDst f) = false) → s.net.rmacs = [] →
      ∃ u, exec (.uplinkFrame k f true ns) s = .next u ∧ u.mem = s.mem ∧ u.net.wait = s.net.wait) ∧
    (lenOk f = true → s.net.flows = [] → (s.vpsOf swd 0).find? (fun w => s.vpMac w (frDst f)) = some v →
      let p := s.vpPanel v
      let r := ptokR p (k / 4) 1
      let head := s.fld (bstatR b) F.neBstat.RQHEAD
      let da := s.rd (rqbaseR b) + 16 * (head % s.rqSize b)
      0 < remGet (s.fld r F.nePtok.REMAIN) → s.fld (vpbobR v) F.neVpbob.DEFBOB = b → s.fld (vpbobR v) F.neVpbob.RSSN = 0 →
      s.fld (bctlR b) F.neBctl.VP = v → s.flag (bctlR b) F.neBctl.EN = true → s.bobState b = bRun → s.bobPanel b = p →
      s.cqFull b = false → (s.bob b).owed = [] →
      let free := idxSub (s.rd (rqtailR b)) head
      (free = 0 → ∃ u, exec (.uplinkFrame k f true ns) s = .next u ∧ u.mem = s.mem ∧
        u.fld (bdropR b) F.neBdrop.NOBUF = min (2 ^ 32 - 1) (s.fld (bdropR b) F.neBdrop.NOBUF + 1)) ∧
      (1 ≤ free → f.length ≤ rbBytes (s.fld (bctlR b) F.neBctl.RBSZ) → s.neCheck p da 16 false = .ok → s.memNat da 8 = a → a % 64 = 0 →
        s.memNat (da + 8) 8 = 0 → s.neCheck p a (rbBytes (s.fld (bctlR b) F.neBctl.RBSZ)) true = .ok →
        (∀ h : b < 16384, cqSlot s ⟨b, h⟩ + 32 ≤ a ∨ a + f.length ≤ cqSlot s ⟨b, h⟩) →
        ∃ u, exec (.uplinkFrame k f true ns) s = .next u ∧ u.bytes a f.length = f ∧
          u.fld (bstatR b) F.neBstat.RQHEAD = (head + 1) % 65536 ∧
          u.fld r F.nePtok.REMAIN = remPut (remGet (s.fld r F.nePtok.REMAIN) - (f.length + 24 : Nat))))

/-- UPLINK_LINK_CHANGE (R269): LINKUP follows a sub-port of the port's mode; the first link takes the MODE that has been set. -/
def UplinkChanges : Prop :=
  ∀ (k : Uplink) (s : State), s.unitOut 4 (k / 4) = false →
    let r := ectlR (k / 4)
    (s.uplinkHere k = true → ∀ up : Bool, (up = false ∨ s.fld r F.wpEctl.LINKUP ≠ 0) → ∃ u, exec (.uplinkLinkChange k up) s = .next u ∧
      ∀ j : Fin 4, bit (u.fld r F.wpEctl.LINKUP) j = if j.val = k.val % 4 then up else bit (s.fld r F.wpEctl.LINKUP) j) ∧
    (s.fld (pctlR (k / 4)) F.wpPctl.ROLE = 2 → k.val % 4 = 0 → s.fld r F.wpEctl.LINKUP = 0 → s.fld r F.wpEctl.MODE ≤ 2 →
      ∃ u, exec (.uplinkLinkChange k true) s = .next u ∧ u.upMode (k / 4) = s.fld r F.wpEctl.MODE ∧ u.fld r F.wpEctl.LINKUP = 1)

/-- NET_BOBSTALL (R290): a bobbin that has held an unanswered access, or a completion for want of CQ space, for RAS.TMO5 stitches
is reset with CAUSE 0x03. -/
def BobbinStalls : Prop :=
  ∀ (b : Bobbin) (s : State), s.bobState b = bRun →
    ((s.bob b).owed ≠ [] ∨ (∃ k m, s.req 193 k = some m ∧ k < 256 ∧ m.ctx = b) → s.rd { kind := .rasTmo, i := 5 } ≤ (s.bob b).age → SMap.find s.net.bobHits b = none →
      ∃ u, exec (.netBobstall b) s = .next u ∧ u.bobState b = bResetting ∧ u.fld (bstatR b) F.neBstat.CAUSE = 3) ∧
    (((s.bob b).owed = [] ∧ s.ioReqs = []) ∨ (s.bob b).age < s.rd { kind := .rasTmo, i := 5 } → exec (.netBobstall b) s = .next s)

end Sys2Proof.Spec

/-- Bobbins: doorbells, completions, sends and stalls (R272, R273, R281–R283, R289, R290).
Model's choices that it rests on: log entries 62, 63. -/
def Obligations.Bobbins : Prop :=
  Spec.Doorbells ∧ Spec.CompletionsWritten ∧ Spec.SendsRefused ∧ Spec.SendsSwitched ∧ Spec.SendsHeld ∧ Spec.BobbinStalls

/-- Frames between virtual ports, uplinks and other modules (R269, R270, R273, R274, R284, R286–R288).
Model's choices that it rests on: log entries 60, 61, 64. -/
def Obligations.EthernetFrames : Prop := Spec.FramesLeave ∧ Spec.FramesReceived ∧ Spec.UplinkChanges

/-! ### PCIe host ports -/

namespace Sys2Proof.Spec
open Sys2Proof Sys2Proof.Machine

/-- A valid function entry of a root port, with BME set or not, and its panel (R297). -/
def function (s : State) (r : RootPort) (rid : BitVec 16) (e : Fin 512) (p : Panel) (bme : Bool) : Prop :=
  s.funcOf r rid.toNat = some e ∧ s.funcPanel r e = p ∧ s.flag (func0R (r.val / 4) e) F.hpFunc0.BME = bme

/-- URCNT has gone up by one, saturating (Table HIO-7). -/
def urCounted (s u : State) (r : RootPort) : Prop :=
  u.fld (rpstatR r) F.hpRpstat.URCNT = min 65535 (s.fld (rpstatR r) F.hpRpstat.URCNT + 1)

/-- INTERRUPT_MESSAGE (R297, R300): the vector in [10:0] is raised in the function's panel; a message with upper bits, for vector
2047 of panel 0, or of no function in service is discarded and counted. -/
def InterruptMessages : Prop :=
  ∀ (r : RootPort) (rid : BitVec 16) (d : BitVec 32) (s : State),
    (∀ e p, function s r rid e p true →
      (d.toNat < 2048 → ¬(p.val = 0 ∧ d.toNat = 2047) → ∃ u, exec (.interruptMessage r rid d) s = .next u ∧
        u.flag { kind := .icVec, i := p, j := d.toNat } F.icVec.PEND = true ∧ u.mem = s.mem ∧ u.hio = s.hio) ∧
      (2048 ≤ d.toNat ∨ (p.val = 0 ∧ d.toNat = 2047) → ∃ u, exec (.interruptMessage r rid d) s = .next u ∧ urCounted s u r)) ∧
    (s.funcOf r rid.toNat = none ∨ (∃ e p, function s r rid e p false) →
      ∃ u, exec (.interruptMessage r rid d) s = .next u ∧ urCounted s u r ∧ u.mem = s.mem)

/-- No slice holds a sector that an access past it has put out of date (R148). -/
def noStale (s : State) : Prop := ∀ (h l : Nat) (w : L3Line), (l, w) ∈ (s.tile h).l3 → w.s0.stale = false ∧ w.s1.stale = false

/-- A device's request of one line while nothing else of the devices is under way (R297, R299, R301): a whole line written becomes
WRF and a part WRP, whose bytes reach memory only after DBGO; a line read becomes RDIO; an access the Page Owner Table refuses
completes a read with CA and discards a write; a request of no function in service, or of a kind not supported, is UR. -/
def DeviceRequests : Prop :=
  ∀ (r : RootPort) (rid : BitVec 16) (line : Line) (ro : Bool) (t : Fin 16384) (s : State), s.rpServes r = true → s.hio.pieces = [] →
    s.hio.jobs = [] → s.dmaTarget (line * 64) = true →
    let a := 194 + r.val / 4
    let addr := BitVec.ofNat 64 (line * 64)
    let asks := fun (u : State) (op : HomeOp) => ∃ k m, u.req a k = some m ∧ m.op = op ∧ m.line = line
    let ur := fun (i : DmaReq) (tag : List Out) => ∃ u, exec (.dmaRequest r rid i) s = .next u ∧ urCounted s u r ∧ u.mem = s.mem ∧
      u.sent = s.sent ++ tag
    let answer := fun (st : Nat) => Out.pcie r (.completion rid.toNat t st false [])
    (∀ e p, function s r rid e p true → (s.freeReq a).isSome → (s.homeIn (s.panelBolt (potPanel (s.potFor a (line / 1024)))) line).isSome →
      (s.dmaOk a p line true = true → ∀ data ep,
        (data.length = 64 → ∃ u, exec (.dmaRequest r rid (.write addr data ep ro)) s = .next u ∧ (noStale s → u.mem = s.mem) ∧ asks u .wrf) ∧
        (0 < data.length → data.length < 64 →
          ∃ u, exec (.dmaRequest r rid (.write addr data ep ro)) s = .next u ∧ (noStale s → u.mem = s.mem) ∧ asks u .wrp)) ∧
      (s.dmaOk a p line true = false → ∀ data ep, 0 < data.length → data.length ≤ 64 →
        ∃ u, exec (.dmaRequest r rid (.write addr data ep ro)) s = .next u ∧ u.mem = s.mem ∧ u.ioReqs = s.ioReqs ∧ u.sent = s.sent ∧
          (s.ras.writtenCorr < 192 → ∃ x ∈ u.ras.ring, x.code = 0x43 ∧ x.unitId = unitId 5 r)) ∧
      (∀ n : Fin 4096, n.val < 64 →
        (s.dmaOk a p line false = true → ∃ u, exec (.dmaRequest r rid (.read addr n t ro)) s = .next u ∧ asks u .rdio) ∧
        (s.dmaOk a p line false = false → ∃ u, exec (.dmaRequest r rid (.read addr n t ro)) s = .next u ∧
          u.sent = s.sent ++ [answer 4] ∧ u.ioReqs = s.ioReqs)) ∧
      ur (.unsupported t) [answer 1]) ∧
    (s.funcOf r rid.toNat = none ∨ (∃ e p, function s r rid e p false) →
      (∀ n, ur (.read addr n t ro) [answer 1]) ∧ ∀ data ep, ur (.write addr data ep ro) [])

/-- The thread's load waits for its last part, a request through the root port, the only one open. -/
def oneRequest (s : State) (r : RootPort) (th : Thr) (q : PcieReq) (rd : GIdx) (size : Nat) : Prop :=
  s.hio.reqs = [q] ∧ q.rp = r ∧ q.th = th ∧ s.paired (th / 2) = false ∧ rd.val ≠ 0 ∧ 0 < size ∧ size ≤ 8 ∧
  ∃ pa h, (s.thr th).stall = some ⟨some (.gpr rd size false), pa, h, [], []⟩ ∧ h.n = size

/-- Completions of a core's request (R296, R309): data; a configuration read answered UR, or cut off by DPC, returns all ones; one
answered with retry status is issued again; UR or CA to a load, and the completion timeout, end it in a machine check and the
request is gone. -/
def CoreRequestEnds : Prop :=
  ∀ (r : RootPort) (th : Thr) (q : PcieReq) (rd : GIdx) (size : Nat) (data : Word) (s : State), oneRequest s r th q rd size →
    let ends := fun (i : Instr) (v : Nat) => ∃ u, exec i s = .next u ∧ u.hio.reqs = [] ∧ (u.thr th).stall = none ∧
      (u.thr th).gr rd = BitVec.ofNat 64 (v % 256 ^ size) ∧ (u.thr th).pc = (s.thr th).pc + 4
    let checked := fun (i : Instr) => ∃ u, exec i s = .next u ∧ u.hio.reqs = [] ∧ (u.thr th).stall = none ∧
      ((s.thr th).canCheck = true → (u.thr th).crFld crMCHK F.crMCHK.VALID = 1 ∧
        (u.thr th).crFld crMCHK F.crMCHK.CODE = 0x26 ∧ (u.thr th).crFld crMCHK F.crMCHK.PRECISE = 1)
    let cto := ctoStitches (s.fld (rpctlR r) F.hpRpctl.CTO)
    ends (.pcieCompletion r th .success data) data.toNat ∧
    (q.cfg = true → ends (.pcieCompletion r th .unsupported data) (2 ^ 64 - 1) ∧ ends (.hioDpc r) (2 ^ 64 - 1) ∧
      ∃ u, exec (.pcieCompletion r th .retry data) s = .next u ∧ u.hio.reqs = [q] ∧ u.sent = s.sent ++ [.pcie r (.cfgRead q.off q.n th)]) ∧
    (q.cfg = false → checked (.pcieCompletion r th .unsupported data) ∧ checked (.hioDpc r)) ∧
    checked (.pcieCompletion r th .abort data) ∧
    (cto ≤ q.age → checked (.hioCto r) ∧ ∃ u, exec (.hioCto r) s = .next u ∧
      u.fld (rpstatR r) F.hpRpstat.CTOCNT = min 65535 (s.fld (rpstatR r) F.hpRpstat.CTOCNT + 1)) ∧
    (q.age < cto → exec (.hioCto r) s = .next s)

/-- Root-port links (R293, R309, Table HIO-7): a link comes up with its width and speed, is held in NOFLIT or falls; in DPC it stays
until the host manager retrains it. DPC raises the lowest vector of every panel with a function below the port. -/
def RootPortLinks : Prop :=
  ∀ (r : RootPort) (s : State), s.hio.reqs = [] → s.flag (rpctlR r) F.hpRpctl.EN = true →
    let state := fun (u : State) => u.fld (rpstatR r) F.hpRpstat.STATE
    (state s ≠ rpDpc →
      (∀ w sp cxl, ∃ u, exec (.rootPortLinkChange r (.up w sp cxl)) s = .next u ∧ state u = rpUp ∧
        u.fld (rpstatR r) F.hpRpstat.WIDTH = w ∧ u.fld (rpstatR r) F.hpRpstat.SPEED = sp.val + 1 ∧
        u.flag (rpstatR r) F.hpRpstat.CXL = (cxl && bit (s.fld { kind := .hpCfg, i := r.val / 4 } F.hpCfg.CXLMASK) (r.val % 4))) ∧
      (∃ u, exec (.rootPortLinkChange r .noflit) s = .next u ∧ state u = rpNoflit) ∧
      ∃ u, exec (.rootPortLinkChange r .down) s = .next u ∧ state u = rpDown) ∧
    (state s = rpDpc → ∀ c, exec (.rootPortLinkChange r c) s = .next s) ∧
    (∃ u, exec (.hioDpc r) s = .next u ∧ state u = rpDpc ∧
      ∀ e ∈ s.funcs r, u.flag { kind := .icVec, i := s.funcPanel r e } F.icVec.PEND = true) ∧
    (s.unitOut 5 r = false → ∃ u, exec (.hpRpctlRetrain r) s = .next u ∧ state u = rpTraining ∧
      u.flag (rpctlR r) F.hpRpctl.RETRAIN = false)

/-- FLR_COMPLETE (R310): no earlier than 100 ms after its issue, a function-level reset ends with FLR cleared and BME set. -/
def FlrEnds : Prop :=
  ∀ (k : Fin 4) (e : Fin 512) (n : Nat) (s : State), SMap.find s.hio.flr (flrKey k e) = some n →
    (10000 ≤ n → ∃ u, exec (.flrComplete k e) s = .next u ∧ u.flag (func0R k e) F.hpFunc0.FLR = false ∧
      u.flag (func0R k e) F.hpFunc0.BME = true ∧ SMap.find u.hio.flr (flrKey k e) = none) ∧
    (n < 10000 → exec (.flrComplete k e) s = .next s)

end Sys2Proof.Spec

/-- The host ports: interrupt messages, DMA, the cores' requests, links and function-level resets (R293, R296, R297, R299–R301, R309,
R310).
Model's choices that it rests on: log entries 7, 19, 66, 67. -/
def Obligations.HostPorts : Prop :=
  Spec.InterruptMessages ∧ Spec.DeviceRequests ∧ Spec.CoreRequestEnds ∧ Spec.RootPortLinks ∧ Spec.FlrEnds

/-! ### Register access -/

namespace Sys2Proof.Spec
open Sys2Proof Sys2Proof.Machine

/-- A register whose write only sets its fields: those that a write sets going, or whose value has a range, are left out. -/
def ordinary (k : RegKind) : Prop :=
  k ∉ [.hubPwkick, .hubPstate, .mbxDb, .mbxSlot, .wpBar, .dbSqtail, .dbRqtail, .dbCqhead, .dbArm, .icVec, .mcScrub, .rasTmo, .rasNote,
    .tuTodS, .tuTodNs, .tuStitch, .tuCtrl, .rasMwdog, .tileSel, .hubSel, .mcSel, .wrpL3way, .wrpCctl,
    .wpPctl]

/-- The register at an address. -/
def liesAt (s : State) (r : Reg) (a : BitVec 52) : Prop := s.target a.toNat = .reg r ∧ r.addr = a.toNat

/-- A field after a write under an access code (Table SCO-7): RW and WO take the value, W1C and W1S clear and set the bits written as 1,
and the others, reserved ones among them (R14), keep what they held. -/
def fieldAfter (a : Acc) (old new : Nat) : Nat :=
  match a with
  | .rw | .wo => new
  | .w1s => old ||| new
  | .w1c => old - (old &&& new)
  | _ => old

/-- A write by Thimble (R13, R14): every field as its code says, and nothing but the register changes. -/
def RegisterWrites : Prop :=
  ∀ (r : Reg) (a : BitVec 52) (v : Word) (s : State), ordinary r.kind → liesAt s r a →
    ∃ u, exec (.registerWrite .thimble a v) s = .next u ∧ u = s.wr r (u.rd r) ∧
      ∀ f ∈ r.kind.fields, bits (u.rd r) f.hi f.lo = fieldAfter f.t (bits (s.rd r) f.hi f.lo) (bits v.toNat f.hi f.lo)

/-- Writes by Thimble that have a condition: the time of day and the stitch number only before commitment (R25); a time limit only
within its range, whatever bits [31:20] hold (R14, R415). A port's WP.PCTL is written though the port goes on with what it had (R235). -/
def GuardedWrites : Prop :=
  ∀ (r : Reg) (a : BitVec 52) (v : Word) (s : State), liesAt s r a →
    let write := exec (.registerWrite .thimble a v) s
    (r.kind ∈ [.tuTodS, .tuTodNs, .tuStitch] → s.committed = true → write = .next s) ∧
    (r.kind = .tuStitch → s.committed = false → ∃ u, write = .next u ∧ u = s.wr r v.toNat) ∧
    (r.kind = .wpPctl → ∃ u, write = .next u ∧ ∀ f ∈ r.kind.fields,
      bits (u.rd r) f.hi f.lo = fieldAfter f.t (bits (s.rd r) f.hi f.lo) (bits v.toNat f.hi f.lo)) ∧
    (r.kind = .rasTmo → let x := bits v.toNat 19 0
      (tmoRange r.i x = false → write = .next s) ∧
      (tmoRange r.i x = true → ∃ u, write = .next u ∧ u = s.wr r (u.rd r) ∧ u.fld r F.rasTmo.VALUE = x))

/-- A read by Thimble (R13, R14): WO and reserved fields read zero, the others their value, and RC fields are cleared after. -/
def RegisterReads : Prop :=
  ∀ (r : Reg) (a : BitVec 52) (s : State), r.kind ≠ .tuTodS → r.kind ≠ .tuTodNs → liesAt s r a →
    ∃ u n, exec (.registerReadClear .thimble a) s = .next u ∧ u.sent = s.sent ++ [.value a.toNat n] ∧ u.mem = s.mem ∧
      ∀ f ∈ r.kind.fields, bits n f.hi f.lo = (if f.t = .no ∨ f.t = .wo then 0 else bits (s.rd r) f.hi f.lo) ∧
        bits (u.rd r) f.hi f.lo = if f.t = .rc then 0 else bits (s.rd r) f.hi f.lo

/-- A core's access to a register that its level's column does not list (R15): the register is unchanged, REG_ACCESS is recorded, and
the thread takes a load or store fault with subcause 0x07 and the physical address. -/
def RegisterDenials : Prop :=
  ∀ (th : Thr) (r : Reg) (a : BitVec 52) (v : Word) (s : State), liesAt s r a → s.live th = true → s.regsAt a.toNat (r.width / 8) = [r] →
    s.regListed (s.panelOf th) (s.ownerAt (s.panelOf th) (s.thr th).pl r) r = false → r.kind ≠ .rasStat → r.kind ≠ .rasSeq →
    r.kind ≠ .icVec →
    let ea := BitVec.ofNat 64 a.toNat
    let recorded := fun (u : State) => s.ras.writtenCorr < 192 → ∃ e ∈ u.ras.ring, e.code = 0x25 ∧ e.paddr = a.toNat
    (∃ u, exec (.registerWrite (.core th) a v) s = .next u ∧ entered s u th 0x05 0x07 0 (s.thr th).pc ea ∧ u.rd r = s.rd r ∧ recorded u) ∧
    (∃ u, exec (.registerReadClear (.core th) a) s = .next u ∧ entered s u th 0x04 0x07 0 (s.thr th).pc ea ∧ u.rd r = s.rd r ∧
      recorded u)

/-- IC_VEC (R88, Table ISA-24): EN, PEND, PRIO, THR and SEAT take the value written, HLVL in panel 0 only; ACTIVE is kept; a seat that
the panel lacks clears EN. -/
def VectorWrites : Prop :=
  ∀ (p : Panel) (v : Vec) (value : Word) (s : State),
    let r : Reg := { kind := .icVec, i := p, j := v }
    let f := fun (u : State) (x : Fld) => u.fld r x
    let n := fun (x : Fld) => x.get value.toNat
    ∃ u, exec (.icVec p v value) s = .next u ∧ f u F.icVec.PEND = n F.icVec.PEND ∧ f u F.icVec.PRIO = n F.icVec.PRIO ∧
      f u F.icVec.THR = n F.icVec.THR ∧ f u F.icVec.SEAT = n F.icVec.SEAT ∧ f u F.icVec.ACTIVE = f s F.icVec.ACTIVE ∧
      f u F.icVec.HLVL = (if p.val = 0 then n F.icVec.HLVL else 0) ∧
      f u F.icVec.EN = if n F.icVec.SEAT < (s.panel p).seats then n F.icVec.EN else 0

/-- HUB_PWKICK and HUB_PSTATE_SELFRESET (R45, R56, Table PNL-12): 0xA5 reloads the panel watchdog and any other value does nothing; a
self-reset of panel 0 is recorded as HOST_SELFRESET and asks for a warm reset at the next boundary, of another panel is a
trigger. -/
def PanelRequests : Prop :=
  ∀ (p : Panel) (s : State),
    (∃ u, exec (.hubPwkick p 0xA5) s = .next u ∧
      u.fld { kind := .hubPwdog, i := p } F.hubPwdog.REMAIN = s.fld { kind := .hubPwdog, i := p } F.hubPwdog.PERIOD) ∧
    (∀ v : Byte, v ≠ 0xA5 → exec (.hubPwkick p v) s = .next s) ∧
    (p.val ≠ 0 → ∃ u, exec (.hubPstateSelfreset p) s = .next u ∧ u.flag { kind := .hubPstate, i := p } F.hubPstate.SELFRESET = true ∧
      (u.panel p).triggers = (s.panel p).triggers ++ [(.selfReset, none)] ∧ u.resetDue = s.resetDue) ∧
    (p.val = 0 → s.ras.writtenCorr < 192 → ∃ u, exec (.hubPstateSelfreset p) s = .next u ∧
      u.resetDue = some (if s.resetDue = some .cold then .cold else .warm) ∧
      (∃ e ∈ u.ras.ring, e.cls = 0 ∧ e.code = 0x4E) ∧ u.ras.fatals = s.ras.fatals ∧ u.sint = s.sint)

/-- BAR_ARRIVE (R260): a context in use that has not arrived sets ARRIVE, and on a module other than the root sends BARARR with its GEN
to the root; the root's own arrival is counted; otherwise nothing changes. -/
def BarrierArrivals : Prop :=
  ∀ (n : Fin 256) (s : State),
    let f := fun (u : State) (x : Fld) => u.fld (barR n) x
    (f s F.wpBar.ARRIVE = 1 ∨ f s F.wpBar.COUNT = 0 → exec (.barArrive n) s = .next s) ∧
    (f s F.wpBar.ARRIVE = 0 → f s F.wpBar.COUNT ≠ 0 →
      (∀ w, f s F.wpBar.ROOT ≠ s.myId → s.wordTo (f s F.wpBar.ROOT) = some w → ∃ u, exec (.barArrive n) s = .next u ∧
        f u F.wpBar.ARRIVE = 1 ∧ u.weft.own = s.weft.own ++
          [(none, mkCell 0x03 (f s F.wpBar.ROOT) (s.handle (f s F.wpBar.PANEL)) (f s F.wpBar.GEN) (f s F.wpBar.RCTX) false false w [])]) ∧
      (f s F.wpBar.ROOT = s.myId → s.rootCtx (f s F.wpBar.RCTX) = some n.val →
        s.myId ∉ SMap.get (fun _ => []) s.weft.counted n →
        s.fld (barcntR n) F.wpBarcnt.ARRIVED + 1 < f s F.wpBar.COUNT → ∃ u, exec (.barArrive n) s = .next u ∧ f u F.wpBar.ARRIVE = 1 ∧
          u.fld (barcntR n) F.wpBarcnt.ARRIVED = s.fld (barcntR n) F.wpBarcnt.ARRIVED + 1))

end Sys2Proof.Spec

/-- Registers: access codes, refused accesses, vectors, the panel's own requests and barriers (R13–R15, R45, R56, R88, R260).
Model's choices that it rests on: log entries 25, 26, 47, 109. -/
def Obligations.RegisterAccess : Prop :=
  Spec.RegisterWrites ∧ Spec.GuardedWrites ∧ Spec.RegisterReads ∧ Spec.RegisterDenials ∧ Spec.VectorWrites ∧ Spec.PanelRequests ∧ Spec.BarrierArrivals

/-! ### The Cutter and the Tape -/

namespace Sys2Proof.Spec
open Sys2Proof Sys2Proof.Machine

def cutterOn (s : State) : Bool := s.flag { kind := .cutCtrl } F.cutCtrl.EN

/-- A core is held by a seat of a panel in a run shorter than 10 stitches, and may stay there (R317). -/
def inRun (s : State) (c p n : Nat) : Prop :=
  s.flag (cutCoreR c) F.cutCore.G = true ∧ s.fld (cutCoreR c) F.cutCore.PANEL = p ∧ s.fld (cutCoreR c) F.cutCore.SEAT = n ∧
  s.fld (cutCoreR c) F.cutCore.RUN < 10 ∧ s.available c = true ∧ s.isChecker c = false

/-- What an allocation holds to, whatever the contracts and demands: with the Cutter off, or task 5 dropped or
done in the stitch (R21), nothing is planned; a core is given to a seat only
when available and of a RUNNING panel (R316, R327); a run shorter than 10 stitches goes on while the panel's cores fit its MAXC
(R317); every panel has its MINL at a channel in use, and the grants do not exceed the channel's tokens less 1,024 unless the
minimums alone do (R321); a target rises by at most 400 MHz (R324); masks are recomputed at every thousandth stitch only, and
a sealed panel shares no way with another panel of its bolt (R323). -/
def CutterPlans : Prop :=
  ∀ s : State,
    (cutterOn s = false ∨ s.time.over 5 = true → exec .cutterAllocation s = .next s) ∧
    (cutterOn s = true → s.time.over 5 = false → ∃ u x, exec .cutterAllocation s = .next u ∧ u.cut.plan = some x ∧ u.regs = s.regs ∧
      (∀ c p n t, SMap.find x.cores c = some (.seat p n t) → s.available c = true ∧ s.pstate p = psRunning) ∧
      (∀ c p n, let k := Con.of s.cut.contracts p
        inRun s c p n → s.pstate p = psRunning → k.bolt < s.nBolts → c ∈ s.boltCores k.bolt →
        ((s.boltCores k.bolt).filter fun d => s.fld (cutCoreR d) F.cutCore.PANEL == p).length ≤ k.maxc / k.unit →
        ∃ t, SMap.find x.cores c = some (.seat p n t)) ∧
      (∀ ch < 24, ch ∈ s.clist →
        (∀ p < 512, s.pstate p ≠ psEmpty → ∃ g, (ch * 512 + p, g) ∈ x.lineTok ∧ (Con.of s.cut.contracts p).minl ≤ g) ∧
        ((x.lineTok.filter fun e => e.1 / 512 == ch).map (·.2)).sum ≤
          max 16476 ((s.panels'.map fun p => (Con.of s.cut.contracts p).minl).sum)) ∧
      (∀ c f, SMap.find x.freq c = some f → f ≤ s.fld (cutCoreR c) F.cutCore.TARGET + 4) ∧
      (x.masks.isSome ↔ s.stitch % 1000 = 0) ∧
      (∀ m b p q y z, x.masks = some m → p < 512 → q < 512 → p ≠ q → (Con.of s.cut.contracts p).sealed = true →
        SMap.find m (b * 512 + p) = some y → SMap.find m (b * 512 + q) = some z → y &&& z = 0))

/-- COMMIT_STAGING (R321, R322, R325): the planned GRANT registers are written and the plan is staged for the boundary; with no plan the
GRANT registers hold (R21). -/
def PlansStaged : Prop :=
  ∀ s : State,
    (s.time.over 8 = true → exec .commitStaging s = .next s) ∧
    (s.cut.plan = none → ∃ u, exec .commitStaging s = .next u ∧ u.regs = s.regs ∧ u.cut.staged = s.cut.staged) ∧
    (∀ x, s.cut.plan = some x → s.time.over 8 = false → (x.lineTok.map (·.1)).Nodup → (x.portTok.map (·.1)).Nodup →
      (∀ e ∈ x.lineTok, e.1 < 32 * 512 ∧ e.2 < 65536) → (∀ e ∈ x.portTok, e.1 < 512 * 16 ∧ e.2.2 < 2 ^ 20) →
      ∃ u, exec .commitStaging s = .next u ∧ u.cut.staged = some x ∧ u.cut.plan = none ∧
        (∀ e ∈ x.lineTok, e.1 / 512 < 24 → u.fld { kind := .mcTok, i := e.1 / 512, j := e.1 % 512 } F.mcTok.GRANT = e.2) ∧
        (∀ e ∈ x.lineTok, 24 ≤ e.1 / 512 → u.fld { kind := .hpCtok, i := e.1 / 512 - 24, j := e.1 % 512 } F.hpCtok.GRANT = e.2) ∧
        (∀ e ∈ x.portTok, let r : Reg := { kind := .nePtok, i := e.1 / 16, j := e.1 % 16 }
          u.fld r F.nePtok.GRANT = e.2.2 ∧ u.flag r F.nePtok.POOLEN = e.2.1))

/-- The account is billed for the stitch of a bank. -/
def billed (a : Acct) (b : Bank) : Prop := ¬(a.final = true ∧ a.last < b.stitch) ∧ a.first ≤ b.stitch

/-- TAPE_ACCUMULATE (R328–R330, Table CUT-8): the retired bank is added to every account of the open sheet that is billed for its stitch,
and leaves; with one account of panel 0, the sheet's ENERGY adds up to the measured input energy. -/
def TapeAdds : Prop :=
  ∀ (b : Bank) (x : Sheet) (s : State), s.tape.retired = some b → s.tape.sheet = some x → x.start ≤ b.stitch →
    (∀ y ∈ s.tape.closed, ¬(y.start ≤ b.stitch ∧ b.stitch < y.stop)) →
    ∃ u y, exec .tapeAccumulate s = .next u ∧ u.tape.retired = none ∧ u.tape.sheet = some y ∧ u.tape.closed = s.tape.closed ∧
      y.accts.length = x.accts.length ∧
      (∀ (i : Nat) (a c : Acct), x.accts[i]? = some a → y.accts[i]? = some c →
        let g := fun k => if a.final = true ∧ a.last < b.stitch ∨ b.stitch < a.first then 0 else bankGet b.counts a.panel k
        c.panel = a.panel ∧ c.cores = a.cores + g cntCores ∧ c.memg = a.memg + g cntMemg ∧ c.cxlg = a.cxlg + g cntCxlg ∧
        c.lines = a.lines + ((List.range 32).map fun ch => g (cntLine ch)).sum ∧ c.ways = a.ways + g cntWays ∧
        c.txup = a.txup + g cntTxUp ∧ c.txfab = a.txfab + g cntTxFab ∧ c.txloc = a.txloc + g cntTxLoc ∧
        c.rxup = a.rxup + g cntRxUp ∧ c.rxfab = a.rxfab + g cntRxFab ∧ c.rxloc = a.rxloc + g cntRxLoc ∧
        (billed a b → c.last = b.stitch)) ∧
      ((x.accts.filter fun a => a.panel == 0).length = 1 →
        (y.accts.map (·.energy)).sum % 2 ^ 64 = (x.energy + b.energy) % 2 ^ 64)

/-- SHEET_SIGN and THM_LATE (R333, R335, R336, R362, Table CUT-10): the oldest closed sheet is signed with the next SEQ, its header and
records kept, unless the debug taint holds; a sheet unsigned 500 stitches after its end is marked LATE. -/
def SheetsSigned : Prop :=
  ∀ (x : Sheet) (rest : List Sheet) (s : State), s.tape.closed = x :: rest →
    (s.thm.taint = false → ∃ u y, exec .sheetSign s = .next u ∧ u.tape.closed = rest ∧
      u.sw.pers.seq = (s.sw.pers.seq + 1) % 2 ^ 32 ∧ (∃ w ∈ u.sw.wait, w.1 = .sheet y) ∧ y.seq = u.sw.pers.seq ∧ y.minute = x.minute ∧
      y.hdr.take 4 = [0x54#8, 0x50, 0x53, 0x48] ∧ field y.hdr 8 8 = x.minute % 2 ^ 64 ∧ field y.hdr 16 8 = x.start % 2 ^ 64 ∧
      field y.hdr 24 8 = x.stop % 2 ^ 64 ∧ field y.hdr 50 2 = x.accts.length % 65536 ∧ field y.hdr 52 4 = y.seq ∧
      bit (field y.hdr 6 2) 0 = !decide (x.start % 6000000 = 0 ∧ x.stop = x.start + 6000000) ∧ bit (field y.hdr 6 2) 4 = x.late ∧
      y.sig = Config.mlDsaSign ((s.slot 2).take 32) y.hdr s.fresh ∧
      u.tape.records.head? = some (y.seq, x.accts.map fun a => a.bytes x.modid)) ∧
    (s.thm.taint = true → exec .sheetSign s = .next s) ∧
    (x.late = false → x.stop + 500 ≤ s.stitch → rest = [] → s.ras.writtenCorr < 192 → ∃ u, exec .thmLate s = .next u ∧
      u.tape.closed = [{ x with late := true }] ∧ ∃ e ∈ u.ras.ring, e.cls = 0 ∧ e.code = 0x4B) ∧
    (s.stitch < x.stop + 500 → rest = [] → exec .thmLate s = .next s)

/-- The verifier's climb from a leaf (R338): the hash it ends with, or none when the path is too short or too long. -/
def climb : Nat → List Byte → Nat → Nat → List (List Byte) → Option (List Byte)
  | 0, _, _, _, _ => none
  | k + 1, h, i, n, path =>
    if n ≤ 1 then (if path = [] then some h else none)
    else if i % 2 = 1 then
      match path with
      | p :: ps => climb k (Config.shake256 ([1#8] ++ p ++ h) 64) (i / 2) ((n + 1) / 2) ps
      | [] => none
    else if i + 1 < n then
      match path with
      | p :: ps => climb k (Config.shake256 ([1#8] ++ h ++ p) 64) (i / 2) ((n + 1) / 2) ps
      | [] => none
    else climb k h (i / 2) ((n + 1) / 2) path

end Sys2Proof.Spec

/-- The Cutter's plans and their staging (R21, R316, R317, R321–R325, R327).
Model's choices that it rests on: log entries 41, 42, 43, 106. -/
def Obligations.CutterPlans : Prop := Spec.CutterPlans ∧ Spec.PlansStaged

/-- The minute sheets (R328–R330, R333, R335, R336, R362).
Model's choices that it rests on: log entries 37, 38, 39. -/
def Obligations.MinuteSheets : Prop := Spec.TapeAdds ∧ Spec.SheetsSigned

/-- Every record of a sheet of at most 1,024 records verifies (R334, R338): from its leaf, its index and its path, the verifier's climb
ends at the tree's root.
Model's choices that it rests on: log entry 50. -/
def Obligations.RecordProofsVerify : Prop :=
  ∀ (recs : List (List Byte)) (i : Nat) (r : List Byte), recs.length ≤ 1024 → recs[i]? = some r →
    Spec.climb 11 (leafOf r) i recs.length (treePath 11 i (recs.map leafOf)) = some (treeRoot 11 (recs.map leafOf))

/-! ### Thimble -/

namespace Sys2Proof.Spec
open Sys2Proof Sys2Proof.Machine

/-- A source of TIPEND is pending. -/
def pends (u : State) (k : Nat) : Prop := (u.tcr tcTIPEND).getLsbD k = true

/-- THIMBLE_INTERRUPT (R341): with IE = 1 and an enabled source pending, TEPC takes the pc (the next one after a WAIT), IE clears, and
the core goes to TEVEC; otherwise nothing. -/
def ThimbleInterrupts : Prop :=
  ∀ s : State, s.thm.firmware = true → (s.thr 384).started = true → (s.thr 384).halted = false →
    let ready := (s.tcr tcTSTATUS).getLsbD 0 = true ∧ s.tcr tcTIEN &&& s.tcr tcTIPEND ≠ 0
    (ready → ∃ u, exec .thimbleInterrupt s = .next u ∧ (u.thr 384).waiting = false ∧ u.mem = s.mem ∧ u.regs = s.regs ∧
      u.tcr tcTEPC = (if (s.thr 384).waiting then (s.thr 384).pc + 4 else (s.thr 384).pc) &&& ~~~3#64 ∧
      u.tcr tcTSTATUS = s.tcr tcTSTATUS &&& ~~~1#64 ∧ (u.thr 384).pc = s.tcr tcTEVEC &&& ~~~0xFFF#64 ∧
      ∀ k, k ≠ 384 → u.thr k = s.thr k) ∧
    (¬ready → exec .thimbleInterrupt s = .next s)

/-- The fields of a transfer descriptor (Table THM-5). -/
structure Transfer where
  pa : Nat
  la : Nat
  len : Nat
  op : Nat
  irq : Bool

/-- The descriptor at `a` in SRAM reads as `d`. -/
def describes (s : State) (a : Nat) (d : Transfer) : Prop :=
  let b := s.sram a 32
  field b 0 8 = d.pa ∧ field b 8 4 = d.la ∧ field b 12 2 = d.len ∧ field b 14 1 = d.op ∧ (field b 15 1).testBit 1 = d.irq

/-- XQ and TRANSFER_COMPLETE (R344, Table THM-5): descriptors are queued and end in queue order; a memory read fills SRAM, a memory
write fills memory, a register read or write is Thimble's; STATUS, written last, is 0x80, or 0x01 and 0x02 for an error completion and a
timeout, which move no data; IRQ raises XFER. -/
def Transfers : Prop :=
  (∀ (a : BitVec 32) (s : State), exec (.xq a) s = .next { s with thm := { s.thm with xq := s.thm.xq ++ [a.toNat] } }) ∧
  ∀ (a : Nat) (rest : List Nat) (d : Transfer) (s : State), s.thm.xq = a :: rest → describes s a d →
    let ends := fun (res : XferEnd) (st : Nat) (P : State → Prop) => ∃ u, exec (.transferComplete res) s = .next u ∧ u.thm.xq = rest ∧
      field (u.sram a 32) 31 1 = st ∧ (d.irq = true → pends u 2) ∧ P u
    let only := fun (lo n : Nat) (u : State) => ∀ x, ¬(lo ≤ x ∧ x < lo + n) → x ≠ thmBase + a + 31 → u.byte x = s.byte x
    let s0 := { s with thm := { s.thm with xq := rest } }
    let apart := a + 31 < d.la ∨ d.la + d.len ≤ a + 31
    ends .errcmp 1 (only 0 0) ∧ ends .timeout 2 (only 0 0) ∧
    (4 ≤ d.len → d.len ≤ 4096 → inSram d.la d.len = true →
      (d.pa % 64 = 0 → d.pa + d.len ≤ thmBase → s.isMemory d.pa d.len = true →
        (d.op = 1 → (∀ l ∈ linesOf d.pa d.len, (s.meta l).poison = false) → ends .ok 0x80 fun u =>
          (apart → u.sram d.la d.len = s.bytes d.pa d.len) ∧ only (thmBase + d.la) d.len u) ∧
        (d.op = 2 → ends .ok 0x80 fun u => u.bytes d.pa d.len = s.sram d.la d.len ∧ only d.pa d.len u)) ∧
      (∀ r, Reg.ofAddr d.pa = some r → 8 * d.len = r.width →
        (d.op = 3 → ends .ok 0x80 fun u => (apart → u.sram d.la d.len = leBytes d.len (s0.regLoad .thimble r (2 ^ r.width - 1)).2)) ∧
        (d.op = 4 → let v := ofLeBytes (s.sram d.la d.len)
          ends .ok 0x80 fun u => u.rd r = (s0.regStore .thimble r v v).rd r))) ∧
    ((d.len < 4 ∨ 4096 < d.len ∨ inSram d.la d.len = false) → ends .ok 1 (only 0 0))

/-- SINT (R349, Table THM-6): the number becomes pending for the named seat and thread; numbers 4 to 63 and non-zero bits [31:30]
name no interrupt. -/
def SecureInterruptSent : Prop :=
  ∀ (v : BitVec 32) (s : State),
    let n := v.toNat
    (bits n 29 24 < 4 → bits n 31 30 = 0 → ∃ u, exec (.sint v) s = .next u ∧ u = { s with sint := u.sint } ∧
      ∀ e, e ∈ u.sint ↔ e ∈ s.sint ∨ e = (bits n 22 14, bits n 13 6, bits n 5 5, bits n 29 24)) ∧
    (4 ≤ bits n 29 24 ∨ bits n 31 30 ≠ 0 → exec (.sint v) s = .next s)

/-- The watchdog TWDOG (R353, Table THM-9): 0x5EC1 reloads REMAIN with 1,000, any other value counts in BADKICK; at 0 a module-fatal
record is written and a warm reset is due. -/
def SecureWatchdog : Prop :=
  ∀ s : State,
    let remain := fun (u : State) => bits (u.tcr tcTWDOG).toNat 9 0
    let badkick := fun (u : State) => bits (u.tcr tcTWDOG).toNat 15 12
    (∃ u, exec (.twdog 0x5EC1) s = .next u ∧ remain u = 1000 ∧ badkick u = badkick s) ∧
    (∀ k, k ≠ 0x5EC1 → ∃ u, exec (.twdog k) s = .next u ∧ remain u = remain s ∧ badkick u = min 15 (badkick s + 1)) ∧
    (s.twdogRuns = true → remain s = 0 → ∃ u, exec .thmSwdog s = .next u ∧ u.resetDue ≠ none ∧ (s.resetDue ≠ some .cold →
      u.resetDue = some .warm) ∧ ∃ x ∈ u.ras.ring, x.cls = 3 ∧ x.code = 0x49) ∧
    (s.twdogRuns = false ∨ remain s ≠ 0 → exec .thmSwdog s = .next s)

/-- A claim entry in use for a domain. -/
def claimed (s : State) (k d : Nat) : Prop := s.flag (claimR k) F.pwrClaim.EN = true ∧ s.fld (claimR k) F.pwrClaim.DOMAIN = d

/-- Power claims (R350–R352, Table THM-11): CLAIMSET takes a free entry with AGE 0 or reports FULL; CLAIMCLR and an entry of AGE 100
end a claim, and the last one of a domain lets its held request go ahead. -/
def PowerClaims : Prop :=
  ∀ s : State,
    let others := fun (u : State) (k : Nat) => ∀ j d, j < 32 → j ≠ k → (claimed u j d ↔ claimed s j d)
    let released := fun (u : State) (k d : Nat) => u.flag (claimR k) F.pwrClaim.EN = false ∧ others u k ∧
      ((∃ j, j < 32 ∧ j ≠ k ∧ claimed s j d) → u.heldFor d = s.heldFor d) ∧
      ((∀ j, j < 32 → j ≠ k → ¬claimed s j d) → s.flag (dstatR d) F.pwrDstat.BUSY = false → s.fld (dstatR d) F.pwrDstat.CUR = pwOn →
        d ∉ s.pwr.noRet →
        (s.heldFor d = some pwGate → u.heldFor d = none ∧ u.flag (dstatR d) F.pwrDstat.GATED = true) ∧
        (∀ t, t = pwRet ∨ t = pwOff → s.heldFor d = some t →
          u.heldFor d = none ∧ u.flag (dstatR d) F.pwrDstat.BUSY = true ∧ SMap.find u.pwr.goal d = some t))
    (∀ d : BitVec 9, d.toNat ≤ 425 →
      (∀ k, k < 32 → s.flag (claimR k) F.pwrClaim.EN = false → (∀ j, j < k → s.flag (claimR j) F.pwrClaim.EN = true) →
        ∃ u, exec (.claimset d) s = .next u ∧ claimed u k d.toNat ∧ u.fld (claimR k) F.pwrClaim.AGE = 0 ∧ u.tcr 0x312 = 0 ∧ others u k) ∧
      ((∀ k, k < 32 → s.flag (claimR k) F.pwrClaim.EN = true) →
        ∃ u, exec (.claimset d) s = .next u ∧ u.tcr 0x312 = 1 ∧ u.regs = s.regs)) ∧
    (∀ d : BitVec 9, 425 < d.toNat → exec (.claimset d) s = .next s) ∧
    (∀ d : BitVec 9,
      (∀ k, k < 32 → d.toNat ≤ 425 → claimed s k d.toNat → (∀ j, j < k → ¬claimed s j d.toNat) →
        ∃ u, exec (.claimclr d) s = .next u ∧ released u k d.toNat) ∧
      ((∀ k, k < 32 → ¬claimed s k d.toNat) → exec (.claimclr d) s = .next s)) ∧
    (∀ (k : Fin 32) (d : Nat),
      (d ≤ 425 → claimed s k d → s.fld (claimR k) F.pwrClaim.AGE = 100 → ∃ u, exec (.thmClaim k) s = .next u ∧ released u k d ∧ pends u 8 ∧
        (s.ras.writtenCorr < 192 → ∃ x ∈ u.ras.ring, x.cls = 0 ∧ x.code = 0x48)) ∧
      (s.flag (claimR k) F.pwrClaim.EN = false ∨ s.fld (claimR k) F.pwrClaim.AGE < 100 → exec (.thmClaim k) s = .next s))

/-- A ladder command and the fields of LCMD it sets (Table THM-10). -/
inductive LadderRow : Instr → (op : Nat) → (exp : Bool) → (src dst tag laddr : Nat) → Prop where
  | entropy {e dst} : LadderRow (.entropy e dst) 1 e 0 dst 0 0
  | derive {e src dst la} : LadderRow (.derive e src dst la) 2 e src dst 0 la.toNat
  | pushall {src tag} : LadderRow (.pushall src tag) 3 false src 0 tag 0
  | cleartag {tag} : LadderRow (.cleartag tag) 4 false 0 0 tag 0
  | clear {dst} : LadderRow (.clear dst) 5 false 0 dst 0 0
  | exported {dst la} : LadderRow (.ladderExport dst la) 6 false 0 dst 0 la.toNat
  | bind {src ntt} : LadderRow (.bind src ntt) 7 false src 0 (if ntt then 1 else 0) 0

/-- LCMD starts a command and LSTAT shows BUSY; while one runs, another is not taken. -/
def LadderStarts : Prop :=
  ∀ (i : Instr) (op src dst tag la : Nat) (exp : Bool) (s : State), LadderRow i op exp src dst tag la →
    (s.thm.ladder.running = none → ∃ u v, exec i s = .next u ∧ u.thm.ladder.running = some v ∧ (u.tcr 0x401).getLsbD 0 = true ∧
      bits v 31 28 = op ∧ v.testBit 27 = exp ∧ bits v 26 22 = src ∧ bits v 21 17 = dst ∧ bits v 16 8 = tag ∧ bits v 7 0 = la ∧
      u.thm.ladder.slots = s.thm.ladder.slots ∧ u.mem = s.mem ∧ u.regs = s.regs) ∧
    (s.thm.ladder.running ≠ none → exec i s = .next s)

/-- The key ladder's work (R354–R356, Table THM-10): ENTROPY fills a slot with 64 bytes that the pool gives up, waits while it holds
fewer, and fails with error 1 after a failed health test; DERIVE fills one from SHAKE256 of the source, or of the device secret until
slot 0 is filled, and the label; PUSHALL loads a tag into every memory controller in service, and slot 3 as the firmware key; CLEARTAG
clears a tag everywhere; CLEAR zeroes a slot; EXPORT copies a slot that is exportable and not slot 0, and else fails (the error code is the
model's); BIND gives a slot's key to an engine. BUSY clears and LADDER is raised. -/
def LadderWork : Prop :=
  ∀ (v : Nat) (s : State), s.thm.ladder.running = some v →
    let l := s.thm.ladder
    let op := bits v 31 28
    let src := bits v 26 22
    let dst := bits v 21 17
    let tag := bits v 16 8
    let la := labelAt (bits v 7 0)
    let ends := fun (err : Nat) (P : State → Prop) => ∃ u, exec .ladderComplete s = .next u ∧ u.thm.ladder.running = none ∧
      u.tcr 0x401 = BitVec.ofNat 64 (16 * err) ∧ pends u 6 ∧ P u
    let fills := fun (bs : List Byte) (exp : Bool) (u : State) => u.slot dst = bs ∧ (dst ∈ u.thm.ladder.exp ↔ exp = true) ∧
      (∀ k, k ≠ dst → u.slot k = s.slot k ∧ (k ∈ u.thm.ladder.exp ↔ k ∈ l.exp)) ∧ u.mem = s.mem ∧ u.regs = s.regs ∧ u.keys = s.keys
    let kvalid := fun (u : State) (c : Nat) => (u.rd { kind := .mcKvalid, i := c, j := tag / 32 }).testBit (tag % 32)
    let otherKeys := fun (u : State) => ∀ t, t ≠ tag → SMap.get (fun _ => 0) u.keys t = SMap.get (fun _ => 0) s.keys t
    (op = 1 → l.windows = 0 → 64 ≤ l.pool → ends 0 fun u => u.thm.ladder.pool = l.pool - 64 ∧
      ∃ bs : List Byte, bs.length = 64 ∧ fills bs (v.testBit 27) u) ∧
    (op = 1 → l.windows = 0 → l.pool < 64 → exec .ladderComplete s = .next s) ∧
    (op = 1 → l.windows ≠ 0 → ends 1 fun u => u.thm.ladder.slots = l.slots) ∧
    (op = 2 → ends 0 (fills (padTo 64 (Config.shake256 ((if src = 0 ∧ l.cdi = false then Config.deviceSecret else s.slot src) ++
      s.sram la 64) 64)) (v.testBit 27))) ∧
    (op = 3 → src ≠ 3 → ends 0 fun u => (∀ c ∈ s.clist, c < 24 → kvalid u c = true) ∧ u.thm.ladder.slots = l.slots ∧ u.mem = s.mem ∧
      SMap.get (fun _ => 0) u.keys tag = ofLeBytes (s.slot src) ∧ otherKeys u) ∧
    (op = 3 → src = 3 → ends 0 fun u => u.fwKey = ofLeBytes (s.slot 3) ∧ u.keys = s.keys ∧ u.regs = s.regs) ∧
    (op = 4 → ends 0 fun u => (∀ c, c < 24 → kvalid u c = false) ∧ SMap.get (fun _ => 0) u.keys tag = 0 ∧
      (∀ e ∈ u.hpKeys, e.1 % 512 ≠ tag) ∧ otherKeys u) ∧
    (op = 5 → ends 0 (fills (List.replicate 64 0) false)) ∧
    (op = 6 → (dst ≠ 0 → dst ∈ l.exp → ends 0 fun u => u.sram la (s.slot dst).length = s.slot dst) ∧
      (dst = 0 ∨ dst ∉ l.exp → ends 2 fun u => u.mem = s.mem)) ∧
    (op = 7 → ends 0 fun u => SMap.find u.thm.ladder.bound (tag % 2) = some (s.slot src) ∧ u.mem = s.mem)

/-- The entropy source (R356): a failed health test empties the pool, raises ENTFAIL and leaves 16 windows to pass; they pass together. -/
def EntropyHealth : Prop :=
  ∀ s : State,
    (∃ u, exec .entfail s = .next u ∧ u.thm.ladder.pool = 0 ∧ u.entropyOk = false ∧ pends u 9 ∧ u.thm.ladder.slots = s.thm.ladder.slots) ∧
    (∃ u, exec .entropyHealthPass s = .next u ∧ u.entropyOk = true ∧ u.thm.ladder.slots = s.thm.ladder.slots ∧ u.mem = s.mem)

/-- An engine's operation: the command that starts it, its engine, where in SRAM its result goes, and the result in the state of its
end (Table THM-3). -/
inductive EngineRow : Instr → Fin 3 → Nat → (State → List Byte) → Prop where
  | shake {src dst len out} : EngineRow (.shakeEngine src dst len out) 0 dst.toNat
      fun s => Config.shake256 (s.sram src.toNat len.toNat) out.toNat
  | aes {src dst len} : EngineRow (.aesEngine src dst len) 1 dst.toNat
      fun s => padTo len.toNat (Config.aesSeal (SMap.get (fun _ => []) s.thm.ladder.bound 0) [] (s.sram src.toNat len.toNat))
  | verify {key msg dst len} : EngineRow (.nttEngine .verify key msg dst len) 2 dst.toNat
      fun s => [if Config.mlDsaVerify (s.sram key.toNat 1952) (s.sram msg.toNat len.toNat) (s.sram (key.toNat + 1952) 3309) then 1 else 0]
  | sign {key msg dst len} : EngineRow (.nttEngine .sign key msg dst len) 2 dst.toNat
      fun s => padTo 3309 (Config.mlDsaSign (SMap.get (fun _ => []) s.thm.ladder.bound 1) (s.sram msg.toNat len.toNat) s.fresh)
  | encaps {key msg dst len} : EngineRow (.nttEngine .encaps key msg dst len) 2 dst.toNat
      fun s => let r := Config.mlKemEncaps (s.sram key.toNat 1184) s.fresh
        padTo 1088 r.1 ++ padTo 32 r.2
  | decaps {key msg dst len} : EngineRow (.nttEngine .decaps key msg dst len) 2 dst.toNat
      fun s => padTo 32 (Config.mlKemDecaps (SMap.get (fun _ => []) s.thm.ladder.bound 1) (s.sram key.toNat 1088))

/-- Engines (R343, Table THM-3): an operation that starts on an idle engine ends with its result in SRAM and the engine's interrupt; an
engine at work takes no other. -/
def Engines : Prop :=
  ∀ (i : Instr) (e : Fin 3) (dst : Nat) (f : State → List Byte) (s : State), EngineRow i e dst f →
    (SMap.find s.thm.engJobs e = none → ∃ u, exec i s = .next u ∧ u.mem = s.mem ∧ u.thm.ladder = s.thm.ladder ∧
      (inSram dst (f s).length = true → ∃ w, exec (.engineComplete e) u = .next w ∧ w.sram dst (f s).length = f s ∧ pends w (3 + e.val) ∧
        SMap.find w.thm.engJobs e = none)) ∧
    (SMap.find s.thm.engJobs e ≠ none → exec i s = .next s)

end Sys2Proof.Spec

/-- Thimble's core and its block: interrupts, transfers, secure interrupts, power claims and the secure watchdog (R341, R344, R349–R353).
Model's choices that it rests on: log entries 27, 71, 73. -/
def Obligations.ThimbleBlocks : Prop :=
  Spec.ThimbleInterrupts ∧ Spec.Transfers ∧ Spec.SecureInterruptSent ∧ Spec.SecureWatchdog ∧ Spec.PowerClaims

/-- Keys: the ladder, the entropy source and the cryptographic engines (R343, R354–R356).
Model's choices that it rests on: log entries 3, 50, 71, 73. -/
def Obligations.KeyLadder : Prop := Spec.LadderStarts ∧ Spec.LadderWork ∧ Spec.EntropyHealth ∧ Spec.Engines

/-! ### Mailboxes -/

namespace Sys2Proof.Spec
open Sys2Proof Sys2Proof.Machine

/-- The mailbox page of a panel and a result slot in it (R345). -/
def pageAt (s : State) (p : Nat) : Nat := s.fld (mbxPageR p) F.mbxPage.GRANULE * 65536
def slotAt (s : State) (p k : Nat) : Nat := pageAt s p + 0x1000 * (k + 1)

/-- STATE and STATUS of MBX.DB (Table THM-8). -/
def doorbell (u : State) (p state status : Nat) : Prop :=
  u.fld (mbxDbR p) F.mbxDb.STATE = state ∧ u.fld (mbxDbR p) F.mbxDb.STATUS = status

def slotHeld (u : State) (p k : Nat) : Prop := (u.fld (mbxSlotR p) F.mbxSlot.HELD).testBit k = true
/-- A slot that is reserved and whose result has not been written. -/
def slotBusy (s : State) (p k : Nat) : Prop := ∃ m, SMap.find s.thm.mslots (p * 8 + k) = some m ∧ m.busy = true

/-- MBX_DB_RING (R345, R346): ignored unless the mailbox is in service and IDLE; NO_RESOURCE with every slot HELD; DENIED where the
panel may not read and write the page; else the lowest free slot is reserved and its completion word shows BUSY with the previous
sequence number, and the engine holds a copy of the request area, QUEUED or, behind another request, COPYING. -/
def DoorbellRings : Prop :=
  ∀ (p : Panel) (s : State),
    let ready := s.flag (mbxPageR p) F.mbxPage.EN = true ∧ s.fld (mbxDbR p) F.mbxDb.STATE = dbIdle
    (¬ready → exec (.mbxDbRing p) s = .next s) ∧
    (ready → (∀ k, k < 8 → slotHeld s p k) → ∃ u, exec (.mbxDbRing p) s = .next u ∧ doorbell u p dbIdle stNoResource ∧ u.mem = s.mem ∧
      u.thm = s.thm) ∧
    (ready → ∀ k, k < 8 → ¬slotHeld s p k → (∀ j, j < k → slotHeld s p j) →
      (s.pageOk p = false → ∃ u, exec (.mbxDbRing p) s = .next u ∧ doorbell u p dbIdle stDenied ∧ u.mem = s.mem ∧ u.thm = s.thm) ∧
      (s.pageOk p = true → ∃ u, exec (.mbxDbRing p) s = .next u ∧ u.fld (mbxDbR p) F.mbxDb.SLOT = k ∧
        u.fld (mbxDbR p) F.mbxDb.STATE = (if s.engine (p.val % 64) = [] then dbQueued else dbCopying) ∧
        (∀ j, j < 8 → (slotHeld u p j ↔ slotHeld s p j ∨ j = k)) ∧ slotBusy u p k ∧
        u.memNat (slotAt s p k + 18) 2 = stBusy ∧
        (∀ m, SMap.find s.thm.mslots (p.val * 8 + k) = some m → m.seq < 2 ^ 32 → u.memNat (slotAt s p k + 4) 4 = m.seq) ∧
        u.engine (p.val % 64) = s.engine (p.val % 64) ++ [(p.val, k, s.bytes (pageAt s p) 4096)] ∧
        ∀ x, ¬(slotAt s p k ≤ x ∧ x < slotAt s p k + 36) → u.byte x = s.byte x))

/-- MBX_SLOT (R347): a slot written as 1 is released unless its result has not yet been written. -/
def SlotRelease : Prop :=
  ∀ (p : Panel) (mask : Byte) (s : State), ∃ u, exec (.mbxSlot p mask) s = .next u ∧ u.mem = s.mem ∧ u.thm = s.thm ∧
    ∀ k, k < 8 → (slotHeld u p k ↔ slotHeld s p k ∧ (mask.getLsbD k = false ∨ slotBusy s p k))

/-- MBTAKE (R346, R385): the engine's request is Thimble's, STATE returns to IDLE with STATUS PENDING; a packet in order is taken, one
that fails the first checks is refused in its slot; the engine goes on with panel 0 first where it serves it, else with the next panel
in turn. An engine without a request does nothing. -/
def RequestTaken : Prop :=
  ∀ (m : Fin 64) (s : State),
    (s.engine m = [] → exec (.mbtake m) s = .next s) ∧
    ∀ (p : Panel) (k : Nat) (pkt : List Byte) (rest : List (Nat × Nat × List Byte)), s.engine m = (p.val, k, pkt) :: rest →
      (∀ e ∈ rest, e.1 ≠ p.val ∧ e.1 < 512) → k < 8 →
      let q := mkReq (.mailbox p k none) s.stitch s.ticks pkt
      let takes := fun (P : State → Prop) => ∃ u, exec (.mbtake m) s = .next u ∧ doorbell u p dbIdle stPending ∧
        (rest = [] → u.engine m = []) ∧
        (rest ≠ [] → ∃ e ∈ rest, u.engine m = e :: rest.erase e ∧ u.fld (mbxDbR e.1) F.mbxDb.STATE = dbQueued ∧
          (m.val = 0 → (∃ x ∈ rest, x.1 = 0) → e.1 = 0) ∧
          (m.val ≠ 0 → ∀ x ∈ rest, p.val < x.1 → p.val < e.1 ∧ e.1 ≤ x.1)) ∧ P u
      (badPacket pkt = none → hdFlags pkt = 0 → hdRequester pkt = s.handle p → s.handle p < 2 ^ 31 → (ockRow (hdOp pkt)).isSome →
        s.safeHold = false → s.thm.recovery = false → s.seqInUse p q = false → takes fun u =>
          u.thm.taken = s.thm.taken ++ [q] ∧ u.mem = s.mem) ∧
      (∀ st off, badPacket pkt = some (st, off) → takes fun u => u.thm.taken = s.thm.taken ∧
        u.memNat (slotAt s p k + 18) 2 = st ∧ u.memNat (slotAt s p k + 32) 2 = off ∧ ¬slotBusy u p k)

/-- MBDONE (R347, Table THM-3): LENGTH bytes of the result buffer of the panel's engine go to a reserved slot, which stays HELD, and
VECTOR is raised where one is set; a LENGTH of 0 or above 4,096, a non-zero reserved bit, or a slot not reserved makes no change. -/
def ResultDelivered : Prop :=
  ∀ (v : BitVec 32) (s : State),
    let p := bits v.toNat 8 0
    let k := bits v.toNat 11 9
    let n := bits v.toNat 31 19
    let good := 0 < n ∧ n ≤ 4096 ∧ bits v.toNat 18 12 = 0 ∧ slotBusy s p k
    (good → ∃ u, exec (.mbdone v) s = .next u ∧ u.bytes (slotAt s p k) n = s.bytes (thmBase + 0x20001000 + 0x2000 * (p % 64)) n ∧
      ¬slotBusy u p k ∧ (slotHeld s p k → slotHeld u p k) ∧
      (s.fld (mbxPageR p) F.mbxPage.VECTOR ≠ 0 →
        u.flag { kind := .icVec, i := p, j := s.fld (mbxPageR p) F.mbxPage.VECTOR } F.icVec.PEND = true) ∧
      ∀ x, ¬(slotAt s p k ≤ x ∧ x < slotAt s p k + n) → u.byte x = s.byte x) ∧
    (¬good → exec (.mbdone v) s = .next s)

end Sys2Proof.Spec

/-- Mailboxes: rings, releases, requests taken and results delivered (R345–R347).
Model's choices that it rests on: log entries 75, 76. -/
def Obligations.Mailboxes : Prop := Spec.DoorbellRings ∧ Spec.SlotRelease ∧ Spec.RequestTaken ∧ Spec.ResultDelivered

/-! ### Ockar -/

namespace Sys2Proof.Spec
open Sys2Proof Sys2Proof.Machine

/-- The commands with their opcodes (Tables OCK-7 to OCK-21). -/
def opcodes : List (Instr × Nat) :=
  [(.info, 0x0101), (.certFetch, 0x0102), (.unitQuery, 0x0103), (.sessionOffer, 0x0110), (.sessionProof, 0x0111), (.sessionKey, 0x0112),
   (.sessionAuth, 0x0113), (.sessionClose, 0x0114), (.keyStage, 0x0115), (.opkeyRegister, 0x0116), (.build, 0x0201), (.launch, 0x0202),
   (.pause, 0x0203), (.resume, 0x0204), (.reset, 0x0205), (.tear, 0x0206), (.panelQuery, 0x0207), (.fnAssign, 0x0208),
   (.fnRelease, 0x0209), (.memberEvent, 0x0220), (.contractSet, 0x0301), (.contractGet, 0x0302), (.override, 0x0303),
   (.cutterRead, 0x0304), (.grant, 0x0401), (.release, 0x0402), (.potRead, 0x0403), (.l3Lock, 0x0404), (.l3Unlock, 0x0405),
   (.rangeInv, 0x0406), (.cacheDisable, 0x0407), (.cacheEnable, 0x0408), (.boltcfgSet, 0x0409), (.hostcfgSet, 0x040A),
   (.regionSet, 0x040B), (.rawRead, 0x040C), (.scrubSet, 0x040D), (.hdmSet, 0x040E), (.rpSet, 0x040F), (.vpCreate, 0x0501),
   (.vpRemove, 0x0502), (.vpRead, 0x0503), (.rmacSet, 0x0504), (.flowAdd, 0x0505), (.flowDel, 0x0506), (.flowRead, 0x0507),
   (.meterSet, 0x0508), (.tmplSet, 0x0509), (.bobCreate, 0x050A), (.bobRings, 0x050B), (.bobReset, 0x050C), (.uplinkSet, 0x050D),
   (.vtepSet, 0x050E), (.vniSet, 0x050F)] ++
  [(.fabConfig, 0x0601), (.portSet, 0x0602), (.exportAperture, 0x0603), (.unexport, 0x0604), (.memberSet, 0x0605), (.barSet, 0x0606),
   (.barCancel, 0x0607), (.routeRead, 0x0608), (.timeCfg, 0x0701), (.timeSet, 0x0702), (.timeStep, 0x0703), (.utcSet, 0x0704),
   (.ppsdlySet, 0x0705), (.timeRead, 0x0706), (.sheetFetch, 0x0801), (.recordFetch, 0x0802), (.report, 0x0901), (.offerFetch, 0x0902),
   (.secretAccept, 0x0903), (.imageBegin, 0x0A01), (.imageWrite, 0x0A02), (.imageCheck, 0x0A03), (.activate, 0x0A04), (.try, 0x0A05),
   (.commit, 0x0A06), (.fwStatus, 0x0A07), (.decommission, 0x0A08), (.ownerkeyRegister, 0x0A09), (.domainSet, 0x0B01),
   (.pcapSet, 0x0B02), (.errFetch, 0x0C01), (.panelErrFetch, 0x0C02), (.offlineRead, 0x0C03), (.unitService, 0x0C04),
   (.swatchRead, 0x0D01), (.dbgNonce, 0x0E01), (.dbgOpen, 0x0E02), (.dbgConsent, 0x0E03), (.dbgClose, 0x0E04),
   (.dbgauthRegister, 0x0E05), (.testReport, 0x0F01)]

/-- The payload ranges that the layout of an opcode names: offset and length. -/
def layout (op : Nat) : List (Nat × Nat) :=
  match op with
  | 0x0102 => [(0, 2), (8, 64)] | 0x0110 => [(0, 32)] | 0x0111 => [(0, 2)] | 0x0112 => [(0, 2), (4, 1088)]
  | 0x0113 => [(0, 2), (4, 3309)] | 0x0115 => [(0, 1), (8, 1952)] | 0x0116 | 0x0A09 | 0x0E02 | 0x0E05 => [(0, 3445)]
  | 0x0201 | 0x0301 => [(0, 64)] | 0x0202 => [(0, 4), (8, 8)] | 0x0208 => [(0, 1), (2, 11)] | 0x0209 => [(0, 1), (2, 2)]
  | 0x0220 => [(0, 5)] | 0x0303 | 0x0304 => [(0, 4)]
  | 0x0401 => [(0, 8)] | 0x0402 | 0x0406 => [(0, 12)] | 0x0403 => [(0, 10)] | 0x0404 => [(0, 13)] | 0x0407 | 0x0408 => [(0, 1)]
  | 0x0409 => [(0, 1)] | 0x040A | 0x040C => [(0, 4)] | 0x040B => [(0, 3), (4, 8)] | 0x040D => [(0, 1)] | 0x040E => [(0, 1), (2, 4)]
  | 0x040F => [(0, 5)] | 0x0501 => [(0, 13), (16, 80)] | 0x0502 | 0x0503 | 0x050C => [(0, 2)] | 0x0504 => [(0, 15)]
  | 0x0505 => [(0, 41), (42, 6)] | 0x0506 | 0x0507 => [(0, 4)] | 0x0508 => [(0, 12)] | 0x0509 => [(0, 2), (8, 54), (72, 32)]
  | 0x050A => [(0, 9), (10, 2)] | 0x050B => [(0, 2), (8, 24)] | 0x050D => [(0, 6)] | 0x050E => [(0, 2), (16, 16)] | 0x050F => [(0, 7)]
  | 0x0601 => [(0, 6), (8, 8)] | 0x0602 => [(0, 4)] | 0x0603 => [(0, 9)] | 0x0604 => [(0, 4)] | 0x0605 => [(0, 5)] | 0x0606 => [(0, 6)]
  | 0x0607 => [(0, 1)] | 0x0608 => [(0, 2)] | 0x0701 | 0x0704 | 0x0705 => [(0, 4)] | 0x0702 | 0x0703 => [(0, 12)]
  | 0x0801 => [(0, 1), (8, 8)] | 0x0802 => [(0, 16)] | 0x0901 => [(0, 129)] | 0x0903 => [(0, 1096)]
  | 0x0A01 => [(0, 1), (4, 4)] | 0x0A02 => [(0, 1), (4, 6), (32, 4032)] | 0x0A03 | 0x0A04 | 0x0A05 | 0x0A06 => [(0, 1)]
  | 0x0B01 => [(0, 3)] | 0x0B02 => [(0, 2)] | 0x0C01 | 0x0C02 => [(0, 9)] | 0x0C03 => [(0, 4)] | 0x0C04 => [(0, 1)]
  | 0x0D01 => [(0, 6)] | 0x0E03 | 0x0E04 => [(0, 32)] | 0x0F01 => [(0, 2)]
  | _ => []

/-- Request `q` of an opcode starts in `s` (R397), and `u` is the state with it taken off Thimble's list. -/
def starts (s : State) (op : Nat) (q : OckReq) (u : State) : Prop :=
  nextReq op s.thm.recon [] s.thm.taken = some q ∧ u = { s with thm := { s.thm with taken := s.thm.taken.erase q } }

/-- It passes the common checks (R385, R397, R401), and no byte outside its layout is set (R383). -/
def passes (s : State) (op : Nat) (q : OckReq) (u : State) : Prop :=
  starts s op q u ∧ (∃ r, ockRow op = some r ∧ u.preCheck r q = none) ∧ q.stray (layout op) = none

/-- The command of an opcode. -/
def commandOf (i : Instr) (op : Nat) : Prop := (i, op) ∈ opcodes

/-- It ends with OK: `u` is the state it leaves, in which the reply goes out. -/
def replies (i : Instr) (s : State) (q : OckReq) (u : State) (payload : List Byte) : Prop :=
  exec i s = .next (u.reply q stOk u.stitch payload)

/-- It is refused, with no change but the reply (R383). -/
def refused (i : Instr) (s : State) (q : OckReq) (u : State) (status off : Nat) : Prop :=
  exec i s = .next (u.reply q status u.stitch (leBytes 2 off ++ leBytes 2 0))

/-- It goes on in state `u` as a job that works with `data`; its reply comes later (R396). -/
def goesOn (i : Instr) (s : State) (q : OckReq) (u : State) (data : List Nat) : Prop :=
  ∃ t, exec i s = .next t ∧ t = { u with thm := t.thm } ∧
    t.thm = { u.thm with jobs := u.thm.jobs ++ [{ id := u.thm.nextJob, q := q, data := data, start := u.stitch }],
                         nextJob := u.thm.nextJob + 1 }

/-- The checks that every request passes before its opcode's own (R383, R385, R397, R400, R401), in their order: the target, the role,
the ownership of the target and of what the payload names, the deadline, the length, reconciliation, a unit out of service, a unit at work, a stray byte. With no request to start
nothing happens. -/
def CommonChecks : Prop :=
  ∀ (i : Instr) (op : Nat) (s : State), commandOf i op →
    (nextReq op s.thm.recon [] s.thm.taken = none → exec i s = .next s) ∧
    ∀ (q : OckReq) (u : State) (r : OckRow), starts s op q u → ockRow op = some r →
      let no := fun (status off : Nat) => refused i s q u status off
      let target := q.tidx < unitCount q.tcls ∧ bits q.target 23 12 = (if (hdFlags q.head).testBit 1 then s.myId else 0) ∧
        (r.cls = [] ∨ q.tcls ∈ r.cls)
      let role := (r.p = true ∧ q.isPanel = true ∧ ¬(q.tcls = 0x0C ∧ q.isHost = true ∧ q.tidx ≠ 0)) ∨ (r.h = true ∧ q.isHost = true) ∨
        (r.o = true ∧ q.isOperator = true) ∨ (r.f = true ∧ q.isPeer = true)
      let owner := ¬(q.tcls = 0x0C ∧ q.isPanel = true ∧ q.isHost = false ∧ q.panel ≠ some q.tidx)
      let inTime := hdStitch q.head = 0 ∨ q.at_ ≤ hdStitch q.head
      let length := r.lo ≤ q.payload.length ∧ q.payload.length ≤ r.hi
      let settled := r.query = true → q.unit ∉ s.thm.recon
      let served := r.query = true ∨ op = 0x0C04 ∨ s.unitOut q.tcls q.tidx = false
      let idle := r.query = true ∨ (0x0201 ≤ op ∧ op ≤ 0x0206) ∨ s.unitBusy q.unit = false
      (¬target → no stBadParam 12) ∧ (target → ¬role → no stDenied 0xFFFF) ∧ (target → role → ¬owner → no stNotOwner 12) ∧
      (target → role → owner → ∀ off, s.foreign op q = some off → no stNotOwner (32 + off)) ∧
      (target → role → owner → s.foreign op q = none →
        (¬inTime → no stTimeout 0xFFFF) ∧ (inTime → ¬length → no stBadLength 16) ∧
        (inTime → length →
          (¬settled → no stStale 0xFFFF) ∧ (settled → ¬served → no stFaulted 0xFFFF) ∧
          (settled → served → ¬idle → no stBusy 0xFFFF) ∧
          (settled → served → idle → u.preCheck r q = none ∧ ∀ off, q.stray (layout op) = some off → no stBadParam off)))

/-- The order of starts (R397): a request does not start ahead of one that Thimble took earlier from the same requester or to the same
unit, and a change to a unit under reconciliation waits. -/
def StartOrder : Prop :=
  ∀ (op : Nat) (recon : List Nat) (xs ys : List OckReq) (a b : OckReq), nextReq op recon [] (xs ++ a :: ys) = some b →
    b ∉ xs → b ≠ a → b ∈ ys → b.op = op ∧ sameSender a b = false ∧ a.unit ≠ b.unit ∧
      ((∃ r, ockRow op = some r ∧ r.query = false) → b.unit ∉ recon)

/-- A reply over a mailbox (R380, R382, R383, R388): the packet of Table OCK-1 in the slot, whose completion word shows the request's
OPCODE, SEQUENCE and STATUS; nothing else changes but the panel's vector, and cached copies of the slot's lines, which their homes
drop. A request that PENDING has answered gets no other (R396). -/
def MailboxReplies : Prop :=
  ∀ (s : State) (q : OckReq) (p k status stitch : Nat) (payload : List Byte), q.via = .mailbox p k none → p < 512 → k < 8 →
    status < 65536 → stitch < 2 ^ 64 → payload.length ≤ 4064 →
    let u := s.reply q status stitch payload
    let a := slotAt s p k
    let vec := s.fld (mbxPageR p) F.mbxPage.VECTOR
    (q.answered = false →
      u.memNat a 1 = 1 ∧ u.memNat (a + 1) 1 = 1 ∧ u.memNat (a + 2) 2 = hdOp q.head ∧ u.memNat (a + 4) 4 = hdSeq q.head ∧
      u.memNat (a + 8) 4 = hdRequester q.head ∧ u.memNat (a + 12) 4 = q.target ∧ u.memNat (a + 16) 2 = payload.length ∧
      u.memNat (a + 18) 2 = status ∧ u.memNat (a + 20) 8 = stitch ∧ u.bytes (a + 32) payload.length = payload ∧
      (∀ x, ¬(a ≤ x ∧ x < a + 32 + payload.length) → u.byte x = s.byte x) ∧ ¬slotBusy u p k ∧
      u = { s with mem := u.mem, lineMeta := u.lineMeta, dirty := u.dirty, regs := u.regs, tiles := u.tiles, sent := u.sent
                   thm := { s.thm with mslots := u.thm.mslots } } ∧
      (∀ o ∈ u.sent, o ∈ s.sent ∨ ∃ h t line, o = .warp .snpDrop h t 0xFF line false []) ∧
      u.regs = (if vec = 0 then s.regs else (s.raise p vec).regs)) ∧
    (q.answered = true → u = s)

/-- A reply over I3C (R390): the packet behind message type 0x7F and the enterprise number, announced by an IBI. -/
def I3cReplies : Prop :=
  ∀ (s : State) (q : OckReq) (status stitch : Nat) (payload : List Byte), q.via = .i3c none → q.answered = false →
    (∀ o, s.muted o = false) → ∃ pkt, (s.reply q status stitch payload).sent = s.sent ++ [.pin .i3cIbi true, .i3c (i3cMessage pkt)] ∧
      pkt = mkPacket 1 q.op (hdSeq q.head) (hdRequester q.head) q.target status stitch payload ∧
      s.reply q status stitch payload = { s with sent := (s.reply q status stitch payload).sent }

/-- COMMAND_CLASS_BOUND (R396): a command that has reached its class bound is answered PENDING, and its work goes on; the oldest first. -/
def ClassBounds : Prop :=
  ∀ s : State,
    let due := fun (q : OckReq) => q.answered = false ∧ ∃ r, ockRow q.op = some r ∧ q.tick + r.bound ≤ s.ticks
    ((∀ j ∈ s.thm.jobs, ¬due j.q) → (∀ q ∈ s.thm.taken, ¬due q) → exec .commandClassBound s = .next s) ∧
    (∀ (xs ys : List Job) (j : Job), s.thm.jobs = xs ++ j :: ys → (∀ x ∈ xs, ¬due x.q) → due j.q → (∀ y ∈ ys, y.q ≠ j.q) →
      (∀ t ∈ s.thm.taken, t ≠ j.q) →
      ∃ u, exec .commandClassBound s = .next u ∧
        u.thm.jobs = xs ++ { j with q := { j.q with answered := true } } :: ys ∧ u.thm.taken = s.thm.taken ∧
        u.mem = (s.reply j.q stPending s.stitch []).mem ∧ u.sent = (s.reply j.q stPending s.stitch []).sent)

/-- I3C (R390, R482): a target without an address takes one by ENTDAA, in which it sends its provisioned ID, or by SETDASA to its static
address 0x3A; one that has an address takes Ockar messages of type 0x7F and no other. -/
def I3cBus : Prop :=
  ∀ s : State, s.i3cAnswers = true →
    (s.boot.i3cAddr = none →
      (∀ a : BitVec 7, (∀ o, s.muted o = false) → ∃ u id, exec (.entdaa a) s = .next u ∧ u.boot.i3cAddr = some a.toNat ∧
        u.sent = s.sent ++ [.i3c id] ∧ id.length = 8 ∧ u.thm = s.thm) ∧
      (∀ a : BitVec 7, ∃ u, exec (.setdasa 0x3A a) s = .next u ∧ u = { s with boot := u.boot } ∧ u.boot.i3cAddr = some a.toNat) ∧
      (∀ m, exec (.i3cMctpMessage m) s = .next s)) ∧
    (s.boot.i3cAddr ≠ none →
      (∀ a, exec (.entdaa a) s = .next s) ∧ (∀ x a, exec (.setdasa x a) s = .next s) ∧
      (∀ m, m.take 5 ≠ i3cMessage [] → exec (.i3cMctpMessage m) s = .next s) ∧
      (∀ pkt : List Byte, badPacket pkt = none → hdFlags pkt = 0 → 2 ^ 31 ≤ hdRequester pkt →
        s.session (hdRequester pkt % 65536) = none →
        s.openOp (hdOp pkt) (hdLength pkt) = true → (ockRow (hdOp pkt)).isSome → s.safeHold = false → s.thm.recovery = false →
        exec (.i3cMctpMessage (i3cMessage pkt)) s =
          .next { s with thm := { s.thm with taken := s.thm.taken ++ [mkReq (.i3c none) s.stitch s.ticks pkt] } }))

end Sys2Proof.Spec

/-- The Ockar protocol: checks, starts, replies, class bounds and the I3C bus (R380–R385, R388, R390, R396, R397, R400, R401, R482).
Model's choices that it rests on: log entries 76, 84. -/
def Obligations.OckarProtocol : Prop :=
  Spec.CommonChecks ∧ Spec.StartOrder ∧ Spec.MailboxReplies ∧ Spec.I3cReplies ∧ Spec.ClassBounds ∧ Spec.I3cBus

/-! ### Ockar: identity, sessions, keys and debug -/

namespace Sys2Proof.Spec
open Sys2Proof Sys2Proof.Machine

/-- Only Thimble and the count of free values differ. -/
def onlyThimble (s u : State) : Prop := u = { s with thm := u.thm, fresh := u.fresh }

/-- INFO (Table OCK-7): serial, enterprise, counts, bolt selections, lifecycle, channel list, SVN, module ID, options and MFW; in
SAFE_HOLD serial and lifecycle with zero for every count (R472). -/
def InfoQuery : Prop :=
  ∀ (s u : State) (q : OckReq), passes s 0x0101 q u → s.clist.length ≤ 24 → ∃ r : List Byte, replies .info s q u r ∧ r.length = 128 ∧
    field r 0 16 = s.serial % 2 ^ 128 ∧ field r 25 1 = s.thm.fuses.life % 256 ∧
    (s.safeHold = true → field r 16 9 = 0 ∧ ∀ k, 26 ≤ k → r.getD k 0 = 0) ∧
    (s.safeHold = false → field r 16 4 = Config.enterprise.toNat ∧ field r 20 1 = 48 ∧ field r 21 1 = 4 ∧ field r 22 1 = 24 ∧
      field r 23 1 = 8 ∧ field r 24 1 = s.fld { kind := .hubBoltcfg } F.hubBoltcfg.CUR + 4 * s.fld { kind := .hubBoltcfg } F.hubBoltcfg.NEXT ∧
      field r 26 1 = s.clist.length ∧
      (∀ k, k < 24 → r.getD (28 + k) 0 = match s.clist[k]? with | some c => BitVec.ofNat 8 c | none => 0xFF) ∧
      field r 52 4 = s.svn % 2 ^ 32 ∧ field r 56 2 = s.myId % 2 ^ 16 ∧ field r 58 1 = 7 ∧ (r.drop 64) = padTo 64 s.mfw)

/-- CERT_FETCH (R366, R367, R499): a piece of a certificate that is kept; a TYPE or PIECE that does not exist is BAD_PARAM, a KEYHASH no
longer kept STALE. A zero KEYHASH names the current certificate. -/
def Certificates : Prop :=
  ∀ (s u : State) (q : OckReq), passes s 0x0102 q u →
    let typ := q.f 0 1
    let piece := q.f 1 1
    let hash := (q.payload.drop 8).take 64
    (typ = 0 ∨ 3 < typ → refused .certFetch s q u stBadParam 32) ∧
    (1 ≤ typ → typ ≤ 3 →
      (1 < piece → refused .certFetch s q u stBadParam 33) ∧
      (piece ≤ 1 →
        (∀ c, u.certOf typ hash = some c → ∃ r : List Byte, replies .certFetch s q u r ∧ field r 0 2 = 5549 ∧ field r 2 1 = piece ∧
          r.drop 32 = (c.drop (4032 * piece)).take 4032) ∧
        (u.certOf typ hash = none → refused .certFetch s q u stStale 40) ∧
        (hash = List.replicate 64 0 → (typ = 1 → u.certOf typ hash = if s.thm.fuses.life = 1 then none else some s.devidCert) ∧
          (typ = 2 → s.thm.fw.alias_ ≠ [] → u.certOf typ hash = some s.thm.fw.alias_) ∧
          (typ = 3 → s.thm.fw.meter ≠ [] → u.certOf typ hash = some s.thm.fw.meter)) ∧
        (∀ c, hash ≠ List.replicate 64 0 → u.certOf typ hash = some c →
          field c 6 1 = typ ∧ Config.shake256 ((c.drop 96).take 1952) 64 = hash)))

/-- UNIT_QUERY (R400, Table OCK-7): service code, CFGD, last change, and the last state record. -/
def UnitQueries : Prop :=
  ∀ (s u : State) (q : OckReq), passes s 0x0103 q u →
    let e := SMap.get (fun _ => (0, 0, [])) s.thm.reports (unitId q.tcls q.tidx)
    ∃ r : List Byte, replies .unitQuery s q u r ∧ r.length = 80 ∧ field r 4 4 = e.1 % 2 ^ 32 ∧ field r 8 8 = e.2.1 % 2 ^ 64 ∧
      r.drop 16 = padTo 64 e.2.2 ∧
      (q.tcls = 3 ∨ q.tcls * 256 + q.tidx ∉ s.boot.repairs → field r 0 1 = if s.unitOut q.tcls q.tidx then 1 else 0) ∧
      (q.tcls ≠ 3 → q.tcls * 256 + q.tidx ∈ s.boot.repairs → field r 0 1 = 2)

/-- A session step whose turn it is: the partial session the request names, in time (R392). -/
def atStep (s : State) (q : OckReq) (step : Nat) (sid : Nat) (x : Session) : Prop :=
  q.f 0 2 = sid ∧ s.session sid = some x ∧ x.step = step ∧ s.ticks ≤ x.last + 6000

/-- Opening a session (R392, Table OCK-5): an offer starts one with fresh values; the proof signs T1 with the alias key; the key step
derives the MAC keys and forgets the seed; a signature of the registered operator key opens it. At most 4 sessions; no entropy is
INTERNAL; a step out of turn or late is STALE and ends the partial session. -/
def SessionSetUp : Prop :=
  (∀ (s u : State) (q : OckReq), passes s 0x0110 q u →
    (4 ≤ s.thm.sessions.length → refused .sessionOffer s q u stNoResource 0xFFFF) ∧
    (s.thm.sessions.length < 4 → s.entropyOk = false → refused .sessionOffer s q u stInternal 0xFFFF) ∧
    (s.thm.sessions.length < 4 → s.entropyOk = true → ∃ w r, replies .sessionOffer s q w r ∧ r.length = 1220 ∧ onlyThimble s w ∧
      s.session (field r 0 2) = none ∧ ∃ x, w.session (field r 0 2) = some x ∧ x.step = 1 ∧ x.last = s.ticks ∧ x.mreq = [] ∧ x.kept = [] ∧
        x.t1 = Config.shake256 (asciiBytes "ZP192-OCKO" ++ q.payload ++ (r.drop 4).take 32 ++ r.take 2 ++ r.drop 36) 64)) ∧
  (∀ (s u : State) (q : OckReq) (sid : Nat) (x : Session), passes s 0x0111 q u → atStep s q 1 sid x →
    (Config.signAborts s.fresh = false → ∃ w, replies .sessionProof s q w (padTo 3309 (Config.mlDsaSign ((s.slot 1).take 32) x.t1 s.fresh)) ∧
      onlyThimble s w ∧ w.session sid = some { x with step := 2, last := s.ticks }) ∧
    (Config.signAborts s.fresh = true → refused .sessionProof s q u stInternal 0xFFFF)) ∧
  (∀ (s u : State) (q : OckReq) (sid : Nat) (x : Session), passes s 0x0112 q u → atStep s q 2 sid x →
    let ct := (q.payload.drop 4).take 1088
    let h := Config.shake256 ct 64
    let m := padTo 64 (Config.shake256 (Config.mlKemDecaps x.seed ct ++ asciiBytes "ZP192-OCKS" ++ x.t1 ++ h) 64)
    ∃ w, exec .sessionKey s = .next (w.reply (q.inSession sid) stOk w.stitch []) ∧ onlyThimble s w ∧
      w.session sid = some { x with step := 3, last := s.ticks, seed := [], ctHash := h, mreq := m.take 32, mrep := m.drop 32 }) ∧
  (∀ (s u : State) (q : OckReq) (sid : Nat) (x : Session), passes s 0x0113 q u → atStep s q 3 sid x → q.session = some sid →
    let key := s.thm.conf.opkey
    let signed := key ≠ [] ∧ Config.mlDsaVerify key (Config.shake256 (asciiBytes "ZP192-OCKA" ++ x.t1 ++ x.ctHash) 64)
      ((q.payload.drop 4).take 3309) = true
    (signed → ∃ w, replies .sessionAuth s q w [] ∧ onlyThimble s w ∧ w.session sid = some { x with step := 4, last := s.ticks }) ∧
    (¬signed → refused .sessionAuth s q u stDenied 0xFFFF)) ∧
  ∀ (i : Instr) (op step : Nat) (s u : State) (q : OckReq), (i, op, step) ∈ [(Instr.sessionProof, 0x0111, 1), (.sessionKey, 0x0112, 2),
    (.sessionAuth, 0x0113, 3)] → passes s op q u →
    (s.session (q.f 0 2) = none → refused i s q u stStale 32) ∧
    (op = 0x0113 → ∀ sid x, atStep s q 3 sid x → q.session ≠ some sid → refused i s q (u.dropSession sid) stStale 32) ∧
    (∀ x, s.session (q.f 0 2) = some x → x.step < 4 → (x.step ≠ step ∨ x.last + 6000 < s.ticks) →
      refused i s q (u.dropSession (q.f 0 2)) stStale 32)

/-- Ends of sessions (R392, R393): SESSION_CLOSE, whose reply still goes out; a partial session after 6,000 stitches; an open one idle for
6,000,000. -/
def SessionEnds : Prop :=
  (∀ (s u : State) (q : OckReq), passes s 0x0114 q u → ∃ w, exec .sessionClose s = .next w ∧
    w.sent = (u.reply q stOk u.stitch []).sent ∧ w.mem = (u.reply q stOk u.stitch []).mem ∧
    ∀ sid, q.session = some sid → w.session sid = none) ∧
  ∀ (sid : BitVec 16) (s : State),
    (s.session sid.toNat = none → exec (.sessionStepTimeout sid) s = .next s ∧ exec (.sessionIdleTimeout sid) s = .next s) ∧
    ∀ x, s.session sid.toNat = some x →
      (x.step < 4 ∧ x.last + 6000 < s.ticks → exec (.sessionStepTimeout sid) s = .next (s.dropSession sid.toNat)) ∧
      (¬(x.step < 4 ∧ x.last + 6000 < s.ticks) → exec (.sessionStepTimeout sid) s = .next s) ∧
      (x.step = 4 ∧ x.last + 6000000 ≤ s.ticks → exec (.sessionIdleTimeout sid) s = .next (s.dropSession sid.toNat)) ∧
      (¬(x.step = 4 ∧ x.last + 6000000 ≤ s.ticks) → exec (.sessionIdleTimeout sid) s = .next s)

/-- A certificate of Table THM-12 that passes every check of R359 under an authority's key. -/
def certified (s : State) (key c : List Byte) : Prop :=
  s.thm.fuses.dbglock = false ∧ c.take 4 = asciiBytes "DBGC" ∧ field c 4 2 = 1 ∧ bits (field c 6 2) 14 3 = 0 ∧ field c 60 4 = 0 ∧
  ((field c 6 2).testBit 0 = true ∨ field c 56 4 = 0) ∧ field c 8 16 = s.serial ∧ key ≠ [] ∧
  (c.drop 72).take 64 = Config.shake256 key 64 ∧ Config.mlDsaVerify key (c.take 136) (c.drop 136) = true ∧
  s.stitch < field c 64 8 ∧
  ∃ n, s.thm.nonces.find? (fun m => m.1 == (c.drop 24).take 32) = some n ∧ field c 64 8 ≤ n.2 + 8640000000

/-- A certificate whose layout and serial are right and whose nonce is outstanding. -/
def presented (s : State) (c : List Byte) : Prop :=
  s.thm.fuses.dbglock = false ∧ c.take 4 = asciiBytes "DBGC" ∧ field c 4 2 = 1 ∧ bits (field c 6 2) 14 3 = 0 ∧ field c 60 4 = 0 ∧
  ((field c 6 2).testBit 0 = true ∨ field c 56 4 = 0) ∧ field c 8 16 = s.serial ∧ ∃ n ∈ s.thm.nonces, n.1 = (c.drop 24).take 32

/-- The nonce is no longer outstanding. -/
def consumed (w : State) (c : List Byte) : Prop := ∀ n ∈ w.thm.nonces, n.1 ≠ (c.drop 24).take 32

/-- KEY_STAGE and the three registrations (R358, R374, Table OCK-7): the staged key becomes the key of its purpose, the first without a
certificate, a later one under a certificate of SCOPE 0x8000 that the key in force certifies; the stage is cleared and the Swatch store
takes the key's hash. Without a staged key the command is STALE; a second first registration is DENIED. -/
def KeyRegistration : Prop :=
  (∀ (s u : State) (q : OckReq), passes s 0x0115 q u →
    (q.f 0 1 ≤ 2 → ∃ w, replies .keyStage s q w [] ∧ onlyThimble s w ∧
      SMap.find w.thm.staged (q.f 0 1) = some ((q.payload.drop 8).take 1952)) ∧
    (2 < q.f 0 1 → refused .keyStage s q u stBadParam 32)) ∧
  ∀ (i : Instr) (op k : Nat) (s u : State) (q : OckReq), (i, op, k) ∈ [(Instr.dbgauthRegister, 0x0E05, 0), (.ownerkeyRegister, 0x0A09, 1),
    (.opkeyRegister, 0x0116, 2)] → passes s op q u →
    let cur := s.thm.conf.key k
    let taken := fun (new : List Byte) => ∃ w, replies i s q w [] ∧ w.thm.conf.key k = new ∧ (∀ j, j < 3 → j ≠ k → w.thm.conf.key j = s.thm.conf.key j) ∧
      SMap.find w.thm.staged k = none ∧ w.mem = s.mem ∧ w.regs = s.regs ∧
      (k = 0 → w.sw.pers.dbgauth.toNat = ofLeBytes (Config.shake256 new 64) % 2 ^ 512) ∧
      (k = 1 → w.sw.pers.ownerkey.toNat = ofLeBytes (Config.shake256 new 64) % 2 ^ 512) ∧
      (k = 2 → w.sw.pers.opkey.toNat = ofLeBytes (Config.shake256 new 64) % 2 ^ 512)
    (SMap.find s.thm.staged k = none → refused i s q u stStale 0xFFFF) ∧
    ∀ new, SMap.find s.thm.staged k = some new →
      (q.payload = [] → (cur = [] → taken new) ∧ (cur ≠ [] → refused i s q u stDenied 0xFFFF)) ∧
      (q.payload ≠ [] → q.payload.length ≠ 3445 → refused i s q u stBadLength 16) ∧
      (q.payload.length = 3445 →
        (certified s cur q.payload → field q.payload 6 2 = 0x8000 → taken new) ∧
        (presented s q.payload → ¬certified s cur q.payload → ∃ w, refused i s q w stDenied 0xFFFF ∧ onlyThimble s w ∧
          w.thm.conf = s.thm.conf ∧ consumed w q.payload))

/-- DBG_NONCE (R359): 32 fresh bytes; at most four nonces stay outstanding, the newest ones. -/
def DebugNonces : Prop :=
  ∀ (s u : State) (q : OckReq), passes s 0x0E01 q u →
    (s.entropyOk = true → ∃ w n, replies .dbgNonce s q w n ∧ n.length = 32 ∧ onlyThimble s w ∧ w.thm.nonces.length ≤ 4 ∧
      (s.thm.nonces.length ≤ 3 → w.thm.nonces = s.thm.nonces ++ [(n, s.stitch)]) ∧
      (∀ x xs, s.thm.nonces = x :: xs → xs.length = 3 → w.thm.nonces = xs ++ [(n, s.stitch)])) ∧
    (s.entropyOk = false → refused .dbgNonce s q u stInternal 0xFFFF)

/-- Debug is open on a panel: DBGEVER, and DEBUG_OPEN at every started seat (R360, Table ATT-4). -/
def opensOn (s w : State) (p : Nat) : Prop :=
  (w.panel p).debugEver = true ∧ ∀ e ∈ s.seats, e.1 / 256 = p → e.2.started = true → (p, e.1 % 256, 0, 1) ∈ w.sint

/-- DBG_OPEN and DBG_CONSENT (R359, R360, R362): with every check passed HOST scope opens at once, PANEL scope on a RUNNING tenant once
the tenant has consented to its nonce, before or after, THIMBLE scope only with every tenant EMPTY, and sets the taint and clears slots 1
and 2. The nonce is consumed, also where a later check refuses the certificate. -/
def DebugOpens : Prop :=
  (∀ (s u : State) (q : OckReq), passes s 0x0E02 q u → s.safeHold = false →
    let c := q.payload
    let scope := field c 6 2
    let p := field c 56 4 % 512
    let nonce := (c.drop 24).take 32
    let opened := fun (w : State) => ∃ x ∈ w.thm.dbgs, x.opened = true ∧ x.scope = scope ∧ x.nonce = nonce ∧ x.expiry = field c 64 8
    (certified s s.thm.conf.dbgauth c →
      (scope = 2 → ∃ w, replies .dbgOpen s q w [] ∧ consumed w c ∧ opened w ∧ opensOn s w 0 ∧ w.mem = s.mem) ∧
      (scope = 1 → field c 56 4 = s.handle p → s.pstate p = psRunning → p ≠ 0 →
        ((p, nonce) ∈ s.thm.consents → ∃ w, replies .dbgOpen s q w [] ∧ consumed w c ∧ opened w ∧ opensOn s w p ∧ w.mem = s.mem) ∧
        ((p, nonce) ∉ s.thm.consents → ∃ w, goesOn .dbgOpen s q w [] ∧ consumed w c ∧ w.sint = s.sint ∧
          ∃ x ∈ w.thm.dbgs, x.opened = false ∧ x.panel = p ∧ x.nonce = nonce)) ∧
      (scope = 4 → s.tenantsEmpty = true → ∃ w, replies .dbgOpen s q w [] ∧ consumed w c ∧ opened w ∧ w.thm.taint = true ∧
        w.slot 1 = List.replicate 64 0 ∧ w.slot 2 = List.replicate 64 0) ∧
      (scope = 4 → s.tenantsEmpty = false → ∃ w, refused .dbgOpen s q w stStateConflict 0xFFFF ∧ onlyThimble s w ∧ consumed w c ∧
        w.thm.dbgs = s.thm.dbgs)) ∧
    (presented s c → ¬certified s s.thm.conf.dbgauth c → ∃ w, refused .dbgOpen s q w stDenied 0xFFFF ∧ onlyThimble s w ∧ consumed w c ∧
      w.thm.dbgs = s.thm.dbgs)) ∧
  ∀ (s u : State) (q : OckReq), passes s 0x0E03 q u →
    let p := q.tidx
    let nonce := q.payload.take 32
    (∀ x, s.thm.dbgs.find? (fun y => !y.opened && y.panel == p && y.nonce == nonce) = some x → x.scope = 1 → x.job = none →
      ∃ w, replies .dbgConsent s q w [] ∧ opensOn s w p ∧ ∃ y ∈ w.thm.dbgs, y.opened = true ∧ y.nonce = nonce ∧ y.panel = p) ∧
    (s.thm.dbgs.find? (fun y => !y.opened && y.panel == p && y.nonce == nonce) = none →
      ((∃ m ∈ s.thm.nonces, m.1 = nonce) → ∃ w, replies .dbgConsent s q w [] ∧ onlyThimble s w ∧ (p, nonce) ∈ w.thm.consents) ∧
      ((∀ m ∈ s.thm.nonces, m.1 ≠ nonce) → refused .dbgConsent s q u stStale 32))

/-- A debug session has closed (R361): it is gone, every started seat of its panel gets DEBUG_CLOSE, and the cores it halted run on without
override. -/
def closed (s w : State) (x : DbgSession) : Prop :=
  x ∉ w.thm.dbgs ∧ (x.opened = true → x.scope = 1 →
    (∀ e ∈ s.seats, e.1 / 256 = x.panel → e.2.started = true → (x.panel, e.1 % 256, 0, 2) ∈ w.sint) ∧
    ∀ c ∈ s.debugCores x.panel, ((s.core c).thr0.halted = true ∨ (s.core c).thr1.halted = true) →
      (w.core c).thr0.halted = false ∧ (w.core c).thr1.halted = false ∧ w.rd (cutOvrR c) = 0)

/-- DBG_CLOSE and DEBUG_EXPIRY (R361). -/
def DebugCloses : Prop :=
  (∀ (s u : State) (q : OckReq), passes s 0x0E04 q u →
    (∀ x, s.thm.dbgs.find? (fun y => y.nonce == q.payload.take 32) = some x → x.job = none →
      ∃ w, replies .dbgClose s q w [] ∧ closed s w x ∧ w.mem = s.mem) ∧
    (s.thm.dbgs.find? (fun y => y.nonce == q.payload.take 32) = none → refused .dbgClose s q u stStale 32)) ∧
  ∀ (n : BitVec 256) (s : State),
    (∀ x, s.thm.dbgs.find? (fun y => ofLeBytes y.nonce == n.toNat) = some x →
      (x.expiry ≤ s.stitch → ∃ w, exec (.debugExpiry n) s = .next w ∧ closed s w x ∧ w.mem = s.mem) ∧
      (s.stitch < x.expiry → exec (.debugExpiry n) s = .next s)) ∧
    (s.thm.dbgs.find? (fun y => ofLeBytes y.nonce == n.toNat) = none → exec (.debugExpiry n) s = .next s)

end Sys2Proof.Spec

/-- Ockar's identity commands and sessions (R366, R367, R392, R393, R400, R472, R499, Tables OCK-5 and OCK-7).
Model's choices that it rests on: log entries 50, 77, 79. -/
def Obligations.OckarSessions : Prop :=
  Spec.InfoQuery ∧ Spec.Certificates ∧ Spec.UnitQueries ∧ Spec.SessionSetUp ∧ Spec.SessionEnds

/-- Registered keys and debug certificates (R358–R362, R374).
Model's choices that it rests on: log entries 76, 79, 82. -/
def Obligations.DebugAndKeys : Prop :=
  Spec.KeyRegistration ∧ Spec.DebugNonces ∧ Spec.DebugOpens ∧ Spec.DebugCloses

/-! ### Ockar: panels and contracts -/

namespace Sys2Proof.Spec
open Sys2Proof Sys2Proof.Machine

/-- A Page Owner Table entry of a panel: kind and permissions (Table MEM-7). -/
def owns (u : State) (g p kind : Nat) : Prop := potKind (u.potEntry g) = kind ∧ potPanel (u.potEntry g) = p

/-- The contract in force is the 64 bytes `c`, and PSTATE and the watchdog period show its fields (Table CUT-1). -/
def underContract (u : State) (p : Nat) (c : List Byte) : Prop :=
  (∀ j, j < 8 → u.rd { kind := .cutContract, i := p, j := j } = field c (8 * j) 8) ∧
  u.flag (pstateR p) F.hubPstate.SEALED = (field c 6 1).testBit 0 ∧ u.flag (pstateR p) F.hubPstate.TWIN = (field c 6 1).testBit 1 ∧
  u.fld (pwdogR p) F.hubPwdog.PERIOD = field c 28 2

/-- BUILD (R43, R54, R214, R333, Table OCK-8): the contract comes in force, a save area of a granule for 16 seats and a mailbox granule
become the panel's, its key is valid in every channel in service, the build count rises, and the panel is BUILT at the next boundary. -/
def Builds : Prop :=
  ∀ (s u : State) (q : OckReq), passes s 0x0201 q u →
    let p := q.tidx
    let c := q.payload
    let n := saveGranules c
    let mirrored := decide (field c 12 4 ≠ 0)
    (s.thm.taint = true → refused .build s q u stDenied 0xFFFF) ∧
    (s.thm.taint = false →
      (s.contracted p = true → refused .build s q u stStateConflict 0xFFFF) ∧
      (s.contracted p = false → (∀ x, s.tape.sheet = some x → ∀ a ∈ x.accts, a.panel = p → a.final = false) →
        (∀ st off, u.conRefuse p c = some (.no st off 0) → refused .build s q u st off) ∧
        (u.conRefuse p c = none →
          (s.entropyOk = false → refused .build s q u stInternal 0xFFFF) ∧
          (s.entropyOk = true → ((u.findRun false mirrored n).1 = none → refused .build s q u stNoResource 0xFFFF) ∧
            ∀ g m, (u.findRun false mirrored n).1 = some g → m < u.reservedGranule → isCxl m = false → u.isFree m = true → m ∉ runOf g n →
              (mirrored = true → m ∉ (runOf g n).map (· + u.lowerGranules)) → (∀ h ∈ s.clist, h < 24) → s.clist.length ≤ 24 →
              ∃ w k, goesOn .build s q w [g, k] ∧ underContract w p c ∧ w.pstate p = psEmpty ∧
                (∀ h ∈ runOf g n, owns w h p kSave) ∧ owns w k p kOwned ∧ potR (w.potEntry k) = true ∧ potW (w.potEntry k) = true ∧
                potX (w.potEntry k) = false ∧ w.flag (mbxPageR p) F.mbxPage.EN = true ∧ w.fld (mbxPageR p) F.mbxPage.GRANULE = k % 2 ^ 22 ∧
                (∀ h ∈ s.clist, (w.rd { kind := .mcKvalid, i := h, j := p / 32 }).testBit (p % 32) = true) ∧
                (w.panel p).build = s.sw.pers.build + 1 ∧ (w.panel p).triggers = [(.build, some s.thm.nextJob)] ∧
                (w.panel p).saveBase = some (g * 65536)))))

/-- The granule a launch list names at place `k`. -/
def listed (s : State) (a k : Nat) : Nat := s.memNat (a + 8 * k) 8

/-- LAUNCH (R43, R368): the listed granules must be the panel's STAGE granules, each once; every STAGE granule of a BUILT panel becomes
OWNED with its permissions, by a table shootdown that the launch waits for. -/
def Launches : Prop :=
  ∀ (s u : State) (q : OckReq), passes s 0x0202 q u → SMap.wf (fun _ => 0) s.pot = true →
    let p := q.tidx
    let n := q.f 0 4
    let a := q.f 8 8
    (n = 0 ∨ 16384 < n → refused .launch s q u stBadParam 32) ∧
    (0 < n → n ≤ 16384 →
      (s.pstate p ≠ psBuilt → refused .launch s q u stStateConflict 0xFFFF) ∧
      (s.pstate p = psBuilt → (∀ h, a / 65536 ≤ h → h ≤ (a + 8 * n - 1) / 65536 → owns s h 0 kOwned) →
        ((∀ k, k < n → listed s a k % 65536 = 0 ∧ owns s (listed s a k / 65536) p kStage) →
          (∀ j k, j < k → k < n → listed s a j ≠ listed s a k) →
          ∃ w, goesOn .launch s q w ((List.range n).map fun k => listed s a k / 65536) ∧
            (∀ h, isCxl h = false → owns s h p kStage → owns w h p kOwned ∧ potR (w.potEntry h) = potR (s.potEntry h) ∧
              potW (w.potEntry h) = potW (s.potEntry h) ∧ potX (w.potEntry h) = potX (s.potEntry h)) ∧
            (∀ h, ¬owns s h p kStage → w.potEntry h = s.potEntry h) ∧ w.mem = s.mem ∧ w.regs = s.regs ∧
            ∃ x, w.shoots = s.shoots ++ [x] ∧ x.cmd = some s.thm.nextJob ∧ x.waiting = s.checkers) ∧
        ((∃ k, k < n ∧ (listed s a k % 65536 ≠ 0 ∨ ¬owns s (listed s a k / 65536) p kStage)) ∨
            (∃ j k, j < k ∧ k < n ∧ listed s a j = listed s a k) →
          refused .launch s q u stBadParam 40)))

/-- PAUSE, RESUME, RESET and TEAR: their trigger, and the states of Table PNL-4 they lead out of. -/
inductive LifecycleRow : Instr → (op : Nat) → Trigger → List Nat → Prop where
  | pause : LifecycleRow .pause 0x0203 .pause [psRunning]
  | resume : LifecycleRow .resume 0x0204 .resume [psPaused]
  | reset : LifecycleRow .reset 0x0205 .reset [psRunning, psPaused, psFaulted]
  | tear : LifecycleRow .tear 0x0206 .tear [psBuilt, psRunning, psPaused, psFaulted, psResetting]

/-- Lifecycle commands (R43, R45): the trigger waits for the boundary; a transition that the table does not list is STATE_CONFLICT,
and panel 0 is not paused, reset or torn down; a panel of an OFFLINE bolt stays FAULTED until it is torn down (R184). -/
def LifecycleCommands : Prop :=
  ∀ (i : Instr) (op : Nat) (t : Trigger) (from_ : List Nat) (s u : State) (q : OckReq), LifecycleRow i op t from_ → passes s op q u →
    (q.tidx = 0 → op ≠ 0x0204 → refused i s q u stDenied 0xFFFF) ∧
    (q.tidx ≠ 0 ∨ op = 0x0204 →
      (s.pstate q.tidx ∈ from_ → s.stranded q.tidx t = false → ∃ w, goesOn i s q w [] ∧
        w = u.setPanel q.tidx { u.panel q.tidx with triggers := (u.panel q.tidx).triggers ++ [(t, some s.thm.nextJob)] }) ∧
      (s.pstate q.tidx ∉ from_ ∨ s.stranded q.tidx t = true → refused i s q u stStateConflict 0xFFFF)) ∧
    (s.stranded q.tidx t = true ↔ t ≠ .tear ∧ s.pstate q.tidx = psFaulted ∧ s.boltState (s.panelBolt q.tidx) = 4)

/-- PANEL_QUERY (Table OCK-8). -/
def PanelQueries : Prop :=
  ∀ (s u : State) (q : OckReq), passes s 0x0207 q u → s.handle q.tidx < 2 ^ 32 →
    let p := q.tidx
    ∃ r : List Byte, replies .panelQuery s q u r ∧ r.length = 26 ∧ field r 0 1 = s.pstate p ∧
      (field r 1 1).testBit 0 = s.flag (pstateR p) F.hubPstate.SEALED ∧ (field r 1 1).testBit 1 = s.flag (pstateR p) F.hubPstate.TWIN ∧
      (field r 1 1).testBit 2 = s.flag (pstateR p) F.hubPstate.SPAN ∧ field r 2 1 = s.fld (pfaultR p) F.hubPfault.CAUSE % 256 ∧
      field r 3 1 = s.fld (pfaultR p) F.hubPfault.RESETS % 256 ∧ field r 4 4 = s.handle p ∧ field r 8 8 = (s.panel p).build % 2 ^ 64 ∧
      field r 24 2 = (s.seats.filter fun e => e.1 / 256 == p && e.2.started).length % 2 ^ 16

/-- Functions (R297, R298, Table HIO-4): FN_ASSIGN fills a free entry, with BME set, where no other panel has a function below the port and
the function is not assigned; FN_RELEASE issues a function-level reset and removes the panel's entry. -/
def FunctionCommands : Prop :=
  (∀ (s u : State) (q : OckReq), passes s 0x0208 q u →
    let rp := q.f 0 1
    let rid := q.f 2 2
    let k := rp / 4
    rp < 16 → (bifPorts (s.fld { kind := .hpCfg, i := k } F.hpCfg.BIF)).testBit (rp % 4) = true → q.f 4 4 ≤ q.f 8 4 → q.f 8 4 < 2 ^ 18 →
    q.f 12 1 ≤ 1 → s.panelGone q.tidx = false →
    (∀ e, e < 512 → s.flag (func0R k e) F.hpFunc0.V = true → s.fld (func0R k e) F.hpFunc0.RP = rp →
      s.fld (func0R k e) F.hpFunc0.PANEL = q.tidx) →
    ((∃ e, e < 512 ∧ s.flag (func0R k e) F.hpFunc0.V = true ∧ s.fld (func0R k e) F.hpFunc0.RP = rp ∧ s.fld (func0R k e) F.hpFunc0.RID = rid) →
      refused .fnAssign s q u stStateConflict 34) ∧
    ((∀ e, e < 512 → s.flag (func0R k e) F.hpFunc0.V = true → s.fld (func0R k e) F.hpFunc0.RP = rp → s.fld (func0R k e) F.hpFunc0.RID ≠ rid) →
      (∃ e, e < 512 ∧ s.flag (func0R k e) F.hpFunc0.V = false) → ∃ w e, e < 512 ∧ s.flag (func0R k e) F.hpFunc0.V = false ∧
        replies .fnAssign s q w (leBytes 2 e) ∧ w.flag (func0R k e) F.hpFunc0.V = true ∧ w.flag (func0R k e) F.hpFunc0.BME = true ∧
        w.fld (func0R k e) F.hpFunc0.PANEL = q.tidx ∧ w.fld (func0R k e) F.hpFunc0.RP = rp ∧ w.fld (func0R k e) F.hpFunc0.RID = rid ∧
        w.fld (func0R k e) F.hpFunc0.ROK = q.f 12 1 ∧ w.fld (func1R k e) F.hpFunc1.WBASE = q.f 4 4 ∧
        w.fld (func1R k e) F.hpFunc1.WLIMIT = q.f 8 4 ∧ w.mem = s.mem)) ∧
  ∀ (s u : State) (q : OckReq), passes s 0x0209 q u →
    let rp := q.f 0 1
    (16 ≤ rp ∨ s.funcAt rp (q.f 2 2) = none → refused .fnRelease s q u stBadParam 32) ∧
    ∀ e, rp < 16 → s.funcAt rp (q.f 2 2) = some e →
      (s.fld (func0R (rp / 4) e) F.hpFunc0.PANEL ≠ q.tidx → refused .fnRelease s q u stNotOwner 34) ∧
      (s.fld (func0R (rp / 4) e) F.hpFunc0.PANEL = q.tidx → (∀ o, s.muted o = false) → ∃ w, replies .fnRelease s q w [] ∧
        w.rd (func0R (rp / 4) e) = 0 ∧ w.sent = s.sent ++ [.pcie rp (.flr (q.f 2 2))] ∧ w.mem = s.mem)

/-- MEMBER_EVENT (R61, R395): a notice from a listed member; with fate sharing the panel goes FAULTED at the next boundary, else its lowest
vector becomes pending; from any other sender it is DENIED. -/
def MemberEvents : Prop :=
  ∀ (s u : State) (q : OckReq) (m tag : Nat) (sid : Option Nat), passes s 0x0220 q u → q.via = .weft m tag sid →
    let p := q.tidx
    let member := ∃ e ∈ (s.panel p).members, e.1 = m ∧ e.1 * 512 + e.2 = hdRequester q.head
    (¬member → refused .memberEvent s q u stDenied 0xFFFF) ∧
    (member → 1 ≤ q.f 4 1 → q.f 4 1 ≤ 7 → s.panelGone p = false →
      ((s.ct p 6 1).testBit 2 = true → ∃ w, replies .memberEvent s q w [] ∧
        w = u.setPanel p { u.panel p with triggers := (u.panel p).triggers ++ [(.fault (q.f 4 1), none)] }) ∧
      ((s.ct p 6 1).testBit 2 = false → ∃ w, replies .memberEvent s q w [] ∧ w.flag { kind := .icVec, i := p } F.icVec.PEND = true ∧
        w = { u with regs := w.regs }))

/-- CONTRACT_SET and CONTRACT_GET (R312, R313): a contract that passes R312 comes in force, but BOLT, SEALED and TWIN change only while
the panel is BUILT; the contract in force is read back. -/
def ContractCommands : Prop :=
  (∀ (s u : State) (q : OckReq), passes s 0x0301 q u →
    let p := q.tidx
    let c := q.payload
    let old := s.contract p
    (∀ st off, u.conRefuse p c = some (.no st off 0) → refused .contractSet s q u st off) ∧
    (u.conRefuse p c = none →
      (s.panelGone p = true → refused .contractSet s q u stStateConflict 0xFFFF) ∧
      (s.panelGone p = false →
        (s.pstate p = psBuilt ∨ (field c 6 1 % 4 = field old 6 1 % 4 ∧ field c 19 1 = field old 19 1) →
          ∃ w, replies .contractSet s q w [] ∧ underContract w p c ∧ w.pstate p = s.pstate p ∧ w.mem = s.mem ∧ w.thm = u.thm) ∧
        (s.pstate p ≠ psBuilt → field c 6 1 % 4 ≠ field old 6 1 % 4 → refused .contractSet s q u stStateConflict 38) ∧
        (s.pstate p ≠ psBuilt → field c 6 1 % 4 = field old 6 1 % 4 → field c 19 1 ≠ field old 19 1 →
          refused .contractSet s q u stStateConflict 51)))) ∧
  ∀ (s u : State) (q : OckReq), passes s 0x0302 q u → ∃ r : List Byte, replies .contractGet s q u r ∧ r.length = 64 ∧
    ∀ j, j < 8 → field r (8 * j) 8 = s.rd { kind := .cutContract, i := q.tidx, j := j }

/-- OVERRIDE and CUTTER_READ (R326, Table OCK-9): CUT.OVR of a core is cleared, withholds it or pins it to a seat of a panel of its
bolt (R41); CUT.PSTAT of the panels
asked for is read. -/
def CutterCommands : Prop :=
  (∀ (s u : State) (q : OckReq), passes s 0x0303 q u →
    let r := cutOvrR q.tidx
    let sets := fun (P : State → Prop) => ∃ w, replies .override s q w [] ∧ w = { u with regs := w.regs } ∧ P w
    (q.f 0 1 = 0 → sets fun w => w.rd r = 0) ∧
    (q.f 0 1 = 1 → sets fun w => w.flag r F.cutOvr.EN = true ∧ w.flag r F.cutOvr.WITHHOLD = true) ∧
    (q.f 0 1 = 2 → q.f 2 2 ≤ 511 →
      (s.panelGone (q.f 2 2) = true → refused .override s q u stStateConflict 0xFFFF) ∧
      (s.panelGone (q.f 2 2) = false → q.f 1 1 < (s.panel (q.f 2 2)).seats → s.panelBolt (q.f 2 2) ≠ s.boltOf q.tidx →
        refused .override s q u stStateConflict 0xFFFF) ∧
      (s.panelGone (q.f 2 2) = false → q.f 1 1 < (s.panel (q.f 2 2)).seats → s.panelBolt (q.f 2 2) = s.boltOf q.tidx → sets fun w => w.flag r F.cutOvr.EN = true ∧
        w.flag r F.cutOvr.WITHHOLD = false ∧ w.fld r F.cutOvr.PANEL = q.f 2 2 ∧ w.fld r F.cutOvr.SEAT = q.f 1 1)) ∧
    (2 < q.f 0 1 → refused .override s q u stBadParam 32)) ∧
  ∀ (s u : State) (q : OckReq), passes s 0x0304 q u →
    let p := q.f 0 2
    let n := q.f 2 2
    (0 < n → n ≤ 504 → p + n ≤ 512 → ∃ r : List Byte, replies .cutterRead s q u r ∧ r.length = 8 * n ∧
      ∀ k, k < n → field r (8 * k) 8 = s.rd { kind := .cutPstat, i := p + k }) ∧
    (511 < p → refused .cutterRead s q u stBadParam 32) ∧
    (p ≤ 511 → n = 0 ∨ 504 < n ∨ 512 < p + n → refused .cutterRead s q u stBadParam 34)

end Sys2Proof.Spec

/-- Ockar's panel and contract commands (R43, R45, R54, R61, R214, R297, R298, R41, R184, R312, R326, R333, R368, R395).
Model's choices that it rests on: log entries 35, 52, 68, 79, 81, 121, 127. -/
def Obligations.OckarPanels : Prop :=
  Spec.Builds ∧ Spec.Launches ∧ Spec.LifecycleCommands ∧ Spec.PanelQueries ∧ Spec.FunctionCommands ∧ Spec.MemberEvents ∧
  Spec.ContractCommands ∧ Spec.CutterCommands

/-! ### Ockar: memory -/

namespace Sys2Proof.Spec
open Sys2Proof Sys2Proof.Machine

/-- A free granule, and its copy's where it is to be mirrored (R221). -/
def copyOf (u : State) (h : Nat) : Nat := h + u.lowerGranules

/-- GRANT (R59, R217–R221, Table OCK-10): a free run of granules becomes the panel's with the kind and permissions asked for, every byte of
it zero, by a table shootdown that the command waits for; copies of a mirrored run are MCOPY. The contract's MEMG and MIRG bound it. -/
def GranuleGrants : Prop :=
  ∀ (s u : State) (q : OckReq), passes s 0x0401 q u →
    let p := q.tidx
    let n := q.f 0 4
    let kind := q.f 4 1
    let perm := q.f 5 1
    let mir := q.f 6 1
    let sp := q.f 7 1
    let have_ := (u.granted p).length
    0 < n → (kind = kOwned ∨ (kind = kStage ∧ sp = 0)) → perm < 8 → mir ≤ 1 → sp ≤ 1 → ¬(mir = 1 ∧ sp = 1) →
    (s.panelGone p = true → refused .grant s q u stStateConflict 0xFFFF) ∧
    (s.panelGone p = false → sp = 0 → s.ct p 8 4 < have_ + n → refused .grant s q u stNoResource 32) ∧
    (s.panelGone p = false → sp = 1 → s.ct p 40 4 < (u.held p true [kOwned]).length + n → refused .grant s q u stNoResource 32) ∧
    (s.panelGone p = false → (sp = 0 → have_ + n ≤ s.ct p 8 4) → (sp = 1 → (u.held p true [kOwned]).length + n ≤ s.ct p 40 4) →
      (mir = 1 → ((u.granted p).filter fun g => potMir (s.potEntry g)).length + n ≤ s.ct p 12 4) →
      ((u.findRun (sp == 1) (mir == 1) n).1 = none → refused .grant s q u stNoResource 0xFFFF) ∧
      ∀ g, (u.findRun (sp == 1) (mir == 1) n).1 = some g → ∃ w x, goesOn .grant s q w [g * 65536] ∧
        w.shoots = s.shoots ++ [x] ∧ x.cmd = some s.thm.nextJob ∧ x.waiting = s.checkers ∧
        (∀ h ∈ runOf g n, u.isFree h = true ∧ owns w h p kind ∧ potR (w.potEntry h) = perm.testBit 0 ∧
          potW (w.potEntry h) = perm.testBit 1 ∧ potX (w.potEntry h) = perm.testBit 2 ∧ potMir (w.potEntry h) = (mir == 1) ∧
          ∀ b, b < 65536 → w.byte (h * 65536 + b) = 0) ∧
        (mir = 1 → ∀ h ∈ runOf g n, owns w (copyOf s h) p kMcopy ∧ ∀ b, b < 65536 → w.byte (copyOf s h * 65536 + b) = 0) ∧
        (∀ a, a / 65536 ∉ runOf g n → (mir = 1 → ∀ h ∈ runOf g n, a / 65536 ≠ copyOf s h) → w.byte a = s.byte a))

/-- RELEASE (R220, Table OCK-10): granules that GRANT gave become FREE, or OFFLINE where that is due, with their copies; a range with any
other granule is BAD_PARAM. -/
def Releases : Prop :=
  ∀ (s u : State) (q : OckReq), passes s 0x0402 q u →
    let p := q.tidx
    let a := q.f 0 8
    let n := q.f 8 4
    let g := a / 65536
    0 < n → s.pstate p ≠ psTearing →
    (a % 65536 ≠ 0 ∨ (∃ h ∈ runOf g n, u.releasable p h = false) → refused .release s q u stBadParam 32) ∧
    (a % 65536 = 0 → (∀ h ∈ runOf g n, u.releasable p h = true) → ∃ w x, goesOn .release s q w [g, n, 0] ∧
      w.shoots = s.shoots ++ [x] ∧ x.cmd = some s.thm.nextJob ∧
      (∀ h ∈ runOf g n, potKind (w.potEntry h) = if h ∈ s.toOffline then kOffline else kFree) ∧
      (∀ h ∈ runOf g n, potMir (s.potEntry h) = true → potKind (w.potEntry (copyOf s h)) = if copyOf s h ∈ s.toOffline then kOffline else kFree) ∧
      (∀ h, h ∉ runOf g n → (∀ k ∈ runOf g n, potMir (s.potEntry k) = true → h ≠ copyOf s k) → w.potEntry h = s.potEntry h) ∧ w.mem = s.mem)

/-- What RELEASE may free: a granule of the panel that is OWNED, or STAGE in protected memory, and not its mailbox granule. -/
def Releasable : Prop :=
  ∀ (s : State) (p g : Nat), s.releasable p g = true ↔
    s.granuleExists g = true ∧ potPanel (s.potEntry g) = p ∧ (potKind (s.potEntry g) = kOwned ∨ (isCxl g = false ∧ potKind (s.potEntry g) = kStage)) ∧
      ¬(s.flag (mbxPageR p) F.mbxPage.EN = true ∧ s.fld (mbxPageR p) F.mbxPage.GRANULE = g)

/-- POT_READ (R212, R217): the entries of up to 2,016 granules, the reserved region's as FIRMWARE and the spare pool's as OFFLINE. -/
def PotReads : Prop :=
  ∀ (s u : State) (q : OckReq), passes s 0x0403 q u →
    let g := q.f 0 8 / 65536
    let n := q.f 8 2
    (n = 0 ∨ 2016 < n → refused .potRead s q u stBadParam 40) ∧
    (0 < n → n ≤ 2016 →
      ((∃ h ∈ runOf g n, s.protTop / 65536 ≤ h ∧ isCxl h = false) → refused .potRead s q u stBadParam 32) ∧
      ((∀ h ∈ runOf g n, h < s.protTop / 65536 ∨ isCxl h = true) → ∃ r : List Byte, replies .potRead s q u r ∧ r.length = 2 * n ∧
        ∀ k, k < n →
          (g + k < s.reservedGranule → field r (2 * k) 2 = s.potEntry (g + k) % 65536) ∧
          (s.reservedGranule ≤ g + k → isCxl (g + k) = false →
            bits (field r (2 * k) 2) 15 13 = kFirmware ∨ bits (field r (2 * k) 2) 15 13 = kOffline)))

/-- POT_SHOOTDOWN_ACK (R219): a checker with no access open under the old entries drops its TLB entries of the granules and
acknowledges; the last one ends the shootdown. One with such an access open waits. -/
def ShootdownAcks : Prop :=
  ∀ (a : Agent) (x : Shoot) (xs : List Shoot) (s : State), s.shoots = x :: xs → a.val ∈ x.waiting →
    let gs := x.old.map (·.1)
    (s.oldAccess a gs = true → exec (.potShootdownAck a) s = .next s) ∧
    (s.oldAccess a gs = false → ∃ w, exec (.potShootdownAck a) s = .next w ∧
      (x.waiting.filter (· ≠ a.val) ≠ [] → ∃ y ys, w.shoots = y :: ys ∧ y.old = x.old ∧ y.waiting = x.waiting.filter (· ≠ a.val)) ∧
      (x.waiting.filter (· ≠ a.val) = [] → x ∉ xs → x.cmd = none → w.shoots = xs ∧ w.mem = s.mem) ∧
      (∀ g ∈ gs, a.val < 192 → ∀ e ∈ (w.core a).tlb, ¬(e.pa * 2 ^ e.size < (g + 1) * 65536 ∧ g * 65536 < (e.pa + 1) * 2 ^ e.size)))

/-- L3_LOCK and L3_UNLOCK (R138, R140): the chosen ways leave every ALLOC field and are cleaned; unlocking clears the panel's LOCK field in
every tile of the bolt. -/
def WayLocks : Prop :=
  (∀ (s u : State) (q : OckReq), passes s 0x0404 q u →
    let p := q.tidx
    let g := q.f 0 8 / 65536
    let n := q.f 8 4
    let w := q.f 12 1
    let tiles := u.sliceList (u.panelBolt p)
    let field_ := fun (z : State) (f : Fld) (t o : Nat) => z.fld { kind := .wrpL3way, i := t, j := o } f
    let fits := ∀ t ∈ tiles, popWays (u.lockChoice t w) = w ∧ ∀ o ∈ u.boltPanels (u.panelBolt p),
      s.ct o 18 1 ≤ popWays ((field_ s F.wrpL3way.ALLOC t o &&& (0xFFFF - u.lockChoice t w)) |||
        (field_ s F.wrpL3way.LOCK t o ||| if o = p then u.lockChoice t w else 0))
    (w = 0 ∨ 8 < w → refused .l3Lock s q u stBadParam 44) ∧
    (0 < w → w ≤ 8 → q.f 0 8 % 65536 = 0 → 0 < n →
      ((∃ h ∈ runOf g n, ¬owns s h p kOwned ∧ ¬owns s h p kStage) → refused .l3Lock s q u stNotOwner 32) ∧
      ((∀ h ∈ runOf g n, owns s h p kOwned ∨ owns s h p kStage) → s.panelGone p = false → (∀ t ∈ tiles, t < 192) →
        (¬fits → refused .l3Lock s q u stNoResource 44) ∧
        (fits → tiles ≠ [] → ∃ v, goesOn .l3Lock s q v (g :: n :: tiles.map fun t => t * 65536 + u.lockChoice t w) ∧
          ∀ t ∈ tiles, ∀ o, o < 512 → field_ v F.wrpL3way.ALLOC t o = field_ s F.wrpL3way.ALLOC t o &&& (0xFFFF - u.lockChoice t w) ∧
            field_ v F.wrpL3way.LOCK t o = field_ s F.wrpL3way.LOCK t o)))) ∧
  ∀ (s u : State) (q : OckReq), passes s 0x0405 q u → (∀ t ∈ u.boltCores (u.panelBolt q.tidx), t < 192) →
    (s.panelGone q.tidx = true → refused .l3Unlock s q u stStateConflict 0xFFFF) ∧
    (s.panelGone q.tidx = false → ∃ w, replies .l3Unlock s q w [] ∧ w = { u with regs := w.regs } ∧
      ∀ t ∈ u.boltCores (u.panelBolt q.tidx), w.fld { kind := .wrpL3way, i := t, j := q.tidx } F.wrpL3way.LOCK = 0)

/-- The caches' tables are in their canonical form. -/
def rising (s : State) : Prop :=
  SMap.risingFrom 0 s.tiles = true ∧ ∀ e ∈ s.tiles, SMap.risingFrom 0 e.2.l2 = true ∧ SMap.risingFrom 0 e.2.l3 = true ∧
    SMap.risingFrom 0 e.2.dir = true

/-- WAY_CLEAN_COMPLETE (R137): the ways that were cleaned hold no line of the slice any more, and the cleaning is over; a slice that is
disabled keeps what it holds (R147). -/
def WaysCleaned : Prop :=
  ∀ (t : Tile) (s : State),
    ((s.tile t).clean = [] → exec (.wayCleanComplete t) s = .next s) ∧
    ∀ j rest, (s.tile t).clean = j :: rest → s.thm.jobs = [] → ∃ w, exec (.wayCleanComplete t) s = .next w ∧ (w.tile t).clean = rest ∧
      (s.l3On t = true → ∀ e ∈ (w.tile t).l3, j.ways.testBit e.2.way = false) ∧ (noStale s → w.mem = s.mem)

/-- RANGE_INV and its end (R141, R220): while a line of the range has a transaction open or a writeback under way it goes on; after it no
home records a line of the range, no slice holds one, no L2 that was recorded holds one in a stable state, and the command is
answered; memory keeps its contents. -/
def RangeInvalidation : Prop :=
  (∀ (s u : State) (q : OckReq), passes s 0x0406 q u →
    let g := q.f 0 8 / 65536
    let n := q.f 8 4
    (q.f 0 8 % 65536 ≠ 0 → refused .rangeInv s q u stBadParam 32) ∧
    (q.f 0 8 % 65536 = 0 → n = 0 → refused .rangeInv s q u stBadParam 40) ∧
    (q.f 0 8 % 65536 = 0 → 0 < n → (∃ h ∈ runOf g n, s.granuleExists h = false) → refused .rangeInv s q u stBadParam 32) ∧
    (q.f 0 8 % 65536 = 0 → 0 < n → (∀ h ∈ runOf g n, s.granuleExists h = true) → goesOn .rangeInv s q u [g, n])) ∧
  (∀ (s : State) (j : Job) (g n : Nat), s.thm.jobs = [j] → j.data = [g, n] → j.op = 0x0406 →
    (s.rangeBusy (runOf g n) = true → exec (.rangeInvComplete none) s = .next s) ∧
    (s.rangeBusy (runOf g n) = false → ∃ w t, exec (.rangeInvComplete none) s = .next w ∧
      w = (State.dropJob t j.id).reply j.q stOk j.start [] ∧ (noStale s → t.mem = s.mem) ∧ t.thm = s.thm ∧
      (rising s → ∀ h l, l / 1024 ∈ runOf g n → (t.dirEnt h l).st = .i ∧ (s.l3On h = true → ((t.tile h).sector l).valid = false) ∧
        ∀ k ∈ s.holders h (s.dirEnt h l), (t.l2 k l).st.stable = false))) ∧
  (∀ s : State, s.thm.jobs = [] → ∀ p, exec (.rangeInvComplete p) s = .next s)

/-- The enable bit of a cache (Table CCH-7): L1I, L1D, L2, L3. -/
def enableBit : Nat → Fld
  | 0 => F.wrpCctl.L1I_EN
  | 1 => F.wrpCctl.L1D_EN
  | 2 => F.wrpCctl.L2_EN
  | _ => F.wrpCctl.L3_EN

/-- CACHE_DISABLE and CACHE_ENABLE (R149): a cache already in the state asked for is answered at once with no change; else the command goes
on. -/
def CacheCommands : Prop :=
  ∀ (i : Instr) (op v : Nat) (s u : State) (q : OckReq), (i, op, v) ∈ [(Instr.cacheDisable, 0x0407, 0), (.cacheEnable, 0x0408, 1)] →
    passes s op q u →
    (3 < q.f 0 1 → refused i s q u stBadParam 32) ∧
    (q.f 0 1 ≤ 3 →
      (s.fld (cctlR q.tidx) (enableBit (q.f 0 1)) = v → replies i s q u []) ∧
      (s.fld (cctlR q.tidx) (enableBit (q.f 0 1)) ≠ v → goesOn i s q u [q.tidx, q.f 0 1, 0]))

/-- INV_COMPLETE (R148, R149, R151): the array's INV bit reads 0; enable bits that waited for it are set, and the snoops and requests that
waited for the array go on; a command that waited for it writes the enable bit and ends. -/
def InvalidationEnds : Prop :=
  ∀ (t : Tile) (a : CacheArray) (inv : Fld) (s : State), (a, inv) ∈ [(CacheArray.dir, F.wrpCctl.INV_DIR), (.l3, F.wrpCctl.INV_L3),
      (.l2, F.wrpCctl.INV_L2), (.l1, F.wrpCctl.INV_L1)] →
    (s.thm.jobs = [] → ∃ w, exec (.invComplete t a) s = .next w ∧ w.flag (cctlR t) inv = false ∧
      ((∀ i ∈ [F.wrpCctl.INV_L3, F.wrpCctl.INV_L2, F.wrpCctl.INV_L1], i ≠ inv → s.flag (cctlR t) i = false) →
        ∀ k, k ≤ 3 → bit (s.tile t).enable k = true → w.flag (cctlR t) (enableBit k) = true) ∧
      ((s.tile t).snpQ = [] → (s.tile t).homeQ = [] → (s.tile t).enable = 0 → w.mem = s.mem ∧ w.sent = s.sent ∧
        ∀ r, w.rd r = (s.setFld (cctlR t) inv 0).rd r)) ∧
    ∀ (j : Job) (k : Nat), s.thm.jobs = [j] → j.op = 0x0407 ∨ j.op = 0x0408 → j.data = [t.val, k, 1] → k ≤ 3 →
      (k ≤ 1 → a = .l1) → (k = 2 → a = .l2 ∧ (j.op = 0x0407 → s.flag (cctlR t) F.wrpCctl.INV_L1 = false)) → (k = 3 → a = .l3) →
      ∃ v, exec (.invComplete t a) s = .next (((State.dropJob v j.id).reply j.q stOk j.start []).arrayReady t) ∧
        v.flag (cctlR t) (enableBit k) = decide (j.op = 0x0408) ∧ v.flag (cctlR t) inv = false

/-- Settings of memory and host ports (R154, R216, R225, R292, R304, Table HIO-7): what each command writes, and the operands it refuses. -/
def MemorySettings : Prop :=
  (∀ (s u : State) (q : OckReq), passes s 0x0409 q u →
    (q.f 0 1 ≤ 2 → ∃ w, replies .boltcfgSet s q w [] ∧ w.fld { kind := .hubBoltcfg } F.hubBoltcfg.NEXT = q.f 0 1 ∧
      w.thm.conf.bolt = q.f 0 1 ∧ w.fld { kind := .hubBoltcfg } F.hubBoltcfg.CUR = s.fld { kind := .hubBoltcfg } F.hubBoltcfg.CUR ∧
      w.mem = s.mem) ∧
    (2 < q.f 0 1 → refused .boltcfgSet s q u stBadParam 32)) ∧
  (∀ (s u : State) (q : OckReq), passes s 0x040A q u →
    let k := q.f 0 1
    (3 < k → refused .hostcfgSet s q u stBadParam 32) ∧
    (k < 2 → q.f 1 1 ≤ 1 → q.f 2 1 ≤ 4 → q.f 3 1 &&& (255 - bifPorts (q.f 2 1)) = 0 → ∃ w, replies .hostcfgSet s q w [] ∧
      w.thm.conf.hostcfg[k]? = some (q.f 1 1 * 2 ^ 31 + q.f 2 1 * 2 ^ 28 + q.f 3 1 * 2 ^ 24) ∧ w.regs = s.regs ∧ w.mem = s.mem) ∧
    (k = 2 ∨ k = 3 → q.f 1 1 ≤ 1 → q.f 2 1 ≤ 4 → ∃ w, replies .hostcfgSet s q w [] ∧
      w.thm.conf.hostcfg[k]? = some (q.f 1 1 * 2 ^ 31 + q.f 2 1 * 2 ^ 28) ∧ w.regs = s.regs ∧ w.mem = s.mem)) ∧
  (∀ (s u : State) (q : OckReq), passes s 0x040B q u →
    let k := q.f 0 1
    let own := q.f 1 1
    let r := fun (c : Nat) => mcReg .mcRegion c k
    (k = 0 ∨ 15 < k → refused .regionSet s q u stBadParam 32) ∧
    (1 ≤ k → k ≤ 15 → q.f 2 1 ≤ 3 → q.f 4 4 < 2 ^ 22 → q.f 8 4 < 2 ^ 22 →
      (own = 0 → ∃ w, replies .regionSet s q w [] ∧ w = { u with regs := w.regs } ∧ ∀ c, c < 24 → w.flag (r c) F.mcRegion.EN = false) ∧
      (own = 2 ∨ own = 3 → q.f 4 4 ≤ q.f 8 4 → (q.f 8 4 < s.reservedGranule ∨ s.protTop / 65536 ≤ q.f 4 4) →
        ∃ w, replies .regionSet s q w [] ∧ w = { u with regs := w.regs } ∧ ∀ c, c < 24 → w.flag (r c) F.mcRegion.EN = true ∧
          w.fld (r c) F.mcRegion.OWNER = own ∧ w.fld (r c) F.mcRegion.BOLT = q.f 2 1 ∧ w.fld (r c) F.mcRegion.BASE = q.f 4 4 ∧
          w.fld (r c) F.mcRegion.LIMIT = q.f 8 4) ∧
      (own = 2 ∨ own = 3 → q.f 4 4 ≤ q.f 8 4 → s.reservedGranule ≤ q.f 8 4 → q.f 4 4 < s.protTop / 65536 →
        refused .regionSet s q u stBadParam 36))) ∧
  (∀ (s u : State) (q : OckReq), passes s 0x040C q u → q.f 0 4 < 4194304 →
    (s.tenantsEmpty = false → refused .rawRead s q u stDenied 0xFFFF) ∧
    (s.tenantsEmpty = true → q.tidx ∈ s.clist → ∃ r : List Byte, replies .rawRead s q u r ∧ r = u.rowBytes q.tidx (q.f 0 4))) ∧
  (∀ (s u : State) (q : OckReq), passes s 0x040D q u →
    (1 ≤ q.f 0 1 → q.f 0 1 ≤ 168 → ∃ w, replies .scrubSet s q w [] ∧ w = { u with regs := w.regs } ∧
      w.fld (mcReg .mcScrub q.tidx) F.mcScrub.PERIOD = q.f 0 1) ∧
    (q.f 0 1 = 0 ∨ 168 < q.f 0 1 → refused .scrubSet s q u stBadParam 32)) ∧
  (∀ (s u : State) (q : OckReq), passes s 0x040E q u →
    let h : Reg := { kind := .hpHdm, i := q.tidx }
    let used := fun (base lim : Nat) => u.hdmGranted base lim = true
    q.f 0 1 ≤ 1 → q.f 2 2 < 2 ^ 14 → q.f 4 2 < 2 ^ 14 → q.f 2 2 ≤ q.f 4 2 →
    (8 ≤ q.tidx → refused .hdmSet s q u stBadParam 12) ∧
    (q.tidx < 8 →
      ((s.flag h F.hpHdm.EN = true ∧ used (s.fld h F.hpHdm.BASE) (s.fld h F.hpHdm.LIMIT)) ∨ (q.f 0 1 = 1 ∧ used (q.f 2 2) (q.f 4 2)) →
        refused .hdmSet s q u stStateConflict 0xFFFF) ∧
      (¬(s.flag h F.hpHdm.EN = true ∧ used (s.fld h F.hpHdm.BASE) (s.fld h F.hpHdm.LIMIT)) → ¬(q.f 0 1 = 1 ∧ used (q.f 2 2) (q.f 4 2)) →
        ∃ w, replies .hdmSet s q w [] ∧ w = { u with regs := w.regs } ∧ w.fld h F.hpHdm.EN = q.f 0 1 ∧ w.fld h F.hpHdm.BASE = q.f 2 2 ∧
          w.fld h F.hpHdm.LIMIT = q.f 4 2))) ∧
  (∀ (s u : State) (q : OckReq), passes s 0x040F q u →
    let r := rpctlR q.tidx
    (q.f 0 1 ≤ 4 → q.f 1 1 ≤ 2 → q.f 2 1 ≤ 5 → q.f 3 1 ≤ 1 → q.f 4 1 ≤ 1 → ∃ w, replies .rpSet s q w [] ∧ w = { u with regs := w.regs } ∧
      w.fld r F.hpRpctl.CTO = q.f 0 1 ∧ w.fld r F.hpRpctl.MPS = q.f 1 1 ∧ w.fld r F.hpRpctl.MRRS = q.f 2 1 ∧
      w.fld r F.hpRpctl.L1EN = q.f 3 1 ∧
      (q.f 4 1 = 1 → s.flag r F.hpRpctl.EN = true → s.unitOut 5 q.tidx = false → w.fld (rpstatR q.tidx) F.hpRpstat.STATE = rpTraining)) ∧
    (4 < q.f 0 1 → refused .rpSet s q u stBadParam 32))

end Sys2Proof.Spec

/-- Ockar's memory commands, shootdowns and cleanings (R59, R137, R138, R140, R141, R147–R149, R151, R154, R217, R219, R220, R225).
Model's choices that it rests on: log entries 19, 51, 52, 85, 123, 125. -/
def Obligations.OckarMemory : Prop :=
  Spec.GranuleGrants ∧ Spec.Releases ∧ Spec.Releasable ∧ Spec.PotReads ∧ Spec.ShootdownAcks ∧ Spec.WayLocks ∧ Spec.WaysCleaned ∧
  Spec.RangeInvalidation ∧ Spec.CacheCommands ∧ Spec.InvalidationEnds ∧ Spec.MemorySettings

/-! ### Ockar: the network engine -/

namespace Sys2Proof.Spec
open Sys2Proof Sys2Proof.Machine

/-- Registers and the engine's tables are all that a command changes beside the reply. -/
def onlyNet (u w : State) : Prop := w = { u with regs := w.regs, net := w.net, fresh := w.fresh }

/-- VP_CREATE, VP_REMOVE and VP_READ (R271, Tables NET-3 and NET-4). -/
def VirtualPorts : Prop :=
  (∀ (s u : State) (q : OckReq), passes s 0x0501 q u →
    let v := q.f 0 2
    let ok := v < 4096 ∧ q.f 2 2 < 4096 ∧ q.f 4 2 < 4096 ∧ q.f 6 1 < 4 ∧ q.f 7 1 < 32 ∧ q.f 8 2 < 1024 ∧ q.f 10 2 < 16384 ∧ q.f 12 1 < 4
    let reserved := ∀ k, k < 8 → q.f (16 + 8 * k) 8 / 2 ^ 48 % 2 ^ 15 = 0 ∧ q.f (80 + 2 * k) 2 / 2 ^ 12 % 8 = 0
    (4096 ≤ v → refused .vpCreate s q u stBadParam 32) ∧
    (ok → reserved → (s.panelGone q.tidx = true ∨ s.vpUp v = true) → refused .vpCreate s q u stStateConflict 0xFFFF) ∧
    (ok → reserved → s.panelGone q.tidx = false → s.vpUp v = false → ∃ w, replies .vpCreate s q w [] ∧ w = { u with regs := w.regs } ∧
      w.vpUp v = true ∧ w.vpPanel v = q.tidx ∧ w.fld (vpctlR v) F.neVpctl.SWD = q.f 2 2 ∧ w.fld (vpctlR v) F.neVpctl.PVID = q.f 4 2 ∧
      w.flag (vpctlR v) F.neVpctl.TAGGED = (q.f 6 1).testBit 0 ∧ w.flag (vpctlR v) F.neVpctl.UPLEN = (q.f 6 1).testBit 1 ∧
      w.fld (vpctlR v) F.neVpctl.UPL = q.f 7 1 ∧ w.fld (vpctlR v) F.neVpctl.TMPL = q.f 8 2 ∧
      w.fld (vpbobR v) F.neVpbob.DEFBOB = q.f 10 2 ∧ w.fld (vpbobR v) F.neVpbob.RSSN = q.f 12 1 ∧ w.rd (vpdropR v) = 0 ∧
      (∀ k, k < 8 → w.rd (vpmacR v k) = q.f (16 + 8 * k) 8 ∧ w.rd (vpvlanR v k) = q.f (80 + 2 * k) 2) ∧
      ∀ x, x < 4096 → x ≠ v → w.rd (vpctlR x) = s.rd (vpctlR x))) ∧
  (∀ (s u : State) (q : OckReq), passes s 0x0502 q u →
    let v := q.f 0 2
    let own := s.vpUp v = true ∧ s.vpPanel v = q.tidx
    (¬own → refused .vpRemove s q u stBadParam 32) ∧
    (own → ∃ w, replies .vpRemove s q w [] ∧ onlyNet u w ∧ w.vpUp v = false ∧
      (∀ k, k < 8 → w.rd (vpmacR v k) = 0 ∧ w.rd (vpvlanR v k) = 0) ∧ (∀ e ∈ w.net.flows, field e.key 38 2 ≠ v) ∧
      ∀ e ∈ s.net.flows, field e.key 38 2 ≠ v → e ∈ w.net.flows)) ∧
  (∀ (s u : State) (q : OckReq), passes s 0x0503 q u →
    let v := q.f 0 2
    let own := s.vpUp v = true ∧ s.vpPanel v = q.tidx
    (v < 4096 → ¬own → q.isPanel = true → q.isHost = false → refused .vpRead s q u stNotOwner 32) ∧
    (own → ∃ r : List Byte, replies .vpRead s q u r ∧ r.length = 128 ∧ field r 0 8 = s.rd (vpctlR v) ∧ field r 8 8 = s.rd (vpbobR v) ∧
      (∀ k, k < 8 → field r (16 + 8 * k) 8 = s.rd (vpmacR v k) ∧ field r (80 + 2 * k) 2 = s.rd (vpvlanR v k)) ∧
      field r 96 8 = s.rd (vpdropR v) ∧ field r 104 24 = 0))

/-- RMAC_SET, TMPL_SET, VTEP_SET and VNI_SET (R273, R278, R280): the tables that the host manager writes. -/
def HostTables : Prop :=
  (∀ (s u : State) (q : OckReq), passes s 0x0504 q u →
    let e : RemoteMac := { swd := q.f 0 2, vlan := q.f 2 2, mac := q.f 4 6, module := q.f 10 2, vp := q.f 12 2 }
    let rest := s.net.rmacs.filter fun x => x.swd ≠ e.swd ∨ x.vlan ≠ e.vlan ∨ x.mac ≠ e.mac
    let ok := e.swd < 4096 ∧ e.vlan < 4096 ∧ e.module < 4096 ∧ e.vp < 4096
    (4096 ≤ e.swd → refused .rmacSet s q u stBadParam 32) ∧
    (ok → q.f 14 1 = 0 → ∃ w, replies .rmacSet s q w [] ∧ w = { u with net := { u.net with rmacs := rest } }) ∧
    (ok → q.f 14 1 = 1 → rest.length < 32768 →
      ∃ w, replies .rmacSet s q w [] ∧ w = { u with net := { u.net with rmacs := rest ++ [e] } }) ∧
    (ok → q.f 14 1 = 1 → 32768 ≤ rest.length → refused .rmacSet s q u stNoResource 0xFFFF)) ∧
  (∀ (s u : State) (q : OckReq), passes s 0x0509 q u →
    let n := q.f 0 2
    (n = 0 ∨ 1023 < n → refused .tmplSet s q u stBadParam 32) ∧
    (1 ≤ n → n ≤ 1023 → q.f 22 2 < 8 → q.f 57 1 < 64 → q.f 61 1 ≤ 8 → ∃ w, replies .tmplSet s q w [] ∧
      w = { u with net := { u.net with tmpls := w.net.tmpls } } ∧ SMap.find w.net.tmpls n = some ((q.payload.drop 8).take 128) ∧
      ∀ k, k ≠ n → SMap.find w.net.tmpls k = SMap.find s.net.tmpls k)) ∧
  (∀ (s u : State) (q : OckReq), passes s 0x050E q u →
    let k := q.f 0 1
    (15 < k → refused .vtepSet s q u stBadParam 32) ∧
    (k ≤ 15 → q.f 1 1 ≤ 1 → ∃ w, replies .vtepSet s q w [] ∧ w = { u with net := { u.net with vtep := w.net.vtep } } ∧
      SMap.find w.net.vtep k = (if q.f 1 1 = 1 then some ((q.payload.drop 16).take 16) else none) ∧
      ∀ j, j ≠ k → SMap.find w.net.vtep j = SMap.find s.net.vtep j)) ∧
  (∀ (s u : State) (q : OckReq), passes s 0x050F q u →
    let n := q.f 0 4
    let rest := SMap.remove s.net.vnis n
    (2 ^ 24 ≤ n → refused .vniSet s q u stBadParam 32) ∧
    (n < 2 ^ 24 → q.f 4 2 < 4096 → q.f 6 1 = 1 → 4096 ≤ rest.length → refused .vniSet s q u stNoResource 0xFFFF) ∧
    (n < 2 ^ 24 → q.f 4 2 < 4096 → q.f 6 1 ≤ 1 → (q.f 6 1 = 1 → rest.length < 4096) → ∃ w, replies .vniSet s q w [] ∧
      w = { u with net := { u.net with vnis := w.net.vnis } } ∧ SMap.find w.net.vnis n = (if q.f 6 1 = 1 then some (some (q.f 4 2)) else none) ∧
      ∀ k, k ≠ n → SMap.find w.net.vnis k = SMap.find s.net.vnis k))

/-- FLOW_ADD, FLOW_DEL and FLOW_READ (R275, R276, R284, Table NET-6). -/
def Flows : Prop :=
  (∀ (s u : State) (q : OckReq), passes s 0x0505 q u →
    let key := q.payload.take 40
    let dir := q.f 37 1
    let v := q.f 38 2
    let act := q.f 40 1
    let target := q.f 42 2
    let meter := q.f 44 2
    let bucket := (crc32c key).toNat % 16384
    let others := s.net.flows.filter fun e => e.key ≠ key
    let add := ∃ w way, replies .flowAdd s q w (leBytes 4 (4 * bucket + way)) ∧ way < 4 ∧ onlyNet u w ∧
      w.net = { u.net with flows := others ++ [{ index := 4 * bucket + way, key := key, act := act, target := target, meter := meter,
                                                 tmpl := q.f 46 2, pkts := 0, bytes := 0 }] }
    let formed := dir ≤ 1 ∧ v < 4096 ∧ act.testBit 4 = true ∧ act < 32 ∧ (act.testBit 3 = true → act = 24) ∧
      (act.testBit 0 = true → target < (if dir = 0 then 4096 else 16384)) ∧ meter < 4096 ∧ q.f 46 2 < 1024
    let room := ∃ way, way < 4 ∧ ∀ e ∈ others, e.index ≠ 4 * bucket + way
    let fresh := ∀ e ∈ s.net.flows, e.key ≠ key
    let steer := act.testBit 0 = true ∧ dir = 1
    let ours := s.flag (bctlR target) F.neBctl.EN = true ∧ s.fld (bctlR target) F.neBctl.VP = v
    (s.foreign 0x0505 q = none → dir ≤ 1 → v < 4096 → act.testBit 3 = true → act % 8 ≠ 0 → refused .flowAdd s q u stBadParam 72) ∧
    (formed → q.isHost = true → s.vpUp v = true →
      (steer → ¬ours → refused .flowAdd s q u stDenied 74) ∧
      ((steer → ours) → fresh → (room → add) ∧ (¬room → refused .flowAdd s q u stNoResource 0xFFFF)) ∧
      ((steer → ours) → ∀ e ∈ s.net.flows, e.key = key → (∀ x ∈ s.net.flows, x.key = key → x = e) → e.index / 4 = bucket → add)) ∧
    (formed → q.isHost = false → ∀ p, q.panel = some p →
      (s.vpUp v = false ∨ s.vpPanel v ≠ p → refused .flowAdd s q u stNotOwner 70) ∧
      (s.vpUp v = true → s.vpPanel v = p → act.testBit 1 = true → (s.meter meter).panel ≠ p → refused .flowAdd s q u stNotOwner 76) ∧
      (s.vpUp v = true → s.vpPanel v = p → (act.testBit 1 = true → (s.meter meter).panel = p) →
        (act.testBit 2 = true → ¬steer → refused .flowAdd s q u stDenied 72) ∧
        (act.testBit 0 = true → dir = 0 → refused .flowAdd s q u stDenied 72) ∧
        (steer → ¬(s.flag (bctlR target) F.neBctl.EN = true ∧ s.bobPanel target = p) → refused .flowAdd s q u stNotOwner 74) ∧
        (act.testBit 2 = false → (act.testBit 0 = true → steer) → (steer → ours ∧ s.bobPanel target = p) → fresh → room → add)))) ∧
  (∀ (s u : State) (q : OckReq), passes s 0x0506 q u →
    let i := q.f 0 4
    let rest := s.net.flows.filter fun x => x.index ≠ i
    (65536 ≤ i → refused .flowDel s q u stBadParam 32) ∧
    (∀ e ∈ s.net.flows, e.index = i → i < 65536 → (∀ x ∈ s.net.flows, x.index = i → x = e) →
      (q.isHost = true → ∃ w, replies .flowDel s q w [] ∧ w = { u with net := { u.net with flows := rest } }) ∧
      (q.isHost = false → ∀ p, q.panel = some p →
        (s.vpPanel (field e.key 38 2) = p → ∃ w, replies .flowDel s q w [] ∧ w = { u with net := { u.net with flows := rest } }) ∧
        (s.vpPanel (field e.key 38 2) ≠ p → refused .flowDel s q u stNotOwner 32)))) ∧
  (∀ (s u : State) (q : OckReq), passes s 0x0507 q u →
    let i := q.f 0 4
    (q.isHost = true → i < 65536 →
      ((∀ e ∈ s.net.flows, e.index ≠ i) → ∃ r : List Byte, replies .flowRead s q u r ∧ r = List.replicate 64 0) ∧
      (∀ e ∈ s.net.flows, e.index = i → (∀ x ∈ s.net.flows, x.index = i → x = e) → e.key.length = 40 → ∃ r : List Byte,
        replies .flowRead s q u r ∧ r.length = 64 ∧ r.take 40 = e.key ∧ field r 40 2 = e.act % 65536 ∧ field r 42 2 = e.target % 65536 ∧
        field r 44 2 = e.meter % 65536 ∧ field r 46 2 = e.tmpl % 65536 ∧ field r 48 8 = e.pkts % 2 ^ 64 ∧ field r 56 8 = e.bytes % 2 ^ 64)))

/-- METER_SET (R277): RATE and BURST of a meter, and from the host manager the panel it is assigned to; the level stays. -/
def Meters : Prop :=
  ∀ (s u : State) (q : OckReq), passes s 0x0508 q u →
    let m := q.f 0 2
    let set := fun (p : Nat) => ∃ w, replies .meterSet s q w [] ∧ onlyNet u w ∧
      w.meter m = { rate := q.f 4 4, burst := q.f 8 4, level := (s.meter m).level, panel := p, drops := (s.meter m).drops } ∧ ∀ k, k ≠ m → w.meter k = s.meter k
    (4096 ≤ m → refused .meterSet s q u stBadParam 32) ∧
    (m < 4096 → q.isHost = true → (q.f 2 2 < 512 → set (q.f 2 2)) ∧ (512 ≤ q.f 2 2 → refused .meterSet s q u stBadParam 34)) ∧
    (m < 4096 → q.isHost = false → ∀ p, q.panel = some p →
      ((s.meter m).panel = p → q.f 2 2 = 0 → set p) ∧ ((s.meter m).panel ≠ p → refused .meterSet s q u stNotOwner 32))

/-- The granules of a ring of `n` bytes at `a` are the panel's, with R and W. -/
def ringOwned (s : State) (p a n : Nat) : Prop :=
  ∀ g, a / 65536 ≤ g → g ≤ (a + n - 1) / 65536 → s.granuleExists g = true ∧ owns s g p kOwned ∧ potR (s.potEntry g) = true ∧
    potW (s.potEntry g) = true

/-- BOB_CREATE, BOB_RINGS and BOB_RESET (R281, R290, Table NET-9). -/
def BobbinCommands : Prop :=
  (∀ (s u : State) (q : OckReq), passes s 0x050A q u →
    let b := q.f 0 2
    let v := q.f 2 2
    let ok := b < 16384 ∧ (s.vpUp v = true ∧ s.vpPanel v = q.tidx) ∧ q.f 4 1 ≤ 3 ∧ (q.f 5 1 = 0 ∨ q.f 5 1 = 1 ∧ q.f 4 1 ≠ 0) ∧
      q.f 6 1 ≤ 10 ∧ q.f 7 1 ≤ 10 ∧ q.f 8 1 ≤ 10 ∧ q.f 10 2 < 2048
    let r := bctlR b
    (b < 16384 → ¬(s.vpUp v = true ∧ s.vpPanel v = q.tidx) → refused .bobCreate s q u stBadParam 34) ∧
    (ok → (s.panelGone q.tidx = true ∨ s.flag r F.neBctl.EN = true) → refused .bobCreate s q u stStateConflict 0xFFFF) ∧
    (ok → s.panelGone q.tidx = false → s.flag r F.neBctl.EN = false → ∃ w, replies .bobCreate s q w [] ∧ onlyNet u w ∧
      w.flag r F.neBctl.EN = true ∧ w.bobState b = bIdle ∧ w.bobPanel b = q.tidx ∧ w.fld r F.neBctl.VP = v ∧
      w.fld r F.neBctl.RBSZ = q.f 4 1 ∧ w.fld r F.neBctl.MSGEN = q.f 5 1 ∧ w.fld r F.neBctl.SQLOG = q.f 6 1 ∧
      w.fld r F.neBctl.RQLOG = q.f 7 1 ∧ w.fld r F.neBctl.CQLOG = q.f 8 1 ∧ w.fld r F.neBctl.VECTOR = q.f 10 2 ∧
      w.rd (sqbaseR b) = 0 ∧ w.rd (rqbaseR b) = 0 ∧ w.rd (cqbaseR b) = 0 ∧ w.bob b = BobSt.init)) ∧
  (∀ (s u : State) (q : OckReq), passes s 0x050B q u →
    let b := q.f 0 2
    let own := s.flag (bctlR b) F.neBctl.EN = true ∧ s.bobPanel b = q.tidx
    let aligned := q.f 8 8 % 64 = 0 ∧ q.f 16 8 % 64 = 0 ∧ q.f 24 8 % 64 = 0
    let sq := ringOwned s q.tidx (q.f 8 8) (32 * s.sqSize b)
    b < 16384 →
    (¬own → q.isPanel = true → q.isHost = false → refused .bobRings s q u stNotOwner 32) ∧
    (own → s.foreign 0x050B q = none → s.bobState b ≠ bIdle → refused .bobRings s q u stStateConflict 0xFFFF) ∧
    (own → s.foreign 0x050B q = none → s.bobState b = bIdle → q.f 8 8 % 64 ≠ 0 → refused .bobRings s q u stBadParam 40) ∧
    (own → q.isPanel = true → q.isHost = false → (∃ g, q.f 8 8 / 65536 ≤ g ∧ g ≤ (q.f 8 8 + 32 * s.sqSize b - 1) / 65536 ∧
      ¬(s.granuleExists g = true ∧ owns s g q.tidx kOwned)) → refused .bobRings s q u stNotOwner 40) ∧
    (own → s.bobState b = bIdle → aligned → sq → ringOwned s q.tidx (q.f 16 8) (16 * s.rqSize b) →
      ringOwned s q.tidx (q.f 24 8) (32 * s.cqSize b) → ∃ w, replies .bobRings s q w [] ∧ w = { u with regs := w.regs } ∧
        w.bobState b = bRun ∧ w.rd (sqbaseR b) = q.f 8 8 ∧ w.rd (rqbaseR b) = q.f 16 8 ∧ w.rd (cqbaseR b) = q.f 24 8)) ∧
  (∀ (s u : State) (q : OckReq), passes s 0x050C q u →
    let b := q.f 0 2
    let own := s.flag (bctlR b) F.neBctl.EN = true ∧ s.bobPanel b = q.tidx
    b < 16384 →
    (¬own → q.isPanel = true → q.isHost = false → refused .bobReset s q u stNotOwner 32) ∧
    (own → s.bobState b ≠ bResetting → SMap.find s.net.bobHits b = none → ∃ w, replies .bobReset s q w [] ∧ onlyNet u w ∧ w.bobState b = bResetting ∧
      w.fld (bstatR b) F.neBstat.CAUSE = 4 ∧ (w.bob b).reset = some 4))

/-- UPLINK_SET (R269, Tables NET-1, NET-2 and NET-5): MODE and PMD of the port, and the sub-port's uplink; only of an Ethernet port. -/
def UplinkSettings : Prop :=
  ∀ (s u : State) (q : OckReq), passes s 0x050D q u →
    let p := q.tidx
    let mode := q.f 0 1
    let sub := q.f 2 1
    let exists_ := (mode = 0 ∧ sub = 0) ∨ (mode = 1 ∧ (sub = 0 ∨ sub = 2)) ∨ (mode = 2 ∧ sub < 4)
    let ok := q.f 1 1 ≤ 1 ∧ exists_ ∧ q.f 3 1 ≤ 3 ∧ q.f 4 2 < 4096
    let r := upcfgR (4 * p + sub)
    (3 ≤ mode → refused .uplinkSet s q u stBadParam 32) ∧
    (mode < 3 → q.f 1 1 ≤ 1 → ¬exists_ → refused .uplinkSet s q u stBadParam 34) ∧
    (ok → s.fld (pctlR p) F.wpPctl.ROLE ≠ 2 → refused .uplinkSet s q u stStateConflict 0xFFFF) ∧
    (ok → s.fld (pctlR p) F.wpPctl.ROLE = 2 → ∃ w, replies .uplinkSet s q w [] ∧ w = { u with regs := w.regs } ∧
      w.fld (ectlR p) F.wpEctl.MODE = mode ∧ w.fld (ectlR p) F.wpEctl.PMD = q.f 1 1 ∧
      w.fld (ectlR p) F.wpEctl.LINKUP = s.fld (ectlR p) F.wpEctl.LINKUP ∧ w.flag r F.neUpcfg.EN = (q.f 3 1).testBit 0 ∧
      w.flag r F.neUpcfg.DECAP = (q.f 3 1).testBit 1 ∧ w.fld r F.neUpcfg.SWD = q.f 4 2)

end Sys2Proof.Spec

/-- Ockar's commands for the network engine (R269, R271, R273, R275–R278, R280, R281, R284, R290).
Model's choices that it rests on: log entries 65, 76. -/
def Obligations.OckarNetwork : Prop :=
  Spec.VirtualPorts ∧ Spec.HostTables ∧ Spec.Flows ∧ Spec.Meters ∧ Spec.BobbinCommands ∧ Spec.UplinkSettings

/-! ### Ockar: fabric, time and Tape -/

namespace Sys2Proof.Spec
open Sys2Proof Sys2Proof.Machine

/-- FAB_CONFIG (R236): kept in the configuration record; no register changes before the next warm or cold reset. -/
def FabricShape : Prop :=
  ∀ (s u : State) (q : OckReq), passes s 0x0601 q u →
    let id := q.f 0 2
    let ok := q.f 2 1 ≤ 15 ∧ q.f 3 1 ≤ 15 ∧ q.f 4 1 ≤ 15 ∧ q.f 5 1 ≤ 1
    let inside := id < 4096 ∧ id / 256 ≤ q.f 2 1 ∧ id / 16 % 16 ≤ q.f 3 1 ∧ id % 16 ≤ q.f 4 1
    (15 < q.f 2 1 → refused .fabConfig s q u stBadParam 34) ∧
    (ok → ¬inside → refused .fabConfig s q u stBadParam 32) ∧
    (ok → inside → ∃ w, replies .fabConfig s q w [] ∧
      w = { u with thm := { u.thm with conf := { u.thm.conf with fab := [id, q.f 2 1, q.f 3 1, q.f 4 1, q.f 5 1, q.f 8 8] } } })

/-- PORT_SET (R235, R267): a change to a live port is refused unless it asks for retraining, which begins a bring-up; the setting is kept
in Thimble's record. -/
def PortSettings : Prop :=
  ∀ (s u : State) (q : OckReq), passes s 0x0602 q u →
    let p := q.tidx
    let r := pctlR p
    let ok := q.f 0 1 ≤ 2 ∧ q.f 1 1 ≤ 2 ∧ q.f 2 1 ≤ 1 ∧ q.f 3 1 ≤ 1
    let change := s.fld r F.wpPctl.ROLE ≠ q.f 0 1 ∨ s.fld r F.wpPctl.DIM ≠ q.f 1 1 ∨ s.fld r F.wpPctl.DIR ≠ q.f 2 1
    let live := s.portUp p = true ∨ (s.fld r F.wpPctl.ROLE = 2 ∧ s.fld (ectlR p) F.wpEctl.LINKUP ≠ 0)
    (2 < q.f 0 1 → refused .portSet s q u stBadParam 32) ∧
    (ok → change → live → q.f 3 1 = 0 → refused .portSet s q u stStateConflict 0xFFFF) ∧
    (ok → (change → live → q.f 3 1 = 1) → ∃ w, replies .portSet s q w [] ∧ w.fld r F.wpPctl.ROLE = q.f 0 1 ∧
      w.fld r F.wpPctl.DIM = q.f 1 1 ∧ w.fld r F.wpPctl.DIR = q.f 2 1 ∧
      SMap.find w.thm.conf.ports p = some (q.f 0 1 * 8 + q.f 1 1 * 2 + q.f 2 1) ∧
      (q.f 3 1 = 1 → w.portUp p = false ∧ w.fld (ectlR p) F.wpEctl.LINKUP = 0) ∧
      (q.f 3 1 = 1 → q.f 0 1 = 1 → s.unitOut 4 p = false → w.fld (pstatR p) F.wpPstat.STATE = lsTraining) ∧
      (¬change → q.f 3 1 = 0 → w = { u with regs := w.regs, thm := w.thm }))

/-- EXPORT and UNEXPORT (R255, R256): an inbound map entry for a granule that the panel OWNS, at an offset that is free; taking it back ends
with a table shootdown. -/
def Exports : Prop :=
  (∀ (s u : State) (q : OckReq), passes s 0x0603 q u →
    let p := q.tidx
    let a := q.f 0 8
    let entry := fun (x : State) (k : Nat) => SMap.get (fun _ => 0) x.weft.inmap k
    let perm := q.f 8 1
    (q.isHost = true → p ≠ 0 → refused .exportAperture s q u stDenied 0xFFFF) ∧
    ((q.isHost = true → p = 0) → s.foreign 0x0603 q = none → (a % 65536 ≠ 0 ∨ s.protTop ≤ a) → refused .exportAperture s q u stBadParam 32) ∧
    ((q.isHost = true → p = 0) → a % 65536 = 0 → a < s.protTop → perm ≤ 3 → s.panelGone p = false →
      (¬owns s (a / 65536) p kOwned → refused .exportAperture s q u stNotOwner 32) ∧
      (owns s (a / 65536) p kOwned →
        ((∀ k, k < 65536 → (entry s k).testBit 63 = true) → refused .exportAperture s q u stNoResource 0xFFFF) ∧
        ((∃ k, k < 65536 ∧ (entry s k).testBit 63 = false) → ∃ w k, replies .exportAperture s q w (leBytes 4 (k * 65536)) ∧ k < 65536 ∧
          w = { u with weft := { u.weft with inmap := w.weft.inmap }, fresh := w.fresh } ∧ (entry s k).testBit 63 = false ∧
          entry w k = 2 ^ 63 + perm % 2 * 2 ^ 62 + perm / 2 * 2 ^ 61 + p * 2 ^ 52 + a / 65536 ∧ ∀ j, j ≠ k → entry w j = entry s j)))) ∧
  (∀ (s u : State) (q : OckReq), passes s 0x0604 q u →
    let k := q.f 0 4 / 65536
    let e := SMap.get (fun _ => 0) s.weft.inmap k
    let ours := e.testBit 63 = true ∧ bits e 60 52 = q.tidx
    (q.f 0 4 % 65536 ≠ 0 → refused .unexport s q u stBadParam 32) ∧
    (q.f 0 4 % 65536 = 0 →
      (¬ours → q.isHost = true → refused .unexport s q u stBadParam 32) ∧
      (¬ours → q.isPanel = true → q.isHost = false → refused .unexport s q u stNotOwner 32) ∧
      (ours → ∃ w x, goesOn .unexport s q w [] ∧ w.shoots = s.shoots ++ [x] ∧ x.cmd = some s.thm.nextJob ∧ x.waiting = s.checkers ∧
        x.old = [(bits e 21 0, s.potEntry (bits e 21 0))] ∧ SMap.find w.weft.inmap k = none ∧
        (∀ j, j ≠ k → SMap.find w.weft.inmap j = SMap.find s.weft.inmap j) ∧ w.mem = s.mem ∧ w.regs = s.regs)))

/-- MEMBER_SET (R257): a panel's member table; PSTATE.SPAN shows whether it lists any member. -/
def Members : Prop :=
  ∀ (s u : State) (q : OckReq), passes s 0x0605 q u →
    let p := q.tidx
    let m := q.f 0 2
    let ok := m < 4096 ∧ q.f 2 2 < 512 ∧ q.f 4 1 ≤ 1
    (4096 ≤ m → refused .memberSet s q u stBadParam 32) ∧
    (ok → s.panelGone p = true → refused .memberSet s q u stStateConflict 0xFFFF) ∧
    (ok → p ≠ 0 → s.panelGone p = false → ∃ w, replies .memberSet s q w [] ∧
      SMap.find (w.panel p).members m = (if q.f 4 1 = 1 then some (q.f 2 2) else none) ∧
      (∀ j, j ≠ m → SMap.find (w.panel p).members j = SMap.find (s.panel p).members j) ∧
      (∀ o, o ≠ p → w.panel o = s.panel o) ∧ w.flag (pstateR p) F.hubPstate.SPAN = !(w.panel p).members.isEmpty ∧ w.pstate p = s.pstate p)

/-- BAR_SET, BAR_CANCEL and ROUTE_READ (R245, R260, R261). -/
def BarriersAndRoutes : Prop :=
  (∀ (s u : State) (q : OckReq), passes s 0x0606 q u →
    let p := q.tidx
    let r := barR (q.f 0 1)
    let ok := q.f 1 1 < 64 ∧ q.f 2 2 < 4096 ∧ 1 ≤ q.f 4 2 ∧ q.f 4 2 ≤ 4096
    (64 ≤ q.f 1 1 → refused .barSet s q u stBadParam 33) ∧
    (ok → p ≠ 0 → (s.panel p).members = [] → refused .barSet s q u stStateConflict 0xFFFF) ∧
    (ok → s.panelGone p = false → (p = 0 ∨ (s.panel p).members ≠ []) → (s.fld r F.wpBar.COUNT = 0 ∨ s.fld r F.wpBar.PANEL = p) →
      ∃ w, replies .barSet s q w [] ∧ w = { u with regs := w.regs } ∧ w.fld r F.wpBar.ROOT = q.f 2 2 ∧ w.fld r F.wpBar.RCTX = q.f 1 1 ∧
        w.fld r F.wpBar.COUNT = q.f 4 2 ∧ w.fld r F.wpBar.PANEL = p ∧ w.fld r F.wpBar.GEN = 0 ∧ w.flag r F.wpBar.ARRIVE = false ∧
        w.flag r F.wpBar.DONE = false ∧ w.rd (barcntR (q.f 0 1)) = 0)) ∧
  (∀ (s u : State) (q : OckReq), passes s 0x0607 q u →
    let r := barR (q.f 0 1)
    let ours := s.fld r F.wpBar.COUNT ≠ 0 ∧ s.fld r F.wpBar.PANEL = q.tidx
    (ours → ∃ w, replies .barCancel s q w [] ∧ w = { u with regs := w.regs } ∧ w.rd r = 0 ∧ w.rd (barcntR (q.f 0 1)) = 0) ∧
    (¬ours → q.isHost = true → refused .barCancel s q u stBadParam 32) ∧
    (¬ours → q.isPanel = true → q.isHost = false → refused .barCancel s q u stNotOwner 32)) ∧
  (∀ (s u : State) (q : OckReq), passes s 0x0608 q u →
    let d := q.f 0 2
    (4096 ≤ d → refused .routeRead s q u stBadParam 32) ∧
    (d < 4096 → ∃ r : List Byte, replies .routeRead s q u r ∧ r.length = 20 ∧ (∀ k, k < 4 → field r (4 * k) 4 = s.rd (routeR d k)) ∧
      field r 16 4 = s.rd (pselR d)))

/-- The Time group (R25, R26, R30, R31, R493, Tables TIM-3 and TIM-4). -/
def TimeCommands : Prop :=
  (∀ (s u : State) (q : OckReq), passes s 0x0701 q u →
    let v := q.f 0 4
    let same := F.tuCtrl.REFSEL.get v = s.fld tuCtrlR F.tuCtrl.REFSEL ∧
      (F.tuCtrl.REFSEL.get v = 2 → F.tuCtrl.PTP_UPL.get v = s.fld tuCtrlR F.tuCtrl.PTP_UPL)
    (F.tuCtrl.REFSEL.get v = 3 → refused .timeCfg s q u stBadParam 32) ∧
    (F.tuCtrl.REFSEL.get v ≠ 3 → ∃ w, replies .timeCfg s q w [] ∧ w.rd tuCtrlR = v ∧ w.tod = s.tod ∧ w.stitch = s.stitch ∧
      (same → F.tuCtrl.FABTIME.get v = s.fld tuCtrlR F.tuCtrl.FABTIME → w.rd tuStatusR = s.rd tuStatusR) ∧ (¬same → w.follower = false → w.flag tuStatusR F.tuStatus.REF_LOST = true))) ∧
  (∀ (i : Instr) (op : Nat) (s u : State) (q : OckReq), (i = .timeSet ∧ op = 0x0702) ∨ (i = .timeStep ∧ op = 0x0703) → passes s op q u →
    let t := q.f 0 8 * 1000000000 + q.f 8 4
    (2 ^ 48 ≤ q.f 0 8 → refused i s q u stBadParam 32) ∧
    (q.f 0 8 < 2 ^ 48 → 1000000000 ≤ q.f 8 4 → refused i s q u stBadParam 40) ∧
    (q.f 0 8 < 2 ^ 48 → q.f 8 4 < 1000000000 →
      (op = 0x0702 → s.committed = true → refused i s q u stStateConflict 0xFFFF) ∧
      (op = 0x0702 → s.committed = false → ∃ w, replies i s q w [] ∧ w = { u with regs := w.regs, time := w.time } ∧ w.tod = t ∧
        w.rd { kind := .tuTodS } = q.f 0 8 ∧ w.rd { kind := .tuStitch } = t / 10000 % 2 ^ 64 ∧ w.rd tuStatusR = s.rd tuStatusR) ∧
      (op = 0x0703 → (∃ p, 0 < p ∧ p < 512 ∧ s.pstate p ≠ psEmpty) → refused i s q u stStateConflict 0xFFFF) ∧
      (op = 0x0703 → (∀ p, 0 < p → p < 512 → s.pstate p = psEmpty) → goesOn i s q u [t]))) ∧
  (∀ (s u : State) (q : OckReq), passes s 0x0704 q u →
    (2 ^ 19 ≤ q.f 0 4 → refused .utcSet s q u stBadParam 34) ∧
    (q.f 0 4 < 2 ^ 19 → ∃ w, replies .utcSet s q w [] ∧ w = { u with regs := w.regs } ∧ w.rd { kind := .tuUtcofs } = q.f 0 4)) ∧
  (∀ (s u : State) (q : OckReq), passes s 0x0705 q u →
    ∃ w, replies .ppsdlySet s q w [] ∧ w = { u with regs := w.regs } ∧ w.rd { kind := .tuPpsdly } = q.f 0 4) ∧
  (∀ (s u : State) (q : OckReq), passes s 0x0706 q u → ∃ r : List Byte, replies .timeRead s q u r ∧ r.length = 40 ∧
    field r 0 4 = s.rd tuStatusR ∧ field r 4 4 = s.rd { kind := .tuOffset } ∧ field r 8 4 = s.rd { kind := .tuFreqadj } ∧ field r 12 4 = 0 ∧
    field r 16 8 * 1000000000 + field r 24 4 = s.tod ∧ field r 24 4 < 1000000000 ∧ field r 28 4 = 0 ∧ field r 32 8 = s.stitch)

/-- SHEET_FETCH and RECORD_FETCH (R334, R337, R499, Table CUT-12). -/
def TapeFetches : Prop :=
  (∀ (s u : State) (q : OckReq), passes s 0x0801 q u →
    let v := q.f 8 8
    let named := fun (x : Signed) => if q.f 0 1 = 0 then x.seq = v else x.minute = v
    (1 < q.f 0 1 → refused .sheetFetch s q u stBadParam 32) ∧
    (q.f 0 1 ≤ 1 → ∀ x ∈ s.sheets, named x → (∀ y ∈ s.sheets, named y → y ≠ x → x.seq < y.seq) →
      replies .sheetFetch s q u (x.hdr ++ x.sig)) ∧
    (q.f 0 1 = 0 → (∀ x ∈ s.sheets, x.seq ≠ v) →
      (s.seqAbove v = true → refused .sheetFetch s q u stBadParam 40) ∧ (s.seqAbove v = false → refused .sheetFetch s q u stStale 40))) ∧
  (∀ (s u : State) (q : OckReq), passes s 0x0802 q u →
    let named := fun (r : List Byte) => field r 0 4 = q.f 4 4 ∧ field r 8 8 = q.f 8 8
    let own := ∀ p, q.panel = some p → q.isHost = false → q.f 4 4 = s.handle p ∧ q.f 8 8 = (s.panel p).build
    (∀ p, q.panel = some p → q.isHost = false → q.f 4 4 ≠ s.handle p → refused .recordFetch s q u stNotOwner 36) ∧
    (own → s.seqAbove (q.f 0 4) = true → refused .recordFetch s q u stBadParam 32) ∧
    (own → s.seqAbove (q.f 0 4) = false →
      ((∀ e ∈ s.tape.records, e.1 ≠ q.f 0 4) → refused .recordFetch s q u stStale 32) ∧
      (∀ (recs : List (List Byte)) (i : Nat) (r : List Byte), (q.f 0 4, recs) ∈ s.tape.records →
        (∀ e ∈ s.tape.records, e.1 = q.f 0 4 → e.2 = recs) → recs[i]? = some r → named r → (∀ j x, j < i → recs[j]? = some x → ¬named x) →
        recs.length ≤ 1024 → ∃ path : List (List Byte), replies .recordFetch s q u (r ++ leBytes 2 i ++ leBytes 1 path.length ++ [0] ++ path.flatten) ∧
          climb 11 (leafOf r) i recs.length path = some (treeRoot 11 (recs.map leafOf)))))

end Sys2Proof.Spec

/-- Ockar's fabric, time and Tape commands (R25, R30, R31, R235, R236, R255–R257, R260, R261, R337, R499).
Model's choices that it rests on: log entries 32, 81, 82. -/
def Obligations.OckarFabric : Prop :=
  Spec.FabricShape ∧ Spec.PortSettings ∧ Spec.Exports ∧ Spec.Members ∧ Spec.BarriersAndRoutes ∧ Spec.TimeCommands ∧ Spec.TapeFetches

/-! ### Ockar: attestation and firmware -/

namespace Sys2Proof.Spec
open Sys2Proof Sys2Proof.Machine

/-- REPORT (R362, R369): refused for a panel without a launched image and under the debug taint; else its reply comes after the next
boundary. -/
def ReportRequests : Prop :=
  ∀ (s u : State) (q : OckReq), passes s 0x0901 q u →
    let st := s.pstate q.tidx
    let none_ := st = psEmpty ∨ st = psBuilt ∨ st = psTearing
    (1 < q.f 128 1 → refused .report s q u stBadParam 160) ∧
    (q.f 128 1 ≤ 1 →
      (none_ → refused .report s q u stStateConflict 0xFFFF) ∧ (¬none_ → s.thm.taint = true → refused .report s q u stDenied 0xFFFF) ∧
      (¬none_ → s.thm.taint = false → goesOn .report s q u []))

/-- The signed bytes of a report (R369, Table ATT-4). -/
def ReportFields : Prop :=
  ∀ (s : State) (p : Nat) (nonce data : List Byte) (kem : Option (List Byte)), p < 512 →
    let r := s.reportBody p nonce data kem
    r.length = 704 ∧ r.take 4 = [0x41, 0x54, 0x52, 0x50] ∧ field r 4 2 = 1 ∧
    (field r 6 2).testBit 0 = s.debugNow p ∧ (field r 6 2).testBit 1 = (s.panel p).debugEver ∧ (field r 6 2).testBit 2 = kem.isSome ∧
    (field r 6 2).testBit 3 = s.flag (pstateR p) F.hubPstate.SPAN ∧ field r 8 4 = s.handle p % 2 ^ 32 ∧ field r 12 1 = s.pstate p ∧
    field r 13 1 = s.fld (pfaultR p) F.hubPfault.RESETS ∧ field r 15 1 = s.thm.fuses.life % 256 ∧
    field r 16 8 = (s.panel p).build % 2 ^ 64 ∧ field r 24 8 = s.stitch ∧ field r 32 16 = s.serial % 2 ^ 128 ∧ field r 48 4 = s.svn % 2 ^ 32 ∧
    field r 52 12 = 0 ∧ (nonce.length = 64 → (r.drop 64).take 64 = nonce) ∧ (r.drop 128).take 64 = digBytes (s.panel p).launch ∧
    (∀ j, j < 8 → field r (192 + 8 * j) 8 = s.rd { kind := .cutContract, i := p, j := j }) ∧
    (r.drop 256).take 64 = padTo 64 Config.mrom ∧ (r.drop 320).take 64 = padTo 64 s.mfw ∧ (r.drop 384).take 64 = digBytes s.thm.fw.mcfg ∧
    (r.drop 448).take 64 = digBytes s.sw.pers.dbgauth ∧ (kem = none → field r 512 64 = 0) ∧
    (∀ ek, kem = some ek → (r.drop 512).take 64 = padTo 64 (Config.shake256 ek 64)) ∧ (data.length = 64 → (r.drop 576).take 64 = data)

/-- OFFER_FETCH, SECRET_ACCEPT and the lapse of an offer (R371, R372). -/
def TenantSecrets : Prop :=
  (∀ (s u : State) (q : OckReq), passes s 0x0902 q u →
    ((s.panel q.tidx).offer = none → refused .offerFetch s q u stStale 0xFFFF) ∧
    (∀ x, (s.panel q.tidx).offer = some x → ∃ r : List Byte, replies .offerFetch s q u r ∧ r.length = 1184 ∧
      r = padTo 1184 (Config.mlKemPub x.seed))) ∧
  (∀ (s u : State) (q : OckReq), passes s 0x0903 q u →
    let p := q.tidx
    let a := q.f 1088 8
    let g := a / 65536
    let mine := s.granuleExists g = true ∧ owns s g p kOwned
    let open_ := potR (s.potEntry g) = true ∧ potW (s.potEntry g) = true
    (¬mine → refused .secretAccept s q u stNotOwner 1120) ∧
    (mine → a % 64 ≠ 0 → refused .secretAccept s q u stBadParam 1120) ∧
    (a % 64 = 0 →
      (mine → ¬open_ → refused .secretAccept s q u stBadParam 1120) ∧
      (mine → open_ →
        ((s.panel p).offer = none → refused .secretAccept s q u stStale 0xFFFF) ∧
        (∀ x, (s.panel p).offer = some x → ∃ w, replies .secretAccept s q w [] ∧ (w.panel p).offer = none ∧
          w.bytes a 64 = padTo 64 (Config.shake256 (Config.mlKemDecaps x.seed (q.payload.take 1088) ++ asciiBytes "ZP192-TSEC" ++
            leBytes 4 (s.handle p) ++ leBytes 8 (s.panel p).build ++ x.nonce) 64) ∧
          (∀ b, ¬(a ≤ b ∧ b < a + 64) → w.byte b = s.byte b) ∧ w.regs = s.regs)))) ∧
  (∀ (p : Panel) (s : State),
    ((s.panel p).offer = none → exec (.offerLapse p) s = .next s) ∧
    (∀ x, (s.panel p).offer = some x →
      (s.stitch < x.stitch + 6000000 → exec (.offerLapse p) s = .next s) ∧
      (x.stitch + 6000000 ≤ s.stitch → ∃ w, exec (.offerLapse p) s = .next w ∧ w = s.setPanel p { s.panel p with offer := none } ∧
        (w.panel p).offer = none)))

/-- An image that passes the check (R373): each step holds. -/
def ImageChecks : Prop :=
  ∀ (s : State) (b : FlashBank), s.checkImage b = 0 →
    let hdr := b.read 0 512
    let n := field hdr 12 4
    let msig := b.read (512 + n) 3309
    hdr.take 4 = [0x5A, 0x50, 0x46, 0x57] ∧ field hdr 4 2 = 1 ∧ field hdr 6 2 ≤ 1 ∧ field hdr 162 30 = 0 ∧ field hdr 448 64 = 0 ∧
    n % 64 = 0 ∧ n ≤ 130016256 ∧ 1 ≤ field hdr 160 2 ∧ field hdr 160 2 ≤ 16 ∧
    1 ≤ field hdr 8 4 ∧ s.thm.fuses.rollback ≤ field hdr 8 4 ∧ field hdr 8 4 ≤ 64 ∧
    (∃ k, k < 4 ∧ Config.shake256 (Config.fwKeys k) 64 = (hdr.drop 96).take 64 ∧ s.thm.fuses.revoked.testBit k = false ∧
      Config.mlDsaVerify (Config.fwKeys k) hdr msig = true) ∧
    (s.thm.conf.ownerkey ≠ [] → field hdr 6 2 = 1 ∧
      Config.mlDsaVerify s.thm.conf.ownerkey (hdr ++ msig) (b.read (512 + n + 3309) 3309) = true) ∧
    Config.shake256 (b.read 512 n) 64 = (hdr.drop 32).take 64 ∧
    (∀ e ∈ imgSects hdr, field e 4 4 % 64 = 0 ∧ field e 4 4 + field e 8 4 ≤ n ∧ (field e 0 1 = 1 → field e 8 4 ≤ 458752)) ∧
    ((imgSects hdr).filter fun e => field e 0 1 == 1).length = 1

/-- Only Thimble's firmware record changes beside the reply. -/
def onlyFw (u w : State) : Prop := w = { u with thm := { u.thm with fw := w.thm.fw } }

/-- The commands of an update (R373, R376, R377, R379, Tables ATT-7, ATT-8 and OCK-16). -/
def FirmwareUpdates : Prop :=
  (∀ (i : Instr) (op : Nat) (s u : State) (q : OckReq), (i, op) ∈ [(Instr.imageBegin, 0x0A01), (.imageWrite, 0x0A02), (.imageCheck, 0x0A03), (.activate, 0x0A04)] →
    passes s op q u →
    let k := q.f 0 1
    (1 < k → refused i s q u stBadParam 32) ∧
    (k ≤ 1 → s.thm.recovery = false → k = s.thm.fw.running → refused i s q u stStateConflict 0xFFFF) ∧
    (k ≤ 1 → (s.thm.recovery = true ∨ k ≠ s.thm.fw.running) →
      (s.thm.fw.erasing.isSome = true ∨ (∃ v, s.thm.fw.update = some v ∧ v.1 ≠ k)) → refused i s q u stBusy 0xFFFF)) ∧
  (∀ (s u : State) (q : OckReq), passes s 0x0A01 q u →
    let k := q.f 0 1
    let n := q.f 4 4
    k ≤ 1 → (s.thm.recovery = true ∨ k ≠ s.thm.fw.running) → s.thm.fw.erasing = none → (∀ v, s.thm.fw.update = some v → v.1 = k) →
    (n = 0 ∨ 130016256 < n ∨ n % 64 ≠ 0 → refused .imageBegin s q u stBadParam 36) ∧
    (0 < n → n ≤ 130016256 → n % 64 = 0 → ∃ w, goesOn .imageBegin s q w [] ∧ onlyFw u w ∧ w.thm.fw.update = some (k, n) ∧
      w.thm.fw.erasing = some k ∧ w.thm.fw.checked = none ∧ (w.bank k).state = bkEmpty ∧ (w.bank k).magic = false ∧
      w.bank (1 - k) = s.bank (1 - k))) ∧
  (∀ (s : State),
    (s.thm.fw.erasing = none → exec .imageEraseComplete s = .next s) ∧
    (∀ k (j : Job), s.thm.fw.erasing = some k → s.thm.jobs = [j] → j.op = 0x0A01 → ∃ w v, exec .imageEraseComplete s = .next w ∧
      w = (State.dropJob v j.id).reply j.q stOk j.start [] ∧ onlyFw s v ∧ v.thm.fw.erasing = none ∧
      (∀ i, (v.bank k).byte i = 0xFF) ∧ (k ≤ 1 → v.bank (1 - k) = s.bank (1 - k)))) ∧
  (∀ (s u : State) (q : OckReq), passes s 0x0A02 q u →
    let k := q.f 0 1
    let off := q.f 4 4
    let n := q.f 8 2
    ∀ len, k ≤ 1 → (s.thm.recovery = true ∨ k ≠ s.thm.fw.running) → s.thm.fw.erasing = none → s.thm.fw.update = some (k, len) →
    (n = 0 ∨ 4032 < n → refused .imageWrite s q u stBadParam 40) ∧
    (0 < n → n ≤ 4032 → q.payload.length = 32 + n →
      (512 + len + 6618 < off + n → refused .imageWrite s q u stBadParam 36) ∧
      (off + n ≤ 512 + len + 6618 → ∃ w, replies .imageWrite s q w [] ∧ onlyFw u w ∧ w.thm.fw.checked = none ∧
        (∀ j, (w.bank k).byte j = if off ≤ j ∧ j < off + n then (s.bank k).byte j &&& (q.payload.getD (32 + (j - off)) 0) else (s.bank k).byte j) ∧
        w.bank (1 - k) = s.bank (1 - k)))) ∧
  (∀ (s u : State) (q : OckReq), passes s 0x0A03 q u →
    let k := q.f 0 1
    k ≤ 1 → (s.thm.recovery = true ∨ k ≠ s.thm.fw.running) → s.thm.fw.erasing = none → (∀ v, s.thm.fw.update = some v → v.1 = k) →
    ∃ w r, replies .imageCheck s q w [BitVec.ofNat 8 r] ∧ r = s.checkImage (s.bank k) ∧ r ≤ 7 ∧ onlyFw u w ∧
      w.thm.fw = { s.thm.fw with checked := some (k, r) }) ∧
  (∀ (s u : State) (q : OckReq), passes s 0x0A04 q u →
    let k := q.f 0 1
    k ≤ 1 → (s.thm.recovery = true ∨ k ≠ s.thm.fw.running) → s.thm.fw.erasing = none → (∀ v, s.thm.fw.update = some v → v.1 = k) →
    (s.thm.fw.checked = none → refused .activate s q u stStale 0xFFFF) ∧
    (∀ r, s.thm.fw.checked = some (k, r) → r ≠ 0 → refused .activate s q u stStateConflict 0xFFFF) ∧
    (s.thm.fw.checked = some (k, 0) → (s.bank k).magic = false → ∃ w seq, replies .activate s q w (leBytes 4 seq) ∧
      (s.thm.recovery = false → seq = ((s.bank s.thm.fw.running).seq + 1) % 2 ^ 32) ∧ (w.bank k).magic = true ∧ (w.bank k).seq = seq ∧
      (w.bank k).state = bkNew ∧ (w.bank k).tries = 0xFF ∧ (w.bank k).svn = field ((s.bank k).read 8 4) 0 4 ∧
      (∀ i, (w.bank k).byte i = (s.bank k).byte i) ∧ w.thm.fw.update = none ∧ w.bank (1 - k) = s.bank (1 - k) ∧ w.mem = s.mem ∧ w.regs = s.regs))

/-- TRY, COMMIT, FW_STATUS and DECOMMISSION (R365, R376, R377). -/
def FirmwareRuns : Prop :=
  (∀ (s u : State) (q : OckReq), passes s 0x0A05 q u →
    (1 < q.f 0 1 → refused .try s q u stBadParam 32) ∧
    (q.f 0 1 = 0 → (∃ p, 0 < p ∧ p < 512 ∧ s.pstate p ≠ psEmpty) → refused .try s q u stStateConflict 0xFFFF) ∧
    (q.f 0 1 = 1 ∨ (q.f 0 1 = 0 ∧ ∀ p, 0 < p → p < 512 → s.pstate p = psEmpty) → ∃ w, replies .try s q w [] ∧
      w = { u with resetDue := w.resetDue } ∧ (s.resetDue ≠ some .cold → w.resetDue = some .warm) ∧
      (s.resetDue = some .cold → w.resetDue = some .cold))) ∧
  (∀ (s u : State) (q : OckReq), passes s 0x0A06 q u →
    let k := s.thm.fw.running
    (1 < q.f 0 1 → refused .commit s q u stBadParam 32) ∧
    (q.f 0 1 ≤ 1 → ∃ w, replies .commit s q w (leBytes 1 w.thm.fuses.rollback) ∧
      (w.bank k).state = (if (s.bank k).state = bkNew then bkGood else (s.bank k).state) ∧
      w.thm.fuses = { s.thm.fuses with rollback := if q.f 0 1 = 1 then max s.thm.fuses.rollback s.svn else s.thm.fuses.rollback } ∧
      w.mem = s.mem ∧ w.regs = s.regs)) ∧
  (∀ (s u : State) (q : OckReq), passes s 0x0A07 q u →
    (s.thm.fw.erasing = none → ∃ r : List Byte, replies .fwStatus s q u r ∧ r.length = 144 ∧ field r 0 1 = s.thm.fw.running % 256 ∧
      field r 1 3 = 0 ∧ field r 4 1 = s.thm.fuses.rollback % 256 ∧ (r.drop 16).take 64 = (s.bank 0).record ∧ (r.drop 80).take 64 = (s.bank 1).record ∧
      field r 21 1 = (s.bank 0).tries % 256 ∧ field r 20 1 = (s.bank 0).state % 256) ∧
    (s.thm.fw.erasing ≠ none → ∃ w r, exec .fwStatus s = .next (State.reply w q stPending s.stitch r) ∧ w = { u with fresh := w.fresh } ∧
      field r 1 1 = 1 ∧ field r 2 2 < 1000)) ∧
  (∀ (s u : State) (q : OckReq), passes s 0x0A08 q u →
    let i3c := ∃ sid, q.via = .i3c sid
    let empty := ∀ p, 0 < p → p < 512 → s.pstate p = psEmpty
    (¬(i3c ∧ empty) → refused .decommission s q u stDenied 0xFFFF) ∧
    (i3c → empty → ∃ w, replies .decommission s q w [] ∧ w = { u with thm := { u.thm with fuses := { u.thm.fuses with life := 7 } } }))

end Sys2Proof.Spec

/-- Attestation and tenant secrets (R362, R369, R371, R372).
Model's choices that it rests on: log entries 50, 77, 83. -/
def Obligations.Attestation : Prop := Spec.ReportRequests ∧ Spec.ReportFields ∧ Spec.TenantSecrets

/-- Firmware images, banks and updates (R365, R373, R376, R377, R379).
Model's choices that it rests on: log entries 50, 81, 102. -/
def Obligations.Firmware : Prop := Spec.ImageChecks ∧ Spec.FirmwareUpdates ∧ Spec.FirmwareRuns

/-! ### Ockar: power, errors, the Swatch store, self-test -/

namespace Sys2Proof.Spec
open Sys2Proof Sys2Proof.Machine

/-- DOMAIN_SET and PCAP_SET (R324, R326, R351, R448, Table PWR-1). -/
def PowerCommands : Prop :=
  (∀ (s u : State) (q : OckReq), passes s 0x0B01 q u →
    let d := q.f 0 2
    let t := q.f 2 1
    let r := dstatR d
    let withheld := fun (w : State) => w.fld r F.pwrDstat.OCK = t ∧ (t = 0 → w.rd (cutOvrR d) = 0) ∧
      (t ≠ 0 → w.flag (cutOvrR d) F.cutOvr.EN = true ∧ w.flag (cutOvrR d) F.cutOvr.WITHHOLD = true)
    (424 < d → refused .domainSet s q u stBadParam 32) ∧
    (d ≤ 424 → 2 < t → refused .domainSet s q u stBadParam 34) ∧
    (384 ≤ d → d < 388 → t ≤ 2 → refused .domainSet s q u stStateConflict 0xFFFF) ∧
    (192 ≤ d → d < 384 → t = 2 → d - 192 ∉ s.noSlice → refused .domainSet s q u stStateConflict 0xFFFF) ∧
    (388 ≤ d → d < 412 → t = 2 → d - 388 ∈ s.clist → refused .domainSet s q u stStateConflict 0xFFFF) ∧
    (d = 424 → t = 2 → (∃ v, v < 4096 ∧ s.flag (vpctlR v) F.neVpctl.EN = true) → refused .domainSet s q u stStateConflict 0xFFFF) ∧
    (d < 192 → t ≤ 2 →
      (t ≠ 0 → s.claims d ≠ [] → ∃ w, exec .domainSet s = .next (State.reply w q stClaimed s.stitch (leBytes 2 0xFFFF ++ leBytes 2 0)) ∧
        withheld w ∧ w.heldFor d = some t ∧ w.fld r F.pwrDstat.CUR = s.fld r F.pwrDstat.CUR) ∧
      ((s.core d).seat.isSome = true → t ≠ 0 → s.claims d = [] → ∃ w, replies .domainSet s q w [] ∧ withheld w ∧ w.pwr = s.pwr) ∧
      ((s.core d).seat = none → t = 0 ∨ s.claims d = [] → s.flag r F.pwrDstat.BUSY = false → ∃ w, replies .domainSet s q w [] ∧ withheld w ∧
        (t ≠ s.fld r F.pwrDstat.CUR → ¬(t = 1 ∧ d ∈ s.pwr.noRet) → w.flag r F.pwrDstat.BUSY = true ∧ SMap.find w.pwr.goal d = some t))) ∧
    (192 ≤ d → d ≤ 424 → ¬(384 ≤ d ∧ d < 388) → t ≤ 1 → (t = 0 ∨ s.claims d = []) → s.flag r F.pwrDstat.BUSY = false →
      ∃ w, replies .domainSet s q w [] ∧ w.fld r F.pwrDstat.OCK = t ∧ w.mem = s.mem ∧
        (t ≠ s.fld r F.pwrDstat.CUR → ¬(t = 1 ∧ d ∈ s.pwr.noRet) → w.flag r F.pwrDstat.BUSY = true ∧ SMap.find w.pwr.goal d = some t))) ∧
  (∀ (s u : State) (q : OckReq), passes s 0x0B02 q u →
    let x := q.f 0 2
    (x < 500 ∨ 900 < x → refused .pcapSet s q u stBadParam 32) ∧
    (500 ≤ x → x ≤ 900 → ∃ w, replies .pcapSet s q w [] ∧ w.fld { kind := .cutCtrl } F.cutCtrl.PCAP = x ∧ w.thm.conf.pcap = some x ∧
      w = { u with regs := w.regs, thm := { u.thm with conf := { u.thm.conf with pcap := some x } } }))

/-- The 64 bytes of an error record (R406, Table ERR-3a). -/
def RecordBytes : Prop :=
  ∀ r : ErrRec, let b := r.bytes
    b.length = 64 ∧ field b 0 8 = r.stitch % 2 ^ 64 ∧ field b 8 4 = r.unitId % 2 ^ 32 ∧ field b 12 1 = r.cls % 256 ∧
    field b 13 1 = r.code % 256 ∧ field b 14 1 = r.action % 256 ∧ field b 15 1 = r.flags % 256 ∧ field b 16 8 = r.paddr % 2 ^ 64 ∧
    field b 24 4 = r.panel % 2 ^ 32 ∧ field b 28 1 = r.req % 256 ∧ field b 30 2 = r.count % 65536 ∧
    (r.syndrome.length = 16 → (b.drop 32).take 16 = r.syndrome) ∧ field b 48 8 = r.detail % 2 ^ 64 ∧ field b 56 4 = r.seq % 2 ^ 32 ∧
    field b 60 4 = (crc32c (b.take 60)).toNat

/-- ERR_FETCH, PANEL_ERR_FETCH and OFFLINE_READ (R228, R405, R406, Table OCK-18). -/
def ErrorQueries : Prop :=
  (∀ (i : Instr) (op : Nat) (s u : State) (q : OckReq), (i = .errFetch ∧ op = 0x0C01) ∨ (i = .panelErrFetch ∧ op = 0x0C02) →
    passes s op q u →
    let n := q.f 8 1
    let mine := fun (r : ErrRec) => i = .errFetch ∨ (r.flags.testBit 1 = true ∧ r.panel = s.handle q.tidx)
    (n = 0 ∨ 62 < n → refused i s q u stBadParam 40) ∧
    (1 ≤ n → n ≤ 62 → ∃ (l : List ErrRec) (r : List Byte), replies i s q u r ∧ l.length ≤ n ∧ List.Sublist l s.ras.ring.reverse ∧
      (∀ x ∈ l, q.f 0 8 ≤ x.stitch ∧ mine x) ∧
      (l.length < n → ∀ x ∈ s.ras.ring, q.f 0 8 ≤ x.stitch → mine x → x ∈ l) ∧
      field r 0 1 = l.length ∧ field r 1 63 = 0 ∧ r.length = 64 + 64 * l.length ∧
      ∀ k x, l[k]? = some x → (r.drop (64 + 64 * k)).take 64 = x.bytes)) ∧
  (∀ (s u : State) (q : OckReq), passes s 0x0C03 q u → ∃ (l : List Nat) (r : List Byte), replies .offlineRead s q u r ∧
    l.Pairwise (· < ·) ∧ (∀ g, g ∈ l ↔ (∃ e, (g, e) ∈ s.pot ∧ potKind e = kOffline) ∨ g ∈ s.toOffline) ∧
    r = leBytes 4 l.length ++ leBytes 4 0 ++ ((l.drop (q.f 0 4)).take 503).flatMap fun g => leBytes 8 (g * 65536))

/-- UNIT_SERVICE (R401, R422). -/
def UnitsInAndOut : Prop :=
  ∀ (s u : State) (q : OckReq), passes s 0x0C04 q u →
    let a := q.f 0 1
    let out := s.unitOut q.tcls q.tidx
    let fused := q.tcls ≠ 3 ∧ q.tcls * 256 + q.tidx ∈ s.boot.repairs
    (1 < a → refused .unitService s q u stBadParam 32) ∧
    (a = 0 → out = true → refused .unitService s q u stStateConflict 0xFFFF) ∧
    (a = 0 → out = false → ∃ w, replies .unitService s q w [] ∧ w.unitOut q.tcls q.tidx = true) ∧
    (a = 1 → (out = false ∨ fused ∨ q.tcls = 0x0B) → refused .unitService s q u stStateConflict 0xFFFF) ∧
    (a = 1 → out = true → ¬fused →
      (q.tcls = 1 ∨ q.tcls = 2 → ∃ w, goesOn .unitService s q w [0] ∧ (w.core q.tidx).testing = some s.stitch) ∧
      (3 ≤ q.tcls → q.tcls ≤ 0x0A → goesOn .unitService s q u [1]))

/-- UNIT_STATE_REPORT (R400, Table OCK-22): what each case does, and what becomes of the report. -/
def Reconciliation : Prop :=
  ∀ (a cfgd : BitVec 32) (bytes : BitVec 512) (s : State),
    let id := a.toNat
    let cls := id / 2 ^ 24
    let idx := id % 2 ^ 24
    let kept := fun (t : State) => (SMap.find t.thm.reports id).map (·.1) = some cfgd.toNat
    (unitCount cls ≤ idx ∨ 9 ∈ s.time.dropped → ∀ what, exec (.unitStateReport a cfgd what bytes) s = .next s) ∧
    (idx < unitCount cls → 9 ∉ s.time.dropped →
      ((∀ j ∈ s.thm.jobs, j.op ≠ 0x0C04) → ∃ t, exec (.unitStateReport a cfgd .matching bytes) s = .next t ∧ kept t ∧
        t.thm.recon = s.thm.recon.filter (· ≠ id) ∧ t = { s with thm := t.thm }) ∧
      (∀ j : Job, s.thm.jobs = [j] → j.op = 0x0C04 → j.q.unit = id → j.arg 0 = 1 → ∃ t v,
        exec (.unitStateReport a cfgd .matching bytes) s = .next t ∧ t = (State.dropJob v j.id).reply j.q stOk j.start [] ∧ kept v ∧
        v.unitOut cls idx = false) ∧
      (id ∉ s.thm.recon → ∃ t, exec (.unitStateReport a cfgd .differs bytes) s = .next t ∧ kept t ∧ t.thm.recon = s.thm.recon ++ [id] ∧
        t.outUnits = s.outUnits) ∧
      (id ∈ s.thm.recon → ∃ t, exec (.unitStateReport a cfgd .differs bytes) s = .next t ∧ kept t ∧ id ∉ t.thm.recon ∧ id ∈ t.outUnits) ∧
      (∃ t, exec (.unitStateReport a cfgd .unhealthy bytes) s = .next t ∧ kept t ∧ id ∈ t.thm.outDue ∧ t.outUnits = s.outUnits) ∧
      (∃ t, exec (.unitStateReport a cfgd .changed bytes) s = .next t ∧ kept t ∧ t.thm.recon = s.thm.recon ∧ t.outUnits = s.outUnits))

/-- SWATCH_READ and TEST_REPORT (R440, R445, R446, R471, Tables SWT-2 and BOO-5). -/
def StoreQueries : Prop :=
  (∀ (s u : State) (q : OckReq), passes s 0x0D01 q u →
    let off := q.f 0 4
    let n := q.f 4 2
    let may := q.isOperator = false ∨ q.session.isSome = true ∨ ∃ e ∈ s.thm.service, e.1 = hdRequester q.head ∧ s.stitch < e.2
    (¬may → refused .swatchRead s q u stDenied 0xFFFF) ∧
    (may → (n = 0 ∨ 4032 < n) → refused .swatchRead s q u stBadParam 36) ∧
    (may → 0 < n → n ≤ 4032 → 0x4000000 < off + n → refused .swatchRead s q u stBadParam 32) ∧
    (may → 0 < n → n ≤ 4032 → swInside off n = true → ∃ r : List Byte, replies .swatchRead s q u r ∧ r.length = n ∧
      ∀ k, k < n → r[k]? = some (s.sw.store.byte (off + k)))) ∧
  (∀ (x : SwStore), let b := (List.range 64).map x.byte
    b.take 4 = [0x53, 0x57, 0x43, 0x48] ∧ field b 4 2 = 1 ∧ field b 8 16 = x.pers.serial % 2 ^ 128 ∧ field b 24 8 = x.pers.first % 2 ^ 64 ∧
    field b 32 8 = x.pers.build % 2 ^ 64 ∧ field b 40 4 = x.pers.seq % 2 ^ 32 ∧ field b 44 4 = x.pers.evhead % 2 ^ 32 ∧
    field b 48 1 = x.pers.accsel % 256 ∧ field b 49 1 = if x.pers.mwdog then 1 else 0) ∧
  (∀ (x : SwStore) (y : Signed) (k : Nat), x.sheets = [y] → k < (y.hdr ++ y.sig).length → k < 4096 →
    x.byte (0x800000 + 4096 * (y.seq % 10080) + k) = (y.hdr ++ y.sig).getD k 0) ∧
  (∀ (s u : State) (q : OckReq), passes s 0x0F01 q u → s.boot.head.length = 64 →
    let all := s.boot.head ++ s.boot.entries.flatMap RepEnt.bytes
    let n := (all.length + 4031) / 4032
    let k := q.f 0 2
    (n ≤ k → refused .testReport s q u stBadParam 32) ∧
    (k < n → replies .testReport s q u (leBytes 2 n ++ List.replicate 30 0 ++ (all.drop (4032 * k)).take 4032)))

end Sys2Proof.Spec

/-- Ockar's power, error, reconciliation, Swatch and self-test commands (R228, R324, R400, R401, R405, R406, R422, R440, R446, R448,
R471).
Model's choices that it rests on: log entries 78, 80, 83, 85, 100. -/
def Obligations.OckarUpkeep : Prop :=
  Spec.PowerCommands ∧ Spec.RecordBytes ∧ Spec.ErrorQueries ∧ Spec.UnitsInAndOut ∧ Spec.Reconciliation ∧ Spec.StoreQueries

/-! ### Starts, resets, hung cores -/

namespace Sys2Proof.Spec
open Sys2Proof Sys2Proof.Machine

def hubBoot : Reg := { kind := .hubBoot }

/-- Bank `k` can boot (R373, R375): NEW or GOOD, its image valid, and not a NEW one that three boots have tried. -/
def bootable (s : State) (k : Nat) : Prop :=
  (s.bank k).magic = true ∧ ((s.bank k).state = bkNew ∨ (s.bank k).state = bkGood) ∧ s.checkImage (s.bank k) = 0 ∧
    ¬((s.bank k).state = bkNew ∧ (s.bank k).tries = 0xF8)

/-- Of two banks that can boot, NEW goes before GOOD, then the higher SEQ. -/
def preferred (s : State) (k : Nat) : Prop :=
  bootable s k ∧ (bootable s (1 - k) → ((s.bank k).state = bkNew ∧ (s.bank (1 - k)).state = bkGood) ∨
    ((s.bank k).state = (s.bank (1 - k)).state ∧ (s.bank (1 - k)).seq < (s.bank k).seq))

/-- ROM_BOOT (R364, R365, R375, R379, R468, Table BOO-2): a failure of group R, FATAL_REPEAT or a scrapped module stops in SAFE_HOLD; with
no bank to boot the ROM enters recovery; else it takes the preferred bank, clears slot 4 and starts firmware at its first instruction. -/
def RomBoots : Prop :=
  ∀ (fs : List Failure) (s : State),
    (s.romReady = false → exec (.romBoot fs) s = .next s) ∧
    (s.romReady = true →
      (fs ≠ [] ∨ s.ras.holdAfter = true ∨ s.thm.fuses.life = 7 → ∃ t, exec (.romBoot fs) s = .next t ∧ t.safeHold = true ∧
        t.thm.firmware = false ∧ t.thm.recovery = false ∧
        (s.boot.entries.length + fs.length ≤ 1024 → t.boot.entries = s.boot.entries ++ fs.map fun f =>
          { unit := f.unit.toNat, array := f.array.val, result := 1, action := 7, pattern := f.pattern.toNat, addr := f.addr.toNat,
            bitNo := f.bitNo.toNat, count := f.count.toNat })) ∧
      (fs = [] → s.ras.holdAfter = false → s.thm.fuses.life ≠ 7 →
        (¬bootable s 0 → ¬bootable s 1 → ∃ t, exec (.romBoot []) s = .next t ∧ t.thm.recovery = true ∧ t.thm.firmware = false ∧
          ∀ k, k < 2 → (s.bank k).magic = true → (s.bank k).state = bkNew ∨ (s.bank k).state = bkGood → (t.bank k).state = bkBad) ∧
        (∀ k, k < 2 → preferred s k → ∃ t, exec (.romBoot []) s = .next t ∧ t.thm.firmware = true ∧ t.thm.recovery = false ∧
          t.thm.fw.running = k ∧ (t.bank k).state = (s.bank k).state ∧ t.mfw = Config.shake256 ((s.bank k).read 0 512) 64 ∧
          (t.bank k).tries = (if (s.bank k).state = bkNew then (s.bank k).tries * 2 % 256 else (s.bank k).tries) ∧
          t.slot 4 = List.replicate 64 0 ∧ (t.thr 384).pc = 0x10000000 ∧ (t.thr 384).started = true ∧
          t.fld hubBoot F.hubBoot.PHASE = if s.flag hubBoot F.hubBoot.WARM then 3 else 6)))

/-- TRAINING_COMPLETE (R205, R214, R216, R233): the channel list holds the pairs that passed; each controller in service knows its place and
partner; region 0 and panel 0's key are loaded. A failing pin takes its pair out, with an entry for each of the two. -/
def Training : Prop :=
  ∀ (fs : List Failure) (s : State),
    let ready := s.thm.firmware = true ∧ s.boot.trained = false ∧ ∀ c, c < 24 → s.fld (dstatR (388 + c)) F.pwrDstat.CUR = pwOn
    let low := (List.range 12).filter fun c => c ∉ s.boot.chansOut
    let cold := s.flag hubBoot F.hubBoot.WARM = false
    (¬ready → exec (.trainingComplete fs) s = .next s) ∧
    (ready → fs = [] →
      (low = [] → ∃ t, exec (.trainingComplete fs) s = .next t ∧ t.safeHold = true) ∧
      (low ≠ [] → ∃ t, exec (.trainingComplete fs) s = .next t ∧ t.boot.trained = true ∧ t.clist = low ++ low.map (· + 12) ∧
        (∀ i c, t.clist[i]? = some c → t.flag (mcReg .mcCtrl c) F.mcCtrl.EN = true ∧ t.fld (mcReg .mcCtrl c) F.mcCtrl.LISTIDX = i ∧
          t.fld (mcReg .mcCtrl c) F.mcCtrl.PARTNER = (c + 12) % 24 ∧ t.flag (mcReg .mcRegion c 0) F.mcRegion.EN = true ∧
          t.fld (mcReg .mcRegion c 0) F.mcRegion.OWNER = 1 ∧ t.fld (mcReg .mcRegion c 0) F.mcRegion.BASE = t.reservedGranule ∧
          t.fld (mcReg .mcRegion c 0) F.mcRegion.LIMIT = t.protTop / 65536 - 1 ∧
          (t.rd { kind := .mcKvalid, i := c, j := 0 }).testBit 0 = true) ∧
        (∀ c, c < 24 → (c ∈ t.clist → t.flag (mcReg .mcStatus c) F.mcStatus.TRAINED = true) ∧
          (c ∉ t.clist → t.flag (mcReg .mcCtrl c) F.mcCtrl.EN = false)) ∧
        (∀ g, g < t.reservedGranule → potKind (t.potEntry g) = kFree) ∧
        (∀ g, t.reservedGranule ≤ g → g < t.protTop / 65536 → potKind (t.potEntry g) = kFirmware ∨ potKind (t.potEntry g) = kOffline) ∧
        (cold → t.fld hubBoot F.hubBoot.PHASE = 8))) ∧
    (∀ (f : Failure) (c : Nat), ready → cold → fs = [f] → f.array = 18 → f.unit.toNat = unitId 3 c → c < 24 → s.boot.chansOut = [] →
      s.boot.entries.length ≤ 1022 → ∃ t e e', exec (.trainingComplete fs) s = .next t ∧ t.clist.length = 22 ∧ c ∉ t.clist ∧
        (c + 12) % 24 ∉ t.clist ∧ t.boot.chansOut = [c, (c + 12) % 24] ∧ t.boot.entries = s.boot.entries ++ [e, e'] ∧
        e.unit = unitId 3 c ∧ e.result = 1 ∧ e.action = 4 ∧ e'.unit = unitId 3 ((c + 12) % 24) ∧ e'.result = 0 ∧ e'.action = 4 ∧
        t.flag hubBoot F.hubBoot.DEGRADED = true)

/-- BASTING_COMPLETE (R311, R468–R470): every bolt runs and the lowest that can holds panel 0, under its contract; a failing core is fused
out; a failing hub unit, or too few channels, stops the start in SAFE_HOLD. -/
def Basting : Prop :=
  ∀ (fs : List Failure) (s : State),
    let ready := s.thm.firmware = true ∧ s.boot.trained = true ∧ s.boot.basted = false ∧
      ∀ d, d < 388 → s.fld (dstatR d) F.pwrDstat.CUR = pwOn
    let sound := ∀ n p, s.linkFailed n p = false
    (¬ready → exec (.bastingComplete fs) s = .next s) ∧
    (ready → sound → fs = [] → s.outUnits = [] → s.boot.repairs = [] → s.thm.conf.contract0 = [] → 2 ≤ s.clist.length →
      s.fld { kind := .hubBoltcfg } F.hubBoltcfg.CUR ≤ 2 → ∃ t, exec (.bastingComplete fs) s = .next t ∧ t.boot.basted = true ∧ t.noSlice = [] ∧
        (∀ b, b < s.nBolts → t.boltState b = 1) ∧ t.flag { kind := .hubBoltstat } F.hubBoltstat.HOST0 = true ∧
        field (t.contract 0) 0 2 = 2 ∧ field (t.contract 0) 2 2 = 48 ∧ field (t.contract 0) 4 2 = 100 ∧ field (t.contract 0) 16 2 = 200 ∧
        field (t.contract 0) 18 1 = 1 ∧ field (t.contract 0) 19 1 = 0 ∧ field (t.contract 0) 28 2 = 60000 ∧
        t.fld hubBoot F.hubBoot.PHASE = if s.flag hubBoot F.hubBoot.WARM then 4 else 11) ∧
    (∀ (f : Failure) (c : Nat), ready → sound → fs = [f] → f.unit.toNat = unitId 1 c → c < 192 → s.boot.repairs.length < 256 →
      256 + c ∉ s.boot.repairs → ∃ t, exec (.bastingComplete fs) s = .next t ∧ t.boot.repairs = s.boot.repairs ++ [256 + c] ∧
        t.unitOut 1 c = true ∧ t.flag hubBoot F.hubBoot.DEGRADED = true) ∧
    (∀ (f : Failure), ready → fs = [f] → f.unit.toNat / 2 ^ 24 ∈ [6, 7, 8, 9, 10] → ∃ t, exec (.bastingComplete fs) s = .next t ∧
      t.safeHold = true) ∧
    (ready → sound → fs = [] → s.clist.length < 2 → ∃ t, exec (.bastingComplete fs) s = .next t ∧ t.safeHold = true)

/-- LOADER_COPY_COMPLETE (R368, R466): the loader lies at the start of panel 0's first grant, OWNED with R, W and X, and is measured; a second
failed copy stops the start. -/
def LoaderCopies : Prop :=
  ∀ s : State,
    let ready := s.thm.firmware = true ∧ s.boot.basted = true ∧ s.boot.loaded = false ∧ s.safeHold = false
    let n := max 1 s.thm.conf.first
    (¬ready → ∀ r, exec (.loaderCopyComplete r) s = .next s) ∧
    (ready →
      (s.boot.copies = 0 → ∃ t, exec (.loaderCopyComplete none) s = .next t ∧ t = { s with boot := { s.boot with copies := 1 } }) ∧
      (1 ≤ s.boot.copies → ∃ t, exec (.loaderCopyComplete none) s = .next t ∧ t.safeHold = true ∧ t.boot.loaderBad = true) ∧
      (∀ (bs : List Byte) g, (s.findRun false false n).1 = some g → bs.length = s.thm.conf.loaderLen → bs.length ≤ n * 65536 →
        (∀ h ∈ s.clist, h < 24) → s.clist.length ≤ 24 → ∃ t, exec (.loaderCopyComplete (some bs)) s = .next t ∧ t.boot.loaded = true ∧
          t.boot.first = some (g, n) ∧ t.bytes (g * 65536) bs.length = bs ∧ (t.panel 0).entry = g * 65536 ∧
          (t.panel 0).launch = t.launchDigest (g * 65536) (s.ct 0 6 1) (runOf g ((bs.length + 65535) / 65536)) ∧
          (∀ h ∈ runOf g n, owns t h 0 kOwned ∧ potR (t.potEntry h) = true ∧ potW (t.potEntry h) = true ∧ potX (t.potEntry h) = true) ∧
          (s.flag hubBoot F.hubBoot.WARM = false → t.fld hubBoot F.hubBoot.PHASE = 12)))

/-- FABRIC_JOIN_TIMEOUT and HOST_RELEASE (R30, R266, R467, R495): when the wait for fabric time ends an eligible module with no neighbour
is its fabric's master; in one boundary time is committed, the Cutter enabled, panel 0's mailbox in
service, and its first thread ready to start at level H at the grant's base. -/
def Releasing : Prop :=
  (∀ s : State,
    (∀ n, s.boot.joinAge = some n → 300000 ≤ n →
      let alone := s.follower = true ∧ s.upPorts = [] ∧ s.flag tuCtrlR F.tuCtrl.MASTER_ELIG = true
      let joined := { s with boot := { s.boot with joined := true } }
      (¬alone → exec .fabricJoinTimeout s = .next joined) ∧
      (alone → ∃ t, exec .fabricJoinTimeout s = .next t ∧ t.boot = joined.boot ∧ t.isMaster = true)) ∧
    ((∀ n, s.boot.joinAge = some n → n < 300000) → exec .fabricJoinTimeout s = .next s)) ∧
  (∀ (s : State) (g n sv m : Nat),
    let c := s.contract 0
    let mir := decide (field c 12 4 ≠ 0)
    let run := runOf sv (saveGranules c)
    let warm := s.flag hubBoot F.hubBoot.WARM
    s.thm.firmware = true → s.boot.loaded = true → s.boot.released = false → s.safeHold = false → s.joinOver = true → s.boot.first = some (g, n) →
    g < 2 ^ 40 → (s.findRun false mir (saveGranules c)).1 = some sv → m < s.reservedGranule → isCxl m = false → s.isFree m = true → m ∉ run →
    (mir = true → m ∉ run.map (· + s.lowerGranules)) → (∀ h ∈ s.clist, h < 24) → s.clist.length ≤ 24 →
    ∃ t k, exec .hostRelease s = .next t ∧ t.boot.released = true ∧ t.committed = true ∧ t.flag { kind := .cutCtrl } F.cutCtrl.EN = true ∧
      t.flag (mbxPageR 0) F.mbxPage.EN = true ∧ t.fld (mbxPageR 0) F.mbxPage.GRANULE = k % 2 ^ 22 ∧ owns t k 0 kOwned ∧
      (∀ h ∈ run, owns t h 0 kSave) ∧ t.pstate 0 = psRunning ∧ (t.panel 0).saveBase = some (sv * 65536) ∧
      (t.seat 0 0).valid = true ∧ (t.seat 0 0).thr0.pc = BitVec.ofNat 64 (g * 65536) ∧ (t.seat 0 0).thr0.pl = 2 ∧
      (∀ j, 0 < j → j < 256 → (t.seat 0 j).valid = false) ∧
      (∃ x, t.tape.sheet = some x ∧ x.start = t.stitch + 1 ∧ x.reset = true ∧ ∃ a ∈ x.accts, a.panel = 0) ∧
      t.fld hubBoot F.hubBoot.PHASE = if warm then 5 else 13) ∧
  (∀ s : State, s.joinOver = false ∨ s.boot.loaded = false ∨ s.safeHold = true ∨ s.boot.released = true → exec .hostRelease s = .next s)

/-- What a cold reset leaves (R462, Table BOO-1): every register at its reset value, nothing on the module but fuses, flash, the Swatch store
and the commands that wait. -/
def cold (s t : State) : Prop :=
  t.regs = State.reset.regs ∧ t.cores = State.reset.cores ∧ t.pot = State.reset.pot ∧ t.keys = State.reset.keys ∧ t.clist = State.reset.clist ∧
  t.panels = State.reset.panels ∧ t.thm.firmware = false ∧ t.thm.jobs = [] ∧ t.thm.sessions = [] ∧ t.thm.fuses = s.thm.fuses ∧
  t.thm.conf = s.thm.conf ∧ t.thm.fw.a = s.thm.fw.a ∧ t.thm.fw.b = s.thm.fw.b ∧ t.sw.store = s.sw.store ∧ t.boot.repairs = s.boot.repairs ∧
  t.boot.released = false ∧ t.boot.entries = [] ∧ t.tape.sheet = none ∧ t.resetDue = none ∧ t.pending = s.pending

/-- The cold reset's triggers (R407, R421, R462, R472, R474, R478): the module watchdog, PWR_OK, MOD_RESET_N, the lockouts and the end of a
thermal trip. While another trigger holds the module in reset a change of one does no more; the clear before scan ends first. -/
def ColdResets : Prop :=
  (∀ s : State, ∃ t, exec .modWdog s = .next t ∧ t.sw.store.pers.mwdog = true ∧ { t.sw.store with pers := s.sw.store.pers } = s.sw.store ∧
    (s.boot.clearing = false → cold { s with sw := t.sw } t) ∧ (s.boot.clearing = true → t.boot.coldAfter = true ∧ t.regs = s.regs)) ∧
  (∀ (s : State) (i : Instr) (f : BootSt),
    (∃ b : Bool, (i = .pwrOk b ∧ s.boot.pwrOk ≠ b ∧ f = { s.boot with pwrOk := b }) ∨
      (i = .modResetN b ∧ s.boot.resetN ≠ b ∧ s.boot.pwrOk = true ∧ f = { s.boot with resetN := b }) ∨
      (i = .undervoltageLockout b ∧ s.boot.uvp ≠ b ∧ f = { s.boot with uvp := b }) ∨
      (i = .overvoltageLockout b ∧ s.boot.ovp ≠ b ∧ f = { s.boot with ovp := b })) →
    let held := fun (x : BootSt) => x.pwrOk = false ∨ x.resetN = false ∨ x.uvp = true ∨ x.ovp = true
    let pins := fun (x : BootSt) => (x.pwrOk, x.resetN, x.uvp, x.ovp)
    (held s.boot → held f → exec i s = .next { s with boot := f }) ∧
    (¬(held s.boot ∧ held f) → s.boot.clearing = false → ∃ t, exec i s = .next t ∧ cold s t ∧ pins t.boot = pins f) ∧
    (¬(held s.boot ∧ held f) → s.boot.clearing = true → exec i s = .next { s with boot := { f with coldAfter := true } })) ∧
  (∀ s : State, exec (.pwrOk s.boot.pwrOk) s = .next s ∧ exec (.modResetN s.boot.resetN) s = .next s ∧
    exec (.undervoltageLockout s.boot.uvp) s = .next s ∧ exec (.overvoltageLockout s.boot.ovp) s = .next s) ∧
  (∀ s : State, (s.pwr.trip = false → exec .thermalTripEnd s = .next s) ∧
    (s.pwr.trip = true → ∃ t, exec .thermalTripEnd s = .next t ∧ cold s t)) ∧
  (∀ (die : Die) (s : State), (s.pwr.trip = true → exec (.thermalTrip die) s = .next s) ∧
    (s.pwr.trip = false → ∃ t, exec (.thermalTrip die) s = .next t ∧ t.safeHold = true ∧ t.pwr.trip = true ∧ die.val ∈ t.pwr.hot ∧
      t.thm.firmware = false ∧ (∃ e ∈ t.ras.ring, e.cls = 3 ∧ e.action = 10) ∧
      (s.boot.jtag.drive = none → Out.pin .thermAlertN false ∈ t.sent)))

/-- WARM_RESET and RAS_MWDOG (R407, R420, R421, R461, R473, Table BOO-1): what a warm reset keeps. -/
def WarmResets : Prop :=
  (∀ s : State, s.resetDue = none → exec .warmReset s = .next s) ∧
  (∀ s : State, s.resetDue ≠ none → ∃ t, exec .warmReset s = .next t ∧ t.flag hubBoot F.hubBoot.WARM = true ∧
    t.fld hubBoot F.hubBoot.PHASE = 1 ∧ (∀ p, p < 512 → t.pstate p = psEmpty) ∧ t.cores = [] ∧ t.panels = [] ∧ t.pot = State.reset.pot ∧
    t.keys = State.reset.keys ∧ t.thm.firmware = false ∧ t.thm.jobs = [] ∧ t.thm.sessions = [] ∧ t.thm.fuses = s.thm.fuses ∧
    t.thm.conf = s.thm.conf ∧ t.thm.fw.a = s.thm.fw.a ∧ t.thm.fw.b = s.thm.fw.b ∧ t.sw.store = s.sw.store ∧
    t.tod = s.tod ∧ t.stitch = s.stitch ∧ t.rd tuStatusR = s.rd tuStatusR ∧ t.time = s.time ∧ t.boot.chansOut = s.boot.chansOut ∧
    t.boot.repairs = s.boot.repairs ∧ t.ras.ring = s.ras.sram.map ErrRec.carried ∧
    t.fld { kind := .rasStat } F.rasStat.FATAL = s.fld { kind := .rasStat } F.rasStat.FATAL ∧
    t.fld { kind := .hubBoltcfg } F.hubBoltcfg.CUR = s.fld { kind := .hubBoltcfg } F.hubBoltcfg.NEXT ∧
    (∀ d, d < 427 → t.fld (dstatR d) F.pwrDstat.BROWN = s.fld (dstatR d) F.pwrDstat.BROWN ∧ t.fld (dstatR d) F.pwrDstat.OCK = 0 ∧
      t.fld (dstatR d) F.pwrDstat.TRANS = 0) ∧ t.tape.sheet = none ∧
    (s.tape.sheet ≠ none → ∃ y ∈ t.tape.closed, y.stop = s.stitch ∧ y.reset = true) ∧ t.pending = s.pending) ∧
  (∀ (v : BitVec 16) (s : State),
    (v ≠ 0x7A11 → exec (.rasMwdog v) s = .next s) ∧
    (v = 0x7A11 → ∃ t, exec (.rasMwdog v) s = .next t ∧ t = { s with regs := t.regs } ∧
      t.fld { kind := .rasMwdog } F.rasMwdog.REMAIN = 0xC8))

/-- Nothing in a core waits to be written: its write-combining buffers, its L2 and its selvedge buffer hold no data of their own, and no snoop waits for an access. -/
def nothingToWrite (s : State) (c : Nat) : Prop :=
  (s.core c).thr0.wc = [] ∧ (s.core c).thr1.wc = [] ∧ (s.tile c).selv = [] ∧ (s.tile c).fresh = [] ∧ ∀ e ∈ (s.tile c).l2, e.2.st ≠ .m

/-- An address in the seat record of seat `n` of panel `p` (R54). -/
def inSeatRecord (s : State) (p n a : Nat) : Prop :=
  ∃ b, (s.panel p).saveBase = some b ∧ b + 0x1000 * n ≤ a ∧ a < b + 0x1000 * (n + 1)

/-- CORE_HANG and CORE_TEST_COMPLETE (R415–R418, R422, Tables ERR-10 and ERR-11): the seat is saved with a machine check in the hung thread,
and the core is tested; a second hang in 100,000 stitches, or a failed test, takes it out of service; a failed writeback is an error of
its bolt. -/
def HungCores : Prop :=
  (∀ (c : Tile) (fails flush : Bool) (s : State), ∃ t, exec (.coreHang c ⟨fails, flush⟩) s = .next t) ∧
  (∀ (c : Tile) (fails : Bool) (s : State),
    let x := s.core c
    let lim := s.fld { kind := .rasTmo, i := 3 } F.rasTmo.VALUE
    let hung := fun (t : Thread) => t.started = true ∧ lim ≤ t.noRetire
    (x.seat = none ∨ (¬hung x.thr0 ∧ ¬hung x.thr1) → ∀ flush, exec (.coreHang c ⟨fails, flush⟩) s = .next s) ∧
    (∀ p n, x.seat = some (p, n) → p < 512 → n < 256 → hung x.thr0 → ¬hung x.thr1 → x.thr0.canCheck = true → s.paired c = false → s.seatsGone p = false →
      nothingToWrite s c →
      (fails = false → (∀ k ∈ x.hangs, k + 100000 ≤ s.ticks) → ∃ t, exec (.coreHang c ⟨fails, false⟩) s = .next t ∧ (t.core c).seat = none ∧
        (t.core c).testing = some s.stitch ∧ (t.core c).hangs = [s.ticks] ∧ (t.seat p n).valid = true ∧ (t.seat p n).stitch = s.stitch ∧
        ((t.seat p n).thr0.cr0 crMCHK).toNat / 2 ^ 48 = 0x21 ∧ (∃ e ∈ t.ras.ring, e.cls = 1 ∧ e.code = 0x21 ∧ e.action = 3 ∧ e.unitId = unitId 1 c) ∧
        t.outUnits = s.outUnits) ∧
      (fails = false → (∃ k ∈ x.hangs, s.ticks < k + 100000) → ∃ t, exec (.coreHang c ⟨fails, false⟩) s = .next t ∧ (t.seat p n).valid = true ∧
        t.unitOut 1 c = true ∧ ∃ e ∈ t.ras.ring, e.cls = 1 ∧ e.code = 0x21 ∧ e.action = 7) ∧
      (fails = true → (∀ k ∈ x.hangs, k + 100000 ≤ s.ticks) → ∃ t, exec (.coreHang c ⟨fails, false⟩) s = .next t ∧ (t.seat p n).valid = false ∧
        (t.core c).testing = some s.stitch ∧
        (0 < p → s.boltState (s.panelBolt p) ≠ 2 → (t.panel p).triggers = (s.panel p).triggers ++ [(.fault 0x02, none)])) ∧
      (s.isHostBolt (s.boltOf c) = false → s.boltState (s.boltOf c) = 1 →
        ∃ t, exec (.coreHang c ⟨fails, true⟩) s = .next t ∧ t.boltState (s.boltOf c) = 2 ∧ ∃ e ∈ t.ras.ring, e.cls = 2 ∧ e.code = 0x29))) ∧
  (∀ (c : Tile) (ok : Bool) (s : State),
    ((s.core c).testing = none → exec (.coreTestComplete c ok) s = .next s) ∧
    ((s.core c).testing.isSome = true → s.cut.twin = [] → s.thm.jobs = [] →
      (ok = true → ∃ t, exec (.coreTestComplete c ok) s = .next t ∧ t = s.setCore c { s.core c with testing := none }) ∧
      (ok = false → 256 + c.val ∉ s.boot.repairs → s.boot.repairs.length < 256 → ∃ t, exec (.coreTestComplete c ok) s = .next t ∧
        (t.core c).testing = none ∧ t.unitOut 1 c = true ∧ t.boot.repairs = s.boot.repairs ++ [256 + c.val])) ∧
    (∀ j : Job, (s.core c).testing.isSome = true → s.cut.twin = [] → s.thm.jobs = [j] → j.op = 0x0C04 → j.q.tidx = c.val → j.arg 0 = 0 →
      ok = true → ∃ t, exec (.coreTestComplete c ok) s = .next t ∧ (t.core c).testing = none ∧ t.thm.jobs = [{ j with data := [1] }]))

end Sys2Proof.Spec

/-- Starts (R205, R214, R216, R233, R266, R364, R373, R375, R379, R466–R468, R470).
Model's choices that it rests on: log entries 5, 53, 59, 69, 74, 83, 94, 95. -/
def Obligations.Starts : Prop :=
  Spec.RomBoots ∧ Spec.Training ∧ Spec.Basting ∧ Spec.LoaderCopies ∧ Spec.Releasing

/-- Module resets and hung cores (R407, R415–R418, R420–R422, R461, R462, R473, R478).
Model's choices that it rests on: log entries 11, 36, 88, 89, 93, 125. -/
def Obligations.ResetsAndRecovery : Prop := Spec.ColdResets ∧ Spec.WarmResets ∧ Spec.HungCores

/-! ### Twin-needle pairs, the Swatch store, power domains and clocks -/

namespace Sys2Proof.Spec
open Sys2Proof Sys2Proof.Machine

def twcnt (c : Nat) : Reg := { kind := .wrpTwcnt, i := c }

/-- TWIN_COMPARE where the signatures match (R429–R431, R433, Table TWN-2): at a compare point that both threads have reached, the signatures
restart, CMPCNT and CMP count, the forced compare is spent, the main core's held stores go out (those to its own bolt are then in memory), and each core's checkpoint is the thread
as it stands. Away from a compare point, and on a core that is not a main core, nothing happens. -/
def TwinMatches : Prop :=
  ∀ (th : Thr) (sig : BitVec 64) (fails : Bool) (s : State),
    let c := th.val / 2
    let d := s.partnerOf c
    let ch := 2 * d + th.val % 2
    let x := s.thr th
    let y := s.thr ch
    let point := x.forced = true ∨ 4096 ≤ x.sinceCmp
    (s.isMain c = false → exec (.twinCompare th sig fails) s = .next s) ∧
    (s.isMain c = true → x.lvq = [] → y.lvq = [] → ¬point ∨ y.sinceCmp ≠ x.sinceCmp → exec (.twinCompare th sig fails) s = .next s) ∧
    (s.isMain c = true → d < 192 → d ≠ c → x.lvq = [] → y.lvq = [] → point → y.sinceCmp = x.sinceCmp → sig.toNat = x.sig →
      let passed := fun (t : State) =>
        (∀ k ∈ [th.val, ch], let z := t.thr k
          z.sig = 0 ∧ z.sinceCmp = 0 ∧ z.forced = false ∧ z.crFld crTWIN F.crTWIN.CMPREQ = 0 ∧
          z.crFld crTWIN F.crTWIN.CMPCNT = ((s.thr k).crFld crTWIN F.crTWIN.CMPCNT + 1) % 2 ^ 32 ∧ z.pc = (s.thr k).pc ∧
          z.g = (s.thr k).g ∧ (t.core (k / 2)).ckpt.map (fun e => if k % 2 = 0 then e.1 else e.2) = some z) ∧
        (∀ k ∈ [c, d], t.fld (twcnt k) F.wrpTwcnt.CMP = Nat.min (s.fld (twcnt k) F.wrpTwcnt.CMP + 1) (2 ^ 32 - 1) ∧
          t.fld (twcnt k) F.wrpTwcnt.MISM = s.fld (twcnt k) F.wrpTwcnt.MISM)
      ((s.core c).held = [] → ∃ t, exec (.twinCompare th sig fails) s = .next t ∧ passed t ∧ ∀ a, t.byte a = s.byte a) ∧
      (∀ h : HeldStore, (s.core c).held = [h] → h.thread = th.val % 2 → h.eoi = false → h.data ≠ [] →
        s.isMemory h.pa h.data.length = true →
        ∃ t, exec (.twinCompare th sig fails) s = .next t ∧ passed t ∧ (t.core c).held = [] ∧
          (s.granuleBolt (h.pa / 65536) = s.boltOf c → t.bytes h.pa h.data.length = h.data ∧
            ∀ a, ¬(h.pa ≤ a ∧ a < h.pa + h.data.length) → t.byte a = s.byte a)))

/-- TWIN_COMPARE where they differ (R434, Table TWN-5 steps 1–3): both cores leave the seat for the basting test, the agreed checkpoint is
in the seat record, held stores are discarded, and the host manager's vector 2047 is raised with the panel; a checkpoint that cannot be
written faults the panel with cause 0x04 and a TWIN_FAIL record. -/
def TwinMismatches : Prop :=
  ∀ (th : Thr) (sig : BitVec 64) (fails : Bool) (s : State) (p n : Nat) (k : Thread × Thread),
    let c := th.val / 2
    let d := s.partnerOf c
    let x := s.thr th
    let y := s.thr (2 * d + th.val % 2)
    s.isMain c = true → d < 192 → d ≠ c → x.lvq = [] → y.lvq = [] → x.forced = true ∨ 4096 ≤ x.sinceCmp → y.sinceCmp = x.sinceCmp →
    sig.toNat ≠ x.sig → (s.core c).seat = some (p, n) → p < 512 → n < 256 → (s.core c).ckpt = some k →
    ∃ t, exec (.twinCompare th sig fails) s = .next t ∧ (t.core c).seat = none ∧ (t.core d).seat = none ∧ (t.core c).held = [] ∧
      (t.core c).testing = some s.stitch ∧ (t.core d).testing = some s.stitch ∧
      (nothingToWrite s c → nothingToWrite s d → ∀ a, ¬inSeatRecord s p n a → t.byte a = s.byte a) ∧
      t.flag { kind := .icVec, i := 0, j := 2047 } F.icVec.PEND = true ∧ p ∈ t.twinEvents ∧
      (∃ e ∈ t.cut.twin, e.main = c ∧ e.chk = d ∧ e.panel = p ∧ e.second = x.second ∧ e.released = false ∧ e.found = s.stitch) ∧
      (fails = false → (t.seat p n).valid = true ∧ (t.seat p n).thr0 = k.1.saved ∧ (t.seat p n).thr1 = k.2.saved ∧
        (t.panel p).triggers = (s.panel p).triggers) ∧
      (fails = true → (t.seat p n).valid = false ∧
        (0 < p → s.boltState (s.panelBolt p) ≠ 2 → (t.panel p).triggers = (s.panel p).triggers ++ [(.fault 0x04, none)] ∧
          (nothingToWrite s c → nothingToWrite s d → ∃ e ∈ t.ras.ring, e.cls = 1 ∧ e.code = 0x24 ∧ e.unitId = unitId 1 c)))

/-- TWIN_TEST_OUTCOME (R435, R436, R470): neither core fails and CLEAN counts; a core that fails leaves service and is fused out, and the
pair's core-stitches since the checkpoint move to panel 0; both fail, or a second compare had differed, and the panel faults. The
outcome is an event of the Swatch store. -/
def TwinOutcomes : Prop :=
  ∀ (m : Tile) (mf cf : Bool) (s : State),
    ((∀ e ∈ s.cut.twin, e.main = m.val → e.released = false) → exec (.twinTestOutcome m mf cf) s = .next s) ∧
    (∀ y : TwinTest, s.cut.twin = [y] → y.main = m.val → y.released = true → y.chk < 192 → y.chk ≠ m.val → y.seat.isSome = true →
      0 < y.panel → s.boltState (s.panelBolt y.panel) ≠ 2 → s.thm.jobs = [] → s.boot.repairs.length ≤ 254 →
      256 + m.val ∉ s.boot.repairs → 256 + y.chk ∉ s.boot.repairs →
      let d := y.chk
      let faults := mf && cf || y.second
      ∃ t, exec (.twinTestOutcome m mf cf) s = .next t ∧ t.cut.twin = [] ∧ (t.core m).testing = none ∧ (t.core d).testing = none ∧
        (∃ r k, (SwWrite.event r, k) ∈ t.sw.wait ∧ r.code = 0xC6 ∧ r.unitId = unitId 1 m ∧ r.stitch = s.stitch ∧
          r.detail = if mf && cf then 2 else if mf || cf then 0 else 1) ∧
        t.boot.repairs = s.boot.repairs ++ (if mf then [256 + m.val] else []) ++ (if cf then [256 + d] else []) ∧
        (∀ c, t.unitOut 1 c = true ↔ s.unitOut 1 c = true ∨ (mf = true ∧ unitId 1 c = unitId 1 m) ∨ (cf = true ∧ unitId 1 c = unitId 1 d)) ∧
        (mf = false → cf = false → ∀ c ∈ [m.val, d],
          t.fld (twcnt c) F.wrpTwcnt.CLEAN = Nat.min (s.fld (twcnt c) F.wrpTwcnt.CLEAN + 1) 0xFFFF) ∧
        (mf = true ∨ cf = true → ∀ z x x', s.tape.sheet = some z → z.accts = [x, x'] → x.panel = 0 → x'.panel = y.panel → x.final = false →
          x'.final = false → z.start ≤ y.ckpt → y.ckpt ≤ y.found → let n := 2 * (y.found + 1 - y.ckpt)
          t.tape.sheet = some { z with accts := [{ x with cores := x.cores + n }, { x' with cores := x'.cores - n }] }) ∧
        (t.panel y.panel).triggers = (s.panel y.panel).triggers ++ (if faults then [(.fault 0x04, none)] else []) ∧
        (faults = true → ∃ e ∈ t.ras.ring, e.cls = 1 ∧ e.code = 0x24))

/-- LVQ_RECORD and CMPREQ (R428, R430): a flit takes up to seven records from the main core's thread to its checker's, in order; a write of
1 to CMPREQ asks for a compare, and clears at once on a seat that runs on no pair. -/
def TwinQueues : Prop :=
  (∀ (th : Thr) (s : State),
    let c := th.val / 2
    let ch := 2 * s.partnerOf c + th.val % 2
    (s.isMain c = false → exec (.lvqRecord th) s = .next s) ∧
    (s.isMain c = true → s.partnerOf c ≠ c → ∃ t, exec (.lvqRecord th) s = .next t ∧ t = { s with cores := t.cores } ∧
      t.thr th = { s.thr th with lvq := (s.thr th).lvq.drop 7 } ∧
      t.thr ch = { s.thr ch with lvq := (s.thr ch).lvq ++ (s.thr th).lvq.take 7 } ∧
      ∀ k, k ≠ th.val → k ≠ ch → t.thr k = s.thr k)) ∧
  (∀ (th : Thr) (s : State), ∃ t, exec (.cmpreq th) s = .next t ∧ t = { s with cores := t.cores } ∧
    (t.thr th).crFld crTWIN F.crTWIN.CMPREQ = (if s.paired (th.val / 2) then 1 else 0) ∧
    (t.thr th).crFld crTWIN F.crTWIN.CMPCNT = (s.thr th).crFld crTWIN F.crTWIN.CMPCNT ∧ (t.thr th).pc = (s.thr th).pc ∧
    ∀ k, k ≠ th.val → t.thr k = s.thr k)

/-- A counter of the Swatch store: its value in SRAM, and in the cells. -/
def swCounter (s : State) (o : Nat) : Nat := SMap.get (fun _ => 0) s.sw.counts o
def swCell (s : State) (o : Nat) : Nat := SMap.get (fun _ => 0) s.sw.store.counts o

/-- SWATCH_FLUSH (R442), once in a stitch that has not dropped the task (R21): waiting writes reach the cells in order, at most 47 blocks of them; block 0 takes the stitch and TOD; then go the
oldest dirty counter blocks, of which at least 32 have places. Nothing else changes. -/
def SwatchFlushes : Prop :=
  ∀ s : State, SMap.wf (fun _ => (0 : Nat)) s.sw.counts = true →
    let dirty := s.sw.dirty.filter (· ≠ 0)
    let live := fun o => if o = 8 then s.stitch else if o = 16 then s.rd { kind := .tuTodS } else
      if o = 24 then s.fld { kind := .tuTodNs } F.tuTodNs.NS else swCounter s o
    (s.time.over 10 = true → exec .swatchFlush s = .next s) ∧ (s.time.over 10 = false →
    ∃ t n, exec .swatchFlush s = .next t ∧ t = { s with sw := t.sw, time := t.time } ∧ Nat.min 32 dirty.length ≤ n ∧ n ≤ 47 ∧
      t.sw.dirty = dirty.drop n ∧ (∀ o, swCounter t o = live o) ∧ (∀ o, o < 64 → swCell t o = live o) ∧
      (∀ b ∈ dirty.take n, ∀ o, o / 64 = b → swCell t o = live o) ∧
      (∀ o, 64 ≤ o → o / 64 ∉ dirty.take n → swCell t o = swCell s o) ∧
      (s.sw.wait = [] → t.sw.store = { s.sw.store with counts := t.sw.store.counts }) ∧
      (∀ (r : ErrRec) k, s.sw.wait = [(.event r, k)] → k ≤ 15 → t.sw.wait = [] ∧
        t.sw.store.events = (r :: s.sw.store.events).take 32768 ∧ t.sw.store.pers.evhead = (s.sw.store.pers.evhead + 1) % 32768) ∧
      (∀ (y : Signed) k, s.sw.wait = [(.sheet y, k)] →
        (k ≤ 15 → t.sw.wait = [] ∧ y ∈ t.sw.store.sheets ∧ ∀ z ∈ t.sw.store.sheets, z.seq % 10080 = y.seq % 10080 → z = y) ∧
        (47 < k → ∃ m, 15 ≤ m ∧ m ≤ 47 ∧ t.sw.wait = [(.sheet y, k - m)] ∧ t.sw.store.sheets = s.sw.store.sheets)))

/-- SWATCH_SAMPLE (R441, Table SWT-3): a second adds one, saturating, to one bin of each item sampled: a die's temperature in steps of 1 °C
from −40, a domain's voltage in steps of 10 mV from 400 where it is ON or in RET, a lane's error rate by decades. -/
def SwatchSamples : Prop :=
  ∀ s : State,
    let adds := fun (i : Instr) (o : Nat) => ∃ t, exec i s = .next t ∧ t = { s with sw := t.sw } ∧ t.sw.store = s.sw.store ∧
      t.sw.wait = s.sw.wait ∧ o / 64 ∈ t.sw.dirty ∧ swCounter t o = Nat.min (swCounter s o + 1) (2 ^ 32 - 1) ∧
      ∀ o', o' ≠ o → swCounter t o' = swCounter s o'
    exec (.swatchSample [] [] []) s = .next s ∧
    (∀ (d : Fin 5) (c : Int), let at_ := fun k => adds (.swatchSample [(d, c)] [] []) (0x200 + 704 * d.val + 4 * k)
      (c ≤ -40 → at_ 0) ∧ (∀ k : Nat, k ≤ 175 → c = (k : Int) - 40 → at_ k) ∧ (135 ≤ c → at_ 175)) ∧
    (∀ (d : Fin 427) (mv : Nat), let at_ := fun k => adds (.swatchSample [] [(d, mv)] []) (0x4000 + 256 * d.val + 4 * k)
      let cur := s.fld (dstatR d) F.pwrDstat.CUR
      (cur ≤ 1 → (mv < 410 → at_ 0) ∧ (∀ k, 400 + 10 * k ≤ mv → mv < 410 + 10 * k → k ≤ 63 → at_ k) ∧ (1030 ≤ mv → at_ 63)) ∧
      (2 ≤ cur → exec (.swatchSample [] [(d, mv)] []) s = .next s)) ∧
    (∀ (l : Fin 96) (e n : Nat), let at_ := fun k => adds (.swatchSample [] [] [(l, e, n)]) (0x1000 + 64 * l.val + 4 * k)
      (e = 0 → at_ 15) ∧ (0 < e → n ≤ e * 10 ^ 3 → at_ 0) ∧
      (∀ k, 1 ≤ k → k ≤ 13 → e * 10 ^ (k + 2) < n → n ≤ e * 10 ^ (k + 3) → at_ k) ∧ (0 < e → e * 10 ^ 16 < n → at_ 14)) ∧
    (∀ ts vs ls a b c t u, exec (.swatchSample [a] [] []) s = .next t → exec (.swatchSample [] [b] []) t = .next u →
      exec (.swatchSample (a :: ts) [] []) s = exec (.swatchSample ts [] []) t ∧
      exec (.swatchSample [] (b :: vs) []) t = exec (.swatchSample [] vs []) u ∧
      exec (.swatchSample [a] [b] (c :: ls)) s = exec (.swatchSample [] [] (c :: ls)) u)

/-- A transition of a domain to state `k` runs. -/
def movesTo (s : State) (d k : Nat) : Prop :=
  s.flag (dstatR d) F.pwrDstat.BUSY = true ∧ SMap.find s.pwr.goal d = some k

/-- DOMAIN_TRANSITION_COMPLETE (R449, R450, R452, R459, Tables PWR-1, PWR-2 and PWR-8): the domain is in its new state, TRANS counts a change,
a request that waited starts, and what Table PWR-1 does not keep is lost. A core's write-combining
buffers are empty. -/
def Transitions : Prop :=
  ∀ (d : Domain) (s : State),
    let r := dstatR d
    let old := s.fld r F.pwrDstat.CUR
    (SMap.find s.pwr.goal d = none → exec (.domainTransitionComplete d) s = .next s) ∧
    (∀ k, SMap.find s.pwr.goal d = some k → k ≤ 2 → (d.val < 192 → (s.core d).thr0.wc = [] ∧ (s.core d).thr1.wc = []) →
      ∃ t, exec (.domainTransitionComplete d) s = .next t ∧ t.fld r F.pwrDstat.CUR = k ∧
        t.fld r F.pwrDstat.TRANS = Nat.min (s.fld r F.pwrDstat.TRANS + if old = k then 0 else 1) (2 ^ 32 - 1) ∧
        t.fld r F.pwrDstat.OCK = s.fld r F.pwrDstat.OCK ∧ (d.val < 412 → (d.val < 192 → nothingToWrite s d) →
          ∀ a, (∀ p n, d.val < 192 → (s.core d).seat = some (p, n) → ¬inSeatRecord s p n a) → t.byte a = s.byte a) ∧
        (s.heldFor d = none → t.flag r F.pwrDstat.BUSY = false ∧ t.flag r F.pwrDstat.GATED = false ∧ SMap.find t.pwr.goal d = none) ∧
        (∀ h, s.heldFor d = some h → h ≤ 2 → h ≠ k → h = 0 ∨ s.claims d = [] → ¬(h = 1 ∧ d.val ∈ s.pwr.noRet) →
          movesTo t d h ∧ t.heldFor d = none) ∧
        (d.val < 192 → let c := d.val
          (k ≠ 0 → (t.core c).pll = false) ∧
          (k = 0 → old ≠ 0 → (t.core c).pll = false ∧ t.fld (cutCoreR c) F.cutCore.FREQ = 8) ∧
          (k = 2 → (t.core c).seat = none ∧ (t.tile c).l2 = []) ∧
          (k = 1 → (t.core c).seat = (s.core c).seat ∧ (nothingToWrite s c → (t.tile c).l2 = (s.tile c).l2)) ∧
          (k ≠ 0 → s.paired c = false → ∀ p n, (s.core c).seat = some (p, n) → p < 512 → n < 256 →
            (t.seat p n).valid = true ∧ (t.seat p n).stitch = s.stitch ∧ (t.seat p n).thr0.pc = (s.core c).thr0.pc ∧
            (t.seat p n).thr1.pc = (s.core c).thr1.pc)) ∧
        (192 ≤ d.val → d.val < 384 → k = 2 → (t.tile (d.val - 192)).l3 = [] ∧ (t.tile (d.val - 192)).dir = []) ∧
        (388 ≤ d.val → d.val < 412 → k = 2 → ∀ j, j < 16 → t.rd { kind := .mcKvalid, i := d.val - 388, j := j } = 0) ∧
        (412 ≤ d.val → d.val < 420 → let p := d.val - 412
          s.fld (pctlR p) F.wpPctl.ROLE = 1 →
          (k = 2 → t.fld (pstatR p) F.wpPstat.STATE = lsDown) ∧
          (k = 0 → old = 2 → s.flag hubBoot F.hubBoot.WARM = false → s.unitOut 4 p = false → t.fld (pstatR p) F.wpPstat.STATE = lsTraining)) ∧
        (420 ≤ d.val → d.val < 424 → ∀ j, j < 4 → let q := 4 * (d.val - 420) + j
          (k = 2 → t.fld (rpstatR q) F.hpRpstat.STATE = rpDown ∧
            (s.boot.jtag.drive = none → Out.pin (.perstN q) false ∈ t.sent)) ∧
          (k = 0 → old = 2 → s.boot.jtag.drive = none → Out.pin (.perstN q) true ∈ t.sent)))

/-- WAKE_SOURCE and PORT_ACTIVITY (R77, R451, R454, R455, Table PWR-7): an enabled source ends the WAIT of a thread, which goes on at the next
instruction; its core returns to ON. A detector with STICKY = 1 keeps SEEN; one with STICKY = 0 gives panel 0 a pulse, lost on a thread
whose wake logic is arming. -/
def Wakes : Prop :=
  (∀ (th : Thr) (src : WakeSource) (s : State),
    let x := s.thr th
    let c := th.val / 2
    (s.seatOf th = none ∨ x.waiting = false → exec (.wakeSource th src) s = .next s) ∧
    (∀ p n, s.seatOf th = some (p, n) → x.waiting = true →
      let asserts := match src with
        | .irq => x.crFld crPWRMODE F.crPWRMODE.IRQW = 1 ∧ s.vectorsFor p n (th.val % 2) ≠ []
        | .stitch => x.crFld crPWRMODE F.crPWRMODE.STITCHW = 1
        | .port => p = 0 ∧ x.crFld crPWRMODE F.crPWRMODE.PORTW = 1 ∧ ∃ k, k < 8 ∧
            s.flag { kind := .pwrPortdet, i := k } F.pwrPortdet.STICKY = true ∧ s.flag { kind := .pwrPortdet, i := k } F.pwrPortdet.SEEN = true
        | .secure => ∃ e ∈ s.sint, e.1 = p ∧ e.2.1 = n ∧ e.2.2.1 = th.val % 2
      (¬asserts → exec (.wakeSource th src) s = .next s) ∧
      (asserts → x.started = true → ∃ t, exec (.wakeSource th src) s = .next t ∧ (t.thr th).waiting = false ∧ (t.thr th).pc = x.pc + 4 ∧
        (t.thr th).g = x.g ∧ (∀ k, k ≠ th.val → t.thr k = s.thr k) ∧ (∀ a, t.byte a = s.byte a) ∧
        (x.halted = false → s.flag (dstatR c) F.pwrDstat.BUSY = false →
          (s.fld (dstatR c) F.pwrDstat.CUR = 1 → movesTo t c 0) ∧
          (s.fld (dstatR c) F.pwrDstat.CUR = 0 → t.flag (dstatR c) F.pwrDstat.GATED = false))))) ∧
  (∀ (p : Port) (arming : List Thr) (s : State),
    let r : Reg := { kind := .pwrPortdet, i := p.val }
    (s.flag r F.pwrPortdet.STICKY = true → ∃ t, exec (.portActivity p arming) s = .next t ∧ t = { s with regs := t.regs } ∧
      t.flag r F.pwrPortdet.SEEN = true ∧ ∀ r', r' ≠ r → t.rd r' = s.rd r') ∧
    (s.flag r F.pwrPortdet.STICKY = false → ∃ t, exec (.portActivity p arming) s = .next t ∧ (∀ a, t.byte a = s.byte a) ∧
      ∀ k : Thr, let woken := (∃ n, s.seatOf k = some (0, n)) ∧ (s.thr k).waiting = true ∧
          (s.thr k).crFld crPWRMODE F.crPWRMODE.PORTW = 1 ∧ k ∉ arming
        (woken → (t.thr k).waiting = false ∧ (t.thr k).pc = (s.thr k).pc + 4) ∧ (¬woken → t.thr k = s.thr k)))

/-- The frequency in force on a core that runs from its PLL (R456, R458, Table PWR-3). -/
def clocked (s : State) (c f : Nat) : Prop :=
  let target := s.fld (cutCoreR c) F.cutCore.TARGET
  let held := if s.pwr.reduce = 0 ∨ target ≤ 12 then target else Nat.max 12 (target - s.pwr.reduce)
  f = if c / 48 ∈ s.pwr.hot then Nat.min held 12 else held

/-- PLL_LOCK and GRANT_WAKE (R453, R459): an ON core with SRC = 1 and PLLOK = 0 locks and moves to its target; a core in RET whose grant changes
starts to ON. -/
def ClocksAndGrants : Prop :=
  (∀ (c : Tile) (s : State),
    let x := s.core c
    let src := x.thr0.crFld 0x021 F.crCLKSEL.SRC = 1 ∨ x.thr1.crFld 0x021 F.crCLKSEL.SRC = 1
    let ready := x.seat ≠ none ∧ src ∧ x.pll = false ∧ s.fld (dstatR c) F.pwrDstat.CUR = 0
    (¬ready → exec (.pllLock c) s = .next s) ∧
    (ready → ∃ t, exec (.pllLock c) s = .next t ∧ (t.core c).pll = true ∧ (t.core c).seat = x.seat ∧
      (t.core c).thr0.crFld 0x021 F.crCLKSEL.PLLOK = 1 ∧ (t.core c).thr1.crFld 0x021 F.crCLKSEL.PLLOK = 1 ∧
      clocked s c (t.fld (cutCoreR c) F.cutCore.FREQ) ∧ ∀ e, e ≠ c.val → t.core e = s.core e)) ∧
  (∀ s : State, (s.cut.staged = none → exec .grantWake s = .next s) ∧
    (∀ a, s.cut.staged = some a → SMap.risingFrom 0 a.cores = true → ∃ t, exec .grantWake s = .next t ∧
      ∀ c g, (c, g) ∈ a.cores → c < 192 → s.fld (dstatR c) F.pwrDstat.CUR = 1 → s.flag (dstatR c) F.pwrDstat.BUSY = false →
        let same := match g, (s.core c).seat with
          | .seat p n _, some q => (p, n) = q
          | .idle, none => True
          | _, _ => False
        (same → t.rd (dstatR c) = s.rd (dstatR c)) ∧ (¬same → movesTo t c 0)))

/-- PWR_BROWNOUT (R457, Table ERR-11): a core domain in RET is reset to ON with its arrays invalid; lines it may have dirtied are poison; a
PWR_BROWNOUT record is written; a granted seat resumes from its record; a second one in 100,000 stitches takes the core out. -/
def BrownOuts : Prop :=
  ∀ (c : Tile) (s : State),
    let r := dstatR c
    (s.fld r F.pwrDstat.CUR ≠ 1 → exec (.pwrBrownout c) s = .next s) ∧
    (s.fld r F.pwrDstat.CUR = 1 → ∃ t, exec (.pwrBrownout c) s = .next t ∧ t.fld r F.pwrDstat.CUR = 0 ∧ t.flag r F.pwrDstat.BUSY = false ∧
      t.fld r F.pwrDstat.BROWN = Nat.min (s.fld r F.pwrDstat.BROWN + 1) 0xFFFF ∧ (t.tile c).l2 = [] ∧ (t.tile c).selv = [] ∧
      (s.ras.writtenCorr < 192 → ∃ e ∈ t.ras.ring, e.cls = 0 ∧ e.code = 0x58 ∧ e.unitId = unitId 1 c ∧ e.stitch = s.stitch) ∧
      (∀ h ∈ s.boltCores (s.boltOf c), ∀ l e, (l, e) ∈ (s.tile h).dir → e.st = .em → e.owner = c.val → (t.meta l).poison = true ∧
        SMap.get (fun _ => false) t.dirty l = false) ∧
      ((∃ k ∈ (s.core c).hangs, s.ticks < k + 100000) → t.unitOut 1 c = true ∧ (t.core c).seat = none) ∧
      ((∀ k ∈ (s.core c).hangs, k + 100000 ≤ s.ticks) → t.outUnits = s.outUnits ∧
        ((s.core c).seat = none → (t.core c).seat = none) ∧
        (∀ p n, (s.core c).seat = some (p, n) → (s.seat p n).valid = true → (s.readSeat p n).valid = true → t.savePoisoned p n = false →
          (t.core c).seat = some (p, n) ∧ (t.core c).thr0.pc = (s.readSeat p n).thr0.pc ∧
            (t.core c).thr1.pc = (s.readSeat p n).thr1.pc)))

/-- TLIM, THERM_ALERT_N and THERM_ALERT_RELEASE (R456, R480, Table PWR-3). -/
def Temperatures : Prop :=
  (∀ (d : Domain) (s : State),
    let r := dstatR d
    (∃ t, exec (.tlim d true) s = .next t ∧ d.val ∈ t.pwr.noRet ∧
      (s.fld r F.pwrDstat.CUR = 1 ∨ SMap.find s.pwr.goal d = some 1 → t.fld r F.pwrDstat.CUR = 0 ∧ t.flag r F.pwrDstat.GATED = true ∧
        t.flag r F.pwrDstat.TLIM = true ∧ SMap.find t.pwr.goal d = none) ∧
      (¬(s.fld r F.pwrDstat.CUR = 1 ∨ SMap.find s.pwr.goal d = some 1) → t = { s with pwr := { s.pwr with noRet := t.pwr.noRet } })) ∧
    (∃ t, exec (.tlim d false) s = .next t ∧ d.val ∉ t.pwr.noRet ∧ t.flag r F.pwrDstat.TLIM = false ∧ (∀ e, e ≠ d.val → (e ∈ t.pwr.noRet ↔ e ∈ s.pwr.noRet)) ∧
      (192 ≤ d.val → t.fld r F.pwrDstat.CUR = s.fld r F.pwrDstat.CUR ∧ t.pwr.goal = s.pwr.goal))) ∧
  (∀ (die : Die) (s : State), ∃ t, exec (.thermAlertN die) s = .next t ∧ (∀ e, e ∈ t.pwr.hot ↔ e = die.val ∨ e ∈ s.pwr.hot) ∧
    t.flag { kind := .pwrStat } F.pwrStat.TALERT = true ∧ (s.boot.jtag.drive = none → Out.pin .thermAlertN false ∈ t.sent) ∧
    t.cores = s.cores ∧ (∀ c, c < 192 → c / 48 = die.val → t.fld (cutCoreR c) F.cutCore.FREQ ≤ 12) ∧
    (∀ c, c < 192 → c / 48 ≠ die.val → t.rd (cutCoreR c) = s.rd (cutCoreR c))) ∧
  (∀ s : State, (s.pwr.hot = [] ∨ s.pwr.trip = true → exec .thermAlertRelease s = .next s) ∧
    (s.pwr.hot ≠ [] → s.pwr.trip = false → ∃ t, exec .thermAlertRelease s = .next t ∧ t.pwr.hot = [] ∧
      t.flag { kind := .pwrStat } F.pwrStat.TALERT = false ∧ (s.boot.jtag.drive = none → Out.pin .thermAlertN true ∈ t.sent) ∧
      ∀ c, c < 192 → let x := s.core c
        x.pll = true → x.thr0.crFld 0x021 F.crCLKSEL.SRC = 1 ∨ x.thr1.crFld 0x021 F.crCLKSEL.SRC = 1 →
          clocked t c (t.fld (cutCoreR c) F.cutCore.FREQ)))

end Sys2Proof.Spec

/-- Twin-needle pairs (R428–R436).
Model's choices that it rests on: log entries 20, 89, 90, 125. -/
def Obligations.TwinNeedle : Prop := Spec.TwinMatches ∧ Spec.TwinMismatches ∧ Spec.TwinOutcomes ∧ Spec.TwinQueues

/-- Power domains, clocks, temperatures, and the Swatch store's flush and samples (R441, R442, R449–R459, R480).
Model's choices that it rests on: log entries 9, 20, 89, 91, 92, 106, 125. -/
def Obligations.PowerAndSwatch : Prop :=
  Spec.Transitions ∧ Spec.Wakes ∧ Spec.ClocksAndGrants ∧ Spec.BrownOuts ∧ Spec.Temperatures ∧ Spec.SwatchFlushes ∧ Spec.SwatchSamples

/-! ### The JTAG port -/

namespace Sys2Proof.Spec
open Sys2Proof Sys2Proof.Machine

/-- The JTAG instructions that only select: code, what drives the contacts, and the data register with its captured value (Table MOD-4). -/
inductive JtagRow (s : State) : Instr → Nat → Bool → Nat → Nat → Prop where
  | extest : JtagRow s .extest 0x00 true 64 s.boot.jtag.latch
  | idcode : JtagRow s .idcode 0x01 false 32 0x1019254B
  | clamp : JtagRow s .clamp 0x04 true 1 0
  | highz : JtagRow s .highz 0x05 true 1 0
  | bypass : JtagRow s .bypass 0xFF false 1 0

/-- EXTEST, IDCODE, SAMPLE/PRELOAD, CLAMP, HIGHZ, BYPASS and TRST_N (R480, R483): with PWR_OK high each selects its register, and only
EXTEST, CLAMP and HIGHZ take the contacts from the module, whose own levels then do not show; nothing else of the module changes. -/
def BoundaryScan : Prop :=
  (∀ (s : State) i code drives w v, JtagRow s i code drives w v →
    (s.boot.pwrOk = false → exec i s = .next s) ∧
    (s.boot.pwrOk = true → exec i s = .next { s with
      boot := { s.boot with jtag := { ir := code, latch := s.boot.jtag.latch, drive := if drives then some code else none } }
      sent := s.sent ++ [.jtag w v] })) ∧
  (∀ (latch : BitVec 64) (s : State),
    (s.boot.pwrOk = false → exec (.samplePreload latch) s = .next s) ∧
    (s.boot.pwrOk = true → ∃ n v, exec (.samplePreload latch) s = .next { s with
      boot := { s.boot with jtag := { ir := 0x02, latch := latch.toNat, drive := none } }
      sent := s.sent ++ [.jtag 64 v], fresh := n })) ∧
  (∀ s : State, (s.boot.pwrOk = false → exec .trstN s = .next s) ∧
    (s.boot.pwrOk = true → exec .trstN s = .next { s with boot := { s.boot with jtag := { ir := 0x01, latch := 0, drive := none } } })) ∧
  (∀ (s : State) p level, s.boot.jtag.drive ≠ none → s.emit (.pin p level) = s)

/-- SCANREQ and SCAN_CLEAR_COMPLETE (R474): the request sets SCAN and resets every domain but Thimble's; the clear then leaves the key ladder,
the SRAM and every key slot zero before the chains open; a cold reset that came meanwhile follows the clear. -/
def ScanClears : Prop :=
  (∀ s : State,
    (s.boot.pwrOk = false → exec .scanreq s = .next s) ∧
    (s.boot.pwrOk = true → s.boot.clearing = true ∨ s.boot.scanOpen = true → exec .scanreq s = .next { s with
      boot := { s.boot with jtag := { ir := 0xC0, latch := s.boot.jtag.latch, drive := none } }, sent := s.sent ++ [.jtag 1 0] }) ∧
    (s.boot.pwrOk = true → s.boot.clearing = false → s.boot.scanOpen = false → ∃ t, exec .scanreq s = .next t ∧
      t.flag hubBoot F.hubBoot.SCAN = true ∧ t.boot.clearing = true ∧ t.boot.scanOpen = false ∧ t.boot.jtag.ir = 0xC0 ∧
      Out.jtag 1 0 ∈ t.sent ∧ t.cores = State.reset.cores ∧ t.panels = State.reset.panels ∧ t.pot = State.reset.pot ∧
      t.clist = State.reset.clist ∧ t.thm.firmware = false ∧ t.thm.fuses = s.thm.fuses ∧ t.sw.store = s.sw.store ∧ t.tape.sheet = none ∧
      t.pending = s.pending ∧ ∀ p, p < 512 → t.pstate p = psEmpty)) ∧
  (∀ s : State,
    (s.boot.clearing = false → exec .scanClearComplete s = .next s) ∧
    (s.boot.clearing = true → s.boot.coldAfter = false → ∃ t, exec .scanClearComplete s = .next t ∧ t.boot.clearing = false ∧
      t.boot.scanOpen = true ∧ t.thm.ladder = Ladder.init ∧ t.keys = [] ∧ t.hpKeys = [] ∧ t.fwKey = 0 ∧ t.regs = s.regs ∧
      (∀ a, t.byte a = if thmBase + 0x10000000 ≤ a ∧ a < thmBase + 0x10080000 then 0 else s.byte a)) ∧
    (s.boot.clearing = true → s.boot.coldAfter = true → ∃ t, exec .scanClearComplete s = .next t ∧ cold s t))

/-- A debugger reaches a thread of a core whose panel has an open session and which is no checker (R360, R438), and the Thimble core
under THIMBLE scope. -/
def reachedByDebugger (s : State) (t : Nat) : Prop :=
  s.boot.resetN = true ∧ s.boot.uvp = false ∧ s.boot.ovp = false ∧
  if t = thmThread then ∃ x ∈ s.thm.dbgs, x.opened = true ∧ x.scope.testBit 2 = true
  else ∃ p n, (s.core (t / 2)).seat = some (p, n) ∧ s.isChecker (t / 2) = false ∧
    ∃ x ∈ s.thm.dbgs, x.opened = true ∧ ((x.scope.testBit 0 = true ∧ x.panel = p) ∨ (x.scope.testBit 1 = true ∧ p = 0))

/-- A run-control operation's effect on everything but the port and the free values; the rest of the module is as before. -/
def debugs (t : Nat) (op : DbgOp) (s u : State) : Prop :=
  let x := s.thr t
  let y := u.thr t
  let others := ∀ k, k ≠ t → u.thr k = s.thr k
  match op with
  | .select => u.cores = s.cores ∧ u.regs = s.regs ∧ u.thm = s.thm ∧ u.mem = s.mem
  | .halt => u.mem = s.mem ∧ (t = thmThread → y = { x with halted := true } ∧ others) ∧
      (t ≠ thmThread → ∀ p n, (s.core (t / 2)).seat = some (p, n) → p < 512 → n < 256 →
        (u.core (t / 2)).thr0 = { (s.core (t / 2)).thr0 with halted := true, stepping := false } ∧
        (u.core (t / 2)).thr1 = { (s.core (t / 2)).thr1 with halted := true, stepping := false } ∧
        u.flag (cutOvrR (t / 2)) F.cutOvr.EN = true ∧ u.fld (cutOvrR (t / 2)) F.cutOvr.PANEL = p ∧ u.fld (cutOvrR (t / 2)) F.cutOvr.SEAT = n)
  | .resume => u.mem = s.mem ∧ y.halted = false ∧ y.pc = x.pc ∧ y.g = x.g ∧
      (t ≠ thmThread → x.halted = true → u.rd (cutOvrR (t / 2)) = 0)
  | .step => u.mem = s.mem ∧ others ∧ (x.halted = true → y = { x with halted := false, stepping := true }) ∧ (x.halted = false → y = x)
  | .gpr r v => u.mem = s.mem ∧ others ∧ y.gr r = (if r.val = 0 then 0 else v) ∧ (∀ k : Fin 32, k ≠ r → y.gr k = x.gr k) ∧ y.pc = x.pc
  | .pc v => u.mem = s.mem ∧ others ∧ y.pc = v &&& ~~~3#64 ∧ y.g = x.g
  | .cr n v => u.mem = s.mem ∧ others ∧ y.g = x.g ∧ y.pc = x.pc ∧
      (t = thmThread → u.tcr n.toNat = v) ∧ (t ≠ thmThread →
        (n.toNat ≠ 0 ∨ s.panelOf t = 0 → y.cr0 n.toNat = v) ∧ (s.panelOf t ≠ 0 → y.pl ≤ 1) ∧
        (n.toNat = 0 → F.crSTATUS.PL.set (y.cr0 0).toNat 0 = F.crSTATUS.PL.set v.toNat 0))
  | .mem a v => let b := a.val / 8 * 8
      let mine := if t = thmThread then 0x10000000 ≤ b ∧ b + 8 ≤ 0x10080000 else ∀ p n, (s.core (t / 2)).seat = some (p, n) →
        potKind (s.potEntry (b / 65536)) = kOwned ∧ potPanel (s.potEntry (b / 65536)) = p ∧ potW (s.potEntry (b / 65536)) = true
      let base := if t = thmThread then thmBase else 0
      others ∧ y.g = x.g ∧ y.pc = x.pc ∧ (mine → u.bytes (base + b) 8 = leBytes 8 v.toNat) ∧
      ∀ k, ¬(base + b ≤ k ∧ k < base + b + 8) → u.byte k = s.byte k

/-- DBGAP and DBG_TRIG_IN (Table MOD-4, R360, R438, R480): outside a session the instruction selects a 32-bit register that reads zero; in
one it halts, resumes, steps, reads and changes the threads the session reaches. On a main core a change enters the load-value queue;
no change puts a thread of another panel than 0 at level H (R5).
The cross-trigger halts or resumes reached threads alone. -/
def RunControl : Prop :=
  (∀ (th : AnyThr) (op : DbgOp) (s : State),
    (s.boot.pwrOk = false → exec (.dbgap th op) s = .next s) ∧
    (s.boot.pwrOk = true → ¬reachedByDebugger s th → exec (.dbgap th op) s = .next { s with
      boot := { s.boot with jtag := { ir := 0xC1, latch := s.boot.jtag.latch, drive := none } }, sent := s.sent ++ [.jtag 32 0] }) ∧
    (s.boot.pwrOk = true → reachedByDebugger s th → ∃ u v, exec (.dbgap th op) s = .next u ∧ debugs th op s u ∧ u.boot.jtag.ir = 0xC1 ∧
      u.sent = s.sent ++ [.jtag 32 v] ∧
      (s.isMain (th.val / 2) = true → th.val ≠ thmThread → ∀ r v, op = .gpr r v →
        (u.thr th).lvq = (s.thr th).lvq ++ [.debug (s.thr th).sinceCmp 0 r.val v.toNat]))) ∧
  (∀ s : State, exec (.dbgTrigIn [] []) s = .next s) ∧
  (∀ (th : AnyThr) (s : State),
    (¬(s.boot.pwrOk = true ∧ reachedByDebugger s th) → exec (.dbgTrigIn [th] []) s = .next s ∧ exec (.dbgTrigIn [] [th]) s = .next s) ∧
    (s.boot.pwrOk = true → reachedByDebugger s th → (∃ u, exec (.dbgTrigIn [th] []) s = .next u ∧ debugs th .halt s u ∧ u.sent = s.sent) ∧
      ∃ u, exec (.dbgTrigIn [] [th]) s = .next u ∧ debugs th .resume s u ∧ u.sent = s.sent))

end Sys2Proof.Spec

/-- The JTAG port and run control (R360, R438, R474, R480, R483).
Model's choices that it rests on: log entries 12, 96, 97. -/
def Obligations.JtagPort : Prop := Spec.BoundaryScan ∧ Spec.ScanClears ∧ Spec.RunControl

/-! ### The block as a whole -/

namespace Sys2Proof.Spec
open Sys2Proof Sys2Proof.Machine

/-- The integer instructions that read and write registers only, and the conditional branches. -/
inductive RegisterInstr : Instr → Prop where
  | alu {th rd ra rb imm i f} : ScalarRow th rd ra rb imm i f → RegisterInstr i
  | branch {th ra rb h d i P} : BranchRow th ra rb h d i P → RegisterInstr i

/-- What such instructions keep: the queue holds only them, every thread stands at a multiple of four, and memory is in its
canonical form. -/
def Inv (s : State) : Prop :=
  (∀ c ∈ s.pending, RegisterInstr c) ∧ s.pcAligned ∧ Memory.wf s.mem = true

end Sys2Proof.Spec

/-- The block takes the command at the front of its queue: a step is that command's effect on the state with the queue's rest. With no
command waiting it idles, which is the model's choice (log entry 2). -/
def Obligations.StepRunsFrontCommand : Prop :=
  (∀ (c : Instr) (rest : List Instr) (s : State), s.pending = c :: rest → step s = exec c { s with pending := rest }) ∧
  ∀ s : State, s.pending = [] → step s = .next s

/-- The state after reset: the Time Unit in FREERUN, not committed, at TAI 0 (R24, R26), with the configuration of Tables
TIM-4 and TIM-5; every panel EMPTY (R41); UTC offset 37 s; the hub's two always-on domains ON and the others OFF
(Table PWR-6); the Weft ports in their dimensions (Table WFT-14); every memory channel with its partner half a ring away
(Table MEM-12); no command waiting and nothing in memory.
Model's choices that it rests on: log entries 1, 10, 11. -/
def Obligations.ResetValues : Prop :=
  let s := State.reset
  s.pending = [] ∧ s.mem = [] ∧ s.tuState = 0 ∧ s.ownState = 0 ∧ s.committed = false ∧ s.isMaster = false ∧ s.tod = 0 ∧
  s.stitch = 0 ∧ s.fld tuCtrlR F.tuCtrl.PRIO1 = 0x80 ∧ s.fld tuCtrlR F.tuCtrl.PTP_UPL = 24 ∧ s.refsel = 0 ∧
  s.flag tuCtrlR F.tuCtrl.FABTIME = true ∧ s.flag tuCtrlR F.tuCtrl.MASTER_ELIG = true ∧
  s.flag tuCtrlR F.tuCtrl.PTP_VP = true ∧ s.flag tuCtrlR F.tuCtrl.PPS_OUT_EN = true ∧ s.rd { kind := .tuUtcofs } = 0x25 ∧
  (∀ p, s.pstate p = psEmpty) ∧
  (∀ c, c < 24 → s.fld { kind := .mcCtrl, i := c } F.mcCtrl.PARTNER = (c + 12) % 24) ∧
  (∀ p, p < 6 → s.fld (pctlR p) F.wpPctl.ROLE = 1 ∧ s.fld (pctlR p) F.wpPctl.DIM = p / 2 ∧ s.fld (pctlR p) F.wpPctl.DIR = p % 2) ∧
  (s.fld (dstatR 425) F.pwrDstat.CUR = 0 ∧ s.fld (dstatR 426) F.pwrDstat.CUR = 0) ∧
  ∀ d, d < 425 → s.fld (dstatR d) F.pwrDstat.CUR = 2

/-- The invariant holds after reset, whose pcs and memory are the model's choice (log entries 1 and 10). -/
def Obligations.ResetInvariant : Prop := Inv State.reset

/-- Every step keeps the invariant: an integer or branch instruction, run or trapping, leaves every pc a multiple of four and
memory in its canonical form, and the queue only shorter. -/
def Obligations.StepKeepsInvariant : Prop := ∀ s t : State, Inv s → step s = .next t → Inv t

/-- A stitch boundary with no reset due (R12, Table BOO-1, R17, R18, R22): every counter of boundaries advances by one: those since the
module was powered, since the Time Unit left LOCKED, since the master's last SYNC, and of an open election; the tasks that run in
windows start anew, and their runs of drops stand until they complete. The boundary's own task raises the stitch number by one and
sets TOD to the boundary. (Task 7 is the boundary's own; task 9, of many reports, is done where it was not dropped.) The Time Unit
sends the BOUNDARY flits to the die bridges, which copy them to their gates (R198, Table WRP-7).
Model's choices that it rests on: log entries 9, 28, 29, 30, 106, 108, 146. -/
def Obligations.StitchBoundaries : Prop :=
  ∀ (x : Reading) (s : State), s.powered = true → s.wdogsDue.resetDue = none → s.wdogsDue.warmLate = false →
    (∃ t, exec (.stitchBoundary x) s = .next t ∧ t.ticks = s.ticks + 1 ∧ t.time.sinceLock = s.time.sinceLock + 1 ∧
      t.time.sinceSync = s.time.sinceSync + 1 ∧ t.time.electing = s.time.electing.map (· + 1) ∧
      (∀ n, n ≠ 7 → t.time.over n = false) ∧
      (∀ n, n ≠ 7 → n ≠ 9 → SMap.find t.time.drops n = SMap.find s.time.drops n) ∧
      (9 ∉ s.time.dropped → SMap.find t.time.drops 9 = none) ∧
      ∀ d c, d < 4 → c < 8 → Out.warp .boundary 196 (192 + d) 0 0 false [t.stitch, 0, 256] ∈ t.sent ∧
        Out.warp .boundary (192 + d) (48 * d + c) 0 0 false [t.stitch, 0, 256] ∈ t.sent) ∧
    ((s.stitch + 1) * 10000 < 2 ^ 48 * 1000000000 →
      s.nextStitch.stitch = s.stitch + 1 ∧ s.nextStitch.tod = (s.stitch + 1) * 10000)
end

