-- ==== Sys2Proof/Laws/SMap.lean ====
section
/-! SUPPORT. Laws of sparse tables: what a read finds after a write or a removal, and that every operation keeps the
canonical form. -/

namespace Sys2Proof.Machine

variable {α : Type}

@[simp] theorem SMap.find_nil (k : Nat) : SMap.find ([] : SMap α) k = none := rfl

@[simp] theorem SMap.find_remove_same (m : SMap α) (k : Nat) : SMap.find (SMap.remove m k) k = none := by
  induction m with
  | nil => rfl
  | cons e m ih => obtain ⟨j, v⟩ := e; by_cases h : j = k <;> simp [SMap.remove, SMap.find, h, ih]

theorem SMap.find_remove_other (m : SMap α) {k l : Nat} (h : l ≠ k) :
    SMap.find (SMap.remove m k) l = SMap.find m l := by
  induction m with
  | nil => rfl
  | cons e m ih =>
    obtain ⟨j, v⟩ := e
    by_cases hj : j = k
    · subst hj; simp [SMap.remove, SMap.find, ih, h.symm]
    · have e : SMap.remove ((j, v) :: m) k = (j, v) :: SMap.remove m k := by simp [SMap.remove, hj]
      rw [e]
      by_cases hl : j = l <;> simp [SMap.find, hl, ih]

@[simp] theorem SMap.find_insert_same (m : SMap α) (k : Nat) (v : α) : SMap.find (SMap.insert m k v) k = some v := by
  induction m with
  | nil => simp [SMap.insert, SMap.find]
  | cons e m ih =>
    obtain ⟨j, w⟩ := e
    by_cases h1 : k < j
    · simp [SMap.insert, SMap.find, h1]
    · by_cases h2 : k = j
      · simp [SMap.insert, SMap.find, h2]
      · simp [SMap.insert, SMap.find, h1, h2, Ne.symm h2, ih]

theorem SMap.find_insert_other (m : SMap α) {k l : Nat} (v : α) (h : l ≠ k) :
    SMap.find (SMap.insert m k v) l = SMap.find m l := by
  induction m with
  | nil => simp [SMap.insert, SMap.find, Ne.symm h]
  | cons e m ih =>
    obtain ⟨j, w⟩ := e
    by_cases h1 : k < j
    · simp [SMap.insert, SMap.find, h1, Ne.symm h]
    · by_cases h2 : k = j
      · subst h2; simp [SMap.insert, SMap.find, Ne.symm h]
      · have e : SMap.insert ((j, w) :: m) k v = (j, w) :: SMap.insert m k v := by simp [SMap.insert, h1, h2]
        rw [e]
        by_cases h3 : j = l <;> simp [SMap.find, h3, ih]

variable [DecidableEq α] (d : Nat → α)

@[simp] theorem SMap.get_nil (k : Nat) : SMap.get d [] k = d k := rfl

@[simp] theorem SMap.get_put_same (m : SMap α) (k : Nat) (v : α) : SMap.get d (SMap.put d m k v) k = v := by
  by_cases h : v = d k <;> simp [SMap.put, SMap.get, h]

theorem SMap.get_put_other (m : SMap α) {k l : Nat} (v : α) (h : l ≠ k) :
    SMap.get d (SMap.put d m k v) l = SMap.get d m l := by
  by_cases hv : v = d k <;> simp [SMap.put, SMap.get, hv, SMap.find_remove_other m h, SMap.find_insert_other m _ h]

/-- A read after a write: the written value at its key, the old one elsewhere. -/
theorem SMap.get_put (m : SMap α) (k l : Nat) (v : α) :
    SMap.get d (SMap.put d m k v) l = if l = k then v else SMap.get d m l := by
  by_cases h : l = k
  · subst h; simp
  · simp [h, SMap.get_put_other d m v h]

/-! ### The canonical form -/

theorem SMap.risingFrom_mono {m : SMap α} {a b : Nat} (h : b ≤ a) (hm : SMap.risingFrom a m = true) :
    SMap.risingFrom b m = true := by
  cases m with
  | nil => rfl
  | cons e m => obtain ⟨j, v⟩ := e; simp [SMap.risingFrom] at *; exact ⟨by omega, hm.2⟩

theorem SMap.rising_remove {m : SMap α} {a k : Nat} (hm : SMap.risingFrom a m = true) :
    SMap.risingFrom a (SMap.remove m k) = true := by
  induction m generalizing a with
  | nil => rfl
  | cons e m ih =>
    obtain ⟨j, v⟩ := e
    simp [SMap.risingFrom] at hm
    by_cases h : j = k
    · simp [SMap.remove, h]; exact ih (SMap.risingFrom_mono (by omega) hm.2)
    · simp [SMap.remove, h, SMap.risingFrom]; exact ⟨hm.1, ih hm.2⟩

theorem SMap.rising_insert {m : SMap α} {a k : Nat} {v : α} (hk : a ≤ k) (hm : SMap.risingFrom a m = true) :
    SMap.risingFrom a (SMap.insert m k v) = true := by
  induction m generalizing a with
  | nil => simp [SMap.insert, SMap.risingFrom, hk]
  | cons e m ih =>
    obtain ⟨j, w⟩ := e
    simp [SMap.risingFrom] at hm
    by_cases h1 : k < j
    · simp [SMap.insert, SMap.risingFrom, h1, hk, hm.2]
    · by_cases h2 : k = j
      · subst h2; simp [SMap.insert, SMap.risingFrom, hm]
      · simp [SMap.insert, SMap.risingFrom, h1, h2, hm.1]; exact ih (by omega) hm.2

theorem SMap.mem_remove {m : SMap α} {k : Nat} {e : Nat × α} (h : e ∈ SMap.remove m k) : e ∈ m := by
  induction m with
  | nil => exact h
  | cons x m ih =>
    obtain ⟨j, v⟩ := x
    by_cases hj : j = k
    · simp [SMap.remove, hj] at h; exact List.mem_cons_of_mem _ (ih h)
    · simp [SMap.remove, hj] at h
      rcases h with rfl | h
      · simp
      · exact List.mem_cons_of_mem _ (ih h)

theorem SMap.mem_insert {m : SMap α} {k : Nat} {v : α} {e : Nat × α} (h : e ∈ SMap.insert m k v) :
    e = (k, v) ∨ e ∈ m := by
  induction m with
  | nil => simpa [SMap.insert] using h
  | cons x m ih =>
    obtain ⟨j, w⟩ := x
    by_cases h1 : k < j
    · simpa [SMap.insert, h1] using h
    · by_cases h2 : k = j
      · simp [SMap.insert, h2] at h ⊢; tauto
      · simp [SMap.insert, h1, h2] at h ⊢
        rcases h with rfl | h
        · simp
        · rcases ih h with rfl | h' <;> simp [*]

/-- Every write keeps the canonical form. -/
theorem SMap.wf_put {m : SMap α} {k : Nat} {v : α} (hm : SMap.wf d m = true) : SMap.wf d (SMap.put d m k v) = true := by
  simp only [SMap.wf, Bool.and_eq_true, List.all_eq_true, decide_eq_true_eq] at *
  obtain ⟨hr, ha⟩ := hm
  by_cases hv : v = d k
  · simp only [SMap.put, if_pos hv]
    exact ⟨SMap.rising_remove hr, fun e he => ha e (SMap.mem_remove he)⟩
  · simp only [SMap.put, if_neg hv]
    refine ⟨SMap.rising_insert (Nat.zero_le _) hr, fun e he => ?_⟩
    rcases SMap.mem_insert he with rfl | he
    · exact hv
    · exact ha e he

@[simp] theorem SMap.wf_nil : SMap.wf d [] = true := rfl

end Sys2Proof.Machine
end

