-- ==== Sys2Proof/Laws/State.lean ====
section
/-! SUPPORT. What each update of the state leaves alone: one law per field and update, so that no later proof unfolds a
record update. -/

namespace Sys2Proof.Machine

variable (s : State)

@[simp] theorem State.wr_pending (r : Reg) (v : Nat) : (s.wr r v).pending = s.pending := by rfl
@[simp] theorem State.wr_sent (r : Reg) (v : Nat) : (s.wr r v).sent = s.sent := by rfl
@[simp] theorem State.wr_fresh (r : Reg) (v : Nat) : (s.wr r v).fresh = s.fresh := by rfl
@[simp] theorem State.wr_ticks (r : Reg) (v : Nat) : (s.wr r v).ticks = s.ticks := by rfl
@[simp] theorem State.wr_cores (r : Reg) (v : Nat) : (s.wr r v).cores = s.cores := by rfl
@[simp] theorem State.wr_seats (r : Reg) (v : Nat) : (s.wr r v).seats = s.seats := by rfl
@[simp] theorem State.wr_panels (r : Reg) (v : Nat) : (s.wr r v).panels = s.panels := by rfl
@[simp] theorem State.wr_sint (r : Reg) (v : Nat) : (s.wr r v).sint = s.sint := by rfl
@[simp] theorem State.wr_twinEvents (r : Reg) (v : Nat) : (s.wr r v).twinEvents = s.twinEvents := by rfl
@[simp] theorem State.wr_pot (r : Reg) (v : Nat) : (s.wr r v).pot = s.pot := by rfl
@[simp] theorem State.wr_mem (r : Reg) (v : Nat) : (s.wr r v).mem = s.mem := by rfl
@[simp] theorem State.wr_lineMeta (r : Reg) (v : Nat) : (s.wr r v).lineMeta = s.lineMeta := by rfl
@[simp] theorem State.wr_dirty (r : Reg) (v : Nat) : (s.wr r v).dirty = s.dirty := by rfl
@[simp] theorem State.wr_tiles (r : Reg) (v : Nat) : (s.wr r v).tiles = s.tiles := by rfl
@[simp] theorem State.wr_warp (r : Reg) (v : Nat) : (s.wr r v).warp = s.warp := by rfl
@[simp] theorem State.wr_mcs (r : Reg) (v : Nat) : (s.wr r v).mcs = s.mcs := by rfl
@[simp] theorem State.wr_clist (r : Reg) (v : Nat) : (s.wr r v).clist = s.clist := by rfl
@[simp] theorem State.wr_noSlice (r : Reg) (v : Nat) : (s.wr r v).noSlice = s.noSlice := by rfl
@[simp] theorem State.wr_ioReqs (r : Reg) (v : Nat) : (s.wr r v).ioReqs = s.ioReqs := by rfl
@[simp] theorem State.wr_boltHits (r : Reg) (v : Nat) : (s.wr r v).boltHits = s.boltHits := by rfl
@[simp] theorem State.wr_shoots (r : Reg) (v : Nat) : (s.wr r v).shoots = s.shoots := by rfl
@[simp] theorem State.wr_toOffline (r : Reg) (v : Nat) : (s.wr r v).toOffline = s.toOffline := by rfl
@[simp] theorem State.wr_keys (r : Reg) (v : Nat) : (s.wr r v).keys = s.keys := by rfl
@[simp] theorem State.wr_hpKeys (r : Reg) (v : Nat) : (s.wr r v).hpKeys = s.hpKeys := by rfl
@[simp] theorem State.wr_cxl (r : Reg) (v : Nat) : (s.wr r v).cxl = s.cxl := by rfl
@[simp] theorem State.wr_fwKey (r : Reg) (v : Nat) : (s.wr r v).fwKey = s.fwKey := by rfl
@[simp] theorem State.wr_ras (r : Reg) (v : Nat) : (s.wr r v).ras = s.ras := by rfl
@[simp] theorem State.wr_outUnits (r : Reg) (v : Nat) : (s.wr r v).outUnits = s.outUnits := by rfl
@[simp] theorem State.wr_cut (r : Reg) (v : Nat) : (s.wr r v).cut = s.cut := by rfl
@[simp] theorem State.wr_tape (r : Reg) (v : Nat) : (s.wr r v).tape = s.tape := by rfl
@[simp] theorem State.wr_sw (r : Reg) (v : Nat) : (s.wr r v).sw = s.sw := by rfl
@[simp] theorem State.wr_pwr (r : Reg) (v : Nat) : (s.wr r v).pwr = s.pwr := by rfl
@[simp] theorem State.wr_thm (r : Reg) (v : Nat) : (s.wr r v).thm = s.thm := by rfl
@[simp] theorem State.wr_time (r : Reg) (v : Nat) : (s.wr r v).time = s.time := by rfl
@[simp] theorem State.wr_weft (r : Reg) (v : Nat) : (s.wr r v).weft = s.weft := by rfl
@[simp] theorem State.wr_net (r : Reg) (v : Nat) : (s.wr r v).net = s.net := by rfl
@[simp] theorem State.wr_hio (r : Reg) (v : Nat) : (s.wr r v).hio = s.hio := by rfl
@[simp] theorem State.wr_boot (r : Reg) (v : Nat) : (s.wr r v).boot = s.boot := by rfl
@[simp] theorem State.wr_resetDue (r : Reg) (v : Nat) : (s.wr r v).resetDue = s.resetDue := by rfl

@[simp] theorem State.setFld_pending (r : Reg) (f : Fld) (v : Nat) : (s.setFld r f v).pending = s.pending := by rfl
@[simp] theorem State.setFld_sent (r : Reg) (f : Fld) (v : Nat) : (s.setFld r f v).sent = s.sent := by rfl
@[simp] theorem State.setFld_fresh (r : Reg) (f : Fld) (v : Nat) : (s.setFld r f v).fresh = s.fresh := by rfl
@[simp] theorem State.setFld_ticks (r : Reg) (f : Fld) (v : Nat) : (s.setFld r f v).ticks = s.ticks := by rfl
@[simp] theorem State.setFld_cores (r : Reg) (f : Fld) (v : Nat) : (s.setFld r f v).cores = s.cores := by rfl
@[simp] theorem State.setFld_seats (r : Reg) (f : Fld) (v : Nat) : (s.setFld r f v).seats = s.seats := by rfl
@[simp] theorem State.setFld_panels (r : Reg) (f : Fld) (v : Nat) : (s.setFld r f v).panels = s.panels := by rfl
@[simp] theorem State.setFld_sint (r : Reg) (f : Fld) (v : Nat) : (s.setFld r f v).sint = s.sint := by rfl
@[simp] theorem State.setFld_twinEvents (r : Reg) (f : Fld) (v : Nat) : (s.setFld r f v).twinEvents = s.twinEvents := by rfl
@[simp] theorem State.setFld_pot (r : Reg) (f : Fld) (v : Nat) : (s.setFld r f v).pot = s.pot := by rfl
@[simp] theorem State.setFld_mem (r : Reg) (f : Fld) (v : Nat) : (s.setFld r f v).mem = s.mem := by rfl
@[simp] theorem State.setFld_lineMeta (r : Reg) (f : Fld) (v : Nat) : (s.setFld r f v).lineMeta = s.lineMeta := by rfl
@[simp] theorem State.setFld_dirty (r : Reg) (f : Fld) (v : Nat) : (s.setFld r f v).dirty = s.dirty := by rfl
@[simp] theorem State.setFld_tiles (r : Reg) (f : Fld) (v : Nat) : (s.setFld r f v).tiles = s.tiles := by rfl
@[simp] theorem State.setFld_warp (r : Reg) (f : Fld) (v : Nat) : (s.setFld r f v).warp = s.warp := by rfl
@[simp] theorem State.setFld_mcs (r : Reg) (f : Fld) (v : Nat) : (s.setFld r f v).mcs = s.mcs := by rfl
@[simp] theorem State.setFld_clist (r : Reg) (f : Fld) (v : Nat) : (s.setFld r f v).clist = s.clist := by rfl
@[simp] theorem State.setFld_noSlice (r : Reg) (f : Fld) (v : Nat) : (s.setFld r f v).noSlice = s.noSlice := by rfl
@[simp] theorem State.setFld_ioReqs (r : Reg) (f : Fld) (v : Nat) : (s.setFld r f v).ioReqs = s.ioReqs := by rfl
@[simp] theorem State.setFld_boltHits (r : Reg) (f : Fld) (v : Nat) : (s.setFld r f v).boltHits = s.boltHits := by rfl
@[simp] theorem State.setFld_shoots (r : Reg) (f : Fld) (v : Nat) : (s.setFld r f v).shoots = s.shoots := by rfl
@[simp] theorem State.setFld_toOffline (r : Reg) (f : Fld) (v : Nat) : (s.setFld r f v).toOffline = s.toOffline := by rfl
@[simp] theorem State.setFld_keys (r : Reg) (f : Fld) (v : Nat) : (s.setFld r f v).keys = s.keys := by rfl
@[simp] theorem State.setFld_hpKeys (r : Reg) (f : Fld) (v : Nat) : (s.setFld r f v).hpKeys = s.hpKeys := by rfl
@[simp] theorem State.setFld_cxl (r : Reg) (f : Fld) (v : Nat) : (s.setFld r f v).cxl = s.cxl := by rfl
@[simp] theorem State.setFld_fwKey (r : Reg) (f : Fld) (v : Nat) : (s.setFld r f v).fwKey = s.fwKey := by rfl
@[simp] theorem State.setFld_ras (r : Reg) (f : Fld) (v : Nat) : (s.setFld r f v).ras = s.ras := by rfl
@[simp] theorem State.setFld_outUnits (r : Reg) (f : Fld) (v : Nat) : (s.setFld r f v).outUnits = s.outUnits := by rfl
@[simp] theorem State.setFld_cut (r : Reg) (f : Fld) (v : Nat) : (s.setFld r f v).cut = s.cut := by rfl
@[simp] theorem State.setFld_tape (r : Reg) (f : Fld) (v : Nat) : (s.setFld r f v).tape = s.tape := by rfl
@[simp] theorem State.setFld_sw (r : Reg) (f : Fld) (v : Nat) : (s.setFld r f v).sw = s.sw := by rfl
@[simp] theorem State.setFld_pwr (r : Reg) (f : Fld) (v : Nat) : (s.setFld r f v).pwr = s.pwr := by rfl
@[simp] theorem State.setFld_thm (r : Reg) (f : Fld) (v : Nat) : (s.setFld r f v).thm = s.thm := by rfl
@[simp] theorem State.setFld_time (r : Reg) (f : Fld) (v : Nat) : (s.setFld r f v).time = s.time := by rfl
@[simp] theorem State.setFld_weft (r : Reg) (f : Fld) (v : Nat) : (s.setFld r f v).weft = s.weft := by rfl
@[simp] theorem State.setFld_net (r : Reg) (f : Fld) (v : Nat) : (s.setFld r f v).net = s.net := by rfl
@[simp] theorem State.setFld_hio (r : Reg) (f : Fld) (v : Nat) : (s.setFld r f v).hio = s.hio := by rfl
@[simp] theorem State.setFld_boot (r : Reg) (f : Fld) (v : Nat) : (s.setFld r f v).boot = s.boot := by rfl
@[simp] theorem State.setFld_resetDue (r : Reg) (f : Fld) (v : Nat) : (s.setFld r f v).resetDue = s.resetDue := by rfl

@[simp] theorem State.addFld_pending (r : Reg) (f : Fld) (v : Nat) : (s.addFld r f v).pending = s.pending := by rfl
@[simp] theorem State.addFld_sent (r : Reg) (f : Fld) (v : Nat) : (s.addFld r f v).sent = s.sent := by rfl
@[simp] theorem State.addFld_fresh (r : Reg) (f : Fld) (v : Nat) : (s.addFld r f v).fresh = s.fresh := by rfl
@[simp] theorem State.addFld_ticks (r : Reg) (f : Fld) (v : Nat) : (s.addFld r f v).ticks = s.ticks := by rfl
@[simp] theorem State.addFld_cores (r : Reg) (f : Fld) (v : Nat) : (s.addFld r f v).cores = s.cores := by rfl
@[simp] theorem State.addFld_seats (r : Reg) (f : Fld) (v : Nat) : (s.addFld r f v).seats = s.seats := by rfl
@[simp] theorem State.addFld_panels (r : Reg) (f : Fld) (v : Nat) : (s.addFld r f v).panels = s.panels := by rfl
@[simp] theorem State.addFld_sint (r : Reg) (f : Fld) (v : Nat) : (s.addFld r f v).sint = s.sint := by rfl
@[simp] theorem State.addFld_twinEvents (r : Reg) (f : Fld) (v : Nat) : (s.addFld r f v).twinEvents = s.twinEvents := by rfl
@[simp] theorem State.addFld_pot (r : Reg) (f : Fld) (v : Nat) : (s.addFld r f v).pot = s.pot := by rfl
@[simp] theorem State.addFld_mem (r : Reg) (f : Fld) (v : Nat) : (s.addFld r f v).mem = s.mem := by rfl
@[simp] theorem State.addFld_lineMeta (r : Reg) (f : Fld) (v : Nat) : (s.addFld r f v).lineMeta = s.lineMeta := by rfl
@[simp] theorem State.addFld_dirty (r : Reg) (f : Fld) (v : Nat) : (s.addFld r f v).dirty = s.dirty := by rfl
@[simp] theorem State.addFld_tiles (r : Reg) (f : Fld) (v : Nat) : (s.addFld r f v).tiles = s.tiles := by rfl
@[simp] theorem State.addFld_warp (r : Reg) (f : Fld) (v : Nat) : (s.addFld r f v).warp = s.warp := by rfl
@[simp] theorem State.addFld_mcs (r : Reg) (f : Fld) (v : Nat) : (s.addFld r f v).mcs = s.mcs := by rfl
@[simp] theorem State.addFld_clist (r : Reg) (f : Fld) (v : Nat) : (s.addFld r f v).clist = s.clist := by rfl
@[simp] theorem State.addFld_noSlice (r : Reg) (f : Fld) (v : Nat) : (s.addFld r f v).noSlice = s.noSlice := by rfl
@[simp] theorem State.addFld_ioReqs (r : Reg) (f : Fld) (v : Nat) : (s.addFld r f v).ioReqs = s.ioReqs := by rfl
@[simp] theorem State.addFld_boltHits (r : Reg) (f : Fld) (v : Nat) : (s.addFld r f v).boltHits = s.boltHits := by rfl
@[simp] theorem State.addFld_shoots (r : Reg) (f : Fld) (v : Nat) : (s.addFld r f v).shoots = s.shoots := by rfl
@[simp] theorem State.addFld_toOffline (r : Reg) (f : Fld) (v : Nat) : (s.addFld r f v).toOffline = s.toOffline := by rfl
@[simp] theorem State.addFld_keys (r : Reg) (f : Fld) (v : Nat) : (s.addFld r f v).keys = s.keys := by rfl
@[simp] theorem State.addFld_hpKeys (r : Reg) (f : Fld) (v : Nat) : (s.addFld r f v).hpKeys = s.hpKeys := by rfl
@[simp] theorem State.addFld_cxl (r : Reg) (f : Fld) (v : Nat) : (s.addFld r f v).cxl = s.cxl := by rfl
@[simp] theorem State.addFld_fwKey (r : Reg) (f : Fld) (v : Nat) : (s.addFld r f v).fwKey = s.fwKey := by rfl
@[simp] theorem State.addFld_ras (r : Reg) (f : Fld) (v : Nat) : (s.addFld r f v).ras = s.ras := by rfl
@[simp] theorem State.addFld_outUnits (r : Reg) (f : Fld) (v : Nat) : (s.addFld r f v).outUnits = s.outUnits := by rfl
@[simp] theorem State.addFld_cut (r : Reg) (f : Fld) (v : Nat) : (s.addFld r f v).cut = s.cut := by rfl
@[simp] theorem State.addFld_tape (r : Reg) (f : Fld) (v : Nat) : (s.addFld r f v).tape = s.tape := by rfl
@[simp] theorem State.addFld_sw (r : Reg) (f : Fld) (v : Nat) : (s.addFld r f v).sw = s.sw := by rfl
@[simp] theorem State.addFld_pwr (r : Reg) (f : Fld) (v : Nat) : (s.addFld r f v).pwr = s.pwr := by rfl
@[simp] theorem State.addFld_thm (r : Reg) (f : Fld) (v : Nat) : (s.addFld r f v).thm = s.thm := by rfl
@[simp] theorem State.addFld_time (r : Reg) (f : Fld) (v : Nat) : (s.addFld r f v).time = s.time := by rfl
@[simp] theorem State.addFld_weft (r : Reg) (f : Fld) (v : Nat) : (s.addFld r f v).weft = s.weft := by rfl
@[simp] theorem State.addFld_net (r : Reg) (f : Fld) (v : Nat) : (s.addFld r f v).net = s.net := by rfl
@[simp] theorem State.addFld_hio (r : Reg) (f : Fld) (v : Nat) : (s.addFld r f v).hio = s.hio := by rfl
@[simp] theorem State.addFld_boot (r : Reg) (f : Fld) (v : Nat) : (s.addFld r f v).boot = s.boot := by rfl
@[simp] theorem State.addFld_resetDue (r : Reg) (f : Fld) (v : Nat) : (s.addFld r f v).resetDue = s.resetDue := by rfl

@[simp] theorem State.raise_pending (p v : Nat) : (s.raise p v).pending = s.pending := by
  rw [State.raise, apply_ite State.pending, State.setFld_pending, ite_self]
@[simp] theorem State.raise_sent (p v : Nat) : (s.raise p v).sent = s.sent := by
  rw [State.raise, apply_ite State.sent, State.setFld_sent, ite_self]
@[simp] theorem State.raise_fresh (p v : Nat) : (s.raise p v).fresh = s.fresh := by
  rw [State.raise, apply_ite State.fresh, State.setFld_fresh, ite_self]
@[simp] theorem State.raise_ticks (p v : Nat) : (s.raise p v).ticks = s.ticks := by
  rw [State.raise, apply_ite State.ticks, State.setFld_ticks, ite_self]
@[simp] theorem State.raise_cores (p v : Nat) : (s.raise p v).cores = s.cores := by
  rw [State.raise, apply_ite State.cores, State.setFld_cores, ite_self]
@[simp] theorem State.raise_seats (p v : Nat) : (s.raise p v).seats = s.seats := by
  rw [State.raise, apply_ite State.seats, State.setFld_seats, ite_self]
@[simp] theorem State.raise_panels (p v : Nat) : (s.raise p v).panels = s.panels := by
  rw [State.raise, apply_ite State.panels, State.setFld_panels, ite_self]
@[simp] theorem State.raise_sint (p v : Nat) : (s.raise p v).sint = s.sint := by
  rw [State.raise, apply_ite State.sint, State.setFld_sint, ite_self]
@[simp] theorem State.raise_twinEvents (p v : Nat) : (s.raise p v).twinEvents = s.twinEvents := by
  rw [State.raise, apply_ite State.twinEvents, State.setFld_twinEvents, ite_self]
@[simp] theorem State.raise_pot (p v : Nat) : (s.raise p v).pot = s.pot := by
  rw [State.raise, apply_ite State.pot, State.setFld_pot, ite_self]
@[simp] theorem State.raise_mem (p v : Nat) : (s.raise p v).mem = s.mem := by
  rw [State.raise, apply_ite State.mem, State.setFld_mem, ite_self]
@[simp] theorem State.raise_lineMeta (p v : Nat) : (s.raise p v).lineMeta = s.lineMeta := by
  rw [State.raise, apply_ite State.lineMeta, State.setFld_lineMeta, ite_self]
@[simp] theorem State.raise_dirty (p v : Nat) : (s.raise p v).dirty = s.dirty := by
  rw [State.raise, apply_ite State.dirty, State.setFld_dirty, ite_self]
@[simp] theorem State.raise_tiles (p v : Nat) : (s.raise p v).tiles = s.tiles := by
  rw [State.raise, apply_ite State.tiles, State.setFld_tiles, ite_self]
@[simp] theorem State.raise_warp (p v : Nat) : (s.raise p v).warp = s.warp := by
  rw [State.raise, apply_ite State.warp, State.setFld_warp, ite_self]
@[simp] theorem State.raise_mcs (p v : Nat) : (s.raise p v).mcs = s.mcs := by
  rw [State.raise, apply_ite State.mcs, State.setFld_mcs, ite_self]
@[simp] theorem State.raise_clist (p v : Nat) : (s.raise p v).clist = s.clist := by
  rw [State.raise, apply_ite State.clist, State.setFld_clist, ite_self]
@[simp] theorem State.raise_noSlice (p v : Nat) : (s.raise p v).noSlice = s.noSlice := by
  rw [State.raise, apply_ite State.noSlice, State.setFld_noSlice, ite_self]
@[simp] theorem State.raise_ioReqs (p v : Nat) : (s.raise p v).ioReqs = s.ioReqs := by
  rw [State.raise, apply_ite State.ioReqs, State.setFld_ioReqs, ite_self]
@[simp] theorem State.raise_boltHits (p v : Nat) : (s.raise p v).boltHits = s.boltHits := by
  rw [State.raise, apply_ite State.boltHits, State.setFld_boltHits, ite_self]
@[simp] theorem State.raise_shoots (p v : Nat) : (s.raise p v).shoots = s.shoots := by
  rw [State.raise, apply_ite State.shoots, State.setFld_shoots, ite_self]
@[simp] theorem State.raise_toOffline (p v : Nat) : (s.raise p v).toOffline = s.toOffline := by
  rw [State.raise, apply_ite State.toOffline, State.setFld_toOffline, ite_self]
@[simp] theorem State.raise_keys (p v : Nat) : (s.raise p v).keys = s.keys := by
  rw [State.raise, apply_ite State.keys, State.setFld_keys, ite_self]
@[simp] theorem State.raise_hpKeys (p v : Nat) : (s.raise p v).hpKeys = s.hpKeys := by
  rw [State.raise, apply_ite State.hpKeys, State.setFld_hpKeys, ite_self]
@[simp] theorem State.raise_cxl (p v : Nat) : (s.raise p v).cxl = s.cxl := by
  rw [State.raise, apply_ite State.cxl, State.setFld_cxl, ite_self]
@[simp] theorem State.raise_fwKey (p v : Nat) : (s.raise p v).fwKey = s.fwKey := by
  rw [State.raise, apply_ite State.fwKey, State.setFld_fwKey, ite_self]
@[simp] theorem State.raise_ras (p v : Nat) : (s.raise p v).ras = s.ras := by
  rw [State.raise, apply_ite State.ras, State.setFld_ras, ite_self]
@[simp] theorem State.raise_outUnits (p v : Nat) : (s.raise p v).outUnits = s.outUnits := by
  rw [State.raise, apply_ite State.outUnits, State.setFld_outUnits, ite_self]
@[simp] theorem State.raise_cut (p v : Nat) : (s.raise p v).cut = s.cut := by
  rw [State.raise, apply_ite State.cut, State.setFld_cut, ite_self]
@[simp] theorem State.raise_tape (p v : Nat) : (s.raise p v).tape = s.tape := by
  rw [State.raise, apply_ite State.tape, State.setFld_tape, ite_self]
@[simp] theorem State.raise_sw (p v : Nat) : (s.raise p v).sw = s.sw := by
  rw [State.raise, apply_ite State.sw, State.setFld_sw, ite_self]
@[simp] theorem State.raise_pwr (p v : Nat) : (s.raise p v).pwr = s.pwr := by
  rw [State.raise, apply_ite State.pwr, State.setFld_pwr, ite_self]
@[simp] theorem State.raise_thm (p v : Nat) : (s.raise p v).thm = s.thm := by
  rw [State.raise, apply_ite State.thm, State.setFld_thm, ite_self]
@[simp] theorem State.raise_time (p v : Nat) : (s.raise p v).time = s.time := by
  rw [State.raise, apply_ite State.time, State.setFld_time, ite_self]
@[simp] theorem State.raise_weft (p v : Nat) : (s.raise p v).weft = s.weft := by
  rw [State.raise, apply_ite State.weft, State.setFld_weft, ite_self]
@[simp] theorem State.raise_net (p v : Nat) : (s.raise p v).net = s.net := by
  rw [State.raise, apply_ite State.net, State.setFld_net, ite_self]
@[simp] theorem State.raise_hio (p v : Nat) : (s.raise p v).hio = s.hio := by
  rw [State.raise, apply_ite State.hio, State.setFld_hio, ite_self]
@[simp] theorem State.raise_boot (p v : Nat) : (s.raise p v).boot = s.boot := by
  rw [State.raise, apply_ite State.boot, State.setFld_boot, ite_self]
@[simp] theorem State.raise_resetDue (p v : Nat) : (s.raise p v).resetDue = s.resetDue := by
  rw [State.raise, apply_ite State.resetDue, State.setFld_resetDue, ite_self]

@[simp] theorem State.setCore_pending (c : Nat) (x : Core) : (s.setCore c x).pending = s.pending := by rfl
@[simp] theorem State.setCore_sent (c : Nat) (x : Core) : (s.setCore c x).sent = s.sent := by rfl
@[simp] theorem State.setCore_fresh (c : Nat) (x : Core) : (s.setCore c x).fresh = s.fresh := by rfl
@[simp] theorem State.setCore_ticks (c : Nat) (x : Core) : (s.setCore c x).ticks = s.ticks := by rfl
@[simp] theorem State.setCore_regs (c : Nat) (x : Core) : (s.setCore c x).regs = s.regs := by rfl
@[simp] theorem State.setCore_seats (c : Nat) (x : Core) : (s.setCore c x).seats = s.seats := by rfl
@[simp] theorem State.setCore_panels (c : Nat) (x : Core) : (s.setCore c x).panels = s.panels := by rfl
@[simp] theorem State.setCore_sint (c : Nat) (x : Core) : (s.setCore c x).sint = s.sint := by rfl
@[simp] theorem State.setCore_twinEvents (c : Nat) (x : Core) : (s.setCore c x).twinEvents = s.twinEvents := by rfl
@[simp] theorem State.setCore_pot (c : Nat) (x : Core) : (s.setCore c x).pot = s.pot := by rfl
@[simp] theorem State.setCore_mem (c : Nat) (x : Core) : (s.setCore c x).mem = s.mem := by rfl
@[simp] theorem State.setCore_lineMeta (c : Nat) (x : Core) : (s.setCore c x).lineMeta = s.lineMeta := by rfl
@[simp] theorem State.setCore_dirty (c : Nat) (x : Core) : (s.setCore c x).dirty = s.dirty := by rfl
@[simp] theorem State.setCore_tiles (c : Nat) (x : Core) : (s.setCore c x).tiles = s.tiles := by rfl
@[simp] theorem State.setCore_warp (c : Nat) (x : Core) : (s.setCore c x).warp = s.warp := by rfl
@[simp] theorem State.setCore_mcs (c : Nat) (x : Core) : (s.setCore c x).mcs = s.mcs := by rfl
@[simp] theorem State.setCore_clist (c : Nat) (x : Core) : (s.setCore c x).clist = s.clist := by rfl
@[simp] theorem State.setCore_noSlice (c : Nat) (x : Core) : (s.setCore c x).noSlice = s.noSlice := by rfl
@[simp] theorem State.setCore_ioReqs (c : Nat) (x : Core) : (s.setCore c x).ioReqs = s.ioReqs := by rfl
@[simp] theorem State.setCore_boltHits (c : Nat) (x : Core) : (s.setCore c x).boltHits = s.boltHits := by rfl
@[simp] theorem State.setCore_shoots (c : Nat) (x : Core) : (s.setCore c x).shoots = s.shoots := by rfl
@[simp] theorem State.setCore_toOffline (c : Nat) (x : Core) : (s.setCore c x).toOffline = s.toOffline := by rfl
@[simp] theorem State.setCore_keys (c : Nat) (x : Core) : (s.setCore c x).keys = s.keys := by rfl
@[simp] theorem State.setCore_hpKeys (c : Nat) (x : Core) : (s.setCore c x).hpKeys = s.hpKeys := by rfl
@[simp] theorem State.setCore_cxl (c : Nat) (x : Core) : (s.setCore c x).cxl = s.cxl := by rfl
@[simp] theorem State.setCore_fwKey (c : Nat) (x : Core) : (s.setCore c x).fwKey = s.fwKey := by rfl
@[simp] theorem State.setCore_ras (c : Nat) (x : Core) : (s.setCore c x).ras = s.ras := by rfl
@[simp] theorem State.setCore_outUnits (c : Nat) (x : Core) : (s.setCore c x).outUnits = s.outUnits := by rfl
@[simp] theorem State.setCore_cut (c : Nat) (x : Core) : (s.setCore c x).cut = s.cut := by rfl
@[simp] theorem State.setCore_tape (c : Nat) (x : Core) : (s.setCore c x).tape = s.tape := by rfl
@[simp] theorem State.setCore_sw (c : Nat) (x : Core) : (s.setCore c x).sw = s.sw := by rfl
@[simp] theorem State.setCore_pwr (c : Nat) (x : Core) : (s.setCore c x).pwr = s.pwr := by rfl
@[simp] theorem State.setCore_thm (c : Nat) (x : Core) : (s.setCore c x).thm = s.thm := by rfl
@[simp] theorem State.setCore_time (c : Nat) (x : Core) : (s.setCore c x).time = s.time := by rfl
@[simp] theorem State.setCore_weft (c : Nat) (x : Core) : (s.setCore c x).weft = s.weft := by rfl
@[simp] theorem State.setCore_net (c : Nat) (x : Core) : (s.setCore c x).net = s.net := by rfl
@[simp] theorem State.setCore_hio (c : Nat) (x : Core) : (s.setCore c x).hio = s.hio := by rfl
@[simp] theorem State.setCore_boot (c : Nat) (x : Core) : (s.setCore c x).boot = s.boot := by rfl
@[simp] theorem State.setCore_resetDue (c : Nat) (x : Core) : (s.setCore c x).resetDue = s.resetDue := by rfl

@[simp] theorem State.setThr_pending (h : Nat) (x : Thread) : (s.setThr h x).pending = s.pending := by rfl
@[simp] theorem State.setThr_sent (h : Nat) (x : Thread) : (s.setThr h x).sent = s.sent := by rfl
@[simp] theorem State.setThr_fresh (h : Nat) (x : Thread) : (s.setThr h x).fresh = s.fresh := by rfl
@[simp] theorem State.setThr_ticks (h : Nat) (x : Thread) : (s.setThr h x).ticks = s.ticks := by rfl
@[simp] theorem State.setThr_regs (h : Nat) (x : Thread) : (s.setThr h x).regs = s.regs := by rfl
@[simp] theorem State.setThr_seats (h : Nat) (x : Thread) : (s.setThr h x).seats = s.seats := by rfl
@[simp] theorem State.setThr_panels (h : Nat) (x : Thread) : (s.setThr h x).panels = s.panels := by rfl
@[simp] theorem State.setThr_sint (h : Nat) (x : Thread) : (s.setThr h x).sint = s.sint := by rfl
@[simp] theorem State.setThr_twinEvents (h : Nat) (x : Thread) : (s.setThr h x).twinEvents = s.twinEvents := by rfl
@[simp] theorem State.setThr_pot (h : Nat) (x : Thread) : (s.setThr h x).pot = s.pot := by rfl
@[simp] theorem State.setThr_mem (h : Nat) (x : Thread) : (s.setThr h x).mem = s.mem := by rfl
@[simp] theorem State.setThr_lineMeta (h : Nat) (x : Thread) : (s.setThr h x).lineMeta = s.lineMeta := by rfl
@[simp] theorem State.setThr_dirty (h : Nat) (x : Thread) : (s.setThr h x).dirty = s.dirty := by rfl
@[simp] theorem State.setThr_tiles (h : Nat) (x : Thread) : (s.setThr h x).tiles = s.tiles := by rfl
@[simp] theorem State.setThr_warp (h : Nat) (x : Thread) : (s.setThr h x).warp = s.warp := by rfl
@[simp] theorem State.setThr_mcs (h : Nat) (x : Thread) : (s.setThr h x).mcs = s.mcs := by rfl
@[simp] theorem State.setThr_clist (h : Nat) (x : Thread) : (s.setThr h x).clist = s.clist := by rfl
@[simp] theorem State.setThr_noSlice (h : Nat) (x : Thread) : (s.setThr h x).noSlice = s.noSlice := by rfl
@[simp] theorem State.setThr_ioReqs (h : Nat) (x : Thread) : (s.setThr h x).ioReqs = s.ioReqs := by rfl
@[simp] theorem State.setThr_boltHits (h : Nat) (x : Thread) : (s.setThr h x).boltHits = s.boltHits := by rfl
@[simp] theorem State.setThr_shoots (h : Nat) (x : Thread) : (s.setThr h x).shoots = s.shoots := by rfl
@[simp] theorem State.setThr_toOffline (h : Nat) (x : Thread) : (s.setThr h x).toOffline = s.toOffline := by rfl
@[simp] theorem State.setThr_keys (h : Nat) (x : Thread) : (s.setThr h x).keys = s.keys := by rfl
@[simp] theorem State.setThr_hpKeys (h : Nat) (x : Thread) : (s.setThr h x).hpKeys = s.hpKeys := by rfl
@[simp] theorem State.setThr_cxl (h : Nat) (x : Thread) : (s.setThr h x).cxl = s.cxl := by rfl
@[simp] theorem State.setThr_fwKey (h : Nat) (x : Thread) : (s.setThr h x).fwKey = s.fwKey := by rfl
@[simp] theorem State.setThr_ras (h : Nat) (x : Thread) : (s.setThr h x).ras = s.ras := by rfl
@[simp] theorem State.setThr_outUnits (h : Nat) (x : Thread) : (s.setThr h x).outUnits = s.outUnits := by rfl
@[simp] theorem State.setThr_cut (h : Nat) (x : Thread) : (s.setThr h x).cut = s.cut := by rfl
@[simp] theorem State.setThr_tape (h : Nat) (x : Thread) : (s.setThr h x).tape = s.tape := by rfl
@[simp] theorem State.setThr_sw (h : Nat) (x : Thread) : (s.setThr h x).sw = s.sw := by rfl
@[simp] theorem State.setThr_pwr (h : Nat) (x : Thread) : (s.setThr h x).pwr = s.pwr := by rfl
@[simp] theorem State.setThr_thm (h : Nat) (x : Thread) : (s.setThr h x).thm = s.thm := by rfl
@[simp] theorem State.setThr_time (h : Nat) (x : Thread) : (s.setThr h x).time = s.time := by rfl
@[simp] theorem State.setThr_weft (h : Nat) (x : Thread) : (s.setThr h x).weft = s.weft := by rfl
@[simp] theorem State.setThr_net (h : Nat) (x : Thread) : (s.setThr h x).net = s.net := by rfl
@[simp] theorem State.setThr_hio (h : Nat) (x : Thread) : (s.setThr h x).hio = s.hio := by rfl
@[simp] theorem State.setThr_boot (h : Nat) (x : Thread) : (s.setThr h x).boot = s.boot := by rfl
@[simp] theorem State.setThr_resetDue (h : Nat) (x : Thread) : (s.setThr h x).resetDue = s.resetDue := by rfl

@[simp] theorem State.setTile_pending (k : Nat) (x : TileSt) : (s.setTile k x).pending = s.pending := by rfl
@[simp] theorem State.setTile_sent (k : Nat) (x : TileSt) : (s.setTile k x).sent = s.sent := by rfl
@[simp] theorem State.setTile_fresh (k : Nat) (x : TileSt) : (s.setTile k x).fresh = s.fresh := by rfl
@[simp] theorem State.setTile_ticks (k : Nat) (x : TileSt) : (s.setTile k x).ticks = s.ticks := by rfl
@[simp] theorem State.setTile_regs (k : Nat) (x : TileSt) : (s.setTile k x).regs = s.regs := by rfl
@[simp] theorem State.setTile_cores (k : Nat) (x : TileSt) : (s.setTile k x).cores = s.cores := by rfl
@[simp] theorem State.setTile_seats (k : Nat) (x : TileSt) : (s.setTile k x).seats = s.seats := by rfl
@[simp] theorem State.setTile_panels (k : Nat) (x : TileSt) : (s.setTile k x).panels = s.panels := by rfl
@[simp] theorem State.setTile_sint (k : Nat) (x : TileSt) : (s.setTile k x).sint = s.sint := by rfl
@[simp] theorem State.setTile_twinEvents (k : Nat) (x : TileSt) : (s.setTile k x).twinEvents = s.twinEvents := by rfl
@[simp] theorem State.setTile_pot (k : Nat) (x : TileSt) : (s.setTile k x).pot = s.pot := by rfl
@[simp] theorem State.setTile_mem (k : Nat) (x : TileSt) : (s.setTile k x).mem = s.mem := by rfl
@[simp] theorem State.setTile_lineMeta (k : Nat) (x : TileSt) : (s.setTile k x).lineMeta = s.lineMeta := by rfl
@[simp] theorem State.setTile_dirty (k : Nat) (x : TileSt) : (s.setTile k x).dirty = s.dirty := by rfl
@[simp] theorem State.setTile_warp (k : Nat) (x : TileSt) : (s.setTile k x).warp = s.warp := by rfl
@[simp] theorem State.setTile_mcs (k : Nat) (x : TileSt) : (s.setTile k x).mcs = s.mcs := by rfl
@[simp] theorem State.setTile_clist (k : Nat) (x : TileSt) : (s.setTile k x).clist = s.clist := by rfl
@[simp] theorem State.setTile_noSlice (k : Nat) (x : TileSt) : (s.setTile k x).noSlice = s.noSlice := by rfl
@[simp] theorem State.setTile_ioReqs (k : Nat) (x : TileSt) : (s.setTile k x).ioReqs = s.ioReqs := by rfl
@[simp] theorem State.setTile_boltHits (k : Nat) (x : TileSt) : (s.setTile k x).boltHits = s.boltHits := by rfl
@[simp] theorem State.setTile_shoots (k : Nat) (x : TileSt) : (s.setTile k x).shoots = s.shoots := by rfl
@[simp] theorem State.setTile_toOffline (k : Nat) (x : TileSt) : (s.setTile k x).toOffline = s.toOffline := by rfl
@[simp] theorem State.setTile_keys (k : Nat) (x : TileSt) : (s.setTile k x).keys = s.keys := by rfl
@[simp] theorem State.setTile_hpKeys (k : Nat) (x : TileSt) : (s.setTile k x).hpKeys = s.hpKeys := by rfl
@[simp] theorem State.setTile_cxl (k : Nat) (x : TileSt) : (s.setTile k x).cxl = s.cxl := by rfl
@[simp] theorem State.setTile_fwKey (k : Nat) (x : TileSt) : (s.setTile k x).fwKey = s.fwKey := by rfl
@[simp] theorem State.setTile_ras (k : Nat) (x : TileSt) : (s.setTile k x).ras = s.ras := by rfl
@[simp] theorem State.setTile_outUnits (k : Nat) (x : TileSt) : (s.setTile k x).outUnits = s.outUnits := by rfl
@[simp] theorem State.setTile_cut (k : Nat) (x : TileSt) : (s.setTile k x).cut = s.cut := by rfl
@[simp] theorem State.setTile_tape (k : Nat) (x : TileSt) : (s.setTile k x).tape = s.tape := by rfl
@[simp] theorem State.setTile_sw (k : Nat) (x : TileSt) : (s.setTile k x).sw = s.sw := by rfl
@[simp] theorem State.setTile_pwr (k : Nat) (x : TileSt) : (s.setTile k x).pwr = s.pwr := by rfl
@[simp] theorem State.setTile_thm (k : Nat) (x : TileSt) : (s.setTile k x).thm = s.thm := by rfl
@[simp] theorem State.setTile_time (k : Nat) (x : TileSt) : (s.setTile k x).time = s.time := by rfl
@[simp] theorem State.setTile_weft (k : Nat) (x : TileSt) : (s.setTile k x).weft = s.weft := by rfl
@[simp] theorem State.setTile_net (k : Nat) (x : TileSt) : (s.setTile k x).net = s.net := by rfl
@[simp] theorem State.setTile_hio (k : Nat) (x : TileSt) : (s.setTile k x).hio = s.hio := by rfl
@[simp] theorem State.setTile_boot (k : Nat) (x : TileSt) : (s.setTile k x).boot = s.boot := by rfl
@[simp] theorem State.setTile_resetDue (k : Nat) (x : TileSt) : (s.setTile k x).resetDue = s.resetDue := by rfl

@[simp] theorem State.setMc_pending (k : Nat) (x : McSt) : (s.setMc k x).pending = s.pending := by rfl
@[simp] theorem State.setMc_sent (k : Nat) (x : McSt) : (s.setMc k x).sent = s.sent := by rfl
@[simp] theorem State.setMc_fresh (k : Nat) (x : McSt) : (s.setMc k x).fresh = s.fresh := by rfl
@[simp] theorem State.setMc_ticks (k : Nat) (x : McSt) : (s.setMc k x).ticks = s.ticks := by rfl
@[simp] theorem State.setMc_regs (k : Nat) (x : McSt) : (s.setMc k x).regs = s.regs := by rfl
@[simp] theorem State.setMc_cores (k : Nat) (x : McSt) : (s.setMc k x).cores = s.cores := by rfl
@[simp] theorem State.setMc_seats (k : Nat) (x : McSt) : (s.setMc k x).seats = s.seats := by rfl
@[simp] theorem State.setMc_panels (k : Nat) (x : McSt) : (s.setMc k x).panels = s.panels := by rfl
@[simp] theorem State.setMc_sint (k : Nat) (x : McSt) : (s.setMc k x).sint = s.sint := by rfl
@[simp] theorem State.setMc_twinEvents (k : Nat) (x : McSt) : (s.setMc k x).twinEvents = s.twinEvents := by rfl
@[simp] theorem State.setMc_pot (k : Nat) (x : McSt) : (s.setMc k x).pot = s.pot := by rfl
@[simp] theorem State.setMc_mem (k : Nat) (x : McSt) : (s.setMc k x).mem = s.mem := by rfl
@[simp] theorem State.setMc_lineMeta (k : Nat) (x : McSt) : (s.setMc k x).lineMeta = s.lineMeta := by rfl
@[simp] theorem State.setMc_dirty (k : Nat) (x : McSt) : (s.setMc k x).dirty = s.dirty := by rfl
@[simp] theorem State.setMc_tiles (k : Nat) (x : McSt) : (s.setMc k x).tiles = s.tiles := by rfl
@[simp] theorem State.setMc_warp (k : Nat) (x : McSt) : (s.setMc k x).warp = s.warp := by rfl
@[simp] theorem State.setMc_clist (k : Nat) (x : McSt) : (s.setMc k x).clist = s.clist := by rfl
@[simp] theorem State.setMc_noSlice (k : Nat) (x : McSt) : (s.setMc k x).noSlice = s.noSlice := by rfl
@[simp] theorem State.setMc_ioReqs (k : Nat) (x : McSt) : (s.setMc k x).ioReqs = s.ioReqs := by rfl
@[simp] theorem State.setMc_boltHits (k : Nat) (x : McSt) : (s.setMc k x).boltHits = s.boltHits := by rfl
@[simp] theorem State.setMc_shoots (k : Nat) (x : McSt) : (s.setMc k x).shoots = s.shoots := by rfl
@[simp] theorem State.setMc_toOffline (k : Nat) (x : McSt) : (s.setMc k x).toOffline = s.toOffline := by rfl
@[simp] theorem State.setMc_keys (k : Nat) (x : McSt) : (s.setMc k x).keys = s.keys := by rfl
@[simp] theorem State.setMc_hpKeys (k : Nat) (x : McSt) : (s.setMc k x).hpKeys = s.hpKeys := by rfl
@[simp] theorem State.setMc_cxl (k : Nat) (x : McSt) : (s.setMc k x).cxl = s.cxl := by rfl
@[simp] theorem State.setMc_fwKey (k : Nat) (x : McSt) : (s.setMc k x).fwKey = s.fwKey := by rfl
@[simp] theorem State.setMc_ras (k : Nat) (x : McSt) : (s.setMc k x).ras = s.ras := by rfl
@[simp] theorem State.setMc_outUnits (k : Nat) (x : McSt) : (s.setMc k x).outUnits = s.outUnits := by rfl
@[simp] theorem State.setMc_cut (k : Nat) (x : McSt) : (s.setMc k x).cut = s.cut := by rfl
@[simp] theorem State.setMc_tape (k : Nat) (x : McSt) : (s.setMc k x).tape = s.tape := by rfl
@[simp] theorem State.setMc_sw (k : Nat) (x : McSt) : (s.setMc k x).sw = s.sw := by rfl
@[simp] theorem State.setMc_pwr (k : Nat) (x : McSt) : (s.setMc k x).pwr = s.pwr := by rfl
@[simp] theorem State.setMc_thm (k : Nat) (x : McSt) : (s.setMc k x).thm = s.thm := by rfl
@[simp] theorem State.setMc_time (k : Nat) (x : McSt) : (s.setMc k x).time = s.time := by rfl
@[simp] theorem State.setMc_weft (k : Nat) (x : McSt) : (s.setMc k x).weft = s.weft := by rfl
@[simp] theorem State.setMc_net (k : Nat) (x : McSt) : (s.setMc k x).net = s.net := by rfl
@[simp] theorem State.setMc_hio (k : Nat) (x : McSt) : (s.setMc k x).hio = s.hio := by rfl
@[simp] theorem State.setMc_boot (k : Nat) (x : McSt) : (s.setMc k x).boot = s.boot := by rfl
@[simp] theorem State.setMc_resetDue (k : Nat) (x : McSt) : (s.setMc k x).resetDue = s.resetDue := by rfl

@[simp] theorem State.setPanel_pending (p : Nat) (x : PanelSt) : (s.setPanel p x).pending = s.pending := by rfl
@[simp] theorem State.setPanel_sent (p : Nat) (x : PanelSt) : (s.setPanel p x).sent = s.sent := by rfl
@[simp] theorem State.setPanel_fresh (p : Nat) (x : PanelSt) : (s.setPanel p x).fresh = s.fresh := by rfl
@[simp] theorem State.setPanel_ticks (p : Nat) (x : PanelSt) : (s.setPanel p x).ticks = s.ticks := by rfl
@[simp] theorem State.setPanel_regs (p : Nat) (x : PanelSt) : (s.setPanel p x).regs = s.regs := by rfl
@[simp] theorem State.setPanel_cores (p : Nat) (x : PanelSt) : (s.setPanel p x).cores = s.cores := by rfl
@[simp] theorem State.setPanel_seats (p : Nat) (x : PanelSt) : (s.setPanel p x).seats = s.seats := by rfl
@[simp] theorem State.setPanel_sint (p : Nat) (x : PanelSt) : (s.setPanel p x).sint = s.sint := by rfl
@[simp] theorem State.setPanel_twinEvents (p : Nat) (x : PanelSt) : (s.setPanel p x).twinEvents = s.twinEvents := by rfl
@[simp] theorem State.setPanel_pot (p : Nat) (x : PanelSt) : (s.setPanel p x).pot = s.pot := by rfl
@[simp] theorem State.setPanel_mem (p : Nat) (x : PanelSt) : (s.setPanel p x).mem = s.mem := by rfl
@[simp] theorem State.setPanel_lineMeta (p : Nat) (x : PanelSt) : (s.setPanel p x).lineMeta = s.lineMeta := by rfl
@[simp] theorem State.setPanel_dirty (p : Nat) (x : PanelSt) : (s.setPanel p x).dirty = s.dirty := by rfl
@[simp] theorem State.setPanel_tiles (p : Nat) (x : PanelSt) : (s.setPanel p x).tiles = s.tiles := by rfl
@[simp] theorem State.setPanel_warp (p : Nat) (x : PanelSt) : (s.setPanel p x).warp = s.warp := by rfl
@[simp] theorem State.setPanel_mcs (p : Nat) (x : PanelSt) : (s.setPanel p x).mcs = s.mcs := by rfl
@[simp] theorem State.setPanel_clist (p : Nat) (x : PanelSt) : (s.setPanel p x).clist = s.clist := by rfl
@[simp] theorem State.setPanel_noSlice (p : Nat) (x : PanelSt) : (s.setPanel p x).noSlice = s.noSlice := by rfl
@[simp] theorem State.setPanel_ioReqs (p : Nat) (x : PanelSt) : (s.setPanel p x).ioReqs = s.ioReqs := by rfl
@[simp] theorem State.setPanel_boltHits (p : Nat) (x : PanelSt) : (s.setPanel p x).boltHits = s.boltHits := by rfl
@[simp] theorem State.setPanel_shoots (p : Nat) (x : PanelSt) : (s.setPanel p x).shoots = s.shoots := by rfl
@[simp] theorem State.setPanel_toOffline (p : Nat) (x : PanelSt) : (s.setPanel p x).toOffline = s.toOffline := by rfl
@[simp] theorem State.setPanel_keys (p : Nat) (x : PanelSt) : (s.setPanel p x).keys = s.keys := by rfl
@[simp] theorem State.setPanel_hpKeys (p : Nat) (x : PanelSt) : (s.setPanel p x).hpKeys = s.hpKeys := by rfl
@[simp] theorem State.setPanel_cxl (p : Nat) (x : PanelSt) : (s.setPanel p x).cxl = s.cxl := by rfl
@[simp] theorem State.setPanel_fwKey (p : Nat) (x : PanelSt) : (s.setPanel p x).fwKey = s.fwKey := by rfl
@[simp] theorem State.setPanel_ras (p : Nat) (x : PanelSt) : (s.setPanel p x).ras = s.ras := by rfl
@[simp] theorem State.setPanel_outUnits (p : Nat) (x : PanelSt) : (s.setPanel p x).outUnits = s.outUnits := by rfl
@[simp] theorem State.setPanel_cut (p : Nat) (x : PanelSt) : (s.setPanel p x).cut = s.cut := by rfl
@[simp] theorem State.setPanel_tape (p : Nat) (x : PanelSt) : (s.setPanel p x).tape = s.tape := by rfl
@[simp] theorem State.setPanel_sw (p : Nat) (x : PanelSt) : (s.setPanel p x).sw = s.sw := by rfl
@[simp] theorem State.setPanel_pwr (p : Nat) (x : PanelSt) : (s.setPanel p x).pwr = s.pwr := by rfl
@[simp] theorem State.setPanel_thm (p : Nat) (x : PanelSt) : (s.setPanel p x).thm = s.thm := by rfl
@[simp] theorem State.setPanel_time (p : Nat) (x : PanelSt) : (s.setPanel p x).time = s.time := by rfl
@[simp] theorem State.setPanel_weft (p : Nat) (x : PanelSt) : (s.setPanel p x).weft = s.weft := by rfl
@[simp] theorem State.setPanel_net (p : Nat) (x : PanelSt) : (s.setPanel p x).net = s.net := by rfl
@[simp] theorem State.setPanel_hio (p : Nat) (x : PanelSt) : (s.setPanel p x).hio = s.hio := by rfl
@[simp] theorem State.setPanel_boot (p : Nat) (x : PanelSt) : (s.setPanel p x).boot = s.boot := by rfl
@[simp] theorem State.setPanel_resetDue (p : Nat) (x : PanelSt) : (s.setPanel p x).resetDue = s.resetDue := by rfl

@[simp] theorem State.trigger_pending (p : Nat) (k : Trigger) (c : Option Nat) : (s.trigger p k c).pending = s.pending := by rfl
@[simp] theorem State.trigger_sent (p : Nat) (k : Trigger) (c : Option Nat) : (s.trigger p k c).sent = s.sent := by rfl
@[simp] theorem State.trigger_fresh (p : Nat) (k : Trigger) (c : Option Nat) : (s.trigger p k c).fresh = s.fresh := by rfl
@[simp] theorem State.trigger_ticks (p : Nat) (k : Trigger) (c : Option Nat) : (s.trigger p k c).ticks = s.ticks := by rfl
@[simp] theorem State.trigger_regs (p : Nat) (k : Trigger) (c : Option Nat) : (s.trigger p k c).regs = s.regs := by rfl
@[simp] theorem State.trigger_cores (p : Nat) (k : Trigger) (c : Option Nat) : (s.trigger p k c).cores = s.cores := by rfl
@[simp] theorem State.trigger_seats (p : Nat) (k : Trigger) (c : Option Nat) : (s.trigger p k c).seats = s.seats := by rfl
@[simp] theorem State.trigger_sint (p : Nat) (k : Trigger) (c : Option Nat) : (s.trigger p k c).sint = s.sint := by rfl
@[simp] theorem State.trigger_twinEvents (p : Nat) (k : Trigger) (c : Option Nat) : (s.trigger p k c).twinEvents = s.twinEvents := by rfl
@[simp] theorem State.trigger_pot (p : Nat) (k : Trigger) (c : Option Nat) : (s.trigger p k c).pot = s.pot := by rfl
@[simp] theorem State.trigger_mem (p : Nat) (k : Trigger) (c : Option Nat) : (s.trigger p k c).mem = s.mem := by rfl
@[simp] theorem State.trigger_lineMeta (p : Nat) (k : Trigger) (c : Option Nat) : (s.trigger p k c).lineMeta = s.lineMeta := by rfl
@[simp] theorem State.trigger_dirty (p : Nat) (k : Trigger) (c : Option Nat) : (s.trigger p k c).dirty = s.dirty := by rfl
@[simp] theorem State.trigger_tiles (p : Nat) (k : Trigger) (c : Option Nat) : (s.trigger p k c).tiles = s.tiles := by rfl
@[simp] theorem State.trigger_warp (p : Nat) (k : Trigger) (c : Option Nat) : (s.trigger p k c).warp = s.warp := by rfl
@[simp] theorem State.trigger_mcs (p : Nat) (k : Trigger) (c : Option Nat) : (s.trigger p k c).mcs = s.mcs := by rfl
@[simp] theorem State.trigger_clist (p : Nat) (k : Trigger) (c : Option Nat) : (s.trigger p k c).clist = s.clist := by rfl
@[simp] theorem State.trigger_noSlice (p : Nat) (k : Trigger) (c : Option Nat) : (s.trigger p k c).noSlice = s.noSlice := by rfl
@[simp] theorem State.trigger_ioReqs (p : Nat) (k : Trigger) (c : Option Nat) : (s.trigger p k c).ioReqs = s.ioReqs := by rfl
@[simp] theorem State.trigger_boltHits (p : Nat) (k : Trigger) (c : Option Nat) : (s.trigger p k c).boltHits = s.boltHits := by rfl
@[simp] theorem State.trigger_shoots (p : Nat) (k : Trigger) (c : Option Nat) : (s.trigger p k c).shoots = s.shoots := by rfl
@[simp] theorem State.trigger_toOffline (p : Nat) (k : Trigger) (c : Option Nat) : (s.trigger p k c).toOffline = s.toOffline := by rfl
@[simp] theorem State.trigger_keys (p : Nat) (k : Trigger) (c : Option Nat) : (s.trigger p k c).keys = s.keys := by rfl
@[simp] theorem State.trigger_hpKeys (p : Nat) (k : Trigger) (c : Option Nat) : (s.trigger p k c).hpKeys = s.hpKeys := by rfl
@[simp] theorem State.trigger_cxl (p : Nat) (k : Trigger) (c : Option Nat) : (s.trigger p k c).cxl = s.cxl := by rfl
@[simp] theorem State.trigger_fwKey (p : Nat) (k : Trigger) (c : Option Nat) : (s.trigger p k c).fwKey = s.fwKey := by rfl
@[simp] theorem State.trigger_ras (p : Nat) (k : Trigger) (c : Option Nat) : (s.trigger p k c).ras = s.ras := by rfl
@[simp] theorem State.trigger_outUnits (p : Nat) (k : Trigger) (c : Option Nat) : (s.trigger p k c).outUnits = s.outUnits := by rfl
@[simp] theorem State.trigger_cut (p : Nat) (k : Trigger) (c : Option Nat) : (s.trigger p k c).cut = s.cut := by rfl
@[simp] theorem State.trigger_tape (p : Nat) (k : Trigger) (c : Option Nat) : (s.trigger p k c).tape = s.tape := by rfl
@[simp] theorem State.trigger_sw (p : Nat) (k : Trigger) (c : Option Nat) : (s.trigger p k c).sw = s.sw := by rfl
@[simp] theorem State.trigger_pwr (p : Nat) (k : Trigger) (c : Option Nat) : (s.trigger p k c).pwr = s.pwr := by rfl
@[simp] theorem State.trigger_thm (p : Nat) (k : Trigger) (c : Option Nat) : (s.trigger p k c).thm = s.thm := by rfl
@[simp] theorem State.trigger_time (p : Nat) (k : Trigger) (c : Option Nat) : (s.trigger p k c).time = s.time := by rfl
@[simp] theorem State.trigger_weft (p : Nat) (k : Trigger) (c : Option Nat) : (s.trigger p k c).weft = s.weft := by rfl
@[simp] theorem State.trigger_net (p : Nat) (k : Trigger) (c : Option Nat) : (s.trigger p k c).net = s.net := by rfl
@[simp] theorem State.trigger_hio (p : Nat) (k : Trigger) (c : Option Nat) : (s.trigger p k c).hio = s.hio := by rfl
@[simp] theorem State.trigger_boot (p : Nat) (k : Trigger) (c : Option Nat) : (s.trigger p k c).boot = s.boot := by rfl
@[simp] theorem State.trigger_resetDue (p : Nat) (k : Trigger) (c : Option Nat) : (s.trigger p k c).resetDue = s.resetDue := by rfl

@[simp] theorem State.setSeat_pending (p n : Nat) (x : SeatRec) : (s.setSeat p n x).pending = s.pending := by rfl
@[simp] theorem State.setSeat_sent (p n : Nat) (x : SeatRec) : (s.setSeat p n x).sent = s.sent := by rfl
@[simp] theorem State.setSeat_fresh (p n : Nat) (x : SeatRec) : (s.setSeat p n x).fresh = s.fresh := by rfl
@[simp] theorem State.setSeat_ticks (p n : Nat) (x : SeatRec) : (s.setSeat p n x).ticks = s.ticks := by rfl
@[simp] theorem State.setSeat_regs (p n : Nat) (x : SeatRec) : (s.setSeat p n x).regs = s.regs := by rfl
@[simp] theorem State.setSeat_cores (p n : Nat) (x : SeatRec) : (s.setSeat p n x).cores = s.cores := by rfl
@[simp] theorem State.setSeat_panels (p n : Nat) (x : SeatRec) : (s.setSeat p n x).panels = s.panels := by rfl
@[simp] theorem State.setSeat_sint (p n : Nat) (x : SeatRec) : (s.setSeat p n x).sint = s.sint := by rfl
@[simp] theorem State.setSeat_twinEvents (p n : Nat) (x : SeatRec) : (s.setSeat p n x).twinEvents = s.twinEvents := by rfl
@[simp] theorem State.setSeat_pot (p n : Nat) (x : SeatRec) : (s.setSeat p n x).pot = s.pot := by rfl
@[simp] theorem State.setSeat_mem (p n : Nat) (x : SeatRec) : (s.setSeat p n x).mem = s.mem := by rfl
@[simp] theorem State.setSeat_lineMeta (p n : Nat) (x : SeatRec) : (s.setSeat p n x).lineMeta = s.lineMeta := by rfl
@[simp] theorem State.setSeat_dirty (p n : Nat) (x : SeatRec) : (s.setSeat p n x).dirty = s.dirty := by rfl
@[simp] theorem State.setSeat_tiles (p n : Nat) (x : SeatRec) : (s.setSeat p n x).tiles = s.tiles := by rfl
@[simp] theorem State.setSeat_warp (p n : Nat) (x : SeatRec) : (s.setSeat p n x).warp = s.warp := by rfl
@[simp] theorem State.setSeat_mcs (p n : Nat) (x : SeatRec) : (s.setSeat p n x).mcs = s.mcs := by rfl
@[simp] theorem State.setSeat_clist (p n : Nat) (x : SeatRec) : (s.setSeat p n x).clist = s.clist := by rfl
@[simp] theorem State.setSeat_noSlice (p n : Nat) (x : SeatRec) : (s.setSeat p n x).noSlice = s.noSlice := by rfl
@[simp] theorem State.setSeat_ioReqs (p n : Nat) (x : SeatRec) : (s.setSeat p n x).ioReqs = s.ioReqs := by rfl
@[simp] theorem State.setSeat_boltHits (p n : Nat) (x : SeatRec) : (s.setSeat p n x).boltHits = s.boltHits := by rfl
@[simp] theorem State.setSeat_shoots (p n : Nat) (x : SeatRec) : (s.setSeat p n x).shoots = s.shoots := by rfl
@[simp] theorem State.setSeat_toOffline (p n : Nat) (x : SeatRec) : (s.setSeat p n x).toOffline = s.toOffline := by rfl
@[simp] theorem State.setSeat_keys (p n : Nat) (x : SeatRec) : (s.setSeat p n x).keys = s.keys := by rfl
@[simp] theorem State.setSeat_hpKeys (p n : Nat) (x : SeatRec) : (s.setSeat p n x).hpKeys = s.hpKeys := by rfl
@[simp] theorem State.setSeat_cxl (p n : Nat) (x : SeatRec) : (s.setSeat p n x).cxl = s.cxl := by rfl
@[simp] theorem State.setSeat_fwKey (p n : Nat) (x : SeatRec) : (s.setSeat p n x).fwKey = s.fwKey := by rfl
@[simp] theorem State.setSeat_ras (p n : Nat) (x : SeatRec) : (s.setSeat p n x).ras = s.ras := by rfl
@[simp] theorem State.setSeat_outUnits (p n : Nat) (x : SeatRec) : (s.setSeat p n x).outUnits = s.outUnits := by rfl
@[simp] theorem State.setSeat_cut (p n : Nat) (x : SeatRec) : (s.setSeat p n x).cut = s.cut := by rfl
@[simp] theorem State.setSeat_tape (p n : Nat) (x : SeatRec) : (s.setSeat p n x).tape = s.tape := by rfl
@[simp] theorem State.setSeat_sw (p n : Nat) (x : SeatRec) : (s.setSeat p n x).sw = s.sw := by rfl
@[simp] theorem State.setSeat_pwr (p n : Nat) (x : SeatRec) : (s.setSeat p n x).pwr = s.pwr := by rfl
@[simp] theorem State.setSeat_thm (p n : Nat) (x : SeatRec) : (s.setSeat p n x).thm = s.thm := by rfl
@[simp] theorem State.setSeat_time (p n : Nat) (x : SeatRec) : (s.setSeat p n x).time = s.time := by rfl
@[simp] theorem State.setSeat_weft (p n : Nat) (x : SeatRec) : (s.setSeat p n x).weft = s.weft := by rfl
@[simp] theorem State.setSeat_net (p n : Nat) (x : SeatRec) : (s.setSeat p n x).net = s.net := by rfl
@[simp] theorem State.setSeat_hio (p n : Nat) (x : SeatRec) : (s.setSeat p n x).hio = s.hio := by rfl
@[simp] theorem State.setSeat_boot (p n : Nat) (x : SeatRec) : (s.setSeat p n x).boot = s.boot := by rfl
@[simp] theorem State.setSeat_resetDue (p n : Nat) (x : SeatRec) : (s.setSeat p n x).resetDue = s.resetDue := by rfl

@[simp] theorem State.setByte_pending (a : Nat) (b : Byte) : (s.setByte a b).pending = s.pending := by rfl
@[simp] theorem State.setByte_sent (a : Nat) (b : Byte) : (s.setByte a b).sent = s.sent := by rfl
@[simp] theorem State.setByte_fresh (a : Nat) (b : Byte) : (s.setByte a b).fresh = s.fresh := by rfl
@[simp] theorem State.setByte_ticks (a : Nat) (b : Byte) : (s.setByte a b).ticks = s.ticks := by rfl
@[simp] theorem State.setByte_regs (a : Nat) (b : Byte) : (s.setByte a b).regs = s.regs := by rfl
@[simp] theorem State.setByte_cores (a : Nat) (b : Byte) : (s.setByte a b).cores = s.cores := by rfl
@[simp] theorem State.setByte_seats (a : Nat) (b : Byte) : (s.setByte a b).seats = s.seats := by rfl
@[simp] theorem State.setByte_panels (a : Nat) (b : Byte) : (s.setByte a b).panels = s.panels := by rfl
@[simp] theorem State.setByte_sint (a : Nat) (b : Byte) : (s.setByte a b).sint = s.sint := by rfl
@[simp] theorem State.setByte_twinEvents (a : Nat) (b : Byte) : (s.setByte a b).twinEvents = s.twinEvents := by rfl
@[simp] theorem State.setByte_pot (a : Nat) (b : Byte) : (s.setByte a b).pot = s.pot := by rfl
@[simp] theorem State.setByte_lineMeta (a : Nat) (b : Byte) : (s.setByte a b).lineMeta = s.lineMeta := by rfl
@[simp] theorem State.setByte_dirty (a : Nat) (b : Byte) : (s.setByte a b).dirty = s.dirty := by rfl
@[simp] theorem State.setByte_tiles (a : Nat) (b : Byte) : (s.setByte a b).tiles = s.tiles := by rfl
@[simp] theorem State.setByte_warp (a : Nat) (b : Byte) : (s.setByte a b).warp = s.warp := by rfl
@[simp] theorem State.setByte_mcs (a : Nat) (b : Byte) : (s.setByte a b).mcs = s.mcs := by rfl
@[simp] theorem State.setByte_clist (a : Nat) (b : Byte) : (s.setByte a b).clist = s.clist := by rfl
@[simp] theorem State.setByte_noSlice (a : Nat) (b : Byte) : (s.setByte a b).noSlice = s.noSlice := by rfl
@[simp] theorem State.setByte_ioReqs (a : Nat) (b : Byte) : (s.setByte a b).ioReqs = s.ioReqs := by rfl
@[simp] theorem State.setByte_boltHits (a : Nat) (b : Byte) : (s.setByte a b).boltHits = s.boltHits := by rfl
@[simp] theorem State.setByte_shoots (a : Nat) (b : Byte) : (s.setByte a b).shoots = s.shoots := by rfl
@[simp] theorem State.setByte_toOffline (a : Nat) (b : Byte) : (s.setByte a b).toOffline = s.toOffline := by rfl
@[simp] theorem State.setByte_keys (a : Nat) (b : Byte) : (s.setByte a b).keys = s.keys := by rfl
@[simp] theorem State.setByte_hpKeys (a : Nat) (b : Byte) : (s.setByte a b).hpKeys = s.hpKeys := by rfl
@[simp] theorem State.setByte_cxl (a : Nat) (b : Byte) : (s.setByte a b).cxl = s.cxl := by rfl
@[simp] theorem State.setByte_fwKey (a : Nat) (b : Byte) : (s.setByte a b).fwKey = s.fwKey := by rfl
@[simp] theorem State.setByte_ras (a : Nat) (b : Byte) : (s.setByte a b).ras = s.ras := by rfl
@[simp] theorem State.setByte_outUnits (a : Nat) (b : Byte) : (s.setByte a b).outUnits = s.outUnits := by rfl
@[simp] theorem State.setByte_cut (a : Nat) (b : Byte) : (s.setByte a b).cut = s.cut := by rfl
@[simp] theorem State.setByte_tape (a : Nat) (b : Byte) : (s.setByte a b).tape = s.tape := by rfl
@[simp] theorem State.setByte_sw (a : Nat) (b : Byte) : (s.setByte a b).sw = s.sw := by rfl
@[simp] theorem State.setByte_pwr (a : Nat) (b : Byte) : (s.setByte a b).pwr = s.pwr := by rfl
@[simp] theorem State.setByte_thm (a : Nat) (b : Byte) : (s.setByte a b).thm = s.thm := by rfl
@[simp] theorem State.setByte_time (a : Nat) (b : Byte) : (s.setByte a b).time = s.time := by rfl
@[simp] theorem State.setByte_weft (a : Nat) (b : Byte) : (s.setByte a b).weft = s.weft := by rfl
@[simp] theorem State.setByte_net (a : Nat) (b : Byte) : (s.setByte a b).net = s.net := by rfl
@[simp] theorem State.setByte_hio (a : Nat) (b : Byte) : (s.setByte a b).hio = s.hio := by rfl
@[simp] theorem State.setByte_boot (a : Nat) (b : Byte) : (s.setByte a b).boot = s.boot := by rfl
@[simp] theorem State.setByte_resetDue (a : Nat) (b : Byte) : (s.setByte a b).resetDue = s.resetDue := by rfl

@[simp] theorem State.setMeta_pending (k : Nat) (x : LineMeta) : (s.setMeta k x).pending = s.pending := by rfl
@[simp] theorem State.setMeta_sent (k : Nat) (x : LineMeta) : (s.setMeta k x).sent = s.sent := by rfl
@[simp] theorem State.setMeta_fresh (k : Nat) (x : LineMeta) : (s.setMeta k x).fresh = s.fresh := by rfl
@[simp] theorem State.setMeta_ticks (k : Nat) (x : LineMeta) : (s.setMeta k x).ticks = s.ticks := by rfl
@[simp] theorem State.setMeta_regs (k : Nat) (x : LineMeta) : (s.setMeta k x).regs = s.regs := by rfl
@[simp] theorem State.setMeta_cores (k : Nat) (x : LineMeta) : (s.setMeta k x).cores = s.cores := by rfl
@[simp] theorem State.setMeta_seats (k : Nat) (x : LineMeta) : (s.setMeta k x).seats = s.seats := by rfl
@[simp] theorem State.setMeta_panels (k : Nat) (x : LineMeta) : (s.setMeta k x).panels = s.panels := by rfl
@[simp] theorem State.setMeta_sint (k : Nat) (x : LineMeta) : (s.setMeta k x).sint = s.sint := by rfl
@[simp] theorem State.setMeta_twinEvents (k : Nat) (x : LineMeta) : (s.setMeta k x).twinEvents = s.twinEvents := by rfl
@[simp] theorem State.setMeta_pot (k : Nat) (x : LineMeta) : (s.setMeta k x).pot = s.pot := by rfl
@[simp] theorem State.setMeta_mem (k : Nat) (x : LineMeta) : (s.setMeta k x).mem = s.mem := by rfl
@[simp] theorem State.setMeta_dirty (k : Nat) (x : LineMeta) : (s.setMeta k x).dirty = s.dirty := by rfl
@[simp] theorem State.setMeta_tiles (k : Nat) (x : LineMeta) : (s.setMeta k x).tiles = s.tiles := by rfl
@[simp] theorem State.setMeta_warp (k : Nat) (x : LineMeta) : (s.setMeta k x).warp = s.warp := by rfl
@[simp] theorem State.setMeta_mcs (k : Nat) (x : LineMeta) : (s.setMeta k x).mcs = s.mcs := by rfl
@[simp] theorem State.setMeta_clist (k : Nat) (x : LineMeta) : (s.setMeta k x).clist = s.clist := by rfl
@[simp] theorem State.setMeta_noSlice (k : Nat) (x : LineMeta) : (s.setMeta k x).noSlice = s.noSlice := by rfl
@[simp] theorem State.setMeta_ioReqs (k : Nat) (x : LineMeta) : (s.setMeta k x).ioReqs = s.ioReqs := by rfl
@[simp] theorem State.setMeta_boltHits (k : Nat) (x : LineMeta) : (s.setMeta k x).boltHits = s.boltHits := by rfl
@[simp] theorem State.setMeta_shoots (k : Nat) (x : LineMeta) : (s.setMeta k x).shoots = s.shoots := by rfl
@[simp] theorem State.setMeta_toOffline (k : Nat) (x : LineMeta) : (s.setMeta k x).toOffline = s.toOffline := by rfl
@[simp] theorem State.setMeta_keys (k : Nat) (x : LineMeta) : (s.setMeta k x).keys = s.keys := by rfl
@[simp] theorem State.setMeta_hpKeys (k : Nat) (x : LineMeta) : (s.setMeta k x).hpKeys = s.hpKeys := by rfl
@[simp] theorem State.setMeta_cxl (k : Nat) (x : LineMeta) : (s.setMeta k x).cxl = s.cxl := by rfl
@[simp] theorem State.setMeta_fwKey (k : Nat) (x : LineMeta) : (s.setMeta k x).fwKey = s.fwKey := by rfl
@[simp] theorem State.setMeta_ras (k : Nat) (x : LineMeta) : (s.setMeta k x).ras = s.ras := by rfl
@[simp] theorem State.setMeta_outUnits (k : Nat) (x : LineMeta) : (s.setMeta k x).outUnits = s.outUnits := by rfl
@[simp] theorem State.setMeta_cut (k : Nat) (x : LineMeta) : (s.setMeta k x).cut = s.cut := by rfl
@[simp] theorem State.setMeta_tape (k : Nat) (x : LineMeta) : (s.setMeta k x).tape = s.tape := by rfl
@[simp] theorem State.setMeta_sw (k : Nat) (x : LineMeta) : (s.setMeta k x).sw = s.sw := by rfl
@[simp] theorem State.setMeta_pwr (k : Nat) (x : LineMeta) : (s.setMeta k x).pwr = s.pwr := by rfl
@[simp] theorem State.setMeta_thm (k : Nat) (x : LineMeta) : (s.setMeta k x).thm = s.thm := by rfl
@[simp] theorem State.setMeta_time (k : Nat) (x : LineMeta) : (s.setMeta k x).time = s.time := by rfl
@[simp] theorem State.setMeta_weft (k : Nat) (x : LineMeta) : (s.setMeta k x).weft = s.weft := by rfl
@[simp] theorem State.setMeta_net (k : Nat) (x : LineMeta) : (s.setMeta k x).net = s.net := by rfl
@[simp] theorem State.setMeta_hio (k : Nat) (x : LineMeta) : (s.setMeta k x).hio = s.hio := by rfl
@[simp] theorem State.setMeta_boot (k : Nat) (x : LineMeta) : (s.setMeta k x).boot = s.boot := by rfl
@[simp] theorem State.setMeta_resetDue (k : Nat) (x : LineMeta) : (s.setMeta k x).resetDue = s.resetDue := by rfl

@[simp] theorem State.setPot_pending (g e : Nat) : (s.setPot g e).pending = s.pending := by rfl
@[simp] theorem State.setPot_sent (g e : Nat) : (s.setPot g e).sent = s.sent := by rfl
@[simp] theorem State.setPot_fresh (g e : Nat) : (s.setPot g e).fresh = s.fresh := by rfl
@[simp] theorem State.setPot_ticks (g e : Nat) : (s.setPot g e).ticks = s.ticks := by rfl
@[simp] theorem State.setPot_regs (g e : Nat) : (s.setPot g e).regs = s.regs := by rfl
@[simp] theorem State.setPot_cores (g e : Nat) : (s.setPot g e).cores = s.cores := by rfl
@[simp] theorem State.setPot_seats (g e : Nat) : (s.setPot g e).seats = s.seats := by rfl
@[simp] theorem State.setPot_panels (g e : Nat) : (s.setPot g e).panels = s.panels := by rfl
@[simp] theorem State.setPot_sint (g e : Nat) : (s.setPot g e).sint = s.sint := by rfl
@[simp] theorem State.setPot_twinEvents (g e : Nat) : (s.setPot g e).twinEvents = s.twinEvents := by rfl
@[simp] theorem State.setPot_mem (g e : Nat) : (s.setPot g e).mem = s.mem := by rfl
@[simp] theorem State.setPot_lineMeta (g e : Nat) : (s.setPot g e).lineMeta = s.lineMeta := by rfl
@[simp] theorem State.setPot_dirty (g e : Nat) : (s.setPot g e).dirty = s.dirty := by rfl
@[simp] theorem State.setPot_tiles (g e : Nat) : (s.setPot g e).tiles = s.tiles := by rfl
@[simp] theorem State.setPot_warp (g e : Nat) : (s.setPot g e).warp = s.warp := by rfl
@[simp] theorem State.setPot_mcs (g e : Nat) : (s.setPot g e).mcs = s.mcs := by rfl
@[simp] theorem State.setPot_clist (g e : Nat) : (s.setPot g e).clist = s.clist := by rfl
@[simp] theorem State.setPot_noSlice (g e : Nat) : (s.setPot g e).noSlice = s.noSlice := by rfl
@[simp] theorem State.setPot_ioReqs (g e : Nat) : (s.setPot g e).ioReqs = s.ioReqs := by rfl
@[simp] theorem State.setPot_boltHits (g e : Nat) : (s.setPot g e).boltHits = s.boltHits := by rfl
@[simp] theorem State.setPot_shoots (g e : Nat) : (s.setPot g e).shoots = s.shoots := by rfl
@[simp] theorem State.setPot_toOffline (g e : Nat) : (s.setPot g e).toOffline = s.toOffline := by rfl
@[simp] theorem State.setPot_keys (g e : Nat) : (s.setPot g e).keys = s.keys := by rfl
@[simp] theorem State.setPot_hpKeys (g e : Nat) : (s.setPot g e).hpKeys = s.hpKeys := by rfl
@[simp] theorem State.setPot_cxl (g e : Nat) : (s.setPot g e).cxl = s.cxl := by rfl
@[simp] theorem State.setPot_fwKey (g e : Nat) : (s.setPot g e).fwKey = s.fwKey := by rfl
@[simp] theorem State.setPot_ras (g e : Nat) : (s.setPot g e).ras = s.ras := by rfl
@[simp] theorem State.setPot_outUnits (g e : Nat) : (s.setPot g e).outUnits = s.outUnits := by rfl
@[simp] theorem State.setPot_cut (g e : Nat) : (s.setPot g e).cut = s.cut := by rfl
@[simp] theorem State.setPot_tape (g e : Nat) : (s.setPot g e).tape = s.tape := by rfl
@[simp] theorem State.setPot_sw (g e : Nat) : (s.setPot g e).sw = s.sw := by rfl
@[simp] theorem State.setPot_pwr (g e : Nat) : (s.setPot g e).pwr = s.pwr := by rfl
@[simp] theorem State.setPot_thm (g e : Nat) : (s.setPot g e).thm = s.thm := by rfl
@[simp] theorem State.setPot_time (g e : Nat) : (s.setPot g e).time = s.time := by rfl
@[simp] theorem State.setPot_weft (g e : Nat) : (s.setPot g e).weft = s.weft := by rfl
@[simp] theorem State.setPot_net (g e : Nat) : (s.setPot g e).net = s.net := by rfl
@[simp] theorem State.setPot_hio (g e : Nat) : (s.setPot g e).hio = s.hio := by rfl
@[simp] theorem State.setPot_boot (g e : Nat) : (s.setPot g e).boot = s.boot := by rfl
@[simp] theorem State.setPot_resetDue (g e : Nat) : (s.setPot g e).resetDue = s.resetDue := by rfl

@[simp] theorem State.setTcr_pending (n : Nat) (v : Word) : (s.setTcr n v).pending = s.pending := by rfl
@[simp] theorem State.setTcr_sent (n : Nat) (v : Word) : (s.setTcr n v).sent = s.sent := by rfl
@[simp] theorem State.setTcr_fresh (n : Nat) (v : Word) : (s.setTcr n v).fresh = s.fresh := by rfl
@[simp] theorem State.setTcr_ticks (n : Nat) (v : Word) : (s.setTcr n v).ticks = s.ticks := by rfl
@[simp] theorem State.setTcr_regs (n : Nat) (v : Word) : (s.setTcr n v).regs = s.regs := by rfl
@[simp] theorem State.setTcr_cores (n : Nat) (v : Word) : (s.setTcr n v).cores = s.cores := by rfl
@[simp] theorem State.setTcr_seats (n : Nat) (v : Word) : (s.setTcr n v).seats = s.seats := by rfl
@[simp] theorem State.setTcr_panels (n : Nat) (v : Word) : (s.setTcr n v).panels = s.panels := by rfl
@[simp] theorem State.setTcr_sint (n : Nat) (v : Word) : (s.setTcr n v).sint = s.sint := by rfl
@[simp] theorem State.setTcr_twinEvents (n : Nat) (v : Word) : (s.setTcr n v).twinEvents = s.twinEvents := by rfl
@[simp] theorem State.setTcr_pot (n : Nat) (v : Word) : (s.setTcr n v).pot = s.pot := by rfl
@[simp] theorem State.setTcr_mem (n : Nat) (v : Word) : (s.setTcr n v).mem = s.mem := by rfl
@[simp] theorem State.setTcr_lineMeta (n : Nat) (v : Word) : (s.setTcr n v).lineMeta = s.lineMeta := by rfl
@[simp] theorem State.setTcr_dirty (n : Nat) (v : Word) : (s.setTcr n v).dirty = s.dirty := by rfl
@[simp] theorem State.setTcr_tiles (n : Nat) (v : Word) : (s.setTcr n v).tiles = s.tiles := by rfl
@[simp] theorem State.setTcr_warp (n : Nat) (v : Word) : (s.setTcr n v).warp = s.warp := by rfl
@[simp] theorem State.setTcr_mcs (n : Nat) (v : Word) : (s.setTcr n v).mcs = s.mcs := by rfl
@[simp] theorem State.setTcr_clist (n : Nat) (v : Word) : (s.setTcr n v).clist = s.clist := by rfl
@[simp] theorem State.setTcr_noSlice (n : Nat) (v : Word) : (s.setTcr n v).noSlice = s.noSlice := by rfl
@[simp] theorem State.setTcr_ioReqs (n : Nat) (v : Word) : (s.setTcr n v).ioReqs = s.ioReqs := by rfl
@[simp] theorem State.setTcr_boltHits (n : Nat) (v : Word) : (s.setTcr n v).boltHits = s.boltHits := by rfl
@[simp] theorem State.setTcr_shoots (n : Nat) (v : Word) : (s.setTcr n v).shoots = s.shoots := by rfl
@[simp] theorem State.setTcr_toOffline (n : Nat) (v : Word) : (s.setTcr n v).toOffline = s.toOffline := by rfl
@[simp] theorem State.setTcr_keys (n : Nat) (v : Word) : (s.setTcr n v).keys = s.keys := by rfl
@[simp] theorem State.setTcr_hpKeys (n : Nat) (v : Word) : (s.setTcr n v).hpKeys = s.hpKeys := by rfl
@[simp] theorem State.setTcr_cxl (n : Nat) (v : Word) : (s.setTcr n v).cxl = s.cxl := by rfl
@[simp] theorem State.setTcr_fwKey (n : Nat) (v : Word) : (s.setTcr n v).fwKey = s.fwKey := by rfl
@[simp] theorem State.setTcr_ras (n : Nat) (v : Word) : (s.setTcr n v).ras = s.ras := by rfl
@[simp] theorem State.setTcr_outUnits (n : Nat) (v : Word) : (s.setTcr n v).outUnits = s.outUnits := by rfl
@[simp] theorem State.setTcr_cut (n : Nat) (v : Word) : (s.setTcr n v).cut = s.cut := by rfl
@[simp] theorem State.setTcr_tape (n : Nat) (v : Word) : (s.setTcr n v).tape = s.tape := by rfl
@[simp] theorem State.setTcr_sw (n : Nat) (v : Word) : (s.setTcr n v).sw = s.sw := by rfl
@[simp] theorem State.setTcr_pwr (n : Nat) (v : Word) : (s.setTcr n v).pwr = s.pwr := by rfl
@[simp] theorem State.setTcr_time (n : Nat) (v : Word) : (s.setTcr n v).time = s.time := by rfl
@[simp] theorem State.setTcr_weft (n : Nat) (v : Word) : (s.setTcr n v).weft = s.weft := by rfl
@[simp] theorem State.setTcr_net (n : Nat) (v : Word) : (s.setTcr n v).net = s.net := by rfl
@[simp] theorem State.setTcr_hio (n : Nat) (v : Word) : (s.setTcr n v).hio = s.hio := by rfl
@[simp] theorem State.setTcr_boot (n : Nat) (v : Word) : (s.setTcr n v).boot = s.boot := by rfl
@[simp] theorem State.setTcr_resetDue (n : Nat) (v : Word) : (s.setTcr n v).resetDue = s.resetDue := by rfl

@[simp] theorem State.swWrite_pending (w : SwWrite) : (s.swWrite w).pending = s.pending := by rfl
@[simp] theorem State.swWrite_sent (w : SwWrite) : (s.swWrite w).sent = s.sent := by rfl
@[simp] theorem State.swWrite_fresh (w : SwWrite) : (s.swWrite w).fresh = s.fresh := by rfl
@[simp] theorem State.swWrite_ticks (w : SwWrite) : (s.swWrite w).ticks = s.ticks := by rfl
@[simp] theorem State.swWrite_regs (w : SwWrite) : (s.swWrite w).regs = s.regs := by rfl
@[simp] theorem State.swWrite_cores (w : SwWrite) : (s.swWrite w).cores = s.cores := by rfl
@[simp] theorem State.swWrite_seats (w : SwWrite) : (s.swWrite w).seats = s.seats := by rfl
@[simp] theorem State.swWrite_panels (w : SwWrite) : (s.swWrite w).panels = s.panels := by rfl
@[simp] theorem State.swWrite_sint (w : SwWrite) : (s.swWrite w).sint = s.sint := by rfl
@[simp] theorem State.swWrite_twinEvents (w : SwWrite) : (s.swWrite w).twinEvents = s.twinEvents := by rfl
@[simp] theorem State.swWrite_pot (w : SwWrite) : (s.swWrite w).pot = s.pot := by rfl
@[simp] theorem State.swWrite_mem (w : SwWrite) : (s.swWrite w).mem = s.mem := by rfl
@[simp] theorem State.swWrite_lineMeta (w : SwWrite) : (s.swWrite w).lineMeta = s.lineMeta := by rfl
@[simp] theorem State.swWrite_dirty (w : SwWrite) : (s.swWrite w).dirty = s.dirty := by rfl
@[simp] theorem State.swWrite_tiles (w : SwWrite) : (s.swWrite w).tiles = s.tiles := by rfl
@[simp] theorem State.swWrite_warp (w : SwWrite) : (s.swWrite w).warp = s.warp := by rfl
@[simp] theorem State.swWrite_mcs (w : SwWrite) : (s.swWrite w).mcs = s.mcs := by rfl
@[simp] theorem State.swWrite_clist (w : SwWrite) : (s.swWrite w).clist = s.clist := by rfl
@[simp] theorem State.swWrite_noSlice (w : SwWrite) : (s.swWrite w).noSlice = s.noSlice := by rfl
@[simp] theorem State.swWrite_ioReqs (w : SwWrite) : (s.swWrite w).ioReqs = s.ioReqs := by rfl
@[simp] theorem State.swWrite_boltHits (w : SwWrite) : (s.swWrite w).boltHits = s.boltHits := by rfl
@[simp] theorem State.swWrite_shoots (w : SwWrite) : (s.swWrite w).shoots = s.shoots := by rfl
@[simp] theorem State.swWrite_toOffline (w : SwWrite) : (s.swWrite w).toOffline = s.toOffline := by rfl
@[simp] theorem State.swWrite_keys (w : SwWrite) : (s.swWrite w).keys = s.keys := by rfl
@[simp] theorem State.swWrite_hpKeys (w : SwWrite) : (s.swWrite w).hpKeys = s.hpKeys := by rfl
@[simp] theorem State.swWrite_cxl (w : SwWrite) : (s.swWrite w).cxl = s.cxl := by rfl
@[simp] theorem State.swWrite_fwKey (w : SwWrite) : (s.swWrite w).fwKey = s.fwKey := by rfl
@[simp] theorem State.swWrite_ras (w : SwWrite) : (s.swWrite w).ras = s.ras := by rfl
@[simp] theorem State.swWrite_outUnits (w : SwWrite) : (s.swWrite w).outUnits = s.outUnits := by rfl
@[simp] theorem State.swWrite_cut (w : SwWrite) : (s.swWrite w).cut = s.cut := by rfl
@[simp] theorem State.swWrite_tape (w : SwWrite) : (s.swWrite w).tape = s.tape := by rfl
@[simp] theorem State.swWrite_pwr (w : SwWrite) : (s.swWrite w).pwr = s.pwr := by rfl
@[simp] theorem State.swWrite_thm (w : SwWrite) : (s.swWrite w).thm = s.thm := by rfl
@[simp] theorem State.swWrite_time (w : SwWrite) : (s.swWrite w).time = s.time := by rfl
@[simp] theorem State.swWrite_weft (w : SwWrite) : (s.swWrite w).weft = s.weft := by rfl
@[simp] theorem State.swWrite_net (w : SwWrite) : (s.swWrite w).net = s.net := by rfl
@[simp] theorem State.swWrite_hio (w : SwWrite) : (s.swWrite w).hio = s.hio := by rfl
@[simp] theorem State.swWrite_boot (w : SwWrite) : (s.swWrite w).boot = s.boot := by rfl
@[simp] theorem State.swWrite_resetDue (w : SwWrite) : (s.swWrite w).resetDue = s.resetDue := by rfl

@[simp] theorem State.resetAt_pending (k : ResetKind) : (s.resetAt k).pending = s.pending := by rfl
@[simp] theorem State.resetAt_sent (k : ResetKind) : (s.resetAt k).sent = s.sent := by rfl
@[simp] theorem State.resetAt_fresh (k : ResetKind) : (s.resetAt k).fresh = s.fresh := by rfl
@[simp] theorem State.resetAt_ticks (k : ResetKind) : (s.resetAt k).ticks = s.ticks := by rfl
@[simp] theorem State.resetAt_regs (k : ResetKind) : (s.resetAt k).regs = s.regs := by rfl
@[simp] theorem State.resetAt_cores (k : ResetKind) : (s.resetAt k).cores = s.cores := by rfl
@[simp] theorem State.resetAt_seats (k : ResetKind) : (s.resetAt k).seats = s.seats := by rfl
@[simp] theorem State.resetAt_panels (k : ResetKind) : (s.resetAt k).panels = s.panels := by rfl
@[simp] theorem State.resetAt_sint (k : ResetKind) : (s.resetAt k).sint = s.sint := by rfl
@[simp] theorem State.resetAt_twinEvents (k : ResetKind) : (s.resetAt k).twinEvents = s.twinEvents := by rfl
@[simp] theorem State.resetAt_pot (k : ResetKind) : (s.resetAt k).pot = s.pot := by rfl
@[simp] theorem State.resetAt_mem (k : ResetKind) : (s.resetAt k).mem = s.mem := by rfl
@[simp] theorem State.resetAt_lineMeta (k : ResetKind) : (s.resetAt k).lineMeta = s.lineMeta := by rfl
@[simp] theorem State.resetAt_dirty (k : ResetKind) : (s.resetAt k).dirty = s.dirty := by rfl
@[simp] theorem State.resetAt_tiles (k : ResetKind) : (s.resetAt k).tiles = s.tiles := by rfl
@[simp] theorem State.resetAt_warp (k : ResetKind) : (s.resetAt k).warp = s.warp := by rfl
@[simp] theorem State.resetAt_mcs (k : ResetKind) : (s.resetAt k).mcs = s.mcs := by rfl
@[simp] theorem State.resetAt_clist (k : ResetKind) : (s.resetAt k).clist = s.clist := by rfl
@[simp] theorem State.resetAt_noSlice (k : ResetKind) : (s.resetAt k).noSlice = s.noSlice := by rfl
@[simp] theorem State.resetAt_ioReqs (k : ResetKind) : (s.resetAt k).ioReqs = s.ioReqs := by rfl
@[simp] theorem State.resetAt_boltHits (k : ResetKind) : (s.resetAt k).boltHits = s.boltHits := by rfl
@[simp] theorem State.resetAt_shoots (k : ResetKind) : (s.resetAt k).shoots = s.shoots := by rfl
@[simp] theorem State.resetAt_toOffline (k : ResetKind) : (s.resetAt k).toOffline = s.toOffline := by rfl
@[simp] theorem State.resetAt_keys (k : ResetKind) : (s.resetAt k).keys = s.keys := by rfl
@[simp] theorem State.resetAt_hpKeys (k : ResetKind) : (s.resetAt k).hpKeys = s.hpKeys := by rfl
@[simp] theorem State.resetAt_cxl (k : ResetKind) : (s.resetAt k).cxl = s.cxl := by rfl
@[simp] theorem State.resetAt_fwKey (k : ResetKind) : (s.resetAt k).fwKey = s.fwKey := by rfl
@[simp] theorem State.resetAt_ras (k : ResetKind) : (s.resetAt k).ras = s.ras := by rfl
@[simp] theorem State.resetAt_outUnits (k : ResetKind) : (s.resetAt k).outUnits = s.outUnits := by rfl
@[simp] theorem State.resetAt_cut (k : ResetKind) : (s.resetAt k).cut = s.cut := by rfl
@[simp] theorem State.resetAt_tape (k : ResetKind) : (s.resetAt k).tape = s.tape := by rfl
@[simp] theorem State.resetAt_sw (k : ResetKind) : (s.resetAt k).sw = s.sw := by rfl
@[simp] theorem State.resetAt_pwr (k : ResetKind) : (s.resetAt k).pwr = s.pwr := by rfl
@[simp] theorem State.resetAt_thm (k : ResetKind) : (s.resetAt k).thm = s.thm := by rfl
@[simp] theorem State.resetAt_time (k : ResetKind) : (s.resetAt k).time = s.time := by rfl
@[simp] theorem State.resetAt_weft (k : ResetKind) : (s.resetAt k).weft = s.weft := by rfl
@[simp] theorem State.resetAt_net (k : ResetKind) : (s.resetAt k).net = s.net := by rfl
@[simp] theorem State.resetAt_hio (k : ResetKind) : (s.resetAt k).hio = s.hio := by rfl
@[simp] theorem State.resetAt_boot (k : ResetKind) : (s.resetAt k).boot = s.boot := by rfl

@[simp] theorem State.take_pending (q : OckReq) : (s.take q).pending = s.pending := by rfl
@[simp] theorem State.take_sent (q : OckReq) : (s.take q).sent = s.sent := by rfl
@[simp] theorem State.take_fresh (q : OckReq) : (s.take q).fresh = s.fresh := by rfl
@[simp] theorem State.take_ticks (q : OckReq) : (s.take q).ticks = s.ticks := by rfl
@[simp] theorem State.take_regs (q : OckReq) : (s.take q).regs = s.regs := by rfl
@[simp] theorem State.take_cores (q : OckReq) : (s.take q).cores = s.cores := by rfl
@[simp] theorem State.take_seats (q : OckReq) : (s.take q).seats = s.seats := by rfl
@[simp] theorem State.take_panels (q : OckReq) : (s.take q).panels = s.panels := by rfl
@[simp] theorem State.take_sint (q : OckReq) : (s.take q).sint = s.sint := by rfl
@[simp] theorem State.take_twinEvents (q : OckReq) : (s.take q).twinEvents = s.twinEvents := by rfl
@[simp] theorem State.take_pot (q : OckReq) : (s.take q).pot = s.pot := by rfl
@[simp] theorem State.take_mem (q : OckReq) : (s.take q).mem = s.mem := by rfl
@[simp] theorem State.take_lineMeta (q : OckReq) : (s.take q).lineMeta = s.lineMeta := by rfl
@[simp] theorem State.take_dirty (q : OckReq) : (s.take q).dirty = s.dirty := by rfl
@[simp] theorem State.take_tiles (q : OckReq) : (s.take q).tiles = s.tiles := by rfl
@[simp] theorem State.take_warp (q : OckReq) : (s.take q).warp = s.warp := by rfl
@[simp] theorem State.take_mcs (q : OckReq) : (s.take q).mcs = s.mcs := by rfl
@[simp] theorem State.take_clist (q : OckReq) : (s.take q).clist = s.clist := by rfl
@[simp] theorem State.take_noSlice (q : OckReq) : (s.take q).noSlice = s.noSlice := by rfl
@[simp] theorem State.take_ioReqs (q : OckReq) : (s.take q).ioReqs = s.ioReqs := by rfl
@[simp] theorem State.take_boltHits (q : OckReq) : (s.take q).boltHits = s.boltHits := by rfl
@[simp] theorem State.take_shoots (q : OckReq) : (s.take q).shoots = s.shoots := by rfl
@[simp] theorem State.take_toOffline (q : OckReq) : (s.take q).toOffline = s.toOffline := by rfl
@[simp] theorem State.take_keys (q : OckReq) : (s.take q).keys = s.keys := by rfl
@[simp] theorem State.take_hpKeys (q : OckReq) : (s.take q).hpKeys = s.hpKeys := by rfl
@[simp] theorem State.take_cxl (q : OckReq) : (s.take q).cxl = s.cxl := by rfl
@[simp] theorem State.take_fwKey (q : OckReq) : (s.take q).fwKey = s.fwKey := by rfl
@[simp] theorem State.take_ras (q : OckReq) : (s.take q).ras = s.ras := by rfl
@[simp] theorem State.take_outUnits (q : OckReq) : (s.take q).outUnits = s.outUnits := by rfl
@[simp] theorem State.take_cut (q : OckReq) : (s.take q).cut = s.cut := by rfl
@[simp] theorem State.take_tape (q : OckReq) : (s.take q).tape = s.tape := by rfl
@[simp] theorem State.take_sw (q : OckReq) : (s.take q).sw = s.sw := by rfl
@[simp] theorem State.take_pwr (q : OckReq) : (s.take q).pwr = s.pwr := by rfl
@[simp] theorem State.take_time (q : OckReq) : (s.take q).time = s.time := by rfl
@[simp] theorem State.take_weft (q : OckReq) : (s.take q).weft = s.weft := by rfl
@[simp] theorem State.take_net (q : OckReq) : (s.take q).net = s.net := by rfl
@[simp] theorem State.take_hio (q : OckReq) : (s.take q).hio = s.hio := by rfl
@[simp] theorem State.take_boot (q : OckReq) : (s.take q).boot = s.boot := by rfl
@[simp] theorem State.take_resetDue (q : OckReq) : (s.take q).resetDue = s.resetDue := by rfl

@[simp] theorem State.setSession_pending (k : Nat) (x : Session) : (s.setSession k x).pending = s.pending := by rfl
@[simp] theorem State.setSession_sent (k : Nat) (x : Session) : (s.setSession k x).sent = s.sent := by rfl
@[simp] theorem State.setSession_fresh (k : Nat) (x : Session) : (s.setSession k x).fresh = s.fresh := by rfl
@[simp] theorem State.setSession_ticks (k : Nat) (x : Session) : (s.setSession k x).ticks = s.ticks := by rfl
@[simp] theorem State.setSession_regs (k : Nat) (x : Session) : (s.setSession k x).regs = s.regs := by rfl
@[simp] theorem State.setSession_cores (k : Nat) (x : Session) : (s.setSession k x).cores = s.cores := by rfl
@[simp] theorem State.setSession_seats (k : Nat) (x : Session) : (s.setSession k x).seats = s.seats := by rfl
@[simp] theorem State.setSession_panels (k : Nat) (x : Session) : (s.setSession k x).panels = s.panels := by rfl
@[simp] theorem State.setSession_sint (k : Nat) (x : Session) : (s.setSession k x).sint = s.sint := by rfl
@[simp] theorem State.setSession_twinEvents (k : Nat) (x : Session) : (s.setSession k x).twinEvents = s.twinEvents := by rfl
@[simp] theorem State.setSession_pot (k : Nat) (x : Session) : (s.setSession k x).pot = s.pot := by rfl
@[simp] theorem State.setSession_mem (k : Nat) (x : Session) : (s.setSession k x).mem = s.mem := by rfl
@[simp] theorem State.setSession_lineMeta (k : Nat) (x : Session) : (s.setSession k x).lineMeta = s.lineMeta := by rfl
@[simp] theorem State.setSession_dirty (k : Nat) (x : Session) : (s.setSession k x).dirty = s.dirty := by rfl
@[simp] theorem State.setSession_tiles (k : Nat) (x : Session) : (s.setSession k x).tiles = s.tiles := by rfl
@[simp] theorem State.setSession_warp (k : Nat) (x : Session) : (s.setSession k x).warp = s.warp := by rfl
@[simp] theorem State.setSession_mcs (k : Nat) (x : Session) : (s.setSession k x).mcs = s.mcs := by rfl
@[simp] theorem State.setSession_clist (k : Nat) (x : Session) : (s.setSession k x).clist = s.clist := by rfl
@[simp] theorem State.setSession_noSlice (k : Nat) (x : Session) : (s.setSession k x).noSlice = s.noSlice := by rfl
@[simp] theorem State.setSession_ioReqs (k : Nat) (x : Session) : (s.setSession k x).ioReqs = s.ioReqs := by rfl
@[simp] theorem State.setSession_boltHits (k : Nat) (x : Session) : (s.setSession k x).boltHits = s.boltHits := by rfl
@[simp] theorem State.setSession_shoots (k : Nat) (x : Session) : (s.setSession k x).shoots = s.shoots := by rfl
@[simp] theorem State.setSession_toOffline (k : Nat) (x : Session) : (s.setSession k x).toOffline = s.toOffline := by rfl
@[simp] theorem State.setSession_keys (k : Nat) (x : Session) : (s.setSession k x).keys = s.keys := by rfl
@[simp] theorem State.setSession_hpKeys (k : Nat) (x : Session) : (s.setSession k x).hpKeys = s.hpKeys := by rfl
@[simp] theorem State.setSession_cxl (k : Nat) (x : Session) : (s.setSession k x).cxl = s.cxl := by rfl
@[simp] theorem State.setSession_fwKey (k : Nat) (x : Session) : (s.setSession k x).fwKey = s.fwKey := by rfl
@[simp] theorem State.setSession_ras (k : Nat) (x : Session) : (s.setSession k x).ras = s.ras := by rfl
@[simp] theorem State.setSession_outUnits (k : Nat) (x : Session) : (s.setSession k x).outUnits = s.outUnits := by rfl
@[simp] theorem State.setSession_cut (k : Nat) (x : Session) : (s.setSession k x).cut = s.cut := by rfl
@[simp] theorem State.setSession_tape (k : Nat) (x : Session) : (s.setSession k x).tape = s.tape := by rfl
@[simp] theorem State.setSession_sw (k : Nat) (x : Session) : (s.setSession k x).sw = s.sw := by rfl
@[simp] theorem State.setSession_pwr (k : Nat) (x : Session) : (s.setSession k x).pwr = s.pwr := by rfl
@[simp] theorem State.setSession_time (k : Nat) (x : Session) : (s.setSession k x).time = s.time := by rfl
@[simp] theorem State.setSession_weft (k : Nat) (x : Session) : (s.setSession k x).weft = s.weft := by rfl
@[simp] theorem State.setSession_net (k : Nat) (x : Session) : (s.setSession k x).net = s.net := by rfl
@[simp] theorem State.setSession_hio (k : Nat) (x : Session) : (s.setSession k x).hio = s.hio := by rfl
@[simp] theorem State.setSession_boot (k : Nat) (x : Session) : (s.setSession k x).boot = s.boot := by rfl
@[simp] theorem State.setSession_resetDue (k : Nat) (x : Session) : (s.setSession k x).resetDue = s.resetDue := by rfl

@[simp] theorem State.dropSession_pending (k : Nat) : (s.dropSession k).pending = s.pending := by rfl
@[simp] theorem State.dropSession_sent (k : Nat) : (s.dropSession k).sent = s.sent := by rfl
@[simp] theorem State.dropSession_fresh (k : Nat) : (s.dropSession k).fresh = s.fresh := by rfl
@[simp] theorem State.dropSession_ticks (k : Nat) : (s.dropSession k).ticks = s.ticks := by rfl
@[simp] theorem State.dropSession_regs (k : Nat) : (s.dropSession k).regs = s.regs := by rfl
@[simp] theorem State.dropSession_cores (k : Nat) : (s.dropSession k).cores = s.cores := by rfl
@[simp] theorem State.dropSession_seats (k : Nat) : (s.dropSession k).seats = s.seats := by rfl
@[simp] theorem State.dropSession_panels (k : Nat) : (s.dropSession k).panels = s.panels := by rfl
@[simp] theorem State.dropSession_sint (k : Nat) : (s.dropSession k).sint = s.sint := by rfl
@[simp] theorem State.dropSession_twinEvents (k : Nat) : (s.dropSession k).twinEvents = s.twinEvents := by rfl
@[simp] theorem State.dropSession_pot (k : Nat) : (s.dropSession k).pot = s.pot := by rfl
@[simp] theorem State.dropSession_mem (k : Nat) : (s.dropSession k).mem = s.mem := by rfl
@[simp] theorem State.dropSession_lineMeta (k : Nat) : (s.dropSession k).lineMeta = s.lineMeta := by rfl
@[simp] theorem State.dropSession_dirty (k : Nat) : (s.dropSession k).dirty = s.dirty := by rfl
@[simp] theorem State.dropSession_tiles (k : Nat) : (s.dropSession k).tiles = s.tiles := by rfl
@[simp] theorem State.dropSession_warp (k : Nat) : (s.dropSession k).warp = s.warp := by rfl
@[simp] theorem State.dropSession_mcs (k : Nat) : (s.dropSession k).mcs = s.mcs := by rfl
@[simp] theorem State.dropSession_clist (k : Nat) : (s.dropSession k).clist = s.clist := by rfl
@[simp] theorem State.dropSession_noSlice (k : Nat) : (s.dropSession k).noSlice = s.noSlice := by rfl
@[simp] theorem State.dropSession_ioReqs (k : Nat) : (s.dropSession k).ioReqs = s.ioReqs := by rfl
@[simp] theorem State.dropSession_boltHits (k : Nat) : (s.dropSession k).boltHits = s.boltHits := by rfl
@[simp] theorem State.dropSession_shoots (k : Nat) : (s.dropSession k).shoots = s.shoots := by rfl
@[simp] theorem State.dropSession_toOffline (k : Nat) : (s.dropSession k).toOffline = s.toOffline := by rfl
@[simp] theorem State.dropSession_keys (k : Nat) : (s.dropSession k).keys = s.keys := by rfl
@[simp] theorem State.dropSession_hpKeys (k : Nat) : (s.dropSession k).hpKeys = s.hpKeys := by rfl
@[simp] theorem State.dropSession_cxl (k : Nat) : (s.dropSession k).cxl = s.cxl := by rfl
@[simp] theorem State.dropSession_fwKey (k : Nat) : (s.dropSession k).fwKey = s.fwKey := by rfl
@[simp] theorem State.dropSession_ras (k : Nat) : (s.dropSession k).ras = s.ras := by rfl
@[simp] theorem State.dropSession_outUnits (k : Nat) : (s.dropSession k).outUnits = s.outUnits := by rfl
@[simp] theorem State.dropSession_cut (k : Nat) : (s.dropSession k).cut = s.cut := by rfl
@[simp] theorem State.dropSession_tape (k : Nat) : (s.dropSession k).tape = s.tape := by rfl
@[simp] theorem State.dropSession_sw (k : Nat) : (s.dropSession k).sw = s.sw := by rfl
@[simp] theorem State.dropSession_pwr (k : Nat) : (s.dropSession k).pwr = s.pwr := by rfl
@[simp] theorem State.dropSession_time (k : Nat) : (s.dropSession k).time = s.time := by rfl
@[simp] theorem State.dropSession_weft (k : Nat) : (s.dropSession k).weft = s.weft := by rfl
@[simp] theorem State.dropSession_net (k : Nat) : (s.dropSession k).net = s.net := by rfl
@[simp] theorem State.dropSession_hio (k : Nat) : (s.dropSession k).hio = s.hio := by rfl
@[simp] theorem State.dropSession_boot (k : Nat) : (s.dropSession k).boot = s.boot := by rfl
@[simp] theorem State.dropSession_resetDue (k : Nat) : (s.dropSession k).resetDue = s.resetDue := by rfl

@[simp] theorem State.dropJob_pending (k : Nat) : (s.dropJob k).pending = s.pending := by rfl
@[simp] theorem State.dropJob_sent (k : Nat) : (s.dropJob k).sent = s.sent := by rfl
@[simp] theorem State.dropJob_fresh (k : Nat) : (s.dropJob k).fresh = s.fresh := by rfl
@[simp] theorem State.dropJob_ticks (k : Nat) : (s.dropJob k).ticks = s.ticks := by rfl
@[simp] theorem State.dropJob_regs (k : Nat) : (s.dropJob k).regs = s.regs := by rfl
@[simp] theorem State.dropJob_cores (k : Nat) : (s.dropJob k).cores = s.cores := by rfl
@[simp] theorem State.dropJob_seats (k : Nat) : (s.dropJob k).seats = s.seats := by rfl
@[simp] theorem State.dropJob_panels (k : Nat) : (s.dropJob k).panels = s.panels := by rfl
@[simp] theorem State.dropJob_sint (k : Nat) : (s.dropJob k).sint = s.sint := by rfl
@[simp] theorem State.dropJob_twinEvents (k : Nat) : (s.dropJob k).twinEvents = s.twinEvents := by rfl
@[simp] theorem State.dropJob_pot (k : Nat) : (s.dropJob k).pot = s.pot := by rfl
@[simp] theorem State.dropJob_mem (k : Nat) : (s.dropJob k).mem = s.mem := by rfl
@[simp] theorem State.dropJob_lineMeta (k : Nat) : (s.dropJob k).lineMeta = s.lineMeta := by rfl
@[simp] theorem State.dropJob_dirty (k : Nat) : (s.dropJob k).dirty = s.dirty := by rfl
@[simp] theorem State.dropJob_tiles (k : Nat) : (s.dropJob k).tiles = s.tiles := by rfl
@[simp] theorem State.dropJob_warp (k : Nat) : (s.dropJob k).warp = s.warp := by rfl
@[simp] theorem State.dropJob_mcs (k : Nat) : (s.dropJob k).mcs = s.mcs := by rfl
@[simp] theorem State.dropJob_clist (k : Nat) : (s.dropJob k).clist = s.clist := by rfl
@[simp] theorem State.dropJob_noSlice (k : Nat) : (s.dropJob k).noSlice = s.noSlice := by rfl
@[simp] theorem State.dropJob_ioReqs (k : Nat) : (s.dropJob k).ioReqs = s.ioReqs := by rfl
@[simp] theorem State.dropJob_boltHits (k : Nat) : (s.dropJob k).boltHits = s.boltHits := by rfl
@[simp] theorem State.dropJob_shoots (k : Nat) : (s.dropJob k).shoots = s.shoots := by rfl
@[simp] theorem State.dropJob_toOffline (k : Nat) : (s.dropJob k).toOffline = s.toOffline := by rfl
@[simp] theorem State.dropJob_keys (k : Nat) : (s.dropJob k).keys = s.keys := by rfl
@[simp] theorem State.dropJob_hpKeys (k : Nat) : (s.dropJob k).hpKeys = s.hpKeys := by rfl
@[simp] theorem State.dropJob_cxl (k : Nat) : (s.dropJob k).cxl = s.cxl := by rfl
@[simp] theorem State.dropJob_fwKey (k : Nat) : (s.dropJob k).fwKey = s.fwKey := by rfl
@[simp] theorem State.dropJob_ras (k : Nat) : (s.dropJob k).ras = s.ras := by rfl
@[simp] theorem State.dropJob_outUnits (k : Nat) : (s.dropJob k).outUnits = s.outUnits := by rfl
@[simp] theorem State.dropJob_cut (k : Nat) : (s.dropJob k).cut = s.cut := by rfl
@[simp] theorem State.dropJob_tape (k : Nat) : (s.dropJob k).tape = s.tape := by rfl
@[simp] theorem State.dropJob_sw (k : Nat) : (s.dropJob k).sw = s.sw := by rfl
@[simp] theorem State.dropJob_pwr (k : Nat) : (s.dropJob k).pwr = s.pwr := by rfl
@[simp] theorem State.dropJob_time (k : Nat) : (s.dropJob k).time = s.time := by rfl
@[simp] theorem State.dropJob_weft (k : Nat) : (s.dropJob k).weft = s.weft := by rfl
@[simp] theorem State.dropJob_net (k : Nat) : (s.dropJob k).net = s.net := by rfl
@[simp] theorem State.dropJob_hio (k : Nat) : (s.dropJob k).hio = s.hio := by rfl
@[simp] theorem State.dropJob_boot (k : Nat) : (s.dropJob k).boot = s.boot := by rfl
@[simp] theorem State.dropJob_resetDue (k : Nat) : (s.dropJob k).resetDue = s.resetDue := by rfl

end Sys2Proof.Machine
end

