-- ==== Sys2Proof/Laws/Reg.lean ====
section
/-! SUPPORT. Laws of bit fields and of the register file: a field read after a field write, and a register read after a
register write. -/

namespace Sys2Proof.Machine

/-! ### Bit fields -/

theorem bits_eq (n hi lo : Nat) : bits n hi lo = n / 2 ^ lo % 2 ^ (hi + 1 - lo) := by
  simp [bits, Nat.shiftRight_eq_div_pow]

theorem testBit_bits (n hi lo i : Nat) :
    (bits n hi lo).testBit i = (decide (i < hi + 1 - lo) && n.testBit (lo + i)) := by
  simp [bits, Nat.testBit_mod_two_pow, Nat.testBit_shiftRight]

/-- A replaced field, written with quotients. -/
theorem setBits_eq (n hi lo v : Nat) :
    setBits n hi lo v =
      2 ^ lo * (2 ^ (hi + 1 - lo) * (n / 2 ^ lo / 2 ^ (hi + 1 - lo)) + v % 2 ^ (hi + 1 - lo)) + n % 2 ^ lo := by
  rw [setBits, bits_eq, Nat.shiftLeft_eq, Nat.shiftLeft_eq]
  generalize 2 ^ (hi + 1 - lo) = w
  have h1 := Nat.div_add_mod n (2 ^ lo)
  have h2 := Nat.div_add_mod (n / 2 ^ lo) w
  generalize 2 ^ lo = l at *
  generalize n / l / w = a at *
  generalize n / l % w = b at *
  generalize n / l = c at *
  subst h2
  have h3 : n = l * (w * a) + l * b + n % l := by rw [← Nat.mul_add]; exact h1.symm
  have h4 : n - b * l = l * (w * a) + n % l := by rw [Nat.mul_comm b l]; omega
  rw [h4, Nat.mul_add, Nat.mul_comm (v % w) l]
  omega

/-- Bit by bit: the field's bits are the value's, the others the number's. -/
theorem testBit_setBits (n hi lo v i : Nat) :
    (setBits n hi lo v).testBit i =
      if lo ≤ i ∧ i < lo + (hi + 1 - lo) then v.testBit (i - lo) else n.testBit i := by
  rw [setBits_eq, Nat.testBit_two_pow_mul_add _ (Nat.mod_lt _ (Nat.two_pow_pos lo))]
  by_cases h1 : i < lo
  · simp [h1, Nat.not_le.mpr h1, Nat.testBit_mod_two_pow]
  · simp only [h1, if_false]
    rw [Nat.testBit_two_pow_mul_add _ (Nat.mod_lt _ (Nat.two_pow_pos _))]
    by_cases h2 : i - lo < hi + 1 - lo
    · have : lo ≤ i ∧ i < lo + (hi + 1 - lo) := by omega
      simp [h2, this, Nat.testBit_mod_two_pow]
    · have : ¬(lo ≤ i ∧ i < lo + (hi + 1 - lo)) := by omega
      rw [if_neg h2, if_neg this, ← Nat.shiftRight_eq_div_pow, ← Nat.shiftRight_eq_div_pow,
        Nat.testBit_shiftRight, Nat.testBit_shiftRight]
      congr 1; omega

/-- A field reads what was put into it, cut to its width. -/
@[simp] theorem Fld.get_set_same (f : Fld) (v x : Nat) : f.get (f.set v x) = x % 2 ^ (f.hi + 1 - f.lo) := by
  apply Nat.eq_of_testBit_eq
  intro i
  rw [Fld.get, Fld.set, testBit_bits, testBit_setBits, Nat.testBit_mod_two_pow]
  by_cases h : i < f.hi + 1 - f.lo
  · have : f.lo ≤ f.lo + i ∧ f.lo + i < f.lo + (f.hi + 1 - f.lo) := by omega
    simp [h]
  · simp [h]

/-- A field is left alone by a write to a field that shares no bit with it. -/
theorem Fld.get_set_other (f g : Fld) (v x : Nat) (h : f.hi < g.lo ∨ g.hi < f.lo) : f.get (g.set v x) = f.get v := by
  apply Nat.eq_of_testBit_eq
  intro i
  rw [Fld.get, Fld.get, Fld.set, testBit_bits, testBit_bits, testBit_setBits]
  by_cases hi : i < f.hi + 1 - f.lo
  · have : ¬(g.lo ≤ f.lo + i ∧ f.lo + i < g.lo + (g.hi + 1 - g.lo)) := by omega
    simp [hi, this]
  · simp [hi]

/-- A field within a register's width does not see the cut to that width. -/
theorem Fld.get_mod (f : Fld) (v w : Nat) (h : f.hi < w) : f.get (v % 2 ^ w) = f.get v := by
  apply Nat.eq_of_testBit_eq
  intro i
  rw [Fld.get, Fld.get, testBit_bits, testBit_bits, Nat.testBit_mod_two_pow]
  by_cases hi : i < f.hi + 1 - f.lo
  · have : f.lo + i < w := by omega
    simp [this]
  · simp [hi]

/-! ### Registers -/

/-- A register reads what was written, cut to its width. -/
@[simp] theorem State.rd_wr_same (s : State) (r : Reg) (v : Nat) : (s.wr r v).rd r = v % 2 ^ r.width := by
  simp only [State.rd, State.wr, RegFile.read, RegFile.write]
  split
  · next h => simp [← h]
  · simp

/-- A register holds a value within its width. -/
theorem State.rd_lt (s : State) (r : Reg) : s.rd r < 2 ^ r.width := Nat.mod_lt _ (Nat.two_pow_pos _)

/-- A register at another address is left alone. -/
theorem State.rd_wr_other (s : State) (q r : Reg) (v : Nat) (h : q.addr ≠ r.addr) : (s.wr r v).rd q = s.rd q := by
  simp only [State.rd, State.wr, RegFile.read, RegFile.write]
  split
  · rw [SMap.find_remove_other _ h]
  · rw [SMap.find_insert_other _ _ h]

@[simp] theorem State.rd_setFld_same (s : State) (r : Reg) (f : Fld) (v : Nat) :
    (s.setFld r f v).rd r = f.set (s.rd r) v % 2 ^ r.width := by simp [State.setFld]

theorem State.rd_setFld_other (s : State) (q r : Reg) (f : Fld) (v : Nat) (h : q.addr ≠ r.addr) :
    (s.setFld r f v).rd q = s.rd q := by simp [State.setFld, State.rd_wr_other _ _ _ _ h]

theorem State.fld_wr_same (s : State) (r : Reg) (f : Fld) (v : Nat) (h : f.hi < r.width) :
    (s.wr r v).fld r f = f.get v := by simp [State.fld, Fld.get_mod _ _ _ h]

theorem State.fld_setFld_same (s : State) (r : Reg) (f : Fld) (v : Nat) (h : f.hi < r.width) :
    (s.setFld r f v).fld r f = v % 2 ^ (f.hi + 1 - f.lo) := by
  simp [State.fld, Fld.get_mod _ _ _ h]

/-- A field write leaves the register's other fields alone. -/
theorem State.fld_setFld_field (s : State) (r : Reg) (f g : Fld) (v : Nat) (hw : f.hi < r.width)
    (h : f.hi < g.lo ∨ g.hi < f.lo) : (s.setFld r g v).fld r f = s.fld r f := by
  simp [State.fld, Fld.get_mod _ _ _ hw, Fld.get_set_other _ _ _ _ h]

theorem State.fld_setFld_other (s : State) (q r : Reg) (f g : Fld) (v : Nat) (h : q.addr ≠ r.addr) :
    (s.setFld r g v).fld q f = s.fld q f := by simp [State.fld, State.rd_setFld_other _ _ _ _ _ h]

theorem State.fld_wr_other (s : State) (q r : Reg) (f : Fld) (v : Nat) (h : q.addr ≠ r.addr) :
    (s.wr r v).fld q f = s.fld q f := by simp [State.fld, State.rd_wr_other _ _ _ _ h]

/-- What no register operation touches reads on unchanged. -/
theorem State.rd_of_regs {s t : State} (h : t.regs = s.regs) (r : Reg) : t.rd r = s.rd r := by
  simp [State.rd, h]

end Sys2Proof.Machine
end

