-- ==== Sys2Proof/Laws/Core.lean ====
section
/-! SUPPORT. Laws of cores, threads and their registers. -/

namespace Sys2Proof.Machine

/-! ### Cores and threads -/

@[simp] theorem State.core_setCore_same (s : State) (c : Nat) (x : Core) : (s.setCore c x).core c = x := by
  simp [State.core, State.setCore]

theorem State.core_setCore (s : State) (c d : Nat) (x : Core) :
    (s.setCore c x).core d = if d = c then x else s.core d := by
  simp [State.core, State.setCore, SMap.get_put]

/-- Threads of one core come in pairs: a number is its core twice plus its index. -/
theorem thr_eq_iff (a b : Nat) : a = b ↔ a / 2 = b / 2 ∧ a % 2 = b % 2 := by omega

@[simp] theorem State.thr_setThr_same (s : State) (h : Nat) (x : Thread) : (s.setThr h x).thr h = x := by
  simp only [State.thr, State.setThr, State.core_setCore_same]
  split <;> simp_all

theorem State.thr_setThr_other (s : State) {h k : Nat} (x : Thread) (hk : k ≠ h) : (s.setThr h x).thr k = s.thr k := by
  simp only [State.thr, State.setThr, State.core_setCore]
  by_cases hc : k / 2 = h / 2
  · have hm : k % 2 ≠ h % 2 := fun e => hk ((thr_eq_iff k h).mpr ⟨hc, e⟩)
    rcases Nat.mod_two_eq_zero_or_one k with h1 | h1 <;> rcases Nat.mod_two_eq_zero_or_one h with h2 | h2 <;>
      simp [hc, h1, h2] <;> omega
  · simp [hc]

theorem State.thr_setThr (s : State) (h k : Nat) (x : Thread) :
    (s.setThr h x).thr k = if k = h then x else s.thr k := by
  by_cases e : k = h
  · subst e; simp
  · simp [e, State.thr_setThr_other s x e]

/-- Setting a thread leaves what the core holds beside its threads. -/
@[simp] theorem State.seat_setThr (s : State) (h c : Nat) (x : Thread) : ((s.setThr h x).core c).seat = (s.core c).seat := by
  simp only [State.setThr, State.core_setCore]
  by_cases e : c = h / 2
  · subst e; simp; split <;> rfl
  · simp [e]

@[simp] theorem State.held_setThr (s : State) (h c : Nat) (x : Thread) : ((s.setThr h x).core c).held = (s.core c).held := by
  simp only [State.setThr, State.core_setCore]
  by_cases e : c = h / 2
  · subst e; simp; split <;> rfl
  · simp [e]

@[simp] theorem State.tlb_setThr (s : State) (h c : Nat) (x : Thread) : ((s.setThr h x).core c).tlb = (s.core c).tlb := by
  simp only [State.setThr, State.core_setCore]
  by_cases e : c = h / 2
  · subst e; simp; split <;> rfl
  · simp [e]

@[simp] theorem State.panelOf_setThr (s : State) (h k : Nat) (x : Thread) : (s.setThr h x).panelOf k = s.panelOf k := by
  simp [State.panelOf, Core.panel]

@[simp] theorem State.rd_setThr (s : State) (h : Nat) (x : Thread) (r : Reg) : (s.setThr h x).rd r = s.rd r :=
  State.rd_of_regs (State.setThr_regs s h x) r
@[simp] theorem State.rd_setCore (s : State) (c : Nat) (x : Core) (r : Reg) : (s.setCore c x).rd r = s.rd r :=
  State.rd_of_regs (State.setCore_regs s c x) r
@[simp] theorem State.fld_setThr (s : State) (h : Nat) (x : Thread) (r : Reg) (f : Fld) :
    (s.setThr h x).fld r f = s.fld r f := by simp [State.fld]
@[simp] theorem State.fld_setCore (s : State) (c : Nat) (x : Core) (r : Reg) (f : Fld) :
    (s.setCore c x).fld r f = s.fld r f := by simp [State.fld]
@[simp] theorem State.flag_setThr (s : State) (h : Nat) (x : Thread) (r : Reg) (f : Fld) :
    (s.setThr h x).flag r f = s.flag r f := by simp [State.flag]
@[simp] theorem State.flag_setCore (s : State) (c : Nat) (x : Core) (r : Reg) (f : Fld) :
    (s.setCore c x).flag r f = s.flag r f := by simp [State.flag]
@[simp] theorem State.paired_setThr (s : State) (h c : Nat) (x : Thread) : (s.setThr h x).paired c = s.paired c := by
  simp [State.paired]
@[simp] theorem State.paired_setCore (s : State) (k c : Nat) (x : Core) : (s.setCore k x).paired c = s.paired c := by
  simp [State.paired]
@[simp] theorem State.isMain_setThr (s : State) (h c : Nat) (x : Thread) : (s.setThr h x).isMain c = s.isMain c := by
  simp [State.isMain]
@[simp] theorem State.isChecker_setThr (s : State) (h c : Nat) (x : Thread) : (s.setThr h x).isChecker c = s.isChecker c := by
  simp [State.isChecker]
@[simp] theorem State.byte_setThr (s : State) (h : Nat) (x : Thread) (a : Nat) : (s.setThr h x).byte a = s.byte a := by
  simp [State.byte]
@[simp] theorem State.byte_setCore (s : State) (c : Nat) (x : Core) (a : Nat) : (s.setCore c x).byte a = s.byte a := by
  simp [State.byte]

/-! ### A thread's registers -/

theorem Thread.gr_setGr (x : Thread) (r q : Nat) (v : Word) :
    (x.setGr r v).gr q = if q = r ∧ q ≠ 0 then v else x.gr q := by
  unfold Thread.setGr Thread.gr
  by_cases h : r = 0
  · simp [h]
  · by_cases hq : q = 0
    · simp [h, hq]
    · simp [h, hq, SMap.get_put]

@[simp] theorem Thread.setGr_zero (x : Thread) (v : Word) : x.setGr 0 v = x := rfl
@[simp] theorem Thread.gr_zero (x : Thread) : x.gr 0 = 0 := rfl
@[simp] theorem Thread.setGr_pc (x : Thread) (r : Nat) (v : Word) : (x.setGr r v).pc = x.pc := by
  unfold Thread.setGr; split <;> rfl
@[simp] theorem Thread.setGr_cr0 (x : Thread) (r n : Nat) (v : Word) : (x.setGr r v).cr0 n = x.cr0 n := by
  unfold Thread.setGr; split <;> rfl
@[simp] theorem Thread.setGr_vr (x : Thread) (r n : Nat) (v : Word) : (x.setGr r v).vr n = x.vr n := by
  unfold Thread.setGr; split <;> rfl
@[simp] theorem Thread.setGr_kr (x : Thread) (r n : Nat) (v : Word) : (x.setGr r v).kr n = x.kr n := by
  unfold Thread.setGr; split <;> rfl
@[simp] theorem Thread.setGr_cr (x : Thread) (r : Nat) (v : Word) : (x.setGr r v).cr = x.cr := by
  unfold Thread.setGr; split <;> rfl

theorem Thread.vr_setVr (x : Thread) (r q : Nat) (v : VWord) : (x.setVr r v).vr q = if q = r then v else x.vr q := by
  simp [Thread.setVr, Thread.vr, SMap.get_put]
@[simp] theorem Thread.setVr_gr (x : Thread) (r q : Nat) (v : VWord) : (x.setVr r v).gr q = x.gr q := rfl
@[simp] theorem Thread.setVr_kr (x : Thread) (r q : Nat) (v : VWord) : (x.setVr r v).kr q = x.kr q := rfl
@[simp] theorem Thread.setVr_cr0 (x : Thread) (r q : Nat) (v : VWord) : (x.setVr r v).cr0 q = x.cr0 q := rfl
@[simp] theorem Thread.setVr_pc (x : Thread) (r : Nat) (v : VWord) : (x.setVr r v).pc = x.pc := rfl

theorem Thread.kr_setKr (x : Thread) (r q : Nat) (v : Word) :
    (x.setKr r v).kr q = if q = r ∧ q ≠ 0 then v else x.kr q := by
  unfold Thread.setKr Thread.kr
  by_cases h : r = 0
  · simp [h]
  · by_cases hq : q = 0
    · simp [h, hq]
    · simp [h, hq, SMap.get_put]
@[simp] theorem Thread.setKr_pc (x : Thread) (r : Nat) (v : Word) : (x.setKr r v).pc = x.pc := by
  unfold Thread.setKr; split <;> rfl
@[simp] theorem Thread.setKr_gr (x : Thread) (r q : Nat) (v : Word) : (x.setKr r v).gr q = x.gr q := by
  unfold Thread.setKr; split <;> rfl
@[simp] theorem Thread.setKr_vr (x : Thread) (r q : Nat) (v : Word) : (x.setKr r v).vr q = x.vr q := by
  unfold Thread.setKr; split <;> rfl
@[simp] theorem Thread.setKr_cr0 (x : Thread) (r q : Nat) (v : Word) : (x.setKr r v).cr0 q = x.cr0 q := by
  unfold Thread.setKr; split <;> rfl

theorem Thread.cr0_setCr (x : Thread) (n m : Nat) (v : Word) : (x.setCr n v).cr0 m = if m = n then v else x.cr0 m := by
  simp [Thread.setCr, Thread.cr0, SMap.get_put]
@[simp] theorem Thread.cr0_setCr_same (x : Thread) (n : Nat) (v : Word) : (x.setCr n v).cr0 n = v := by
  simp [Thread.cr0_setCr]
@[simp] theorem Thread.setCr_gr (x : Thread) (n q : Nat) (v : Word) : (x.setCr n v).gr q = x.gr q := rfl
@[simp] theorem Thread.setCr_vr (x : Thread) (n q : Nat) (v : Word) : (x.setCr n v).vr q = x.vr q := rfl
@[simp] theorem Thread.setCr_kr (x : Thread) (n q : Nat) (v : Word) : (x.setCr n v).kr q = x.kr q := rfl
@[simp] theorem Thread.setCr_pc (x : Thread) (n : Nat) (v : Word) : (x.setCr n v).pc = x.pc := rfl

theorem Thread.gr_congr {x y : Thread} (h : y.g = x.g) (r : Nat) : y.gr r = x.gr r := by simp [Thread.gr, h]
theorem Thread.vr_congr {x y : Thread} (h : y.v = x.v) (r : Nat) : y.vr r = x.vr r := by simp [Thread.vr, h]
theorem Thread.kr_congr {x y : Thread} (h : y.k = x.k) (r : Nat) : y.kr r = x.kr r := by simp [Thread.kr, h]
theorem Thread.cr0_congr {x y : Thread} (h : y.cr = x.cr) (n : Nat) : y.cr0 n = x.cr0 n := by simp [Thread.cr0, h]
@[simp] theorem Thread.pmcAdd_g (x : Thread) (i n : Nat) : (x.pmcAdd i n).g = x.g := by rfl
@[simp] theorem Thread.pmcAdd_v (x : Thread) (i n : Nat) : (x.pmcAdd i n).v = x.v := by rfl
@[simp] theorem Thread.pmcAdd_k (x : Thread) (i n : Nat) : (x.pmcAdd i n).k = x.k := by rfl

/-- A performance counter's addition leaves every other control register. -/
theorem Thread.cr0_pmcAdd (x : Thread) (i n m : Nat) (h : m ≠ 0x080 + i) : (x.pmcAdd i n).cr0 m = x.cr0 m := by
  simp [Thread.pmcAdd, pmcNo, Thread.cr0_setCr, h]
@[simp] theorem Thread.pmcAdd_gr (x : Thread) (i n q : Nat) : (x.pmcAdd i n).gr q = x.gr q := rfl
@[simp] theorem Thread.pmcAdd_vr (x : Thread) (i n q : Nat) : (x.pmcAdd i n).vr q = x.vr q := rfl
@[simp] theorem Thread.pmcAdd_kr (x : Thread) (i n q : Nat) : (x.pmcAdd i n).kr q = x.kr q := rfl
@[simp] theorem Thread.pmcAdd_pc (x : Thread) (i n : Nat) : (x.pmcAdd i n).pc = x.pc := rfl

/-! ### Retirement -/

theorem Thread.keeps_refl (x : Thread) (gs vs ks cs : List Nat) : x.keeps x gs vs ks cs :=
  ⟨fun _ _ => rfl, fun _ _ => rfl, fun _ _ => rfl, fun _ _ _ => rfl⟩

theorem Thread.keeps_trans {x y z : Thread} {gs vs ks cs : List Nat} (h : x.keeps y gs vs ks cs)
    (h' : y.keeps z gs vs ks cs) : x.keeps z gs vs ks cs :=
  ⟨fun r hr => (h'.1 r hr).trans (h.1 r hr), fun r hr => (h'.2.1 r hr).trans (h.2.1 r hr),
    fun r hr => (h'.2.2.1 r hr).trans (h.2.2.1 r hr), fun n hn hp => (h'.2.2.2 n hn hp).trans (h.2.2.2 n hn hp)⟩

/-- The thread that retirement leaves. -/
theorem State.retire_thr (s : State) (th : Nat) (pc : Word) (items : List Byte) :
    ((s.retire th pc items).thr th).pc = pc ∧
    (∀ r, ((s.retire th pc items).thr th).gr r = (s.thr th).gr r) ∧
    (∀ r, ((s.retire th pc items).thr th).vr r = (s.thr th).vr r) ∧
    (∀ r, ((s.retire th pc items).thr th).kr r = (s.thr th).kr r) ∧
    (∀ n, isPmc n = false → ((s.retire th pc items).thr th).cr0 n = (s.thr th).cr0 n) := by
  by_cases h : th = thmThread
  · simp [State.retire, h, State.thmRetire]
    exact ⟨fun _ => rfl, fun _ => rfl, fun _ => rfl, fun _ _ => rfl⟩
  · simp only [State.retire, h, if_false, State.thr_setThr_same]
    have hc : ∀ (a b c d e f : Nat) (n : Nat), isPmc n = false →
        (((((((s.thr th).pmcAdd 1 a).pmcAdd 0 b).pmcAdd 3 c).pmcAdd 4 d).pmcAdd 5 e).pmcAdd 6 f).cr0 n = (s.thr th).cr0 n := by
      intro a b c d e f n hn
      simp [isPmc] at hn
      rw [Thread.cr0_pmcAdd _ _ _ _ (by omega), Thread.cr0_pmcAdd _ _ _ _ (by omega), Thread.cr0_pmcAdd _ _ _ _ (by omega),
        Thread.cr0_pmcAdd _ _ _ _ (by omega), Thread.cr0_pmcAdd _ _ _ _ (by omega), Thread.cr0_pmcAdd _ _ _ _ (by omega)]
    refine ⟨?_, fun r => ?_, fun r => ?_, fun r => ?_, fun n hn => ?_⟩
    · split <;> split <;> simp only []
    · exact Thread.gr_congr (by split <;> split <;> simp only [Thread.pmcAdd_g]) r
    · exact Thread.vr_congr (by split <;> split <;> simp only [Thread.pmcAdd_v]) r
    · exact Thread.kr_congr (by split <;> split <;> simp only [Thread.pmcAdd_k]) r
    · refine Eq.trans (Thread.cr0_congr ?_ n) (hc 1 (Config.freeNat (s.fresh + 0)) (Config.freeNat (s.fresh + 1))
        (Config.freeNat (s.fresh + 2)) (Config.freeNat (s.fresh + 3)) (Config.freeNat (s.fresh + 4)) n hn)
      split <;> split <;> simp only []

/-- Retirement changes nothing but its thread and the count of free values. -/
theorem State.retire_coresOnly (s : State) (th : Nat) (pc : Word) (items : List Byte) :
    s.coresOnly (s.retire th pc items) := by
  by_cases h : th = thmThread
  · simp only [State.retire, h, if_true, State.thmRetire, State.coresOnly, State.setThr, State.setCore]
  · simp only [State.retire, h, if_false, State.coresOnly, State.setThr, State.setCore]

theorem State.retire_other (s : State) (th k : Nat) (pc : Word) (items : List Byte) (hk : k ≠ th) :
    (s.retire th pc items).thr k = s.thr k := by
  by_cases h : th = thmThread
  · simp only [State.retire, h, if_true, State.thmRetire]
    exact State.thr_setThr_other _ _ (by simpa [h] using hk)
  · simp only [State.retire, h, if_false]
    rw [State.thr_setThr_other _ _ hk]; rfl

theorem State.retire_core (s : State) (th c : Nat) (pc : Word) (items : List Byte) :
    ((s.retire th pc items).core c).seat = (s.core c).seat ∧ ((s.retire th pc items).core c).tlb = (s.core c).tlb ∧
    ((s.retire th pc items).core c).held = (s.core c).held := by
  by_cases h : th = thmThread
  · simp [State.retire, h, State.thmRetire]
  · simp only [State.retire, h, if_false, State.seat_setThr, State.tlb_setThr, State.held_setThr]
    exact ⟨rfl, rfl, rfl⟩

/-- What retirement at the next pc does, all at once. -/
theorem State.retire_ran (s : State) (th : Nat) (pc : Word) (items : List Byte) :
    s.ran (s.retire th pc items) th pc [] [] [] [] := by
  obtain ⟨h1, h2, h3, h4, h5⟩ := s.retire_thr th pc items
  exact ⟨s.retire_coresOnly th pc items, fun k hk => s.retire_other th k pc items hk, fun c => s.retire_core th c pc items, h1,
    fun r _ => h2 r, fun r _ => h3 r, fun r _ => h4 r, fun n _ hn => h5 n hn⟩

end Sys2Proof.Machine
end

