-- ==== Sys2Proof/Laws/Memory.lean ====
section
/-! SUPPORT. Laws of memory: what a byte reads as after a write, and that every operation on memory keeps its canonical form. -/

namespace Sys2Proof.Machine

/-! ### Reading after writing -/

@[simp] theorem State.byte_setByte_same (s : State) (a : Nat) (b : Byte) : (s.setByte a b).byte a = b :=
  SMap.get_put_same memDefault s.mem a b

theorem State.byte_setByte_other (s : State) {a k : Nat} (b : Byte) (h : k ≠ a) : (s.setByte a b).byte k = s.byte k :=
  SMap.get_put_other memDefault s.mem b h

theorem State.byte_setBytes_other (s : State) (a k : Nat) (bs : List Byte) (h : k < a ∨ a + bs.length ≤ k) :
    (s.setBytes a bs).byte k = s.byte k := by
  induction bs generalizing s a with
  | nil => rfl
  | cons b bs ih =>
    simp only [List.length_cons] at h
    rw [State.setBytes, ih _ _ (by omega), State.byte_setByte_other _ _ (by omega)]

theorem State.byte_setBytes_in (s : State) (a i : Nat) (bs : List Byte) (h : i < bs.length) :
    (s.setBytes a bs).byte (a + i) = bs[i] := by
  induction bs generalizing s a i with
  | nil => simp at h
  | cons b bs ih =>
    cases i with
    | zero => rw [State.setBytes, State.byte_setBytes_other _ _ _ _ (by omega)]; simp
    | succ i =>
      have e : a + (i + 1) = a + 1 + i := by omega
      rw [e, State.setBytes, ih (s.setByte a b) (a + 1) i (by simpa using h)]
      rfl

theorem State.bytes_length (s : State) (a n : Nat) : (s.bytes a n).length = n := by
  induction n generalizing a with
  | zero => rfl
  | succ n ih => simp [State.bytes, ih]

theorem State.bytes_getElem (s : State) (a n i : Nat) (h : i < (s.bytes a n).length) : (s.bytes a n)[i] = s.byte (a + i) := by
  induction n generalizing a i with
  | zero => simp [State.bytes] at h
  | succ n ih =>
    cases i with
    | zero => rfl
    | succ i =>
      have e : a + (i + 1) = a + 1 + i := by omega
      rw [e]; exact ih (a + 1) i (by simpa [State.bytes] using h)

/-- What was stored is read back. -/
theorem State.bytes_setBytes (s : State) (a : Nat) (bs : List Byte) : (s.setBytes a bs).bytes a bs.length = bs := by
  apply List.ext_getElem (State.bytes_length _ _ _)
  intro i h h'
  rw [State.bytes_getElem, State.byte_setBytes_in _ _ _ _ h']

/-- Storing bytes changes memory alone. -/
theorem State.setBytes_eq (s : State) (a : Nat) (bs : List Byte) : s.setBytes a bs = { s with mem := (s.setBytes a bs).mem } := by
  induction bs generalizing s a with
  | nil => rfl
  | cons b bs ih => rw [State.setBytes, ih]; rfl

/-! ### The canonical form -/

theorem State.wf_setByte {s : State} (a : Nat) (b : Byte) (h : Memory.wf s.mem = true) : Memory.wf (s.setByte a b).mem = true :=
  SMap.wf_put memDefault h

theorem State.wf_setBytes {s : State} (a : Nat) (bs : List Byte) (h : Memory.wf s.mem = true) :
    Memory.wf (s.setBytes a bs).mem = true := by
  induction bs generalizing s a with
  | nil => exact h
  | cons b bs ih => exact ih (a + 1) (State.wf_setByte a b h)

theorem State.wf_setSram {s : State} (a : Nat) (bs : List Byte) (h : Memory.wf s.mem = true) :
    Memory.wf (s.setSram a bs).mem = true := State.wf_setBytes _ bs h

theorem State.visible_mem (s : State) (p a : Nat) (bs : List Byte) : (s.visible p a bs).mem = (s.setBytes a bs).mem := by
  unfold State.visible; dsimp only; split <;> rfl

/-- A store that becomes visible changes memory, the tags of its lines, and which lines are dirty; no more. -/
theorem State.visible_eq (s : State) (p a : Nat) (bs : List Byte) : s.visible p a bs =
    { s with mem := (s.setBytes a bs).mem, lineMeta := (s.visible p a bs).lineMeta, dirty := (s.visible p a bs).dirty } := by
  unfold State.visible
  rw [State.setBytes_eq]
  dsimp only
  split <;> rfl

/-- What is stored is read back, and nothing else changes. -/
theorem State.visible_bytes (s : State) (p a : Nat) (bs : List Byte) : (s.visible p a bs).bytes a bs.length = bs := by
  have e : ∀ n k, (s.visible p a bs).bytes k n = (s.setBytes a bs).bytes k n := by
    intro n
    induction n with
    | zero => intro k; rfl
    | succ n ih => intro k; simp only [State.bytes, State.byte, State.visible_mem, ih]
  rw [e, State.bytes_setBytes]

theorem State.visible_other (s : State) (p a k : Nat) (bs : List Byte) (h : k < a ∨ a + bs.length ≤ k) :
    (s.visible p a bs).byte k = s.byte k := by
  rw [← State.byte_setBytes_other s a k bs h]
  simp only [State.byte, State.visible_mem]

theorem State.wf_visible {s : State} (p a : Nat) (bs : List Byte) (h : Memory.wf s.mem = true) :
    Memory.wf (s.visible p a bs).mem = true := by
  rw [State.visible_mem]; exact State.wf_setBytes a bs h

theorem State.wf_ioVisible {s : State} (p a : Nat) (bs : List Byte) (h : Memory.wf s.mem = true) :
    Memory.wf (s.ioVisible p a bs).mem = true := State.wf_setBytes a bs h

theorem SMap.rising_filter {α : Type} [DecidableEq α] {m : SMap α} (f : Nat × α → Bool) {a : Nat} (h : SMap.risingFrom a m = true) :
    SMap.risingFrom a (m.filter f) = true := by
  induction m generalizing a with
  | nil => rfl
  | cons e m ih =>
    obtain ⟨k, v⟩ := e
    simp only [SMap.risingFrom, Bool.and_eq_true, decide_eq_true_eq] at h
    rw [List.filter_cons]
    split
    · simp only [SMap.risingFrom, Bool.and_eq_true, decide_eq_true_eq]; exact ⟨h.1, ih h.2⟩
    · exact ih (SMap.risingFrom_mono (by omega) h.2)

theorem SMap.rising_map {α : Type} {m : SMap α} (f : Nat → α → α) {a : Nat} (h : SMap.risingFrom a m = true) :
    SMap.risingFrom a (m.map fun e => (e.1, f e.1 e.2)) = true := by
  induction m generalizing a with
  | nil => rfl
  | cons e m ih =>
    obtain ⟨k, v⟩ := e
    simp only [SMap.risingFrom, Bool.and_eq_true, decide_eq_true_eq, List.map_cons] at h ⊢
    exact ⟨h.1, ih h.2⟩

/-- Dropping entries keeps the canonical form. -/
theorem Memory.wf_filter {m : List Host.Cell} (f : Host.Cell → Bool) (h : Memory.wf m = true) : Memory.wf (m.filter f) = true := by
  simp only [Memory.wf, SMap.wf, Bool.and_eq_true, List.all_eq_true] at h ⊢
  exact ⟨SMap.rising_filter f h.1, fun e he => h.2 e (List.mem_of_mem_filter he)⟩

/-- Changing listed bytes keeps the canonical form. -/
theorem Memory.wf_mapListed {m : List Host.Cell} (f : Nat → Byte → Byte) (h : Memory.wf m = true) :
    Memory.wf (SMap.mapListed memDefault m f) = true := by
  simp only [Memory.wf, SMap.wf, Bool.and_eq_true] at h ⊢
  refine ⟨SMap.rising_filter _ (SMap.rising_map f h.1), ?_⟩
  simp [SMap.mapListed, List.all_eq_true]

/-- A reset's loss of memory keeps the canonical form. -/
theorem State.wf_blank {s : State} (h : Memory.wf s.mem = true) : Memory.wf s.blank.mem = true := by
  have e : s.blank.mem = SMap.mapListed memDefault s.mem fun a _ => Config.freeBits 8 (s.fresh + a) := rfl
  rw [e]; exact Memory.wf_mapListed _ h

@[simp] theorem State.count_mem (s : State) (p k n : Nat) : (s.count p k n).mem = s.mem := rfl
@[simp] theorem State.spend_mem (s : State) (c p n : Nat) : (s.spend c p n).mem = s.mem := by
  simp only [State.spend, State.count_mem, State.setFld_mem]
@[simp] theorem State.touchTrailer_mem (s : State) (c l : Nat) : (s.touchTrailer c l).mem = s.mem := by
  simp only [State.touchTrailer, State.setMc_mem]

theorem State.fillLine_mem (s : State) (p l : Nat) : (s.fillLine p l).mem = s.mem := by
  simp only [State.fillLine, apply_ite State.mem, State.touchTrailer_mem, State.spend_mem, State.setMeta_mem, State.count_mem,
    State.setFld_mem, ite_self]

theorem State.fillGranule_mem (p g : Nat) (l : List Nat) (s : State) :
    (l.foldl (fun s i => State.fillLine s p (g * 1024 + i)) s).mem = s.mem := by
  induction l generalizing s with
  | nil => rfl
  | cons x l ih => rw [List.foldl_cons, ih, State.fillLine_mem]

theorem State.fillGranules_mem (p : Nat) (l gs : List Nat) (s : State) :
    (gs.foldl (fun s g => l.foldl (fun s i => State.fillLine s p (g * 1024 + i)) s) s).mem = s.mem := by
  induction gs generalizing s with
  | nil => rfl
  | cons x gs ih => rw [List.foldl_cons, ih, State.fillGranule_mem]

theorem State.zeroFill_eq (s : State) (p : Nat) (gs : List Nat) : s.zeroFill p gs =
    gs.foldl (fun s g => (List.range 1024).foldl (fun s i => State.fillLine s p (g * 1024 + i)) s)
      { s.purge gs with mem := (s.purge gs).mem.filter fun c => decide (c.1 / 65536 ∉ gs) } := by
  delta State.zeroFill; rfl

/-- Filling granules with zeros keeps it. -/
theorem State.wf_zeroFill {s : State} (p : Nat) (gs : List Nat) (h : Memory.wf s.mem = true) :
    Memory.wf (s.zeroFill p gs).mem = true := by
  rw [State.zeroFill_eq, State.fillGranules_mem]; exact Memory.wf_filter _ h
/-- What the clear before scan and its request leave of memory has it. -/
theorem State.wf_scanClear {s : State} (f : Host.Cell → Bool) (h : Memory.wf s.mem = true) :
    Memory.wf (s.mem.filter fun c => !f c) = true := Memory.wf_filter _ h

/-- Memory after reset has the canonical form. -/
theorem State.wf_reset : Memory.wf State.reset.mem = true := rfl

end Sys2Proof.Machine
end

