-- ==== Sys2Proof/Laws/Access.lean ====
section
/-! SUPPORT. What translating and checking an access can change: a page-table leaf's A and D bits, and the core's TLB; an access
that fails changes nothing. -/

namespace Sys2Proof.Machine

/-- All that checking an access can change. -/
def State.checked (s t : State) : Prop :=
  t = { s with mem := t.mem, dirty := t.dirty, cores := t.cores } ∧ (∀ k, t.thr k = s.thr k) ∧
  (∀ c, (t.core c).held = (s.core c).held ∧ (t.core c).seat = (s.core c).seat) ∧ (Memory.wf s.mem = true → Memory.wf t.mem = true)

theorem State.checked_refl (s : State) : s.checked s := ⟨rfl, fun _ => rfl, fun _ => ⟨rfl, rfl⟩, id⟩

theorem State.checked_trans {s t u : State} (h : s.checked t) (h' : t.checked u) : s.checked u := by
  obtain ⟨a, b, c, d⟩ := h
  obtain ⟨a', b', c', d'⟩ := h'
  refine ⟨?_, fun k => (b' k).trans (b k), fun k => ⟨(c' k).1.trans (c k).1, (c' k).2.trans (c k).2⟩, fun h => d' (d h)⟩
  rw [a', a]

theorem State.checked_mem {s : State} {m : List Host.Cell} (d : SMap Bool) (h : Memory.wf s.mem = true → Memory.wf m = true) :
    s.checked { s with mem := m, dirty := d } := ⟨rfl, fun _ => rfl, fun _ => ⟨rfl, rfl⟩, h⟩

theorem State.setAD_checked (s : State) (l : Leaf) (store : Bool) : s.checked (s.setAD l store) := by
  unfold State.setAD
  generalize l.entry ||| 0x40 ||| (if store then 0x20 else 0) = e
  by_cases h : e = l.entry
  · simp only [h, if_true]; exact State.checked_refl s
  · simp only [h, if_false]
    rw [State.setBytes_eq]
    exact State.checked_mem _ fun hw => State.wf_setBytes l.addr _ hw

theorem State.mayAD_checked (s : State) (l : Leaf) (store b : Bool) : s.checked (if b then s else s.setAD l store) := by
  cases b
  · exact State.setAD_checked s l store
  · exact State.checked_refl s

theorem State.setTlb_checked (s : State) (c : Nat) (tlb : List TlbEntry) : s.checked (s.setCore c { s.core c with tlb := tlb }) := by
  refine ⟨rfl, fun k => ?_, fun d => ?_, fun h => h⟩
  · unfold State.thr; rw [State.core_setCore]; split <;> split <;> simp_all
  · rw [State.core_setCore]; split <;> simp_all

theorem State.judged_checked (s t : State) (f : Option AccFault) (x : Xlat) (h : s.checked t) :
    s.checked (match (motive := Option AccFault → State × Except AccFault Xlat) f with
      | some f => (s, .error f)
      | none => (t, .ok x)).1 := by
  cases f
  · exact h
  · exact State.checked_refl s

/-- A translation changes no more than A and D bits and the TLB. -/
theorem State.translate_checked (s : State) (th : Nat) (acc : Access) (va : Word) (al : Bool) :
    s.checked (s.translate th acc va al).1 := by
  unfold State.translate
  extract_lets x c p pl uacc hroot root v cause store tg asid
  split
  · split
    · exact State.checked_refl s
    · split
      extract_lets
      split <;> exact State.checked_refl s
  · split
    · exact State.checked_refl s
    · generalize List.find? _ c.tlb = r
      generalize s.walk p _ _ _ = w
      generalize s.flag _ _ = b
      cases r with
      | some t => exact State.judged_checked s s _ _ (State.checked_refl s)
      | none =>
        cases w with
        | sub n => exact State.checked_refl s
        | poison pa => exact State.checked_refl s
        | leaf l => exact State.judged_checked s _ _ _ (State.checked_trans (State.mayAD_checked s l store b) (State.setTlb_checked _ _ _))

/-- Checking an access in both halves. -/
theorem State.checkAccess_checked (s : State) (th : Nat) (acc : Access) (va : Word) (n : Nat) (al : Bool) :
    s.checked (s.checkAccess th acc va n al).1 := by
  have ht := fun (s : State) (va : Word) (al : Bool) => State.translate_checked s th acc va al
  unfold State.checkAccess
  dsimp only
  split
  · exact State.checked_refl s
  · rename_i s1 x1 e1
    have h1 := ht s va (al && lowPart va n == n)
    rw [e1] at h1
    split
    · exact h1
    · split
      · exact State.checked_refl s
      · rename_i s2 x2 e2
        have h2 := ht s1 (va + BitVec.ofNat 64 (lowPart va n)) false
        rw [e2] at h2
        exact State.checked_trans h1 h2

/-- An access that fails its check changes nothing. -/
theorem State.checkAccess_error {s t : State} {th : Nat} {acc : Access} {va : Word} {n : Nat} {al : Bool} {f : AccFault}
    (h : s.checkAccess th acc va n al = (t, .error f)) : t = s := by
  unfold State.checkAccess at h
  dsimp only at h
  split at h
  · cases h; rfl
  · split at h
    · cases h
    · split at h
      · cases h; rfl
      · cases h

/-- Checking a list of accesses. -/
theorem State.checkAll_checked (s : State) (th : Nat) (acc : Access) (es : List (Word × Nat × Bool)) :
    s.checked (s.checkAll th acc es).1 := by
  induction es generalizing s with
  | nil => exact State.checked_refl s
  | cons e es ih =>
    obtain ⟨va, n, al⟩ := e
    have h1 := State.checkAccess_checked s th acc va n al
    unfold State.checkAll
    split
    · rename_i t f e; rw [e] at h1; exact h1
    · rename_i t hs e
      rw [e] at h1
      have h2 := ih t
      split
      · rename_i u f e'; rw [e'] at h2; exact State.checked_trans h1 h2
      · rename_i u hs' e'; rw [e'] at h2; exact State.checked_trans h1 h2

end Sys2Proof.Machine
end

