-- ==== Sys2Proof/Laws/Run.lean ====
section
/-! SUPPORT. What running an instruction does: one law per shared operation of the instruction set. -/

namespace Sys2Proof.Machine

/-- Where an instruction starts, its meaning is its body; on the Thimble core prediction state is then dropped. -/
theorem State.runInstr_starts {s u : State} {th : Nat} (h : s.startsIn th u) (body : State → State) :
    s.runInstr th body = if th = thmThread then (body u).thmPlain else body u := by
  unfold State.startsIn at h
  by_cases ht : th = thmThread
  · simp only [ht, if_true] at h ⊢
    obtain ⟨rfl, h0, h1, h2⟩ := h
    simp only [State.runInstr, State.thmRun, h0, h1, h2, Bool.not_true]
    simp
  · simp only [ht, if_false] at h ⊢
    obtain ⟨h1, h2, v, a, h3, h4, h5, r, h6, h7⟩ := h
    simp only [State.runInstr, ht, if_false, h1, h2, h3, h4, h5, h6, Bool.not_true]
    cases r <;> simp at h7 ⊢

theorem State.coresOnly_refl (s : State) : s.coresOnly s := rfl

theorem State.coresOnly_trans {s t u : State} (h : s.coresOnly t) (h' : t.coresOnly u) : s.coresOnly u := by
  unfold State.coresOnly at *
  calc _ = { ({ u with cores := t.cores, fresh := t.fresh } : State) with cores := s.cores, fresh := s.fresh } := rfl
    _ = _ := by rw [h']; exact h

/-- Two instructions' changes add up. -/
theorem State.ran_trans {s t u : State} {th : Nat} {p q : Word} {gs vs ks cs : List Nat}
    (h : s.ran t th p gs vs ks cs) (h' : t.ran u th q gs vs ks cs) : s.ran u th q gs vs ks cs := by
  obtain ⟨a1, a2, a3, _, a5⟩ := h
  obtain ⟨b1, b2, b3, b4, b5⟩ := h'
  exact ⟨State.coresOnly_trans a1 b1, fun k hk => (b2 k hk).trans (a2 k hk),
    fun c => ⟨(b3 c).1.trans (a3 c).1, (b3 c).2.1.trans (a3 c).2.1, (b3 c).2.2.trans (a3 c).2.2⟩, b4,
    Thread.keeps_trans a5 b5⟩

theorem Thread.keeps_mono {x y : Thread} {gs vs ks cs gs' vs' ks' cs' : List Nat} (h : x.keeps y gs vs ks cs)
    (hg : gs ⊆ gs') (hv : vs ⊆ vs') (hk : ks ⊆ ks') (hc : cs ⊆ cs') : x.keeps y gs' vs' ks' cs' :=
  ⟨fun r hr => h.1 r (fun e => hr (hg e)), fun r hr => h.2.1 r (fun e => hr (hv e)),
    fun r hr => h.2.2.1 r (fun e => hr (hk e)), fun n hn hp => h.2.2.2 n (fun e => hn (hc e)) hp⟩

theorem State.ran_mono {s t : State} {th : Nat} {p : Word} {gs vs ks cs gs' vs' ks' cs' : List Nat}
    (h : s.ran t th p gs vs ks cs) (hg : gs ⊆ gs') (hv : vs ⊆ vs') (hk : ks ⊆ ks') (hc : cs ⊆ cs') :
    s.ran t th p gs' vs' ks' cs' :=
  ⟨h.1, h.2.1, h.2.2.1, h.2.2.2.1, Thread.keeps_mono h.2.2.2.2 hg hv hk hc⟩

/-- Changing one thread's registers is a change within its core. -/
theorem State.setThr_ran (s : State) (th : Nat) (y : Thread) (gs vs ks cs : List Nat) (h : (s.thr th).keeps y gs vs ks cs) :
    s.ran (s.setThr th y) th y.pc gs vs ks cs := by
  refine ⟨rfl, fun k hk => State.thr_setThr_other s y hk, fun c => ⟨?_, ?_, ?_⟩, ?_, ?_⟩
  · simp
  · simp
  · simp
  · simp
  · simpa using h

/-- Dropping the Thimble core's prediction state changes no register. -/
theorem State.thmPlain_ran (s : State) : s.ran s.thmPlain thmThread (s.thr thmThread).pc [] [] [] [] := by
  refine ⟨rfl, fun k hk => ?_, fun c => ?_, ?_, ?_⟩
  · simp only [State.thmPlain, State.thr, State.core_setCore]
    by_cases hc : k / 2 = thmThread / 2
    · have : k % 2 ≠ 0 := by simp only [thmThread] at *; omega
      simp [hc, this]
    · simp [hc]
  · simp only [State.thmPlain, State.core_setCore]
    by_cases hc : c = thmThread / 2
    · subst hc; simp
    · simp [hc]
  · simp [State.thmPlain, State.thr, thmThread]
  · have e : s.thmPlain.thr thmThread = { s.thr thmThread with retStack := [], wc := [] } := by
      simp [State.thmPlain, State.thr, thmThread]
    rw [e]
    exact ⟨fun _ _ => rfl, fun _ _ => rfl, fun _ _ => rfl, fun _ _ _ => rfl⟩

/-- Writing registers of a thread and retiring at `pc`. -/
theorem State.setThr_retire_ran (s : State) (th : Nat) (y : Thread) (pc : Word) (items : List Byte) (gs vs ks cs : List Nat)
    (h : (s.thr th).keeps y gs vs ks cs) : s.ran ((s.setThr th y).retire th pc items) th pc gs vs ks cs :=
  State.ran_trans (s.setThr_ran th y gs vs ks cs h)
    (State.ran_mono ((s.setThr th y).retire_ran th pc items) (by simp) (by simp) (by simp) (by simp))

/-- An instruction whose body retires with some registers changed, wherever it runs. -/
theorem State.runInstr_ran {s u : State} {th : Nat} (h : s.startsIn th u) (body : State → State) {pc : Word}
    {gs vs ks cs : List Nat} (hb : u.ran (body u) th pc gs vs ks cs) :
    u.ran (s.runInstr th body) th pc gs vs ks cs ∧
    (∀ r, ((s.runInstr th body).thr th).gr r = ((body u).thr th).gr r) ∧
    (∀ r, ((s.runInstr th body).thr th).vr r = ((body u).thr th).vr r) ∧
    (∀ r, ((s.runInstr th body).thr th).kr r = ((body u).thr th).kr r) ∧
    (∀ n, isPmc n = false → ((s.runInstr th body).thr th).cr0 n = ((body u).thr th).cr0 n) := by
  rw [State.runInstr_starts h]
  by_cases ht : th = thmThread
  · subst ht
    rw [if_pos rfl]
    have hp := State.thmPlain_ran (body u)
    have hq : (body u).ran (body u).thmPlain thmThread pc gs vs ks cs := by
      have := State.ran_mono (gs' := gs) (vs' := vs) (ks' := ks) (cs' := cs) hp (by simp) (by simp) (by simp) (by simp)
      rw [hb.2.2.2.1] at this; exact this
    refine ⟨State.ran_trans hb hq, ?_, ?_, ?_, ?_⟩
    · intro r; exact hp.2.2.2.2.1 r (by simp)
    · intro r; exact hp.2.2.2.2.2.1 r (by simp)
    · intro r; exact hp.2.2.2.2.2.2.1 r (by simp)
    · intro n hn; exact hp.2.2.2.2.2.2.2 n (by simp) hn
  · rw [if_neg ht]
    exact ⟨hb, fun _ => rfl, fun _ => rfl, fun _ => rfl, fun _ _ => rfl⟩

theorem Thread.keeps_setGr (x : Thread) (rd : Nat) (v : Word) : x.keeps (x.setGr rd v) [rd] [] [] [] := by
  refine ⟨fun r hr => ?_, fun r _ => by simp, fun r _ => by simp, fun n _ _ => by simp⟩
  rw [Thread.gr_setGr, if_neg]
  intro e; exact hr (by simp [e.1])

theorem Thread.keeps_setVr (x : Thread) (vd : Nat) (v : VWord) : x.keeps (x.setVr vd v) [] [vd] [] [] := by
  refine ⟨fun r _ => by simp, fun r hr => ?_, fun r _ => by simp, fun n _ _ => by simp⟩
  rw [Thread.vr_setVr, if_neg]
  intro e; exact hr (by simp [e])

theorem Thread.keeps_setKr (x : Thread) (kd : Nat) (v : Word) : x.keeps (x.setKr kd v) [] [] [kd] [] := by
  refine ⟨fun r _ => by simp, fun r _ => by simp, fun r hr => ?_, fun n _ _ => by simp⟩
  rw [Thread.kr_setKr, if_neg]
  intro e; exact hr (by simp [e.1])

/-- An integer instruction: `rd` receives the value (g0 stays zero), the pc moves on by four, and nothing else changes. -/
theorem State.alu_spec {s u : State} {th : Nat} (h : s.startsIn th u) (rd : Nat) (f : Thread → Word) :
    u.ran (s.alu th rd f) th ((u.thr th).pc + 4) [rd] [] [] [] ∧
    ((s.alu th rd f).thr th).gr rd = if rd = 0 then 0 else f (u.thr th) := by
  have hb : u.ran (u.retireGpr th rd (f (u.thr th))) th ((u.thr th).pc + 4) [rd] [] [] [] :=
    u.setThr_retire_ran th _ _ _ _ _ _ _ (Thread.keeps_setGr _ _ _)
  obtain ⟨h1, h2, _⟩ := State.runInstr_ran h (fun s => s.retireGpr th rd (f (s.thr th))) hb
  refine ⟨h1, (h2 rd).trans ?_⟩
  simp only [State.retireGpr]
  rw [(State.retire_thr _ _ _ _).2.1, State.thr_setThr_same, Thread.gr_setGr]
  by_cases e : rd = 0
  · simp [e]
  · simp [e]

end Sys2Proof.Machine
end

