-- ==== Sys2Proof/WellFormed.lean ====
section
/-! DEFINITION. Which commands name something the manual defines. Most operands have types that admit nothing else; what
is left are words that must be illegal instructions, outcomes of reads and tests, and lists without repeats. -/

namespace Sys2Proof

open Sys2Proof.Machine

/-- What a read of a line finds names one of its eight words or of the trailer's six groups, one or two located bits, and a 14-bit
syndrome; address bits are found in error in a word only (R207–R209, Table MEM-4). -/
def ReadOut.wf : ReadOut → Bool
  | .clean => true
  | .corrected w b y _ => (decide (w < 8) || (decide (16 ≤ w) && decide (w < 22))) && decide (1 ≤ b) && decide (b ≤ 2) && decide (y < 2 ^ 14)
  | .bad w y a _ => (decide (w < 8) || (decide (16 ≤ w) && decide (w < 22) && !a)) && decide (y < 2 ^ 14)
  | .wedged => true

/-- No member of a list of numbers stands twice. -/
def distinct : List Nat → Bool
  | [] => true
  | x :: xs => !xs.contains x && distinct xs

/-- An array error has bits in error (Table CCH-3). -/
def ArrayErr.wf (e : ArrayErr) : Bool := decide (0 < e.bits.val)

/-- A unit ID with MODULE zero that names a unit. -/
def unitOk (u : Nat) : Bool := decide (u % 2 ^ 24 < unitCount (u / 2 ^ 24))

/-- A failure names a unit, or a die bridge by class 0x0D, its die and array 9. (DESIGN CHOICE, log entry 56.) -/
def Failure.wf (f : Failure) : Bool :=
  unitOk f.unit.toNat || (decide (f.unit.toNat / 2 ^ 24 = 0x0D) && decide (f.unit.toNat % 2 ^ 24 < 4) && decide (f.array.val = 9))

/-- The word is an illegal instruction for its thread in some mode (R65, R497), or on the Thimble core (R339). -/
def illegalSomewhere (th : AnyThr) (word : IWord) : Bool :=
  if th.val = 384 then (thmIllegal word.toNat).isSome
  else [0, 1, 2].any fun pl => [false, true].any fun p0 => [false, true].any fun utr => [false, true].any fun uctr =>
    (List.range 8).any fun frm => (illegalSub word.toNat pl p0 utr uctr frm).isSome

/-- A flit that an interface sends (Table WRP-3): bit 31 zero, and a class that exists. -/
def Flit.wf (f : Flit) : Bool := !f.head.getLsbD 31 && decide (hCLASS.get f.head.toNat < 7)

/-- The check of one command. -/
def Instr.wf : Instr → Bool
  | .stitchBoundary x => distinct (x.saveFails.map (·.val)) && distinct (x.restoreFails.map (·.val))
  | .illegalInstruction th word => illegalSomewhere th word
  | .mrd _ _ _ _ _ _ res => res.wf
  | .patrolScrub _ found => distinct (found.map (·.1.val)) && found.all fun e => e.2.wf
  | .l2L3Scrub _ found => found.all ArrayErr.wf
  | .flitForward _ (.agent _ _ f) _ => f.wf
  | .wrf _ _ w => decide (w.data.length = 64)
  | .wrp _ _ _ w => decide (w.data.length = 64)
  | .spareCopyComplete _ bad _ => distinct (bad.map (·.val))
  | .boltResetComplete _ failed => distinct (failed.map (·.val))
  | .swatchSample temps mv lanes =>
    distinct (temps.map (·.1.val)) && distinct (mv.map (·.1.val)) && distinct (lanes.map (·.1.val)) &&
      lanes.all fun e => decide (e.2.1 ≤ e.2.2)
  | .romBoot l => l.all Failure.wf
  | .trainingComplete l => l.all Failure.wf
  | .bastingComplete l => l.all Failure.wf
  | .unitStateReport u _ _ _ => unitOk u.toNat
  | .portActivity _ arming => distinct (arming.map (·.val))
  | .dbgTrigIn on off => distinct (on.map (·.val)) && distinct (off.map (·.val))
  | _ => true

end Sys2Proof
end

