-- ==== Sys2Proof/Tests/Slice0.lean ====
section
/-! SUPPORT. Tests: a command that each check of WellFormed refuses; for the statements of the certificate with hypotheses, states
and operands that meet them; and values that the manual gives. The states start from reset, with a slot ID in place of the
free one. -/

namespace Sys2Proof.Tests
set_option Elab.async false
open Sys2Proof Sys2Proof.Machine Sys2Proof.Spec

/-- Reset, with a slot ID in place of the free one. -/
def zero : State := { State.reset with boot := { BootSt.init with slotid := 5 } }

/-- That state, or another, with fields of registers set. -/
def set (l : List (Reg × Fld × Nat)) (s : State := zero) : State := l.foldl (fun s e => s.setFld e.1 e.2.1 e.2.2) s

/-- A check answers a state and a result. -/
def answers {α : Type} [DecidableEq α] (r : State × Except AccFault α) (s : State) (a : α) : Bool :=
  match r with
  | (t, .ok b) => decide (t = s) && decide (b = a)
  | _ => false
theorem answers_eq {α : Type} [DecidableEq α] {r : State × Except AccFault α} {s : State} {a : α}
    (h : answers r s a = true) : r = (s, .ok a) := by
  obtain ⟨t, _ | b⟩ := r <;> simp_all [answers]
/-- A check answers a state and a fault. -/
def faults {α : Type} (r : State × Except AccFault α) (s : State) (f : AccFault) : Bool :=
  match r with
  | (t, .error b) => decide (t = s) && decide (b = f)
  | _ => false
theorem faults_eq {α : Type} {r : State × Except AccFault α} {s : State} {f : AccFault}
    (h : faults r s f = true) : r = (s, .error f) := by
  obtain ⟨t, b | _⟩ := r <;> simp_all [faults]

/-- A started thread at address 0x100 at level `pl` with given general registers. -/
def thread (pl : Nat) (g : List (Nat × Word)) : Thread :=
  { Thread.init with pc := 0x100, started := true, g := g, cr := [(0, BitVec.ofNat 64 (0x4000 + pl))] }

/-- Core 1 runs seat 0 of a panel on that thread, in a bolt that runs; two channels of memory are in service, and the
first two granules are the panel's with R, W and X. -/
def runs (x : Thread) (p : Nat := 1) (l : List (Reg × Fld × Nat) := []) : State :=
  set ([({ kind := .pwrDstat, i := 1 }, F.pwrDstat.CUR, 0), ({ kind := .hubBoltstat }, ⟨7, 5⟩, 1)] ++ l)
    { zero with
      clist := [0, 12]
      cores := [(1, { Core.init with seat := some (p, 0), thr0 := x })]
      pot := [(0, mkPot 1 false true true true p), (1, mkPot 1 false true true true p)] }

/-- The arrays of a tile are invalidated and its caches on. -/
def caches (t : Nat) : List (Reg × Fld × Nat) :=
  [F.wrpCctl.L1I_EN, F.wrpCctl.L1D_EN, F.wrpCctl.L2_EN, F.wrpCctl.L3_EN].map (({ kind := .wrpCctl, i := t }, ·, 1)) ++
  [F.wrpCctl.INV_L1, F.wrpCctl.INV_L2, F.wrpCctl.INV_L3, F.wrpCctl.INV_DIR].map (({ kind := .wrpCctl, i := t }, ·, 0))

/-- A thread of a core starts its next instruction in the state as it stands. -/
def starts (s : State) (th : Nat) : Bool :=
  let u := s.applyDebug th
  th != thmThread && u.live th && (u.thr th).imprecise.isNone &&
  match u.translate th .fetch (u.thr th).pc true with
  | (t, .ok a) => decide (t = s) && !s.poisoned a.pa 4 &&
      !((s.core (th / 2)).held.any fun h => h.thread == th % 2 && h.pa / 64 == a.pa / 64) &&
      decide ((s.fetchWait th a.pa).fetchReach th a = (s, .hit))
  | _ => false
theorem startsIn_of {s : State} {th : Nat} (h : starts s th = true) : s.startsIn th s := by
  simp only [starts, Bool.and_eq_true, bne_iff_ne, Option.isNone_iff_eq_none] at h
  obtain ⟨⟨⟨h0, h1⟩, h2⟩, h3⟩ := h
  simp only [State.startsIn, h0, if_false]
  refine ⟨h1, h2, ?_⟩
  split at h3
  · rename_i t a e
    simp only [Bool.and_eq_true, decide_eq_true_eq, Bool.not_eq_true'] at h3
    obtain ⟨⟨⟨e', hp⟩, hh⟩, hr⟩ := h3
    exact ⟨s, a, by rw [e, e'], hp, hh, .hit, hr, by decide⟩
  · cases h3

/-- The caches of a core give an answer to a checked access. -/
theorem reached_of {v : State} {th : Nat} {own : Bool} {hs : List Half} {r : Reach} (h0 : v.crossOpen th = false)
    (h1 : ∀ h ∈ hs, v.crossHalf th h = false)
    (h2 : ((v.drainWc th fun l => hs.any fun h => h.x.mt == .wb && h.x.pa / 64 == l).reachLines (th / 2) (th % 2) own false
      (v.cacheLines th hs)).2 = r) : ∃ w, reached v w th own hs r := ⟨_, h0, h1, Prod.ext rfl h2⟩

theorem atomicReached_of {v : State} {th n : Nat} {x : Xlat} {r : Reach} (h0 : x.target.owned = true) (h1 : v.poisoned x.pa n = false)
    (h2 : v.crossOpen th = false) (h3 : ((v.drainAll th).reachLines (th / 2) (th % 2) true false [x.pa / 64]).2 = r) :
    ∃ w, atomicReached v w th n x r := ⟨_, h0, h1, h2, Prod.ext rfl h3⟩


/-! ### What WellFormed refuses -/

def quiet : Reading := ⟨0, 0, 0, [], [], false, false⟩
theorem test_wf_stitchBoundary : (Instr.stitchBoundary { quiet with saveFails := [3, 4, 3] }).wf = false ∧
    (Instr.stitchBoundary { quiet with restoreFails := [191, 191] }).wf = false ∧ (Instr.stitchBoundary { quiet with saveFails := [3], restoreFails := [3] }).wf = true := by
  decide +kernel
/-- ADDI g5, g2, 7 is legal in every mode; the zero word and reserved major opcode 0x3E are not. -/
theorem test_wf_illegalInstruction : (Instr.illegalInstruction 2 (BitVec.ofNat 32 (0x02 * 2 ^ 26 + 5 * 2 ^ 21 + 2 * 2 ^ 16 + 7))).wf = false ∧
    (Instr.illegalInstruction 2 0).wf = true ∧ (Instr.illegalInstruction 2 (BitVec.ofNat 32 (0x3E * 2 ^ 26))).wf = true := by decide +kernel
theorem test_wf_mrd : (ReadOut.corrected 8 1 0 false).wf = false ∧ (ReadOut.corrected 7 0 0 false).wf = false ∧ (ReadOut.corrected 7 3 0 true).wf = false ∧
    (ReadOut.corrected 7 2 16384 false).wf = false ∧ (ReadOut.bad 8 0 false false).wf = false ∧ (ReadOut.bad 7 16384 true false).wf = false ∧
    (ReadOut.bad 22 0 false true).wf = false ∧ (ReadOut.bad 21 0 true true).wf = false ∧ (ReadOut.bad 21 0 false true).wf = true ∧
    (ReadOut.corrected 7 2 16383 false).wf = true := by
  decide +kernel
theorem test_wf_scrubs : (Instr.patrolScrub 0 [(3, .clean), (3, .clean)]).wf = false ∧ (Instr.patrolScrub 0 [(3, .bad 9 0 false false)]).wf = false ∧
    (Instr.l2L3Scrub 0 [⟨0, false, 0, 0, 0, 0⟩]).wf = false ∧ (Instr.l2L3Scrub 0 [⟨0, false, 1, 0, 0, 0⟩]).wf = true ∧
    (Instr.spareCopyComplete 0 [24, 24] false).wf = false ∧ (Instr.boltResetComplete 0 [7, 7]).wf = false := by decide +kernel
theorem test_wf_swatchSample : (Instr.swatchSample [(1, 0), (1, 5)] [] []).wf = false ∧ (Instr.swatchSample [] [(426, 0), (426, 0)] []).wf = false ∧
    (Instr.swatchSample [] [] [(0, 1, 2), (0, 1, 2)]).wf = false ∧ (Instr.swatchSample [] [] [(0, 3, 2)]).wf = false ∧
    (Instr.swatchSample [(1, 0)] [(1, 0)] [(1, 2, 2)]).wf = true := by decide +kernel
def failing (unit : Nat) (array : Fin 19 := 0) : List Failure := [⟨BitVec.ofNat 32 unit, array, 0, 0, 0, 0⟩]
theorem test_wf_failures : (Instr.romBoot (failing (unitId 1 192))).wf = false ∧ (Instr.trainingComplete (failing (unitId 3 24) 18)).wf = false ∧
    (Instr.bastingComplete (failing (unitId 0x0D 1) 8)).wf = false ∧ (Instr.bastingComplete (failing (unitId 0x0D 4) 9)).wf = false ∧
    (Instr.bastingComplete (failing (unitId 0x0D 3) 9)).wf = true ∧ (Instr.romBoot (failing (unitId 0x0A 0))).wf = true := by decide +kernel
theorem test_wf_lists : (Instr.unitStateReport (BitVec.ofNat 32 (unitId 0x0B 4)) 0 .matching 0).wf = false ∧ (Instr.unitStateReport 0 0 .matching 0).wf = false ∧
    (Instr.portActivity 0 [383, 383]).wf = false ∧ (Instr.dbgTrigIn [384, 384] []).wf = false ∧ (Instr.dbgTrigIn [] [2, 2]).wf = false ∧
    (Instr.dbgTrigIn [2] [2]).wf = true := by decide +kernel
/-- A header with bit 31 set, and one of class 7, are no flits of an interface. -/
theorem test_wf_flits : (Instr.flitForward (.tile 0) (.agent (.tile 0) 1 ⟨BitVec.ofNat 64 (2 ^ 31), 0⟩) 0).wf = false ∧
    (Instr.flitForward (.tile 0) (.agent (.tile 0) 1 ⟨BitVec.ofNat 64 (7 * 2 ^ 28), 0⟩) 0).wf = false ∧
    (Instr.flitForward (.tile 0) (.agent (.tile 0) 1 ⟨BitVec.ofNat 64 (6 * 2 ^ 28), 0⟩) 0).wf = true := by decide +kernel
/-- A write carries 64 bytes. -/
theorem test_wf_writes : (Instr.wrf 192 0 ⟨0, List.replicate 63 0⟩).wf = false ∧ (Instr.wrf 192 0 ⟨0, List.replicate 64 0⟩).wf = true ∧
    (Instr.wrp 192 0 1 ⟨0, [0]⟩).wf = false ∧ (Instr.wrp 192 0 1 ⟨0, List.replicate 64 0⟩).wf = true := by decide +kernel

/-! ### Core instructions -/

/-- A user thread of panel 1 with g2 = 7, g3 = 0x10000, g4 the most negative number, g5 = −1, g6 = 0x1003C. -/
def sU : State := runs (thread 0 [(2, 7), (3, 0x10000), (4, 0x8000000000000000), (5, 0xFFFFFFFFFFFFFFFF), (6, 0x1003C)])
/-- A supervisor thread of panel 1, and a host-manager thread of panel 0. -/
def sS : State := runs (thread 1 [(2, 7), (3, 0x10000)])
def sH : State := runs (thread 2 [(2, 7), (3, 0x10000)]) 0
/-- The Thimble core in SRAM, with g3 at its top 8 bytes and g4 in the ROM. -/
def sT : State :=
  { zero with
    thm := { ThmSt.init with firmware := true }
    cores := [(192, { Core.init with thr0 := { thread 0 [(3, 0x1007FFF8), (4, 0)] with pc := 0x10000000 } })] }

theorem sU_starts : sU.startsIn 2 sU := startsIn_of (by decide +kernel)
theorem sS_starts : sS.startsIn 2 sS := startsIn_of (by decide +kernel)
theorem sH_starts : sH.startsIn 2 sH := startsIn_of (by decide +kernel)
theorem sT_starts : sT.startsIn 384 sT := by
  refine ⟨rfl, ?_, ?_⟩ <;> decide +kernel
theorem sU_plain : plainThread sU 2 := by unfold plainThread; decide +kernel

theorem test_witness_scalarResults : ScalarRow 2 31 4 5 0 (.div 2 31 4 5 false) (fun x => quotS (x.gr 4) (x.gr 5)) ∧
    ScalarRow 384 0 4 5 0x8000 (.addi 384 0 4 0x8000) (fun x => x.gr 4 + (0x8000 : BitVec 16).signExtend 64) ∧
    sU.startsIn 2 sU ∧ sT.startsIn 384 sT := ⟨.div, .addi, sU_starts, sT_starts⟩

theorem test_witness_integerCorners : sU.startsIn 2 sU ∧ (sU.thr 2).gr 1 = 0 ∧ (sU.thr 2).gr 4 = BitVec.intMin 64 ∧
    (sU.thr 2).gr 5 = BitVec.allOnes 64 ∧ ((sU.thr 2).gr 4).setWidth 32 = 0#32 :=
  ⟨sU_starts, by decide +kernel, by decide +kernel, by decide +kernel, by decide +kernel⟩

theorem test_witness_controlTransfers : BranchRow 2 4 5 true 0x4000 (.blt 2 4 5 true 0x4000) (fun a b => a.toInt < b.toInt) ∧
    ((sU.thr 2).gr 4).toInt < ((sU.thr 2).gr 5).toInt ∧ ¬((sU.thr 2).gr 5).toInt < ((sU.thr 2).gr 4).toInt ∧
    sU.startsIn 2 sU ∧ (sU.thr 2).crFld 0x030 F.crHINTCTL.OVREN = 1 ∧ foreseen sU 2 true = true ∧ foreseen sU 2 false = false :=
  ⟨.blt, by decide +kernel, by decide +kernel, sU_starts, by decide +kernel, by decide +kernel, by decide +kernel⟩

/-- That thread with the caches of its core on: its L1I holds the line at the pc, its L2 has line 1023 in M, which the home knows of
with `known`, and lacks line 1024. -/
def sC (known : Bool := true) : State :=
  let s := runs (thread 0 [(2, 7), (3, 0x10000), (6, 0x1003C)]) 1 (caches 1 ++ caches 155)
  let s := ((s.modTile 1 fun x => { x with l1i := [4] }).setL2 1 4 { st := .sh, tag := 1, poison := false, used := 0 }).setL2 1 1023
    { st := .m, tag := 1, poison := false, used := 0 }
  if known then s.setDir 155 1023 { DirEnt.free with st := .em, owner := 1, ktag := 1 } else s
theorem sC_starts : sC.startsIn 2 sC := startsIn_of (by decide +kernel)
/-- A part of 8 bytes at an address of the first two granules. -/
def at8 (a : Nat) : Half := ⟨BitVec.ofNat 64 a, ⟨a, .wb, .prot, 0⟩, 8⟩
theorem test_witness_cacheAnswers : sC.startsIn 2 sC ∧ plainThread sC 2 ∧ (sC false).startsIn 2 (sC false) ∧
    sC.checkAccess 2 .load 0xFFF8 8 true = (sC, .ok [at8 0xFFF8]) ∧ sC.checkAccess 2 .store 0xFFF8 8 true = (sC, .ok [at8 0xFFF8]) ∧
    sC.checkAccess 2 .load 0x10000 8 true = (sC, .ok [at8 0x10000]) ∧ sC.checkAccess 2 .store 0x10000 8 true = (sC, .ok [at8 0x10000]) ∧
    (sC false).checkAccess 2 .load 0xFFF8 8 true = (sC false, .ok [at8 0xFFF8]) ∧
    (∃ w, reached sC w 2 false [at8 0xFFF8] .hit) ∧ (∃ w, reached sC w 2 true [at8 0xFFF8] .hit) ∧
    (∃ w, reached sC w 2 false [at8 0x10000] .wait) ∧ (∃ w, reached sC w 2 true [at8 0x10000] .wait) ∧
    (∃ w, reached (sC false) w 2 false [at8 0xFFF8] .stale) :=
  ⟨sC_starts, by unfold plainThread; decide +kernel, startsIn_of (by decide +kernel), answers_eq (by decide +kernel),
    answers_eq (by decide +kernel), answers_eq (by decide +kernel), answers_eq (by decide +kernel), answers_eq (by decide +kernel),
    reached_of (by decide +kernel) (by decide +kernel) (by decide +kernel), reached_of (by decide +kernel) (by decide +kernel) (by decide +kernel),
    reached_of (by decide +kernel) (by decide +kernel) (by decide +kernel), reached_of (by decide +kernel) (by decide +kernel) (by decide +kernel),
    reached_of (by decide +kernel) (by decide +kernel) (by decide +kernel)⟩

/-- A load and a store of 8 bytes, at the last bytes of the panel's memory and across a line. -/
theorem test_witness_loadResults : LoadRow 2 5 3 0xFFF8 (.ld 2 5 3 0xFFF8) 8 false ∧ LoadRow 2 5 6 0 (.ld 2 5 6 0) 8 false ∧
    sU.startsIn 2 sU ∧ plainThread sU 2 ∧
    sU.checkAccess 2 .load 0xFFF8 8 true = (sU, .ok [⟨0xFFF8, ⟨0xFFF8, .wb, .prot, 0⟩, 8⟩]) ∧
    sU.checkAccess 2 .load 0x1003C 8 false =
      (sU, .ok [⟨0x1003C, ⟨0x1003C, .wb, .prot, 0⟩, 4⟩, ⟨0x10040, ⟨0x10040, .wb, .prot, 0⟩, 4⟩]) ∧
    sU.poisoned 0x1003C 4 = false ∧ sU.poisoned 0x10040 4 = false ∧ wbMemory [at8 0xFFF8] ∧
    ∃ w, reached sU w 2 false [⟨0x1003C, ⟨0x1003C, .wb, .prot, 0⟩, 4⟩, ⟨0x10040, ⟨0x10040, .wb, .prot, 0⟩, 4⟩] .hit :=
  ⟨.ld, .ld, sU_starts, sU_plain, answers_eq (by decide +kernel), answers_eq (by decide +kernel), by decide +kernel, by decide +kernel,
    by unfold wbMemory; decide +kernel, reached_of (by decide +kernel) (by decide +kernel) (by decide +kernel)⟩

theorem test_witness_storeResults : StoreRow 2 5 3 0xFFFF (.sb 2 5 3 0xFFFF) 1 ∧ sU.startsIn 2 sU ∧ plainThread sU 2 ∧
    sU.checkAccess 2 .store 0xFFFF 1 true = (sU, .ok [⟨0xFFFF, ⟨0xFFFF, .wb, .prot, 0⟩, 1⟩]) ∧
    wbMemory [⟨0xFFFF, ⟨0xFFFF, .wb, .prot, 0⟩, 1⟩] ∧
    ∃ w, reached sU w 2 true [⟨0xFFFF, ⟨0xFFFF, .wb, .prot, 0⟩, 1⟩] .hit :=
  ⟨.sb, sU_starts, sU_plain, answers_eq (by decide +kernel), by unfold wbMemory; decide +kernel,
    reached_of (by decide +kernel) (by decide +kernel) (by decide +kernel)⟩

theorem test_witness_thimbleMemory : sT.startsIn 384 sT ∧ ((sT.thr 384).gr 3).toNat % 8 = 0 ∧
    inSram ((sT.thr 384).gr 3).toNat 8 = true ∧ inRom ((sT.thr 384).gr 3).toNat 8 = false ∧
    inRom ((sT.thr 384).gr 4).toNat 8 = true ∧ inMailbox 0x1007FFF8 8 = false :=
  ⟨sT_starts, by decide +kernel, by decide +kernel, by decide +kernel, by decide +kernel, by decide +kernel⟩

theorem test_witness_atomicOperations : AmoRow 2 5 3 2 true (.amoAdd 2 5 3 2 true) (fun _ a b => a + b) ∧ sU.startsIn 2 sU ∧
    plainThread sU 2 ∧ sU.translate 2 .amo 0x10000 true = (sU, .ok ⟨0x10000, .wb, .prot, 0⟩) ∧
    (∃ w, atomicReached sU w 2 16 ⟨0x10000, .wb, .prot, 0⟩ .hit) ∧
    sC.translate 2 .amo 0x10000 true = (sC, .ok ⟨0x10000, .wb, .prot, 0⟩) ∧ (∃ w, atomicReached sC w 2 8 ⟨0x10000, .wb, .prot, 0⟩ .wait) :=
  ⟨.add, sU_starts, sU_plain, answers_eq (by decide +kernel),
    atomicReached_of rfl (by decide +kernel) (by decide +kernel) (by decide +kernel), answers_eq (by decide +kernel),
    atomicReached_of rfl (by decide +kernel) (by decide +kernel) (by decide +kernel)⟩

/-- A load from a granule of nobody, and an AMO at an odd address. -/
theorem test_witness_accessFaults : sU.startsIn 2 sU ∧
    sU.checkAccess 2 .load 0x20000 8 true = (sU, .error (.exc 0x04 0x02 0x20000)) ∧
    sU.checkAccess 2 .store 0x20000 1 true = (sU, .error (.exc 0x05 0x02 0x20000)) ∧
    sU.translate 2 .amo 0x20000 true = (sU, .error (.exc 0x05 0x02 0x20000)) ∧ ((sU.thr 2).gr 2).toNat % 4 ≠ 0 ∧
    sU.checkAll 2 .load (elementParts 0 (BitVec.allOnes 64) (fun j => 0x1FFFF + BitVec.ofNat 64 j) fun _ => true) =
      (sU, .error (.exc 0x04 0x02 0x20000)) :=
  ⟨sU_starts, faults_eq (by decide +kernel), faults_eq (by decide +kernel), faults_eq (by decide +kernel), by decide +kernel,
    faults_eq (by decide +kernel)⟩

theorem test_witness_vectorResults :
    VecRow 2 31 1 2 0 0 true 0 (.vadd 2 31 1 2 0 true 0) (fun x j => el 0 x 1 j + el 0 x 2 j) (fun _ _ => True) ∧
    CompareRow 2 7 1 2 0 true 3 (.vcmplt 2 7 1 2 0 true 3) (fun x j => Spec.sel 3 x 1 j < Spec.sel 3 x 2 j) ∧
    ReduceRow 2 1 2 0 false 1 (.vredadd 2 1 2 0 false 1) (fun l => l.sum) ∧
    MaskRow 2 7 0 1 0 (.knot 2 7 0) (fun x => lowBits 0 (~~~x.kr 0)) ∧ sU.startsIn 2 sU ∧ ((sU.thr 2).kr 0).getLsbD 31 = true ∧
    ((sU.thr 2).kr 1).getLsbD 0 = false := ⟨.vadd, .lt, .add, .knot, sU_starts, by decide +kernel, by decide +kernel⟩

/-- The same thread with a rounding mode that is reserved. -/
def sFrm : State := runs ((thread 0 []).setSt F.crSTATUS.FRM 5)
theorem test_witness_floatResults :
    FloatRow 2 1 2 3 0 true .single (.vfadd 2 1 2 3 0 true .single) (fun f m a b _ => fAdd f m a b) 3 ∧
    (sU.thr 2).st F.crSTATUS.FRM ≤ 4 ∧ sFrm.startsIn 2 sFrm ∧ 4 < (sFrm.thr 2).st F.crSTATUS.FRM :=
  ⟨.vfadd, by decide +kernel, startsIn_of (by decide +kernel), by decide +kernel⟩

theorem test_witness_vectorMemory : ElementRow 2 1 3 1 0 1 true 3 true (.vld 2 1 3 1 1 true 3)
      (fun x j => x.gr 3 + x.gr 1 + BitVec.ofNat 64 (2 ^ 3 * j)) (fun x _ => (x.gr 3 + x.gr 1).toNat % 32 == 0) ∧
    sU.startsIn 2 sU ∧ plainThread sU 2 ∧
    sU.checkAll 2 .load (elementParts 3 5 (fun j => 0x10000 + BitVec.ofNat 64 (8 * j)) fun _ => true) =
      (sU, .ok [⟨0x10000, ⟨0x10000, .wb, .prot, 0⟩, 8⟩, ⟨0x10010, ⟨0x10010, .wb, .prot, 0⟩, 8⟩]) ∧
    sU.checkAccess 2 .store 0x10000 8 true = (sU, .ok [at8 0x10000]) ∧ (∃ w, reached sU w 2 true [at8 0x10000] .hit) ∧
    (∃ w, reached sU w 2 false [at8 0x10000, at8 0x10010] .hit) ∧
    sC.checkAll 2 .load (elementParts 3 5 (fun j => 0x10000 + BitVec.ofNat 64 (8 * j)) fun _ => true) = (sC, .ok [at8 0x10000, at8 0x10010]) ∧
    ∃ w, reached sC w 2 true [at8 0x10000, at8 0x10010] .wait :=
  ⟨.vld, sU_starts, sU_plain, answers_eq (by decide +kernel), answers_eq (by decide +kernel),
    reached_of (by decide +kernel) (by decide +kernel) (by decide +kernel), reached_of (by decide +kernel) (by decide +kernel) (by decide +kernel),
    answers_eq (by decide +kernel), reached_of (by decide +kernel) (by decide +kernel) (by decide +kernel)⟩

theorem test_witness_fetchWithoutTranslation : sH.applyDebug 2 = sH ∧ sH.startsIn 2 sH ∧ (sH.thr 2).pl = 2 ∧
    (sH.thr 2).crFld 0x041 F.crPTBASE.TEN = 0 ∧ (∀ e ∈ (sH.thr 2).wc, e.1 / 64 ≠ (sH.thr 2).pc.toNat / 64) ∧
    let s := sC.modTile 1 fun x => { x with l1i := [], l2 := [] }
    (s.thr 2).crFld 0x040 F.crPTBASE.TEN = 0 ∧ s.live 2 = true ∧ (s.thr 2).imprecise = none ∧
    s.poisoned (s.thr 2).pc.toNat 4 = false ∧ (s.core 1).held = [] ∧ s.applyDebug 2 = s ∧
    s.translate 2 .fetch (s.thr 2).pc true = (s, .ok ⟨0x100, .wb, .prot, 0⟩) ∧ (s.fetchReach 2 ⟨0x100, .wb, .prot, 0⟩).2 = .wait := by
  refine ⟨by decide +kernel, sH_starts, by decide +kernel, by decide +kernel, by decide +kernel, ?_⟩
  refine ⟨by decide +kernel, by decide +kernel, by decide +kernel, by decide +kernel, by decide +kernel, by decide +kernel,
    answers_eq (by decide +kernel), by decide +kernel⟩

theorem test_witness_controlRegisters : CrWriteRow 2 5 3 0x003 (.crbs 2 5 3 0x003) 3 5 ∧ sS.startsIn 2 sS ∧ sH.startsIn 2 sH ∧
    sS.paired 1 = false ∧ sH.paired 1 = false ∧ (sS.thr 2).pl = 1 ∧ (sH.thr 2).pl = 2 ∧
    crLegal sU 2 (encodeS 5 0 0 0x012) ∧ crLegal sS 2 (encodeS 5 3 3 0x003) ∧ crLegal sH 2 (encodeS 5 0 0 0x102) :=
  ⟨.crbs, sS_starts, sH_starts, by decide +kernel, by decide +kernel, by decide +kernel, by decide +kernel,
    by unfold crLegal; decide +kernel, by unfold crLegal; decide +kernel, by unfold crLegal; decide +kernel⟩

theorem test_witness_illegalInstructions : sU.startsIn 2 sU ∧ (sU.thr 2).pl = 0 ∧ sS.startsIn 2 sS ∧ sS.panelOf 2 ≠ 0 ∧
    sH.startsIn 2 sH ∧ (sH.thr 2).pl = 2 ∧ sU.applyDebug 2 = sU :=
  ⟨sU_starts, by decide +kernel, sS_starts, by decide +kernel, sH_starts, by decide +kernel, by decide +kernel⟩

theorem test_witness_callsAndReturns : sU.startsIn 2 sU ∧ (sU.thr 2).pl ≤ 1 ∧ sH.startsIn 2 sH ∧ sH.panelOf 2 = 0 ∧
    (sS.thr 2).pl = 1 ∧ sS.startsIn 2 sS ∧ (sH.thr 2).pl = 2 :=
  ⟨sU_starts, by decide +kernel, sH_starts, by decide +kernel, by decide +kernel, sS_starts, by decide +kernel⟩

/-- A supervisor thread with two buffered bytes and STITCHW set. -/
def sWc : State := runs { (thread 1 []).setCrFld 0x020 F.crPWRMODE.STITCHW 1 with wc := [(0x10000, 0xAA), (0x1003F, 0xBB)] }
theorem test_witness_systemOperations : sWc.startsIn 2 sWc ∧ sWc.paired 1 = false ∧
    SMap.risingFrom 0 (sWc.thr 2).wc = true ∧ sWc.crossOpen 2 = false ∧
    (∀ e ∈ (sWc.thr 2).wc, (sWc.target e.1).owned = true ∧ sWc.granuleBolt (e.1 / 65536) = sWc.boltOf 1) ∧
    (sU.setReq 1 0 (some { op := .wrf, line := 0, rcnt := 0, rsv := false, retry := false, ctx := 0, age := 0, seat := (sU.core 1).seat })).startsIn 2
      (sU.setReq 1 0 (some { op := .wrf, line := 0, rcnt := 0, rsv := false, retry := false, ctx := 0, age := 0, seat := (sU.core 1).seat })) ∧
    ((sU.setReq 1 0 (some { op := .wrf, line := 0, rcnt := 0, rsv := false, retry := false, ctx := 0, age := 0, seat := (sU.core 1).seat })).drainAll 2).crossOpen 2 = true ∧
    TlbRow 2 3 true (.tlbinvVa 2 3 true) 2 ∧ sS.wakeAsserted 2 false false = false ∧ sWc.seatOf 2 ≠ none ∧
    (sWc.thr 2).crFld 0x020 F.crPWRMODE.STITCHW = 1 :=
  ⟨startsIn_of (by decide +kernel), by decide +kernel, by decide +kernel, by decide +kernel, by decide +kernel,
    startsIn_of (by decide +kernel), by decide +kernel, .va, by decide +kernel, by decide +kernel, by decide +kernel⟩

/-- Panel 1's vector 2047 and vector 3 are pending for seat 0, thread 0, with equal priority; IE is set. -/
def sI : State := runs ((thread 1 []).setSt F.crSTATUS.IE 1) 1
  [({ kind := .icVec, i := 1, j := 2047 }, F.icVec.EN, 1), ({ kind := .icVec, i := 1, j := 2047 }, F.icVec.PEND, 1),
   ({ kind := .icVec, i := 1, j := 2047 }, F.icVec.PRIO, 5)]
theorem sI_only (l j : Nat) (h : vectorReady sI 1 0 0 l j) : j = 2047 := by
  have key : ∀ j, j < 2048 → F.icVec.EN.get (sI.rd { kind := .icVec, i := 1, j := j }) = 1 → j = 2047 := by decide +kernel
  exact key j h.1 h.2.1
theorem test_witness_interrupts : sI.startsIn 2 sI ∧ between sI 2 1 0 ∧ vectorReady sI 1 0 0 1 2047 ∧
    (sI.thr 2).st F.crSTATUS.IE = 1 ∧ (sI.thr 2).st F.crSTATUS.IPL ≤ vectorPrio sI 1 2047 ∧
    (∀ i m, vectorReady sI 1 0 0 m i → vectorPrio sI 1 i ≤ vectorPrio sI 1 2047) ∧ between sS 2 1 0 ∧
    (sS.thr 2).st F.crSTATUS.IE = 0 ∧ (∀ j, ¬vectorReady sS 1 0 0 1 j) := by
  refine ⟨startsIn_of (by decide +kernel), by unfold between; decide +kernel, by unfold vectorReady; decide +kernel,
    by decide +kernel, by decide +kernel, fun i m h => Nat.le_of_eq (congrArg _ (sI_only m i h)), by unfold between; decide +kernel, by decide +kernel, ?_⟩
  have key : ∀ j, j < 2048 → ¬F.icVec.EN.get (sS.rd { kind := .icVec, i := 1, j := j }) = 1 := by decide +kernel
  exact fun j h => key j h.1 h.2.1
/-- A host-manager thread with a twin mismatch of panel 3 pending as vector 2047. -/
def sMm : State := { runs ((thread 2 []).setSt F.crSTATUS.IE 1) 0
  [({ kind := .icVec, i := 0, j := 2047 }, F.icVec.EN, 1), ({ kind := .icVec, i := 0, j := 2047 }, F.icVec.PEND, 1)] with twinEvents := [3] }
theorem test_witness_mismatchEntry : between sMm 2 0 0 ∧ vectorReady sMm 0 0 0 2 2047 ∧ (sMm.thr 2).st F.crSTATUS.IE = 1 ∧
    (sMm.thr 2).st F.crSTATUS.IPL ≤ vectorPrio sMm 0 2047 ∧ (sMm.thr 2).pl ≤ 2 ∧ sMm.sint = [] ∧ sMm.startsIn 2 sMm :=
  ⟨by unfold between; decide +kernel, by unfold vectorReady; decide +kernel, by decide +kernel, by decide +kernel, by decide +kernel,
    by decide +kernel, startsIn_of (by decide +kernel)⟩
/-- Secure interrupt 63 waits for the thread, and for a thread whose EXL bit is set. -/
def sSec : State := { runs (thread 1 []) with sint := [(1, 0, 0, 63)] }
def sSec2 : State := { runs ((thread 1 []).setSt F.crSTATUS.SEXL 1) with sint := [(1, 0, 0, 63)] }
theorem test_witness_secureInterrupts : between sSec 2 1 0 ∧ between sSec2 2 1 0 ∧ sSec.sint = (1, 0, 2 % 2, 63) :: [] ∧
    (sSec.thr 2).pl ≤ 1 ∧ (sSec.thr 2).st F.crSTATUS.SEXL = 0 ∧ (sSec2.thr 2).st F.crSTATUS.SEXL = 1 := by
  refine ⟨by unfold between; decide +kernel, by unfold between; decide +kernel, rfl, ?_, ?_, ?_⟩ <;> decide +kernel


/-! ### The Time Unit and panels -/

/-- PPS_IN chosen, in LOCKED, with two bad edges. -/
def sPps : State :=
  let s := set [(tuCtrlR, F.tuCtrl.REFSEL, 1), (tuStatusR, F.tuStatus.OWNSTATE, 2), (tuStatusR, F.tuStatus.STATE, 2)]
  { s with time := { s.time with badEdges := 2 } }
theorem test_witness_references : sPps.refsel = 1 ∧ sPps.time.ref10m = true ∧ sPps.ownState = 2 ∧ sPps.follower = false ∧
    1000 < (1001 + toI32 (sPps.rd { kind := .tuPpsdly })).natAbs ∧ 2 ≤ sPps.time.badEdges ∧ zero.time.badEdges < 2 ∧
    (set [(tuCtrlR, F.tuCtrl.REFSEL, 2)]).refsel = 2 ∧ (set [(tuCtrlR, F.tuCtrl.REFSEL, 2)]).follower = false := by decide +kernel

/-- A PTP client on uplink 24 that has heard two masters. -/
def ann (p n : Nat) : Announce :=
  { prio1 := BitVec.ofNat 8 p, cls := 6, accuracy := 0, variance := 0, prio2 := 128, gm := 1, steps := 0, sender := BitVec.ofNat 80 n }
def sPtp : State :=
  let s := set [(tuCtrlR, F.tuCtrl.REFSEL, 2), (tuCtrlR, F.tuCtrl.PTP_UPL, 24), (tuCtrlR, F.tuCtrl.PTP_UPLINK, 1),
    (tuCtrlR, F.tuCtrl.PTP_P2P, 1), ({ kind := .neVpctl, i := 4095 }, F.neVpctl.EN, 1)]
  { s with ticks := 10, time := { s.time with masters := [⟨ann 7 2, 9, some 3⟩, ⟨ann 8 3, 10, some 10⟩, ⟨ann 1 4, 10, none⟩] } }
theorem test_witness_ptp : sPtp.ptpClient 24 = true ∧ sPtp.fld tuCtrlR F.tuCtrl.PTPDOM = 0 ∧ ann 7 2 ∈ sPtp.qualified ∧
    (∀ b ∈ sPtp.qualified, b = ann 7 2 ∨ lexLt (annKey (ann 7 2)) (annKey b) = true) ∧ sPtp.refsel = 2 ∧ sPtp.ptpMaster = some (ann 7 2) ∧
    sPtp.ptpServed (.vp 4095) = true ∧ sPtp.ptpServed (.uplink 28) = true := by decide +kernel

/-- A module alone with one sample of 100 ns and one of more than 1 µs, in ACQUIRING at the 16th sample. -/
def sDisc (o : Int) (st : Nat) : State :=
  let s := set [(tuCtrlR, F.tuCtrl.FABTIME, 0), (tuStatusR, F.tuStatus.STATE, st), ({ kind := .tuTodS }, F.tuTodS.SECONDS, 1)]
  { s with time := { s.time with main := { good := 15, fromHold := false, samples := [.offset o] } } }
theorem test_witness_discipline : ((zero.taskDone 6).time.over 6 = true ∧ (sDisc 100 1).time.over 6 = false) ∧ (∀ st ∈ [0, 1, 2, 3], ∀ o ∈ ([100, -101, 1000, 1001] : List Int),
      (sDisc o st).flag tuCtrlR F.tuCtrl.FABTIME = false ∧ (sDisc o st).isMaster = false ∧
      (sDisc o st).time.main.samples = [.offset o] ∧ (sDisc o st).tuState = st ∧ (sDisc o st).committed = false ∧
      (0 : Int) ≤ (sDisc o st).tod - o ∧ (sDisc o st).tod < 2 ^ 48 * 1000000000 ∧ ((sDisc o st).tod : Int) - o < 2 ^ 48 * 1000000000) ∧
    (set [(tuStatusR, F.tuStatus.COMMITTED, 1)]).committed = true := by decide +kernel

theorem test_witness_holdover :
    let s := set [(tuStatusR, F.tuStatus.STATE, 3)] { zero with time := { zero.time with sinceLock := 2880000000 } }
    s.tuState = 3 ∧ 2880000000 ≤ s.time.sinceLock ∧ s.time.class52 = false ∧
    (set [(tuStatusR, F.tuStatus.STATE, 2)]).tuState = 2 ∧ zero.tuState = 0 := by decide +kernel

theorem test_witness_droppedStitches : (∀ n ∈ [5, 6, 8, 9, 10], zero.time.over n = false) ∧ (zero.taskDone 10).time.over 10 = true ∧ zero.ras.writtenCorr < 191 ∧
    (∀ e ∈ zero.ras.ring.take zero.ras.written, e.code ≠ 0x02) ∧
    (SMap.find { zero with time := { zero.time with drops := [(10, 99)] } }.time.drops 10).getD 0 + 1 = 100 := by decide +kernel

/-- Port 0 is an UP Weft port; an ELECT cell with PRIO1 5 from module 7. -/
def upPort : List (Reg × Fld × Nat) := [(pstatR 0, F.wpPstat.STATE, 4)]
def electCell : Cell := { head := 0, data := BitVec.ofNat 1024 (5 * 2 ^ 16 + 7 * 2 ^ 32) }
theorem test_witness_elections :
    let s := set upPort
    let e := fun k => { s with time := { s.time with electing := some 128, best := some k } }
    s.portUp 0 = true ∧ s.flag tuCtrlR F.tuCtrl.FABTIME = true ∧ s.time.electing = none ∧
    (e ⟨5, 0, 8⟩).time.electing = some 128 ∧ 128 ≤ 128 ∧ cellKey electCell = ⟨5, 0, 7⟩ ∧
    (let i := { s with time := { s.time with electing := some 128, best := none } }
     i.time.electing = some 128 ∧ i.time.best = none) ∧ s.flag tuCtrlR F.tuCtrl.MASTER_ELIG = true ∧
    ((cellKey electCell).modid < 8 ∧ (cellKey electCell).prio1 = 5) := by decide +kernel

/-- A LOCKED follower of module 7 that has heard no SYNC for 65 stitches. -/
def sFollow : State :=
  let s := set (upPort ++ [(fcfgR, F.wpFcfg.EN, 1), (tuStatusR, F.tuStatus.MASTER_ID, 7), (tuStatusR, F.tuStatus.STATE, 2)])
  { s with time := { s.time with followed := true, known := true, sinceSync := 65, sinceDelay := [(0, 1024)] } }
theorem test_witness_fabricTime : sFollow.portUp 0 = true ∧ sFollow.follower = true ∧ cd electCell 4 2 % 4096 = 7 ∧
    sFollow.myId ≠ 7 ∧ sFollow.fld tuStatusR F.tuStatus.MASTER_ID = 7 ∧ SMap.find sFollow.time.syncSeen 7 = none ∧
    sFollow.time.followed = true ∧ 65 ≤ sFollow.time.sinceSync ∧ sFollow.tuState = 2 ∧
    sFollow.time.known = true ∧ 1024 ≤ (SMap.find sFollow.time.sinceDelay 0).getD 0 ∧
    (let s := { sFollow with time := { sFollow.time with followed := false } }
     s.time.followed = false ∧ s.time.known = true ∧ s.follower = true ∧ 65 ≤ s.time.sinceSync) ∧
    let s := set [(tuCtrlR, F.tuCtrl.MASTER_ELIG, 1), (tuCtrlR, F.tuCtrl.PRIO1, 4)] sFollow
    s.flag tuCtrlR F.tuCtrl.MASTER_ELIG = true ∧ s.fld tuCtrlR F.tuCtrl.PRIO1 < cd electCell 2 1 ∧ s.follower = true := by decide +kernel

/-- A RUNNING panel whose watchdog has expired, for the fourth time; and one at a count of one that holds core 191. -/
def sWdog (p : Nat) : State :=
  (set [(pstateR p, F.hubPstate.STATE, 2), (pwdogR p, F.hubPwdog.PERIOD, 10), (pwdogR p, F.hubPwdog.REMAIN, 1),
    (cutCoreR 191, F.cutCore.G, 1), (cutCoreR 191, F.cutCore.PANEL, p)]).setPanel p
    { PanelSt.init with wdogHits := [0, 0, 0], wdogDue := true }
theorem test_witness_panelWatchdog : ∀ p ∈ [0, 1, 511], (sWdog p).pstate p = psRunning ∧ ((sWdog p).panel p).wdogDue = true ∧
    3 ≤ (((sWdog p).panel p).wdogHits.filter fun t => decide ((sWdog p).ticks < t + 6000000)).length ∧
    ((zero.panel p).wdogHits.filter fun t => decide (zero.ticks < t + 6000000)).length < 3 ∧
    (sWdog p).flag (cutCoreR 191) F.cutCore.G = true ∧ (sWdog p).fld (cutCoreR 191) F.cutCore.PANEL = p ∧
    (sWdog p).fld (pwdogR p) F.hubPwdog.REMAIN = 1 := by decide +kernel

theorem test_witness_panelLifecycle :
    (let s := (set [(pstateR 511, F.hubPstate.STATE, 5)]).setPanel 511 { PanelSt.init with triggers := [(.resetDone, none)] }
     s.pstate 511 = psResetting ∧ (s.panel 511).triggers = [(.resetDone, none)]) ∧
    (∀ p ∈ [0, 1], let s := (set [(pstateR p, F.hubPstate.STATE, 6)]).setPanel p { PanelSt.init with triggers := [(.tearDone, none)] }
     s.pstate p = psTearing ∧ (s.panel p).triggers = [(.tearDone, none)]) ∧
    (∀ x ∈ ((set [(pstateR 511, F.hubPstate.STATE, 5)]).panel 511).triggers, x.1 ≠ .resetDone) ∧
    (∀ x ∈ ((set [(pstateR 1, F.hubPstate.STATE, 6)]).panel 1).triggers, x.1 ≠ .tearDone) ∧
    let s := (set [(pstateR 1, F.hubPstate.STATE, 2)]).setPanel 1 { PanelSt.init with triggers := [(.pause, none), (.fault 255, none)] }
    s.pstate 1 = psRunning ∧ (s.panel 1).triggers = [(.pause, none), (.fault 255, none)] := by decide +kernel


/-! ### Coherence and memory -/

/-- One bolt that runs, of two where `two`; caches on in tiles 0 and 1. Line 0 is homed at tile 0. -/
def sCoh (two : Bool := false) : State :=
  set ([({ kind := .hubBoltstat }, ⟨7, 5⟩, 1), ({ kind := .hubBoltstat }, ⟨15, 13⟩, 1), ({ kind := .hubBoltcfg }, F.hubBoltcfg.CUR, b2n two)] ++
    caches 0 ++ caches 1)
def l2At (t : Nat) (st : L2St) : State := sCoh.setL2 t 0 { L2Line.none with st := st }

theorem test_witness_missRequests : ∀ st ∈ ([.i, .sh] : List L2St),
    (l2At 1 st).l2Ready 1 0 = true ∧ ((l2At 1 st).l2 1 0).st = st ∧ (((l2At 1 st).l2 1 0).tag = (l2At 1 st).corePanel 1) ∧
    (l2At 1 st).homeOf 0 = some 0 ∧ (∀ e ∈ ((l2At 1 st).tile 1).selv, e.line ≠ 0) ∧ (l2At 1 st).freeReq 1 = some 0 ∧
    homeOpens (l2At 1 st) 0 0 0 ∧
    (let b := (l2At 1 st).setDir 0 0 { DirEnt.free with busy := some 5 }
     b.boltUp (b.boltOf 0) = true ∧ b.homeHeld 0 = false ∧ (b.dirEnt 0 0).busy ≠ none ∧ b.l2Ready 1 0 = true ∧ (b.l2 1 0).st = st ∧
       b.homeOf 0 = some 0 ∧ b.freeReq 1 = some 0) ∧
    let b := (l2At 1 st).setFld { kind := .wrpCctl, i := 0 } F.wrpCctl.INV_DIR 1
    b.boltUp (b.boltOf 0) = true ∧ b.homeHeld 0 = true ∧ b.l2Ready 1 0 = true ∧ (b.l2 1 0).st = st ∧ b.homeOf 0 = some 0 ∧ b.freeReq 1 = some 0 := by
  unfold homeOpens; decide +kernel

def sSelv (sent : Bool) : State := sCoh.modTile 1 fun x => { x with selv := [{ line := 0, tag := 0, sent := sent, poison := false }] }
theorem test_witness_selvedge : (sSelv false).l2Ready 1 0 = true ∧ ((sSelv false).l2 1 0).st = .i ∧
    ((sSelv false).tile 1).selv = [{ line := 0, tag := (sSelv false).corePanel 1, sent := false, poison := false }] ∧
    (sSelv false).l2Victim 1 0 0 = .free ∧ (sSelv true).boltUp ((sSelv true).boltOf 1) = true ∧ ((sSelv true).tile 1).fills = [] ∧
    ((sSelv true).tile 1).selv = [{ line := 0, tag := 0, sent := true, poison := false, left := true }] := by decide +kernel

theorem test_witness_ioRequests : sCoh.freeReq 199 = some 0 ∧ ioHome sCoh 199 0 = some 0 ∧ homeOpens sCoh 0 0 0 ∧
    (let s := sCoh.modTile 0 fun x => { x with l3 := [(0, { way := 0, ktag := 0, s0 := ⟨true, false, false, false⟩, s1 := Sector.none })] }
     homeOpens s 0 0 0 ∧ ioHome s 199 0 = some 0 ∧ s.inSlice 0 0 = true ∧ (s.dirEnt 0 0).st ≠ .em) ∧
    ioHome zero 199 0 = some 0 ∧ zero.freeReq 199 = some 0 ∧ zero.boltUp (zero.boltOf 0) = false := by
  unfold homeOpens; decide +kernel

theorem test_witness_snoops : ∀ st ∈ ([.i, .sh, .e, .m, .isD, .imD, .smA] : List L2St),
    let s := (l2At 1 st).setDir 0 0 { DirEnt.free with st := .em, owner := 1 }
    s.boltUp (s.boltOf 1) = true ∧ s.flag { kind := .wrpCctl, i := 1 } F.wrpCctl.L2_EN = true ∧ s.homeOf 0 = some 0 ∧
    s.snoopHeld 1 0 = false ∧ (s.l2 1 0).st = st ∧ s.recorded 1 0 = true ∧ (∀ e ∈ (s.tile 1).selv, e.line ≠ 0) := by decide +kernel

theorem test_witness_snoopsOfWritebacks : (sSelv false).boltUp ((sSelv false).boltOf 1) = true ∧ (sSelv false).homeOf 0 = some 0 ∧
    (sSelv false).snoopHeld 1 0 = false ∧ (sSelv false).flag { kind := .wrpCctl, i := 1 } F.wrpCctl.L2_EN = true ∧
    ((sSelv false).l2 1 0).st = .i ∧ (∃ e ∈ ((sSelv false).tile 1).selv, e.line = 0) ∧
    sCoh.flag { kind := .wrpCctl, i := 2 } F.wrpCctl.L2_EN = false ∧ sCoh.boltUp (sCoh.boltOf 2) = true ∧ sCoh.homeOf 0 = some 0 := by
  decide +kernel

theorem test_witness_heldSnoops :
    let s := (l2At 1 .m).modTile 1 fun x => { x with fresh := [0] }
    s.boltUp (s.boltOf 1) = true ∧ s.flag { kind := .wrpCctl, i := 1 } F.wrpCctl.L2_EN = true ∧ 0 ∈ (s.tile 1).fresh ∧
    (s.tile 1).snpQ.length < 16 ∧ s.flag { kind := .wrpCctl, i := 1 } F.wrpCctl.INV_L2 = false := by decide +kernel

def miss (op : HomeOp) : MissEnt := { op := op, line := 0, rcnt := 7, rsv := false, retry := true, ctx := 1, age := 5 }
theorem test_witness_fills : ∀ e ∈ ([(.rds, .isD), (.rdx, .imD), (.upg, .smA), (.upg, .imD)] : List (HomeOp × L2St)),
    let s := (l2At 1 e.2).setReq 1 47 (some (miss e.1))
    s.boltUp (s.boltOf 1) = true ∧ s.req 1 47 = some (miss e.1) ∧ (s.l2 1 0).st = e.2 ∧ s.homeIn 0 0 = some 0 ∧
    s.flag { kind := .wrpCctl, i := 1 } F.wrpCctl.L2_EN = true ∧ s.pstate 0 ≠ psTearing ∧
    s.l2Victim 1 0 0 ≠ .full ∧
    (sCoh true).req 100 0 = none ∧ (sCoh true).isHostBolt ((sCoh true).boltOf 100) = false ∧ (sCoh true).nBolts ≤ 4 ∧
    (sCoh true).boltUp ((sCoh true).boltOf 100) = true := by decide +kernel

theorem test_witness_coreAccesses : ∀ st ∈ ([.i, .sh, .e, .m] : List L2St),
    let s := (l2At 1 st).setDir 0 0 { DirEnt.free with st := .em, owner := 1 }
    s.cachedLine 1 0 = true ∧ s.flag { kind := .wrpCctl, i := 1 } F.wrpCctl.INV_L2 = false ∧ s.l2Ready 1 0 = true ∧
    s.flag { kind := .wrpCctl, i := 1 } F.wrpCctl.INV_L1 = false ∧ (s.l2 1 0).tag = s.corePanel 1 ∧ s.known 1 0 = true ∧ (s.l2 1 0).st = st ∧
    s.homeOf 0 = some 0 ∧ (∀ e ∈ (s.tile 1).selv, e.line ≠ 0) ∧ s.freeReq 1 = some 0 ∧ s.l1Hit 1 0 false = false := by decide +kernel

def hx : HomeTx := HomeTx.init .rdx 0 1 3 0
def homeWith (x : HomeTx) : State := sCoh.setTx 0 63 (some x)
theorem test_witness_homeAnswers :
    (∀ x ∈ [{ hx with snoops := 2 }, { hx with snoops := 1 }, { hx with granted := true, gack := true }],
      (homeWith x).boltUp ((homeWith x).boltOf 0) = true ∧ (homeWith x).tx 0 63 = some x) ∧
    (hx.op = .rdx ∧ hx.granted = false ∧ hx.exact = false ∧ hx.wbpend = false ∧ hx.mwack = 0 ∧ hx.next = none ∧ hx.snoops = 0 ∧ hx.wbFrom = none ∧ sCoh.pstate hx.ktag ≠ psTearing) := by
  decide +kernel

theorem test_witness_homeWrites :
    let x := { hx with op := .wrf }
    (∀ y ∈ [{ x with wrd := true }, { x with written := true, mwack := 1 }],
      (homeWith y).tx 0 63 = some y ∧ (homeWith y).boltUp ((homeWith y).boltOf 0) = true ∧ y.op = .wrf ∧ y.snoops = 0 ∧ y.wbpend = false ∧
      y.next = none ∧ y.wbFrom = none ∧ y.wrdHere = false ∧ sCoh.pstate y.ktag ≠ psTearing ∧
      ((homeWith y).setReq 1 3 (some (miss .wrf))).req y.agent y.rtid = some (miss .wrf)) ∧
    (∀ op ∈ ([.rdio, .rds] : List HomeOp), let y := { hx with op := op, memSent := true }
      (homeWith y).tx 0 63 = some y ∧ y.snoops = 0 ∧ y.wbpend = false ∧ y.memDone = false ∧ y.granted = false ∧ y.next = none ∧
      y.wbHere = false ∧ y.snpData = false ∧ y.exact = false ∧ y.mwack = 0 ∧ y.wbFrom = none ∧ ((homeWith y).dirEnt 0 0).st = .i) := by
  decide +kernel

theorem test_witness_writebacks :
    let s := sCoh.setDir 0 0 { DirEnt.free with st := .em, owner := 1, ktag := 511 }
    s.boltUp (s.boltOf 0) = true ∧ (s.dirEnt 0 0).st = .em ∧ (s.dirEnt 0 0).owner = 1 ∧ (s.dirEnt 0 0).busy = none ∧
    (s.dirEnt 0 0).ktag < 512 ∧ s.pstate (s.dirEnt 0 0).ktag ≠ psTearing ∧
    (s.setFld { kind := .wrpCctl, i := 0 } F.wrpCctl.L3_EN 0).l3On 0 = false ∧ s.l3On 0 = true ∧ s.l3Leaving 0 = false ∧
    (SMap.find ((s.modTile 0 fun x => { x with l3 := [(0, { way := 0, ktag := 0, s0 := Sector.none, s1 := Sector.none })] }).tile 0).l3
      (0 / 2)).isSome = true ∧
    ∀ o ∈ [none, some 1], let w := sCoh.modTile 0 fun x => { x with wbs := [(0, o)] }
      w.boltUp (w.boltOf 0) = true ∧ (w.tile 0).wbs = [(0, o)] := by decide +kernel

theorem test_witness_retriesAndEnds : ∀ op ∈ ([.rds, .rdio, .wrf, .wrp] : List HomeOp), ∀ a ∈ [0, 191, 192, 199],
    let s := sCoh.setReq a 0 (some (miss op))
    s.req a 0 = some (miss op) ∧ s.homeIn (miss op).bolt (miss op).line = some 0 ∧ (miss op).retry = true ∧ (miss op).rsv = false ∧
    s.rd { kind := .rasTmo, i := 1 } ≤ (miss op).age ∧ s.pieceAt a 0 = none ∧ (a < 192 → s.boltUp (s.boltOf a) = true) ∧
    (s.thr (2 * a + 1)).stall = none ∧ (sCoh.setReq a 0 (some { miss op with rsv := true })).req a 0 = some { miss op with rsv := true } := by
  decide +kernel
theorem test_witness_endsOutside :
    let s := (sCoh true).setReq 100 0 (some (miss .rds))
    s.req 100 0 = some (miss .rds) ∧ s.boltUp (s.boltOf 100) = true ∧ s.isHostBolt (s.boltOf 100) = false ∧ s.nBolts ≤ 4 ∧
    zero.boltUp (zero.boltOf 0) = false ∧ (zero.setReq 0 0 (some (miss .rds))).req 0 0 = some (miss .rds) := by decide +kernel

/-- A thread that waits for a cross-bolt load of 8 bytes into g5. -/
def sCross : State :=
  (sCoh.setThr 3 { thread 0 [] with stall := some ⟨some (.gpr 5 8 false), 0x40, at8 0x40, [], []⟩ }).setReq 1 0 (some { miss .rdio with line := 1 })
theorem test_witness_crossBoltLoads : sCross.req 1 0 = some { miss .rdio with line := 1 } ∧ sCross.boltUp (sCross.boltOf 1) = true ∧
    sCross.paired 1 = false ∧ (sCross.thr 3).stall = some ⟨some (.gpr 5 8 false), 0x40, at8 0x40, [], []⟩ ∧ (at8 0x40).isDev = false ∧
    (sCross.thr 3).canCheck = true := by decide +kernel

theorem test_witness_credits : (sCoh.tile 0).pool < 32 ∧ 32 ≤ ((sCoh.modTile 0 fun x => { x with pool := 32 }).tile 0).pool ∧
    (∀ w, (sCoh.mc 23).granted w < 32 ∧ 32 ≤ ((sCoh.setMc 23 ((sCoh.mc 23).grant w 32)).mc 23).granted w) ∧
    ((sSelv false).tile 1).selv = [{ line := 0, tag := 0, sent := false, poison := false }] ∧ (sSelv false).homeOf 0 = some 0 ∧
    (sCoh.tile 1).selv = [] ∧ (sCoh.tile 0).poolQ = [] ∧ (sCoh.tile 0).memQ = [] ∧ SMap.find (sCoh.tile 0).memUse (2 * 23 + b2n true) = none ∧
    (sCoh.mc 23).poolQ = [] ∧ ((sCoh.setMc 23 { McSt.init with poolQ := [(5, true)] }).mc 23).poolQ = [(5, true)] ∧
    SMap.find ((sCoh.modTile 0 fun x => { x with memUse := [(47, 1)] }).tile 0).memUse (2 * 23 + b2n true) = some 1 := by decide +kernel

theorem test_witness_coherenceTimeouts : ∀ two ∈ [false, true],
    let t := if two then 100 else 0
    let s := ((sCoh two).setTx t 0 (some { hx with age := 5 })).setFld { kind := .hubBoltstat } ⟨4, 4⟩ 1
    s.nBolts ≤ 4 ∧ s.boltState (s.boltOf t) = 1 ∧ (∃ x ∈ s.tx t 0, s.rd { kind := .rasTmo, i := 2 } ≤ x.age) ∧
    s.isHostBolt (s.boltOf t) = !two := by decide +kernel

theorem test_witness_boltResets :
    let s := set [({ kind := .hubBoltstat }, ⟨7, 5⟩, 3)]
    s.boltState 0 = 3 ∧ (s.boltCores 0).filter s.coreIn ≠ [] ∧ s.sliceList 0 ≠ [] ∧ ((SMap.find s.boltHits 0).getD []).length < 4 ∧
    s.unitOut 0x0B 0 = false ∧ s.nBolts ≤ 4 ∧ 3 ∈ s.boltCores 0 ∧
    ((s.modTile 3 fun x => { x with ways := [(511, 0xFFFF)] }).tile 3).ways = [(511, 0xFFFF)] ∧ ¬(s.unitOut 0x0B 0 = true) ∧
    ¬((SMap.find { s with boltHits := [(0, [0, 0, 0, 0])] }.boltHits 0).getD []).length < 4 := by decide +kernel

theorem test_witness_scrubErrors : (∀ st ∈ ([.sh, .e, .m] : List L2St), ((l2At 1 st).l2 1 0).st = st) ∧
    ((2 : Fin 4).val ≤ 2 ∧ (3 : Fin 4).val = 3) ∧ (sCoh true).boltState ((sCoh true).boltOf 100) = 1 ∧
    (sCoh true).isHostBolt ((sCoh true).boltOf 100) = false := by decide +kernel

/-- Channel 0 with tokens and the key of panel 511; line 0 is the panel's. -/
def sMem (l : List (Reg × Fld × Nat) := []) : State :=
  set ([(mcReg .mcTok 0 511, F.mcTok.REMAIN, 2), (mcReg .mcKvalid 0 15, F.mcKvalid.VALID, 2 ^ 31)] ++ l)
    { zero with clist := [0, 12], lineMeta := [(0, ⟨511, false⟩)] }
theorem test_witness_memoryAccesses : served (sMem) 0 0 511 ∧ noRegion sMem 0 0 ∧ sMem.keyValid 0 511 = true ∧
    (sMem.meta 0).ktag = 511 ∧ (sMem.meta 0).poison = false ∧ sMem.pstate 511 ≠ psTearing ∧ sMem.mirrored 0 = false ∧
    ({ sMem with pot := [(0, mkPot 1 true false true true 511)] } : State).mirrored 0 = true ∧ sMem.keyValid 0 510 = false ∧
    served ({ sMem with lineMeta := [(0, ⟨511, true⟩)] }) 0 0 511 ∧
    (sMem [(pstateR 511, F.hubPstate.STATE, 6)]).pstate 511 = psTearing ∧
    (∀ e ∈ (sMem.mc 0).held, e.1 ≠ (mapLine sMem.clist 0).2.1) ∧ (sMem.mc 0).partnerQ = [] ∧ sMem.freeSpare 0 = some 0 ∧ (mapLine sMem.clist 0).2.1 < 4194048 ∧ inGroup 4 0 ∧ inGroup 4 1 ∧ inGroup 24 5 ∧ ¬inGroup 3 1 ∧
    sMem.mirrored (lineAt sMem.clist 0 0 4) = false ∧ 2 ≤ sMem.fld (mcReg .mcTok 0 511) F.mcTok.REMAIN ∧
    sMem.fld (mcReg .mcTok 0 0) F.mcTok.REMAIN = 0 ∧ sMem.fld (mcReg .mcPool 0) F.mcPool.POOL = 0 := by
  unfold served noRegion inGroup; decide +kernel

def mcReq (w : Bool) : McReq :=
  { write := w, line := 0, ktag := 511, hbolt := 0, req := 1, home := some (3, 5), poison := false, res := .wedged, age := 2 }
theorem test_witness_partnersAndRegions :
    (∀ w, ((sMem.setMc 0 { McSt.init with partnerQ := [mcReq w] }).mc 0).partnerQ = [mcReq w] ∧ (mcReq w).req ≠ 0xFF ∧
      ((sMem.setMc 0 { McSt.init with waiting := [mcReq w] }).mc 0).waiting = [mcReq w] ∧ sMem.rd { kind := .rasTmo, i := 0 } < (mcReq w).age) ∧
    let s := sMem [(mcReg .mcRegion 0 0, F.mcRegion.EN, 1), (mcReg .mcRegion 0 0, F.mcRegion.OWNER, 2)]
    served s 0 0 511 ∧ s.flag (mcReg .mcRegion 0 0) F.mcRegion.EN = true ∧ s.fld (mcReg .mcRegion 0 0) F.mcRegion.OWNER = 2 ∧
    s.fld (mcReg .mcRegion 0 0) F.mcRegion.BASE ≤ (0 : Line) / 1024 ∧ (0 : Line) / 1024 ≤ s.fld (mcReg .mcRegion 0 0) F.mcRegion.LIMIT := by
  unfold served; decide +kernel

theorem test_witness_memoryUpkeep :
    (let s := set [(mcReg .mcCtrl 23, F.mcCtrl.EN, 1), (dstatR 411, F.pwrDstat.CUR, 0)]
     s.flag (mcReg .mcCtrl 23) F.mcCtrl.EN = true ∧ s.fld (dstatR (388 + 23)) F.pwrDstat.CUR = 0 ∧ (s.mc 23).scrubIn = 0) ∧
    (let s := zero.setMc 0 { McSt.init with held := [(4194303, 255)] }
     (s.mc 0).held = [(4194303, 255)] ∧ (s.mc 0).heldReqs = []) ∧
    (let s := { set [(ctokR 7 511, F.hpCtok.REMAIN, 1)] with hpKeys := [(512 + 511, true)] }
     s.fld (ctokR 7 511) F.hpCtok.REMAIN ≠ 0 ∧ SMap.find s.hpKeys (7 / 4 * 512 + 511) = some true ∧
     s.fld (ctokR 7 0) F.hpCtok.REMAIN = 0 ∧ s.fld (cpoolR 7) F.hpCpool.POOL = 0) ∧
    ∀ w, let s : State := { zero with cxl := [(7, { waiting := [], sent := [mcReq w] })] }
      (s.cxlOf 7).sent = [mcReq w] ∧ 2 ≤ (mcReq w).age := by decide +kernel


/-! ### Warp and Weft -/

/-- Header words of a flit: class 4, with a leg. -/
def hd (leg : Nat) : Nat := 4 * 2 ^ 28 + leg
theorem test_witness_stageHops : (∀ h ∈ [hd (4 * 2 ^ 32), hd (3 * 2 ^ 36), hd (2 ^ 40), hd 0, hd (2 ^ 27 + 3 * 2 ^ 54), hd (2 ^ 41 * 14)],
    legalHops h) ∧ hXS.get (hd (4 * 2 ^ 32)) % 8 = 4 ∧ hYS.get (hd (3 * 2 ^ 36)) % 8 = 3 ∧ hEXIT.get (hd (2 ^ 40)) = 1 ∧
    hPH.get (hd (2 ^ 27 + 3 * 2 ^ 54)) = 1 ∧ hYD.get (hd (2 ^ 27 + 3 * 2 ^ 54)) % 8 = 3 ∧ hBP1.get (hd (2 ^ 41 * 14)) = 14 := by
  unfold legalHops; decide +kernel

def flitAt (leg : Nat) : State :=
  { zero with warp := { WarpSt.init with bufs := [(chanKey 0 1 4 0 0, [⟨BitVec.ofNat 64 (hd leg), 0⟩])] } }
theorem test_witness_flitMoves : (∀ leg ∈ [2 ^ 32, 0, 2 ^ 41], alone (flitAt leg) (.tile 0) 1 4 false false ⟨BitVec.ofNat 64 (hd leg), 0⟩ []) ∧
    hop 0 1 (BitVec.ofNat 64 (hd (2 ^ 41))).toNat = .bad ∧
    (∃ h k, hop 0 1 (BitVec.ofNat 64 (hd (2 ^ 32))).toNat = .out 0 h ∧ nextChan 0 0 h = some k ∧ (flitAt (2 ^ 32)).linkFailed 0 0 = false) ∧
    (∃ h, hop 0 1 (BitVec.ofNat 64 (hd 0)).toNat = .out 5 h ∧ nextChan 0 5 h = none ∧ (flitAt 0).linkFailed 0 5 = false) := by
  refine ⟨?_, by decide +kernel, ⟨_, _, rfl, rfl, by decide +kernel⟩, ⟨_, rfl, rfl, by decide +kernel⟩⟩
  unfold alone; decide +kernel

theorem test_witness_patterns : 3 ≤ hCLASS.get (hd 0) ∧ bit (zero.routeWord (.tile 191) 255) 31 = false ∧
    (∀ sel, let s := set [(niSel (.mc 23) 255, ⟨0, 0⟩, b2n (!sel))]
      s.rd (niSel (.mc 23) 255) = b2n (!sel)) ∧
    (∀ sel, let s := set [(niSel (.hub 0) 0, ⟨1, 0⟩, b2n sel + 2)]
      s.rd (niSel (.hub 0) 0) = b2n sel + 2 ∧ s.openToward (.hub 0) 0 = false ∧ niEndpoint (.hub 0) ∉ s.warp.mid ∧
      niEndpoint (.hub 0) ∈ ({ s with warp := { s.warp with mid := [niEndpoint (.hub 0)] } } : State).warp.mid) ∧
    ((set [({ kind := .tuStitch }, ⟨63, 0⟩, 1)]).tile 191).bnd < (set [({ kind := .tuStitch }, ⟨63, 0⟩, 1)]).stitch ∧
    zero.ras.writtenCorr < 192 := by decide +kernel

/-- A valid route of tile 12's interface: into an empty channel, and into a full one. -/
def sRoute (n : Nat) : State :=
  let s := set [(niPri (.tile 12) 7, ⟨31, 31⟩, 1)]
  { s with warp := { WarpSt.init with bufs := [(chanKey 12 5 4 0 0, List.replicate n ⟨0, 0⟩)] } }
theorem test_witness_injections : nodeNum (.tile 12) = (niPlace (.tile 12)).1 ∧ bit ((sRoute 1).routeWord (.tile 12) 7) 31 = true ∧
    ((sRoute 1).chanBuf (chanKey 12 5 4 0 0)).length < 2 ∧ bit ((sRoute 2).routeWord (.tile 12) 7) 31 = true ∧
    2 ≤ ((sRoute 2).chanBuf (chanKey 12 5 4 0 0)).length ∧ (niPlace (.tile 12)).2 = 5 := by decide +kernel
/-- A writeback's flits: WBA, then WBD. -/
theorem test_flits_wba : (zero.flits (.warp .wba 1 2 3 4 true [])).map (fun f => (hOPCODE.get f.head.toNat, hCLASS.get f.head.toNat)) =
    [(0x26, 2), (0x27, 2)] := by decide +kernel


/-- A Weft port of a small fabric: 4 × 4 × 4, own module (0, 0, 0), port 0 in dimension 0 toward +. -/
def fab : List (Reg × Fld × Nat) :=
  [(fcfgR, F.wpFcfg.EN, 1), (fcfgR, F.wpFcfg.KX, 3), (fcfgR, F.wpFcfg.KY, 3), (fcfgR, F.wpFcfg.KZ, 3)]
def inState (n : Nat) : State := set (fab ++ [(pstatR 0, F.wpPstat.STATE, n)])
/-- The same with port 2 (dimension 1) UP as well. -/
def twoUp : State := set (fab ++ [(pstatR 0, F.wpPstat.STATE, 4), (pstatR 2, F.wpPstat.STATE, 4)])
theorem test_witness_linkBringup : (∀ n ∈ [lsDown, lsTraining, lsPcs, lsHello, lsUp], (inState n).isWeft 0 = true ∧
      (inState n).linkState 0 = n ∧ (inState n).unitOut 4 0 = false ∧ nothingOut (inState n) ∧ (inState n).fld (pctlR 0) F.wpPctl.ROLE = 1) ∧
    (inState lsUp).portUp 0 = true ∧
    ((inState lsDown).link 0).since < 100000 ∧
    100000 ≤ (((inState lsDown).setLink 0 { LinkSt.init with since := 100000 }).link 0).since := by
  unfold nothingOut; decide +kernel

/-- HELLO from the neighbour (1, 0, 0), its port 1, and the same with another shape. -/
def helloCell (kz : Nat) : Cell :=
  mkLocal 0x02 0x100 0 0 0 (leBytes 8 (1 + (1 + 32) * 2 ^ 8 + 0x100 * 2 ^ 16 + 0x33 * 2 ^ 32 + kz * 2 ^ 40) ++ leBytes 8 0)
theorem test_witness_helloChecks : (inState lsPcs).isWeft 0 = true ∧ (inState lsPcs).portDim 0 < 3 ∧
    (inState lsPcs).linkState 0 = lsPcs ∧ sameFabric (inState lsPcs) (helloCell 3) ∧ rightlyCabled (inState lsPcs) 0 (helloCell 3) ∧
    ¬sameFabric (inState lsPcs) (helloCell 2) ∧ sameFabric (inState lsPcs) (helloCell 3) ∧ ¬rightlyCabled (inState lsPcs) 1 (helloCell 3) := by
  unfold sameFabric rightlyCabled; decide +kernel

/-- DELAY_RESP of exchange 9, and a link in HELLO that waits for it. -/
def respCell : Cell := mkLocal 0x03 0x100 0 0 0 (leBytes 8 (4 + 9 * 2 ^ 48) ++ leBytes 8 0 ++ leBytes 8 100)
theorem test_witness_delayMeasured :
    let s := { inState lsHello with time := { zero.time with delayReq := [(0, 9)] } }
    s.isWeft 0 = true ∧ nothingOut s ∧ (SMap.find s.time.delayReq 0).isSome = true ∧ SMap.find zero.time.delayReq 0 = none ∧
    cd respCell 16 8 ≤ (100 : BitVec 64).toNat ∧ s.linkState 0 = lsHello ∧ (inState lsUp).linkState 0 ≠ lsHello := by
  unfold nothingOut; decide +kernel

def good (seq ack : Nat) (nak : Bool) (c : Cell) : WFrame :=
  let h := linkHdr nak 0 0 ack seq
  { hdr := h, cell := c, crc := frameCrc h c, fecOk := true }
/-- A cell of the right class, one of a wrong class, and a LOCAL one. -/
def rdCell : Cell := mkCell 0x10 0x100 (0x100 * 512 + 1) 7 0x40 false false (2 ^ 31) []
def badClass : Cell := setCf rdCell cCLASS 1
theorem test_witness_framesArrive : tidy (inState lsUp) 0 ∧
    (∀ seq ack nak c, (good seq ack nak c).fecOk = true ∧
      (good seq ack nak c).crc = frameCrc (good seq ack nak c).hdr (good seq ack nak c).cell) ∧
    (∀ c ∈ [rdCell, badClass, helloCell 3], bits (good 0 0 false c).hdr.toNat 11 0 = (((inState lsUp).link 0).rcvSeq + 1) % 4096 ∧ cf c cTYPE ≠ 0) ∧
    cellClass (cf rdCell cTYPE) = some (cf rdCell cCLASS) ∧ cf rdCell cLOCAL = 0 ∧
    cellClass (cf (helloCell 3) cTYPE) = some (cf (helloCell 3) cCLASS) ∧ cf (helloCell 3) cLOCAL = 1 ∧
    cellClass (cf badClass cTYPE) ≠ some (cf badClass cCLASS) ∧
    (∀ n ∈ [3, 4], let s := (inState lsUp).setLink 0 { LinkSt.init with replay := [(5, rdCell, n)] }
      tidy s 0 ∧ nothingOut s ∧ (s.link 0).replay = [(5, rdCell, n)] ∧ 5 ≠ bits (good 0 4 true nullCell).hdr.toNat 23 12 ∧
      bit (good 0 4 true nullCell).hdr.toNat 35 = true ∧ cf nullCell cTYPE = 0 ∧
      5 = bits (good 0 5 false nullCell).hdr.toNat 23 12 ∧ bit (good 0 5 false nullCell).hdr.toNat 35 = false) ∧
    ((inState lsUp).link 0).replay = [] ∧ ((inState lsUp).link 0).nak = false ∧
    (SMap.get (fun _ => []) ((inState lsUp).link 0).bufs (cellVc rdCell)).length < 16 := by
  refine ⟨by unfold tidy; decide +kernel, fun _ _ _ _ => ⟨rfl, rfl⟩, ?_⟩
  unfold tidy nothingOut; decide +kernel

def linkstCell (seq : Nat) : Cell := mkLocal 0x41 5 0 0 0 (leBytes 8 (5 + seq * 2 ^ 32) ++ leBytes 8 0 ++ leBytes 8 0 ++ leBytes 8 0)
theorem test_witness_linkStates : (inState lsUp).portUp 0 = true ∧ nothingOut (inState lsUp) ∧
    cd (linkstCell 8) 0 2 % 4096 ≠ (inState lsUp).myId ∧ SMap.find (inState lsUp).weft.links' 5 = none ∧
    (let r : LinkRec := ⟨7, 1, [], 300000⟩
     let s := (inState lsUp).setWeft fun x => { x with links' := [(5, r)], sinceOrig := 100000 }
     SMap.find s.weft.links' (cd (linkstCell 7) 0 2 % 4096) = some r ∧ cd (linkstCell 7) 4 4 = r.seq ∧
     cd (linkstCell 8) 4 4 = (r.seq + 1) % 2 ^ 32 ∧ 100000 ≤ s.weft.sinceOrig ∧ 300000 ≤ r.age ∧ nothingOut s) ∧
    (inState lsUp).weft.sinceOrig < 100000 := by
  unfold nothingOut; decide +kernel

/-- A cell whose first leg is one hop by port 0 and whose second is one hop by port 2; one with no count; one against the order. -/
def legs (a b : Nat) : Cell := setCf rdCell cROUTE (2 ^ 31 + (1 + a * 32) + (1 + b * 32) * 2 ^ 8)
theorem test_witness_forwardingRule : legCnt (cf (legs 0 2) cROUTE) 0 = 1 ∧ legPort (cf (legs 0 2) cROUTE) 0 = 0 ∧
    twoUp.portUp 0 = true ∧ legCnt (cf (legs 0 2) cROUTE) 0 ≤ twoUp.ring_ (twoUp.fld (pctlR 0) F.wpPctl.DIM) - 1 ∧
    twoUp.fld (pctlR 0) F.wpPctl.DIM < twoUp.fld (pctlR 2) F.wpPctl.DIM ∧ twoUp.flag (pctlR 0) F.wpPctl.DATELINE = false ∧
    (∀ k < 3, legCnt (cf (setCf rdCell cROUTE (2 ^ 31)) cROUTE) k = 0) ∧ cf rdCell cDST ≠ twoUp.myId ∧
    twoUp.cellHop true (legs 2 0) = .bad := by decide +kernel

/-- Port 2 holds one cell for port 0, with a credit. -/
def holds (c : Cell) (cr : Nat) : State :=
  (twoUp.setLink 2 { LinkSt.init with bufs := [(8, [c])] }).setLink 0 { LinkSt.init with credits := [(8, cr)], sndSeq := 4095 }
theorem test_witness_cellsForwarded :
    (∀ c ∈ [legs 0 2, legs 2 0, setCf (setCf rdCell cROUTE (2 ^ 31)) cDST 0], (holds c 1).headCell 2 8 = some c ∧ cf c cCLASS = 4) ∧
    (holds (legs 2 0) 1).cellHop false (legs 2 0) = .bad ∧
    (let c := setCf (setCf rdCell cROUTE (2 ^ 31)) cDST 0
     (holds c 1).cellHop false c = .deliver) ∧
    (∃ d, (holds (legs 0 2) 1).cellHop false (legs 0 2) = .out 0 d ∧
      (holds (legs 0 2) 1).canLeave 0 d = true ∧ (∀ x ∈ (holds (legs 0 2) 1).contend 0, x = (2, 4)) ∧
      (holds (legs 0 2) 0).canLeave 0 d = false ∧ ((holds (legs 0 2) 1).link 0).owed = []) := by
  refine ⟨by decide +kernel, by decide +kernel, by decide +kernel, ⟨_, rfl, ?_⟩⟩
  decide +kernel

theorem test_witness_ownCells :
    (let c := setCf (setCf rdCell cROUTE (2 ^ 31)) cDST 0
     let s := twoUp.setWeft fun x => { x with own := [(none, c)] }
     s.weft.own = [(none, c)] ∧ s.cellHop true c = .deliver) ∧
    (let c := legs 0 2
     let x : OutEnt := { use := .load 0, dst := 0x100, cls := 4, cells := [c], age := none }
     let s := (twoUp.setLink 0 { LinkSt.init with credits := [(8, 1), (9, 1)] }).setWeft fun y => { y with own := [(none, c)], out := [(1023, some x)] }
     (x.dst = cf c cDST ∧ x.cls = cf c cCLASS ∧ c ∈ x.cells) ∧
     ∃ d, s.cellHop true c = .out 0 d ∧ s.canLeave 0 d = true ∧ s.cellFunded 0 c = true ∧
       ∀ y ∈ s.contend 0, y = (8, cf d cCLASS)) := by
  refine ⟨by decide +kernel, by decide +kernel, _, rfl, ?_⟩
  decide +kernel

theorem test_witness_selectionChanges :
    let s := set [(routeR 4095 0, ⟨31, 31⟩, 1)]
    let x : OutEnt := { use := .load 0, dst := 4095, cls := 4, cells := [], age := none }
    (4095 : Fin 4096).val ≠ s.myId ∧ s.fld (pselR 4095) F.wpPsel.SEL = 0 ∧ s.flag (pselR 4095) F.wpPsel.PEND = false ∧
    s.weft.out = [] ∧ (s.setWeft fun y => { y with out := [(3, some x)] }).weft.out = [(3, some x)] ∧ x.dst = 4095 := by decide +kernel

/-- Barrier context 255 is panel 7's root context 5, of GEN 0 with two members, one of which has arrived. -/
def sBar (arrived : Nat) : State :=
  set [(barR 255, F.wpBar.COUNT, 2), (barR 255, F.wpBar.RCTX, 5), (barcntR 255, F.wpBarcnt.ARRIVED, arrived),
    (pstatR 0, F.wpPstat.STATE, 4), ({ kind := .tuStitch }, ⟨63, 0⟩, 9)]
def barCell (gen stitch : Nat) : Cell := mkCell 0x03 0 0 gen 5 false false 0 (leBytes 8 stitch)
theorem test_witness_barriers : (∀ n ∈ [0, 1], (sBar n).rootCtx (cf (barCell 0 0) cARG % 64) = some 255 ∧
      (sBar n).fld (barcntR 255) F.wpBarcnt.ARRIVED = n ∧ cellSrc (barCell 0 0) ∉ SMap.get (fun _ => []) (sBar n).weft.counted 255) ∧
    cellSrc (barCell 0 0) ∈ SMap.get (fun _ => []) ((sBar 0).barCount 5 0 0).weft.counted 255 ∧
    (sBar 0).fld (barR 255) F.wpBar.GEN = cf (barCell 0 0) cTAG % 256 ∧ (sBar 0).fld (barR 255) F.wpBar.GEN ≠ cf (barCell 1 0) cTAG % 256 ∧
    (sBar 0).portUp 0 = true ∧ (0, 5, 0) ∉ (sBar 0).weft.relSeen ∧ (sBar 0).stitch < cd (barCell 0 10) 0 8 ∧
    cd (barCell 0 9) 0 8 ≤ (sBar 0).stitch ∧ bits (cf (barCell 0 0) cARG) 17 6 = 0 ∧ bits (cf (barCell 0 0) cARG) 5 0 = 5 := by decide +kernel

/-- A store of 8 bytes to the last word of module 0x100's aperture waits for an entry. -/
def sAp (v : Nat) : State :=
  (set [(routeR 0x100 0, ⟨31, 31⟩, v), (pselR 0x100, F.wpPsel.UNREACH, 0)]).setWeft fun x => { x with apq := [⟨383, some (1, 3), true, 0x100, 0xFFFFFFF8, 8, List.replicate 8 1⟩] }
theorem test_witness_runsAlone : ∀ th ∈ [0, 1], runsAlone (zero.setCore 0 { Core.init with seat := some (1, 3) }) th (some (1, 3)) := by
  unfold runsAlone; decide +kernel

theorem test_witness_apertures : (∀ v ∈ [0, 1], ∃ q, (sAp v).weft.apq = [q] ∧ (sAp v).freeOut = some 0 ∧ q.m < 4096 ∧ q.off < 2 ^ 32 ∧
      (sAp v).panelOf q.th < 512 ∧ (sAp v).stoppedAt q.m 4 = none ∧ q.data.length = q.n ∧ q.off % 64 + q.n ≤ 64 ∧ q.th < 384) ∧
    (sAp 1).wordTo 0x100 = some (2 ^ 31) ∧ (sAp 0).wordTo 0x100 = none ∧ (sAp 0).weft.ockq = [] ∧
    ((sAp 1).takeSeq 0x100 4).1 < 65536 := by
  refine ⟨?_, by decide +kernel, by decide +kernel, by decide +kernel, by decide +kernel⟩
  intro v hv
  refine ⟨⟨383, some (1, 3), true, 0x100, 0xFFFFFFF8, 8, List.replicate 8 1⟩, ?_⟩
  revert v
  decide +kernel

/-- An entry of a load into g5 by thread 0 and one of a store, in class 4 toward module 0x100, SEQ 7. -/
def ansCell : Cell := mkCell 0x20 0 (0x100 * 512) 7 4 true false 0 []
def sOut (use : OutUse) : State :=
  let s := zero.setWeft fun x => { x with out := [(1023, some ⟨use, 0x100, 4, [rdCell], some 200⟩)], stopped := [(0x100 * 8 + 4, 7)] }
  s.setThr 0 { Thread.init with stall := some ⟨some (.gpr 5 8 false), 0x200000000038, ⟨0, ⟨0x100000000038, .wc, .none, 0⟩, 8⟩, [], []⟩ }
theorem test_witness_remoteEnds : (∀ use ∈ [OutUse.load 0, .store 0 (some (1, 3))],
      oneOut (sOut use) 1023 ⟨use, 0x100, 4, [rdCell], some 200⟩) ∧ cellSrc ansCell = 0x100 ∧ cf rdCell cTAG = cf ansCell cTAG ∧
    (0x38 : Nat) % 64 + 8 ≤ 64 ∧ (sOut (.load 0)).paired (0 / 2) = false ∧ cf ansCell cPOISON = 0 ∧
    (sOut (.store 0 (some (1, 3)))).rd { kind := .rasTmo, i := 4 } ≤ 200 ∧ (199 : Nat) < (sOut (.store 0 (some (1, 3)))).rd { kind := .rasTmo, i := 4 } ∧
    cf ansCell cARG % 8 = 4 ∧ ((sOut (.store 0 (some (1, 3)))).stoppedAt 0x100 4).isSome = true ∧ zero.stoppedAt 0x100 4 = none := by
  unfold oneOut; decide +kernel

/-- Inbound map entry 0 leads to granule 5 of panel 1, whose member in module 0x100 is panel 1. -/
def sIn : State :=
  let s := set (fab ++ [({ kind := .hubBoltstat }, ⟨7, 5⟩, 1), (routeR 0x100 0, ⟨31, 31⟩, 1), (pselR 0x100, F.wpPsel.UNREACH, 0)])
    { zero with clist := [0, 12], pot := [(5, mkPot 1 false true true true 1)] }
  (s.setPanel 1 { PanelSt.init with members := [(0x100, 1)] }).setWeft fun x => { x with inmap := [(0, 7 * 2 ^ 61 + 1 * 2 ^ 52 + 5)] }
theorem test_witness_remoteRequests : (∀ w, allowed sIn rdCell w (5 * 1024 + 1)) ∧ sIn.boltUp (sIn.homeBolt (5 * 1024 + 1)) = true ∧
    RemoteRow rdCell (.wr128 rdCell) true 2 ∧ sIn.wordTo (cellSrc rdCell) = some (2 ^ 31) ∧ sIn.weft.blocked = [] ∧
    cf rdCell cCLASS = 4 ∧ sIn.inEnt 0 = none ∧ sIn.flag fcfgR F.wpFcfg.EN = true ∧
    sIn.inCheck 0x10000 (cf rdCell cSRCH) true = none := by
  have h : ∀ r, r < 128 → sIn.req 198 r = none := by decide +kernel
  refine ⟨fun w => ⟨rfl, rfl, h, by decide +kernel, ?_⟩, by decide +kernel, .wr128, ?_⟩
  · revert w; decide +kernel
  · decide +kernel
/-- Every inbound entry is taken. -/
theorem test_witness_inboundFull :
    let s := zero.setWeft fun x => { x with inb := (List.range 128).map fun k => (k, some ⟨1, 0, 0, 0x10, 0, 0, [], 0, 0, false, false, false, k⟩) }
    ∀ k, k < 128 → s.inEnt k ≠ none := by decide +kernel

/-- A segment of a message, the second, and the last of a frame. -/
def segCell (last : Bool) (arg : Nat) : Cell := mkCell 0x30 0 (0x100 * 512 + 1) 7 arg last false 0 []
def sSeg (typ src : Nat) : State := sIn.setWeft fun x => { x with partials := [⟨src, typ, 3, [], some 0x50000, 0⟩] }
theorem test_witness_segments : sIn.rangeOk 193 (sIn.bobPanel 3) (0x50000 + 128) 128 true = false ∧
    ({ sIn with pot := [(5, mkPot 1 false true true true 0)] } : State).rangeOk 193 (sIn.bobPanel 3) (0x50000 + 128) 128 true = true ∧ sIn.weft.blocked = [] ∧ sIn.weft.held = [] ∧ sIn.wordTo (cellSrc (segCell false 0)) = some (2 ^ 31) ∧
    (let c := segCell false (3 + 1 * 2 ^ 14 + 256 * 2 ^ 19)
     (sSeg 0x30 (0x100 * 512 + 1)).weft.partials = [⟨cf c cSRCH, 0x30, cf c cARG % 16384, [], some 0x50000, 0⟩] ∧ 0 < bits (cf c cARG) 18 14 ∧
     bits (cf c cARG) 18 14 * 128 + 128 ≤ bits (cf c cARG) 31 19 ∧ cf c cPOISON = 0 ∧ cf c cLAST = 0) ∧
    bits (cf (segCell false 0) cARG) 18 14 = 0 ∧ sIn.flag (bctlR 0) F.neBctl.MSGEN = false ∧ sIn.weft.partials = [] ∧ sIn.thm.taken = [] ∧
    (sSeg 0x31 0x100).weft.partials = [⟨cellSrc (segCell true 0), 0x31, 3, [], some 0x50000, 0⟩] ∧ cf (segCell true 0) cLAST = 1 ∧
    sIn.vpUp (bits (cf (segCell true 0) cARG) 31 20) = false := by decide +kernel


/-! ### The network engine -/

/-- Bobbin 16383 of panel 1, running, all its rings of 64 entries in the panel's granule 0, vector 3, virtual port 9. -/
def net (l : List (Reg × Fld × Nat) := []) : State :=
  runs Thread.init 1 ([(bctlR 16383, F.neBctl.EN, 1), (bctlR 16383, F.neBctl.STATE, bRun), (bctlR 16383, F.neBctl.PANEL, 1),
    (bctlR 16383, F.neBctl.VECTOR, 3), (bctlR 16383, F.neBctl.VP, 9), (sqbaseR 16383, ⟨63, 0⟩, 0x1000), (rqbaseR 16383, ⟨63, 0⟩, 0x2000),
    (cqbaseR 16383, ⟨63, 0⟩, 0x3000), ({ kind := .hubPstate, i := 1 }, F.hubPstate.STATE, psRunning)] ++ l)
def bo : Bobbin := 16383

theorem test_witness_doorbells : (net.bob bo).owed = [] ∧ net.bobState bo = bRun ∧
    net.sqSize bo < idxSub 65 (net.fld (bstatR bo) F.neBstat.SQHEAD) ∧ ¬net.sqSize bo < idxSub 64 (net.fld (bstatR bo) F.neBstat.SQHEAD) ∧
    net.rqSize bo < idxSub 65 (net.fld (bstatR bo) F.neBstat.RQHEAD) ∧
    net.cqSize bo < idxSub (net.fld (bstatR bo) F.neBstat.CQTAIL) 0xFFBF := by decide +kernel

/-- The ring is full of completions not read, and one waits. -/
def netFull : State := (net [(bstatR bo, F.neBstat.CQTAIL, 64), (armR bo, ⟨31, 0⟩, 1)]).setBob bo { BobSt.init with done := 64, owed := [List.replicate 31 7] }
theorem test_witness_completionsWritten : netFull.bobState bo = bRun ∧ (netFull.bob bo).owed = [List.replicate 31 7] ∧
    (List.replicate 31 (7 : Byte)).length = 31 ∧ cqOk netFull bo ∧
    idxSub (netFull.fld (bstatR bo) F.neBstat.CQTAIL) (1 : BitVec 16).toNat < netFull.cqSize bo ∧ netFull.cqFull bo = true ∧
    bit (netFull.rd (armR bo)) 0 = true := by unfold cqOk; decide +kernel

/-- One send descriptor of a frame: an address, a length, flags. -/
def sendDesc (a len flags : Nat) : List Byte := leBytes 8 a ++ leBytes 2 len ++ leBytes 2 flags ++ leBytes 20 0
/-- The bobbin has one descriptor posted, at ring slot 63. -/
def posted (d : List Byte) (l : List (Reg × Fld × Nat) := []) : State :=
  (net ([(bstatR bo, F.neBstat.SQHEAD, 0xFFFF), (sqtailR bo, ⟨31, 0⟩, 0)] ++ l)).setBytes (0x1000 + 32 * 63) d
theorem find_mem {α : Type} {m : SMap α} {k : Nat} {v : α} (h : SMap.find m k = some v) : (k, v) ∈ m := by
  induction m with
  | nil => cases h
  | cons e m ih =>
    simp only [SMap.find] at h
    split at h
    · rename_i e'; cases e'; cases h; exact .head _
    · exact .tail _ (ih h)
/-- No virtual port has a station address that no register holds. -/
theorem noMac (s : State) (d : Nat) (h : ∀ e ∈ s.regs, ¬(F.neVpmac.V.get (e.2 % 2 ^ 64) = 1 ∧ F.neVpmac.MAC.get (e.2 % 2 ^ 64) = d))
    (v : Nat) : s.vpMac v d = false := by
  simp only [State.vpMac, List.any_eq_false, Bool.and_eq_true, State.flag, beq_iff_eq, State.fld, State.rd, RegFile.read]
  intro k _ ⟨h1, h2⟩
  rcases e : SMap.find s.regs (vpmacR v k).addr with _ | x
  · rw [e, Option.getD_none, show (vpmacR v k).reset = 0 from rfl, Nat.zero_mod] at h1; exact absurd h1 (by decide)
  · rw [e] at h1 h2; exact h _ (find_mem e) ⟨h1, h2⟩
theorem noPoison (s : State) (h : s.lineMeta = []) (n : Nat) : (s.meta n).poison = false := by simp [State.meta, SMap.get, SMap.find, LineMeta.init, h]
theorem test_witness_sendsRefused : (∀ d ∈ [sendDesc 0x4000 0 0, sendDesc 0x4000 16385 0, sendDesc 0x4000 60 64], sendsFrom (posted d) bo ∧
      (posted d).neCheck ((posted d).bobPanel bo) (sqSlot (posted d) bo) 32 false = .ok ∧ bit (sqDesc (posted d) bo).flags 0 = false ∧
      ((sqDesc (posted d) bo).len = 0 ∨ 16384 < (sqDesc (posted d) bo).len ∨ 64 ≤ (sqDesc (posted d) bo).flags)) ∧
    (let s := posted [] [(sqbaseR bo, ⟨63, 0⟩, 0x20000)]
     sendsFrom s bo ∧ s.neCheck (s.bobPanel bo) (sqSlot s bo) 32 false = .denied) ∧
    (let s := posted (sendDesc 0x20000 60 0)
     sendsFrom s bo ∧ (sqDesc s bo).bad = false ∧ s.neCheck (s.bobPanel bo) (sqDesc s bo).addr (sqDesc s bo).len false = .denied) ∧
    (let s := posted (sendDesc 0x4000 9213 0)
     sendsFrom s bo ∧ (sqDesc s bo).bad = false ∧ s.neCheck (s.bobPanel bo) (sqDesc s bo).addr (sqDesc s bo).len false = .ok ∧
     9212 < (sqDesc s bo).len ∧ bit (sqDesc s bo).flags 3 = false ∧ ∀ i, (s.meta ((sqDesc s bo).addr / 64 + i)).poison = false) := by
  refine ⟨?_, ?_, ?_, ?_, ?_, ?_, ?_, ?_, fun i => noPoison _ (by decide +kernel) _⟩
  all_goals (try unfold sendsFrom cqOk)
  all_goals decide +kernel

/-- A frame of 60 bytes between two station addresses. -/
def frame (dst src : Nat) : List Byte := leBytes 6 dst ++ leBytes 6 src ++ [8, 6] ++ List.replicate 46 0
/-- Virtual port 9 with station address 0x20, uplink 24 of a port in Ethernet mode. -/
def vports : List (Reg × Fld × Nat) :=
  [(vpctlR 9, F.neVpctl.EN, 1), (vpctlR 9, F.neVpctl.PANEL, 1), (vpctlR 9, F.neVpctl.UPLEN, 1), (vpctlR 9, F.neVpctl.UPL, 24),
   (vpmacR 9 7, F.neVpmac.V, 1), (vpmacR 9 7, F.neVpmac.MAC, 0x20), (vpbobR 9, F.neVpbob.DEFBOB, 16383),
   (upcfgR 24, F.neUpcfg.EN, 1), (ectlR 6, F.wpEctl.LINKUP, 1), (ptokR 1 6 1, F.nePtok.REMAIN, 1)]
def sends (src : Nat) : State := (posted (sendDesc 0x4000 60 0) vports).setBytes 0x4000 (frame 0x40 src)
theorem test_witness_sendsSwitched : (∀ src ∈ [0x20, 0x22], let s := sends src
      let f := s.bytes (sqDesc s bo).addr (sqDesc s bo).len
      sendsFrom s bo ∧ s.neCheck (s.bobPanel bo) (sqSlot s bo) 32 false = .ok ∧ (sqDesc s bo).flags = 0 ∧ (sqDesc s bo).bad = false ∧
      s.neCheck (s.bobPanel bo) (sqDesc s bo).addr (sqDesc s bo).len false = .ok ∧ lenOk f = true ∧ s.vpUp 9 = true ∧ s.net.flows = [] ∧
      s.fld (bctlR bo) F.neBctl.VP = 9 ∧ s.lineMeta = [] ∧
      s.vpMac 9 (frSrc f) = decide (src = 0x20) ∧ frTagged f = false ∧ frGroup f = false ∧ s.net.rmacs = [] ∧ s.vpPanel 9 = s.bobPanel bo ∧
      s.flag (vpctlR 9) F.neVpctl.UPLEN = true ∧ s.fld (vpctlR 9) F.neVpctl.TMPL = 0 ∧ s.fld (vpctlR 9) F.neVpctl.UPL = 24 ∧
      s.uplinkOn 24 = true) ∧ (∀ w < 4096, (sends 0x20).vpMac w 0x40 = false) := by
  refine ⟨?_, fun w _ => noMac _ _ (by decide +kernel) w⟩
  unfold sendsFrom cqOk; decide +kernel

/-- One frame of panel 1 waits for uplink 24, or for module 0x100. -/
def waitsFor (t : TxTo) (rem : Nat) : State :=
  let s := net (vports ++ [(ptokR 1 6 0, F.nePtok.REMAIN, rem), (ptokR 1 6 0, F.nePtok.POOLEN, 1), (routeR 0x100 0, ⟨31, 31⟩, 1),
    (pselR 0x100, F.wpPsel.UNREACH, 0)])
  { s with net := { s.net with wait := [⟨none, 1, 0, t, frame 0x40 0x20⟩], pools := [(48, 1)] } }
def noPool (s : State) : State := { s with net := { s.net with pools := [] } }
theorem test_witness_framesLeave :
    (∀ rem ∈ [0, 1, 2 ^ 20 - 1], let s := waitsFor (.uplink 24) rem
      s.net.wait = [⟨none, 1, 0, .uplink 24, frame 0x40 0x20⟩] ∧ s.flag (ptokR 1 6 0) F.nePtok.POOLEN = true ∧ 0 < s.pool (2 * 24) ∧
      s.linkUp 24 = true ∧ s.uplinkHere 24 = true ∧ ((rem = 1) ↔ 0 < remGet (s.fld (ptokR 1 6 0) F.nePtok.REMAIN)) ∧
      ((rem = 1) ∨ ¬(0 < remGet ((noPool s).fld (ptokR 1 6 0) F.nePtok.REMAIN) ∨ 0 < (noPool s).pool (2 * 24)))) ∧
    (let s := waitsFor (.fabric 0x100 4095 4095 4095) 0
     s.freeOut = some 0 ∧ s.wordTo 0x100 = some (2 ^ 31) ∧ s.stoppedAt 0x100 5 = none ∧ (frame 0x40 0x20).length < 65536) := by
  decide +kernel

theorem test_witness_framesReceived :
    let s := (net (vports ++ [(rqtailR bo, ⟨31, 0⟩, 64), (bstatR bo, F.neBstat.RQHEAD, 63)])).setBytes (0x2000 + 16 * 63) (leBytes 8 0x4000 ++ leBytes 8 0)
    let f := frame 0x20 0x40
    (∀ w < 4096, s.vpMac w (frDst (frame 0x22 0x40)) = false) ∧ s.uplinkOn 24 = true ∧ s.linkUp 24 = true ∧ s.flag (upcfgR 24) F.neUpcfg.DECAP = false ∧ frTagged f = false ∧ frGroup f = false ∧
    etherType f ≠ 0x8808 ∧ lenOk f = true ∧ lenOk (f.take 59) = false ∧ frTagged (f.take 59) = false ∧ frGroup (f.take 59) = false ∧
    s.net.rmacs = [] ∧ s.net.flows = [] ∧
    (s.vpsOf 0 0).find? (fun w => s.vpMac w (frDst f)) = some 9 ∧ s.vpPanel 9 = 1 ∧
    0 < remGet (s.fld (ptokR 1 6 1) F.nePtok.REMAIN) ∧ s.fld (vpbobR 9) F.neVpbob.DEFBOB = bo ∧ s.fld (vpbobR 9) F.neVpbob.RSSN = 0 ∧
    s.bobPanel bo = 1 ∧ s.cqFull bo = false ∧ (s.bob bo).owed = [] ∧ s.fld (bctlR bo) F.neBctl.VP = 9 ∧
    idxSub (s.rd (rqtailR bo)) (s.fld (bstatR bo) F.neBstat.RQHEAD) = 1 ∧ idxSub (net.rd (rqtailR bo)) (net.fld (bstatR bo) F.neBstat.RQHEAD) = 0 ∧
    f.length ≤ rbBytes (s.fld (bctlR bo) F.neBctl.RBSZ) ∧ s.neCheck 1 (0x2000 + 16 * 63) 16 false = .ok ∧
    s.memNat (0x2000 + 16 * 63) 8 = 0x4000 ∧ s.memNat (0x2000 + 16 * 63 + 8) 8 = 0 ∧
    s.neCheck 1 0x4000 (rbBytes (s.fld (bctlR bo) F.neBctl.RBSZ)) true = .ok ∧ cqSlot s bo + 32 ≤ 0x4000 := by
  refine ⟨fun w _ => noMac _ _ (by decide +kernel) w, ?_⟩
  decide +kernel

theorem test_witness_uplinkChanges : zero.unitOut 4 6 = false ∧ zero.uplinkHere 24 = true ∧
    zero.fld (pctlR 6) F.wpPctl.ROLE = 2 ∧ zero.fld (ectlR 6) F.wpEctl.LINKUP = 0 ∧ zero.fld (ectlR 6) F.wpEctl.MODE ≤ 2 ∧
    (net vports).fld (ectlR 6) F.wpEctl.LINKUP ≠ 0 := by decide +kernel

theorem test_witness_bobbinStalls : (∀ n ∈ [200, 999, 1000], let s := net.setBob bo { BobSt.init with owed := [[]], age := n }
      s.bobState bo = bRun ∧ (s.bob bo).owed ≠ [] ∧ SMap.find s.net.bobHits bo = none ∧
      (s.rd { kind := .rasTmo, i := 5 } ≤ (s.bob bo).age ↔ n = 1000)) := by decide +kernel

/-- An access of the bobbin that is not answered, in the engine's last entry; and a frame of a bobbin that does not run. -/
theorem test_witness_bobbinAccessOpen :
    let m : MissEnt := { op := .rdio, line := 0, rcnt := 0, rsv := false, retry := false, ctx := 16383, age := 0 }
    let s := (net.setReq 193 255 (some m)).setBob bo { BobSt.init with age := 1000 }
    s.req 193 255 = some m ∧ s.bobState bo = bRun ∧ s.bobHolds bo = true ∧ s.rd { kind := .rasTmo, i := 5 } ≤ (s.bob bo).age ∧
    SMap.find s.net.bobHits bo = none ∧ ¬net.bobState 16382 = bRun ∧
    ((s.resetBob bo 3).bobBoundary.req 193 255).isNone = true := by decide +kernel


/-! ### PCIe host ports -/

/-- Root port 15 is up; entry 511 of its controller is function 0x12 of panel 1, with BME or not. -/
def hio (bme : Nat) : State :=
  runs (thread 0 []) 1 [(func0R 3 511, F.hpFunc0.V, 1), (func0R 3 511, F.hpFunc0.RP, 15), (func0R 3 511, F.hpFunc0.RID, 0x12),
    (func0R 3 511, F.hpFunc0.PANEL, 1), (func0R 3 511, F.hpFunc0.BME, bme), (rpctlR 15, F.hpRpctl.EN, 1), (rpctlR 15, F.hpRpctl.CTO, 0),
    (rpstatR 15, F.hpRpstat.STATE, rpUp)]
theorem test_witness_interruptMessages : function (hio 1) 15 0x12 511 1 true ∧ function (hio 0) 15 0x12 511 1 false ∧
    (hio 1).funcOf (15 : RootPort) (0x13 : BitVec 16).toNat = none ∧ (2047 : BitVec 32).toNat < 2048 ∧ 2048 ≤ (2048 : BitVec 32).toNat := by
  unfold function; decide +kernel

theorem test_witness_deviceRequests : let s := hio 1
    s.rpServes (15 : RootPort) = true ∧ s.hio.pieces = [] ∧ s.hio.jobs = [] ∧ s.dmaTarget (1023 * 64) = true ∧ function s 15 0x12 511 1 true ∧
    (s.freeReq (194 + (15 : RootPort).val / 4)).isSome ∧ (s.homeIn (s.panelBolt (potPanel (s.potFor 197 (1023 / 1024)))) 1023).isSome ∧ s.dmaOk 197 (1 : Panel) 1023 true = true ∧
    s.dmaOk 197 (1 : Panel) 1023 false = true ∧ s.dmaTarget (0x30000) = true ∧ s.dmaOk 197 (1 : Panel) 0xC00 true = false ∧
    s.dmaOk 197 (1 : Panel) 0xC00 false = false ∧ (s.homeIn (s.panelBolt (potPanel (s.potFor 197 (0xC00 / 1024)))) 0xC00).isSome ∧ s.ras.writtenCorr < 192 ∧ (63 : Fin 4096).val < 64 := by
  unfold function; decide +kernel

theorem noStale_of {s : State} (h : s.tiles = []) : noStale s := by
  intro k l w hm; simp [State.tile, h, SMap.get, SMap.find, TileSt.init] at hm
theorem test_witness_noStale : noStale (hio 1) := noStale_of (by decide +kernel)

/-- Thread 2 loads g5 from a device. -/
def asks (cfg : Bool) (age : Nat) : State × PcieReq :=
  let s := hio 1
  let q : PcieReq := { th := 2, rp := 15, cfg := cfg, off := 0, n := 8, age := age }
  let s := s.setThr 2 { s.thr 2 with stall := some ⟨some (.gpr 5 8 false), 0x200000000000, ⟨0, ⟨0x200000000000, .dev, .none, 0⟩, 8⟩, [], []⟩ }
  ({ s with hio := { s.hio with reqs := [q] } }, q)
theorem test_witness_coreRequestEnds : (∀ cfg ∈ [true, false], ∀ age ∈ [4, 5], let (s, q) := asks cfg age
      oneRequest s 15 2 q 5 8 ∧ q.cfg = cfg ∧ (s.thr 2).canCheck = true ∧
      (ctoStitches (s.fld (rpctlR 15) F.hpRpctl.CTO) ≤ q.age ↔ age = 5)) := by
  have h : ∀ cfg ∈ [true, false], ∀ age ∈ [4, 5], let (s, q) := asks cfg age
      s.hio.reqs = [q] ∧ q.rp = (15 : RootPort) ∧ q.th = 2 ∧ s.paired 1 = false ∧
      (s.thr 2).stall = some ⟨some (.gpr 5 8 false), 0x200000000000, ⟨0, ⟨0x200000000000, .dev, .none, 0⟩, 8⟩, [], []⟩ ∧ q.cfg = cfg ∧
      (s.thr 2).canCheck = true ∧ (ctoStitches (s.fld (rpctlR 15) F.hpRpctl.CTO) ≤ q.age ↔ age = 5) := by decide +kernel
  intro cfg hc age ha
  obtain ⟨h1, h2, h3, h4, h5, h6, h7, h8⟩ := h cfg hc age ha
  exact ⟨⟨h1, h2, h3, h4, by decide, by decide, by decide, _, _, h5, rfl⟩, h6, h7, h8⟩

theorem test_witness_rootPortLinks : (hio 1).hio.reqs = [] ∧ (hio 1).flag (rpctlR 15) F.hpRpctl.EN = true ∧
    (hio 1).fld (rpstatR 15) F.hpRpstat.STATE ≠ rpDpc ∧ 511 ∈ (hio 1).funcs 15 ∧ (hio 1).unitOut 5 15 = false ∧
    (set [(rpstatR 15, F.hpRpstat.STATE, rpDpc)]).fld (rpstatR 15) F.hpRpstat.STATE = rpDpc := by decide +kernel

theorem test_witness_flrEnds : ∀ n ∈ [9999, 10000],
    SMap.find ({ zero with hio := { zero.hio with flr := [(flrKey 3 511, n)] } } : State).hio.flr (flrKey 3 511) = some n := by decide +kernel

/-! ### Register access -/

theorem test_witness_registerWrites : (∀ r ∈ ([{ kind := .hubBoltcfg }, { kind := .mcTok, i := 23, j := 511 }, { kind := .cutCore, i := 191 }] :
      List Reg), ordinary r.kind ∧ liesAt zero r (BitVec.ofNat 52 r.addr) ∧ r.kind ≠ .tuTodS ∧ r.kind ≠ .tuTodNs) := by
  unfold ordinary liesAt; decide +kernel

theorem test_witness_guardedWrites : (∀ r ∈ ([{ kind := .tuTodS }, { kind := .tuTodNs }, { kind := .tuStitch }, { kind := .rasTmo, i := 2 }, pctlR 7] : List Reg),
      liesAt (set [(tuStatusR, F.tuStatus.COMMITTED, 1)]) r (BitVec.ofNat 52 r.addr)) ∧
    (set [(tuStatusR, F.tuStatus.COMMITTED, 1)]).committed = true ∧ zero.committed = false ∧
    liesAt zero { kind := .tuStitch } (BitVec.ofNat 52 ({ kind := .tuStitch } : Reg).addr) ∧ tmoRange 2 0 = false ∧ tmoRange 2 50 = true := by
  unfold liesAt; decide +kernel

theorem test_witness_registerDenials : let r : Reg := { kind := .hubBoltcfg }
    let s := runs (thread 0 [])
    liesAt s r (BitVec.ofNat 52 r.addr) ∧ s.live 2 = true ∧ s.regsAt (BitVec.ofNat 52 r.addr).toNat (r.width / 8) = [r] ∧
    s.regListed (s.panelOf 2) (s.ownerAt (s.panelOf 2) (s.thr 2).pl r) r = false ∧ r.kind ≠ .rasStat ∧ r.kind ≠ .rasSeq ∧ r.kind ≠ .icVec ∧
    s.ras.writtenCorr < 192 := by
  unfold liesAt; decide +kernel

theorem test_witness_barrierArrivals :
    (let s := set [(barR 255, F.wpBar.COUNT, 2), (barR 255, F.wpBar.RCTX, 63)]
     s.fld (barR 255) F.wpBar.ARRIVE = 0 ∧ s.fld (barR 255) F.wpBar.COUNT ≠ 0 ∧ s.fld (barR 255) F.wpBar.ROOT = s.myId ∧
     s.rootCtx (s.fld (barR 255) F.wpBar.RCTX) = some 255 ∧ s.fld (barcntR 255) F.wpBarcnt.ARRIVED + 1 < s.fld (barR 255) F.wpBar.COUNT) ∧
    (let s := set [(barR 255, F.wpBar.COUNT, 2), (barR 255, F.wpBar.ROOT, 4095), (routeR 4095 0, ⟨31, 31⟩, 1), (pselR 4095, F.wpPsel.UNREACH, 0)]
     s.fld (barR 255) F.wpBar.ARRIVE = 0 ∧ s.fld (barR 255) F.wpBar.COUNT ≠ 0 ∧ s.fld (barR 255) F.wpBar.ROOT ≠ s.myId ∧
     s.wordTo (s.fld (barR 255) F.wpBar.ROOT) = some (2 ^ 31)) ∧
    zero.fld (barR 255) F.wpBar.COUNT = 0 := by decide +kernel


/-! ### The Cutter, the Tape and Thimble -/

/-- A running panel of one core's seat, whose run of 9 stitches goes on. -/
def cutting (g : Nat) : State :=
  runs (thread 0 []) 1 [({ kind := .cutCtrl }, F.cutCtrl.EN, 1), ({ kind := .hubPstate, i := 1 }, F.hubPstate.STATE, psRunning),
    (cutCoreR 1, F.cutCore.G, g), (cutCoreR 1, F.cutCore.PANEL, 1), (cutCoreR 1, F.cutCore.RUN, 9), ({ kind := .wrpCctl, i := 1 }, F.wrpCctl.L2_EN, 1)]
def conBytes : Nat := 1 + 1 * 2 ^ 16
theorem test_witness_cutterPlans : let s := { cutting 1 with cut := { CutSt.init with
      contracts := RegFile.write [] { kind := .cutContract, i := 1 } conBytes } }
    cutterOn s = true ∧ s.time.over 5 = false ∧ (s.taskDone 5).time.over 5 = true ∧ cutterOn zero = false ∧ inRun s 1 1 0 ∧ s.pstate 1 = psRunning ∧ (Con.of s.cut.contracts 1).bolt < s.nBolts ∧
    1 ∈ s.boltCores (Con.of s.cut.contracts 1).bolt ∧
    ((s.boltCores (Con.of s.cut.contracts 1).bolt).filter fun d => s.fld (cutCoreR d) F.cutCore.PANEL == 1).length ≤
      (Con.of s.cut.contracts 1).maxc / (Con.of s.cut.contracts 1).unit ∧ 12 < 24 ∧ 12 ∈ s.clist := by
  unfold cutterOn inRun; decide +kernel

def alloc : Alloc :=
  { cores := [], short := [], lineTok := [(511, 65535), (32 * 512 - 1, 1)], portTok := [(511 * 16 + 15, (true, 2 ^ 20 - 1))], masks := none, freq := [] }
theorem test_witness_plansStaged : zero.cut.plan = none ∧ zero.time.over 8 = false ∧ (zero.taskDone 8).time.over 8 = true ∧
    ({ zero with cut := { CutSt.init with plan := some alloc } } : State).cut.plan = some alloc ∧
    (alloc.lineTok.map (·.1)).Nodup ∧ (alloc.portTok.map (·.1)).Nodup ∧ (∀ e ∈ alloc.lineTok, e.1 < 32 * 512 ∧ e.2 < 65536) ∧
    (∀ e ∈ alloc.portTok, e.1 < 512 * 16 ∧ e.2.2 < 2 ^ 20) := by decide +kernel

def acct (p first last : Nat) (final : Bool) : Acct :=
  ⟨p, 0, true, final, false, false, false, false, 0, 0, 0, 0, 0, 0, 0, 0, 0, 0, 0, 0, first, last⟩
def sheet (start stop : Nat) (late : Bool) : Sheet :=
  ⟨0, start, stop, 0, false, false, false, late, [acct 0 start start false, acct 1 start start true], 0⟩
theorem test_witness_tapeAdds : (∀ stitch ∈ [100, 101],
      let b : Bank := ⟨stitch, [(1024, 5)], 7⟩
      let s : State := { zero with tape := { TapeSt.init with retired := some b, sheet := some (sheet 100 0 false), closed := [sheet 0 100 false] } }
      s.tape.retired = some b ∧ s.tape.sheet = some (sheet 100 0 false) ∧ (sheet 100 0 false).start ≤ b.stitch ∧
      (∀ y ∈ s.tape.closed, ¬(y.start ≤ b.stitch ∧ b.stitch < y.stop)) ∧ billed (acct 0 100 100 false) b ∧
      ((sheet 100 0 false).accts.filter fun a => a.panel == 0).length = 1) := by
  unfold billed; decide +kernel

def closing (stitch : Nat) (taint : Bool) : State :=
  set [({ kind := .tuStitch }, ⟨63, 0⟩, stitch)]
    { zero with tape := { TapeSt.init with closed := [sheet 0 100 false] }, thm := { zero.thm with taint := taint } }
theorem test_witness_sheetsSigned : (∀ taint ∈ [true, false], ∀ n ∈ [599, 600], (closing n taint).tape.closed = [sheet 0 100 false] ∧
      (closing n taint).thm.taint = taint ∧ ((sheet 0 100 false).stop + 500 ≤ (closing n taint).stitch ↔ n = 600) ∧
      (closing n taint).ras.writtenCorr < 192) ∧ (sheet 0 100 false).late = false := by decide +kernel

theorem test_witness_recordProofsVerify : let recs : List (List Byte) := List.replicate 1024 [1]
    recs.length ≤ 1024 ∧ recs[1023]? = some [1] := ⟨Nat.le_of_eq List.length_replicate, by rw [List.getElem?_replicate]; rfl⟩

/-! ### Thimble -/

/-- Thimble's core is at its firmware; interrupts enabled or not, source 6 pending or not. -/
def fw (ie pend : Nat) (waiting : Bool := false) : State :=
  let s := { zero with thm := { zero.thm with firmware := true } }
  (((s.setThr 384 { Thread.init with pc := 0x10000100, started := true, waiting := waiting }).setTcr tcTSTATUS (BitVec.ofNat 64 ie)).setTcr
    tcTIEN 64).setTcr tcTIPEND (BitVec.ofNat 64 pend)
theorem test_witness_thimbleInterrupts : (∀ ie ∈ [0, 1], ∀ pend ∈ [0, 64], ∀ w ∈ [true, false], let s := fw ie pend w
      s.thm.firmware = true ∧ (s.thr 384).started = true ∧ (s.thr 384).halted = false ∧ (s.thr 384).waiting = w ∧
      (((s.tcr tcTSTATUS).getLsbD 0 = true ∧ s.tcr tcTIEN &&& s.tcr tcTIPEND ≠ 0) ↔ ie = 1 ∧ pend = 64)) := by decide +kernel

/-- A descriptor at the foot of SRAM in the queue. -/
def queued (d : Transfer) : State :=
  let s := runs (thread 0 [])
  { s with thm := { s.thm with xq := [0x10000000] } }.setSram 0x10000000
    (leBytes 8 d.pa ++ leBytes 4 d.la ++ leBytes 2 d.len ++ leBytes 1 d.op ++ leBytes 1 (if d.irq then 2 else 0) ++ leBytes 16 0)
theorem test_witness_transfers :
    (∀ d ∈ [(⟨0xF000, 0x10001000, 4096, 1, true⟩ : Transfer), ⟨0xF000, 0x1007FFFC, 4, 2, false⟩,
        ⟨Reg.addr { kind := .hubBoltcfg }, 0x10001000, 4, 3, true⟩, ⟨Reg.addr { kind := .cutCore }, 0x10001000, 8, 4, true⟩],
      let s := queued d
      s.thm.xq = [0x10000000] ∧ describes s 0x10000000 d ∧ 4 ≤ d.len ∧ d.len ≤ 4096 ∧ inSram d.la d.len = true ∧ 0x10000000 + 31 < d.la ∧
      (d.op < 3 → d.pa % 64 = 0 ∧ d.pa + d.len ≤ thmBase ∧ s.isMemory d.pa d.len = true ∧ ∀ l ∈ linesOf d.pa d.len, (s.meta l).poison = false) ∧
      (2 < d.op → ((Reg.ofAddr d.pa).any fun r => 8 * d.len == r.width) = true)) ∧
    (∀ d ∈ [(⟨0, 0x10001000, 3, 1, true⟩ : Transfer), ⟨0, 0x10001000, 4097, 1, true⟩, ⟨0, 0x1007FFFD, 4, 1, true⟩],
      describes (queued d) 0x10000000 d ∧ (d.len < 4 ∨ 4096 < d.len ∨ inSram d.la d.len = false)) := by
  unfold describes; decide +kernel

theorem test_witness_secureInterruptSent : (∀ n ∈ [0x03FFFFFF, 0x04000000, 0x40000000],
    (bits n 29 24 < 4 ∧ bits n 31 30 = 0 ↔ n = 0x03FFFFFF)) := by decide +kernel

theorem test_witness_secureWatchdog : (fw 0 0).twdogRuns = true ∧ ((fw 0 0).setTcr tcTWDOG 0).twdogRuns = true ∧
    bits (((fw 0 0).setTcr tcTWDOG 0).tcr tcTWDOG).toNat 9 0 = 0 ∧ (((fw 0 0).setTcr tcTWDOG 0).resetDue = none) ∧
    zero.twdogRuns = false := by decide +kernel

/-- Claim 31 names domain 425, of an age, and a request is held. -/
def claims (age held : Nat) (all : Bool) : State :=
  let s := set ([(claimR 31, F.pwrClaim.EN, 1), (claimR 31, F.pwrClaim.DOMAIN, 425), (claimR 31, F.pwrClaim.AGE, age),
    (dstatR 425, F.pwrDstat.CUR, 0)] ++ if all then (List.range 32).map fun k => (claimR k, F.pwrClaim.EN, 1) else [])
  { s with pwr := { s.pwr with held := [(425, some held)] } }
theorem test_witness_powerClaims : (∀ age ∈ [99, 100], ∀ held ∈ [pwGate, pwRet, pwOff], let s := claims age held false
      claimed s 31 425 ∧ (∀ j, j < 32 → j ≠ 31 → ¬claimed s j 425) ∧ s.heldFor 425 = some held ∧ s.flag (dstatR 425) F.pwrDstat.BUSY = false ∧
      s.fld (dstatR 425) F.pwrDstat.CUR = pwOn ∧ 425 ∉ s.pwr.noRet ∧ s.fld (claimR 31) F.pwrClaim.AGE = age ∧
      s.flag (claimR 0) F.pwrClaim.EN = false ∧ (425 : BitVec 9).toNat ≤ 425 ∧ s.ras.writtenCorr < 192) ∧
    (∀ k, k < 32 → (claims 0 0 true).flag (claimR k) F.pwrClaim.EN = true) ∧ 425 < (426 : BitVec 9).toNat ∧
    (∃ j, j < 32 ∧ j ≠ 0 ∧ claimed (claims 0 0 false) j 425) ∧ (∀ k, k < 32 → ¬claimed (claims 0 0 false) k 424) := by
  unfold claimed; decide +kernel

def works (v : Nat) (l : Ladder) : State := { zero with thm := { zero.thm with ladder := { l with running := some v } } }
theorem test_witness_ladder : zero.thm.ladder.running = none ∧ (works 5 Ladder.init).thm.ladder.running ≠ none ∧
    (∀ op ∈ [1, 2, 3, 4, 5, 6, 7], ∀ src ∈ [0, 3, 31], let v := op * 2 ^ 28 + src * 2 ^ 22 + src * 2 ^ 17
      bits v 31 28 = op ∧ bits v 26 22 = src ∧ bits v 21 17 = src ∧ (works v Ladder.init).thm.ladder.running = some v) ∧
    Ladder.init.windows = 0 ∧ Ladder.init.pool < 64 ∧
    (∀ pool ∈ [63, 64], ∀ windows ∈ [0, 1], let l := { Ladder.init with pool := pool, windows := windows, exp := [31] }
      (64 ≤ (works 0 l).thm.ladder.pool ↔ pool = 64) ∧ (works 0 l).thm.ladder.windows = windows ∧ 31 ∈ (works 0 l).thm.ladder.exp) ∧
    0 ∈ (runs (thread 0 [])).clist := by decide +kernel

theorem test_witness_engines : SMap.find zero.thm.engJobs 2 = none ∧ inSram 0x1007FFFF 1 = true ∧
    EngineRow (.nttEngine .verify 0x10000000 0x10002000 0x1007FFFF 64) 2 (0x1007FFFF : BitVec 32).toNat
      (fun s => [if Config.mlDsaVerify (s.sram (0x10000000 : BitVec 32).toNat 1952) (s.sram (0x10002000 : BitVec 32).toNat (64 : BitVec 32).toNat)
        (s.sram ((0x10000000 : BitVec 32).toNat + 1952) 3309) then 1 else 0]) ∧
    SMap.find ({ zero with thm := { zero.thm with engJobs := [(2, [])] } } : State).thm.engJobs 2 ≠ none :=
  ⟨by decide +kernel, by decide +kernel, .verify, by decide +kernel⟩


/-! ### Mailboxes and the Ockar protocol -/

/-- Panel 1's mailbox is in service in granule 0, doorbell state and held slots given. -/
def mbx (st held : Nat) (ok : Bool := true) : State :=
  let s := runs (thread 0 []) 1 [(mbxPageR 1, F.mbxPage.EN, 1), (mbxDbR 1, F.mbxDb.STATE, st), (mbxSlotR 1, F.mbxSlot.HELD, held)]
  if ok then s else { s with pot := [] }
theorem test_witness_doorbellRings :
    (∀ st ∈ [dbIdle, dbQueued], ((mbx st 0).flag (mbxPageR 1) F.mbxPage.EN = true ∧ (mbx st 0).fld (mbxDbR 1) F.mbxDb.STATE = dbIdle) ↔ st = dbIdle) ∧
    (∀ k, k < 8 → slotHeld (mbx 0 255) 1 k) ∧ ¬slotHeld (mbx 0 0x7F) 1 7 ∧ (∀ j, j < 7 → slotHeld (mbx 0 0x7F) 1 j) ∧
    (mbx 0 0x7F).pageOk 1 = true ∧ (mbx 0 0x7F false).pageOk 1 = false ∧ (mbx 0 0x7F).engine 1 = [] := by
  unfold slotHeld; decide +kernel

/-- A packet of a panel, and the same with an unknown version. -/
def pkt (op requester target : Nat) (ver : Byte := 1) (flags : Nat := 0) : List Byte :=
  let h := [ver] ++ leBytes 1 flags ++ leBytes 2 op ++ leBytes 4 7 ++ leBytes 4 requester ++ leBytes 4 target ++ leBytes 2 0 ++ leBytes 2 0 ++ leBytes 8 0
  h ++ leBytes 4 (crc32c h).toNat
def inEngine (m : Nat) (l : List (Nat × Nat × List Byte)) : State := (mbx dbQueued 1).setEngine m l
theorem test_witness_requestTaken :
    (let s := inEngine 1 [(1, 7, pkt 0x0101 1 (0x0D * 2 ^ 24)), (65, 0, []), (511, 0, [])]
     let p := pkt 0x0101 1 (0x0D * 2 ^ 24)
     s.engine 1 = (1, 7, p) :: [(65, 0, []), (511, 0, [])] ∧ (∀ e ∈ [(65, 0, []), (511, 0, ([] : List Byte))], e.1 ≠ 1 ∧ e.1 < 512) ∧
     badPacket p = none ∧ hdFlags p = 0 ∧ hdRequester p = s.handle 1 ∧ s.handle 1 < 2 ^ 31 ∧ (ockRow (hdOp p)).isSome ∧
     s.safeHold = false ∧ s.thm.recovery = false ∧ s.seqInUse 1 (mkReq (.mailbox 1 7 none) s.stitch s.ticks p) = false) ∧
    badPacket (pkt 0x0101 1 0 2) = some (stBadParam, 0) ∧ (mbx 0 0).engine 1 = [] := by decide +kernel

theorem test_witness_resultDelivered : let s := { mbx 0 255 with thm := { zero.thm with mslots := [(15, ⟨true, 7⟩)] } }
    SMap.find s.thm.mslots (1 * 8 + 7) = some ⟨true, 7⟩ ∧ (∀ n ∈ [0, 1, 4096, 4097], let v := BitVec.ofNat 32 (n * 2 ^ 19 + 7 * 2 ^ 9 + 1)
      bits v.toNat 8 0 = 1 ∧ bits v.toNat 11 9 = 7 ∧ bits v.toNat 18 12 = 0 ∧ bits v.toNat 31 19 = n) := by decide +kernel

theorem find_range {α : Type} {n k : Nat} (h : k < n) (f : Nat → α) : SMap.find ((List.range n).map fun k => (k, f k)) k = some (f k) := by
  have : ∀ (l : List Nat), k ∈ l → SMap.find (l.map fun k => (k, f k)) k = some (f k) := by
    intro l
    induction l with
    | nil => intro h; cases h
    | cons a l ih =>
      intro h
      simp only [List.map_cons, SMap.find]
      split
      · rename_i ha; rw [ha]
      · rename_i ha
        cases h with
        | head => exact absurd rfl ha
        | tail _ h => exact ih h
  exact this _ (List.mem_range.2 h)
def zeros (n : Nat) : List Byte := List.replicate n 0
/-- A request that Thimble has taken. -/
def reqOf (via : Via) (requester op cls idx : Nat) (payload : List Byte) (stitch : Nat := 0) (at_ : Nat := 0) : OckReq :=
  { via := via, head := leBytes 1 1 ++ leBytes 1 0 ++ leBytes 2 op ++ leBytes 4 7 ++ leBytes 4 requester ++ leBytes 4 (cls * 2 ^ 24 + idx) ++
      leBytes 2 payload.length ++ leBytes 2 0 ++ leBytes 8 stitch ++ leBytes 4 0
    payload := payload, mac := [], at_ := at_, tick := 0, answered := false }
/-- Of the host manager, of panel 1, of the operator in session 7. -/
def host (op cls idx : Nat) (payload : List Byte) : OckReq := reqOf (.mailbox 0 0 none) 0 op cls idx payload
def tenant (op cls idx : Nat) (payload : List Byte) : OckReq := reqOf (.mailbox 1 0 none) 1 op cls idx payload
def oper (op cls idx : Nat) (payload : List Byte) : OckReq := reqOf (.i3c (some 7)) (2 ^ 31 + 7) op cls idx payload
/-- A state in which it is the one that starts next. -/
def asked (q : OckReq) (s : State) : State := { s with thm := { s.thm with taken := [q] } }
/-- The state with it taken off. -/
def off (s : State) (q : OckReq) : State := { s with thm := { s.thm with taken := s.thm.taken.erase q } }
/-- No byte outside the ranges is set, from offset `i` on. -/
def free (named : List (Nat × Nat)) : Nat → List Byte → Bool
  | _, [] => true
  | i, b :: bs => (b == 0 || named.any fun r => decide (r.1 ≤ i) && decide (i < r.1 + r.2)) && free named (i + 1) bs
theorem free_at {named : List (Nat × Nat)} {l : List Byte} : ∀ {i : Nat}, free named i l = true → ∀ j, j < l.length →
    (l.getD j 0 = 0 ∨ (named.any fun r => decide (r.1 ≤ i + j) && decide (i + j < r.1 + r.2)) = true) := by
  induction l with
  | nil => intro i _ j hj; cases hj
  | cons b bs ih =>
    intro i h j hj
    simp only [free, Bool.and_eq_true, Bool.or_eq_true, beq_iff_eq] at h
    cases j with
    | zero => simpa using h.1
    | succ j =>
      have := ih h.2 j (by simpa using hj)
      rw [show i + 1 + j = i + (j + 1) by omega] at this
      simpa using this
/-- The checks of `passes`. -/
def ready (s : State) (op : Nat) (q : OckReq) : Bool :=
  decide (nextReq op s.thm.recon [] s.thm.taken = some q) &&
  (match ockRow op with
   | some r => ((off s q).preCheck r q).isNone
   | none => false) && free (layout op) 0 q.payload
theorem passes_of {s : State} {op : Nat} {q : OckReq} (h : ready s op q = true) : passes s op q (off s q) := by
  simp only [ready, Bool.and_eq_true, decide_eq_true_eq] at h
  obtain ⟨⟨h1, h2⟩, h3⟩ := h
  refine ⟨⟨h1, rfl⟩, ?_, ?_⟩
  · split at h2
    · rename_i r hr; exact ⟨r, hr, Option.isNone_iff_eq_none.1 h2⟩
    · cases h2
  · simp only [OckReq.stray, Option.map_eq_none_iff, List.find?_eq_none, List.mem_range, Bool.and_eq_true, not_and,
      decide_eq_true_eq, Bool.not_eq_true', Bool.not_eq_false]
    intro j hj h0
    simpa using (free_at h3 j hj).resolve_left h0

/-- Requests that each of the common checks refuses, and one with a stray byte. -/
theorem test_witness_commonChecks : (∀ q ∈ [host 0x0205 0x0C 512 [], tenant 0x0205 0x0C 1 [], tenant 0x0207 0x0C 2 [],
      reqOf (.mailbox 0 0 none) 0 0x0205 0x0C 1 [] 4 5, host 0x0205 0x0C 1 [0], host 0x0101 0x0D 0 [], host 0x040D 3 23 [0], host 0x0301 0x0C 1 (List.replicate 64 0),
      host 0x0202 0x0C 1 (List.replicate 5 0 ++ [1] ++ List.replicate 10 0)],
      nextReq q.op zero.thm.recon [] (asked q zero).thm.taken = some q ∧ (ockRow q.op).isSome) ∧
    ((host 0x0202 0x0C 1 (List.replicate 5 0 ++ [1] ++ List.replicate 10 0)).stray (layout 0x0202)).isSome = true ∧
    (let s := { zero with outUnits := [unitId 3 23], thm := { zero.thm with recon := [unitId 0x0D 0] } }
     nextReq 0x0101 s.thm.recon [] (asked (host 0x0101 0x0D 0 []) s).thm.taken = some (host 0x0101 0x0D 0 []) ∧ s.unitOut 3 23 = true ∧
     (host 0x0101 0x0D 0 []).unit ∈ s.thm.recon) ∧
    (let j : Job := ⟨0, host 0x0301 0x0C 1 (List.replicate 64 0), [], 0⟩
     let s := { zero with thm := { zero.thm with jobs := [j] } }
     s.unitBusy (unitId 0x0C 1) = true) := by decide +kernel

theorem test_witness_startOrder : let a := host 0x0301 0x0C 1 []
    let b := tenant 0x0207 0x0C 2 []
    nextReq 0x0207 [] [] ([] ++ a :: [b]) = some b ∧ b ≠ a := by decide +kernel

theorem test_witness_replies : (∀ q ∈ [tenant 0x0101 0x0D 0 []], q.via = .mailbox 1 0 none ∧ q.answered = false) ∧
    (reqOf (.i3c none) (2 ^ 31) 0x0101 0x0D 0 []).via = .i3c none ∧ (∀ o, zero.muted o = false) := by
  refine ⟨by decide +kernel, by decide +kernel, fun o => ?_⟩
  cases o <;> rfl

def bound (n : Nat) : State :=
  { zero with ticks := n, thm := { zero.thm with jobs := [⟨0, host 0x0203 0x0C 2 [], [], 0⟩, ⟨1, host 0x0101 0x0D 0 [], [], 0⟩] } }
theorem test_witness_classBounds : ((bound 1).thm.jobs = [] ++ ⟨0, host 0x0203 0x0C 2 [], [], 0⟩ :: [⟨1, host 0x0101 0x0D 0 [], [], 0⟩]) ∧
    (∀ n ∈ [0, 1], (ockRow 0x0203).map (fun r => decide ((host 0x0203 0x0C 2 []).tick + r.bound ≤ (bound n).ticks)) = some (n == 1)) ∧
    host 0x0101 0x0D 0 [] ≠ host 0x0203 0x0C 2 [] ∧ (bound 1).thm.taken = [] := by decide +kernel

theorem test_witness_i3cBus : (fw 0 0).i3cAnswers = true ∧ (fw 0 0).boot.i3cAddr = none ∧
    (let s : State := { fw 0 0 with boot := { zero.boot with i3cAddr := some 9 } }
     let p := pkt 0x0101 (2 ^ 31 + 7) (0x0D * 2 ^ 24)
     s.i3cAnswers = true ∧ s.boot.i3cAddr ≠ none ∧ badPacket p = none ∧ hdFlags p = 0 ∧ 2 ^ 31 ≤ hdRequester p ∧
     s.session (hdRequester p % 65536) = none ∧ s.openOp (hdOp p) (hdLength p) = true ∧ (ockRow (hdOp p)).isSome ∧ s.safeHold = false ∧
     s.thm.recovery = false) := by decide +kernel


/-! ### Ockar: identity, sessions, keys and debug -/

theorem test_witness_info : ready (asked (host 0x0101 0x0D 0 []) zero) 0x0101 (host 0x0101 0x0D 0 []) = true ∧ zero.safeHold = false ∧
    zero.clist.length ≤ 24 ∧ (set [({ kind := .hubBoot }, F.hubBoot.SAFEHOLD, 1)]).safeHold = true := by decide +kernel

theorem test_witness_certificates : (∀ p ∈ [[0, 0], [1, 0], [1, 1], [3, 1], [1, 2], [4, 0]], let q := host 0x0102 0x0A 0 (p ++ zeros 70)
      ready (asked q zero) 0x0102 q = true ∧ (q.payload.drop 8).take 64 = zeros 64) ∧
    (let s := { zero with thm := { zero.thm with fw := { zero.thm.fw with alias_ := [1], meter := [2] } } }
     ready (asked (host 0x0102 0x0A 0 ([2] ++ zeros 71)) s) 0x0102 (host 0x0102 0x0A 0 ([2] ++ zeros 71)) = true ∧ s.thm.fw.alias_ ≠ [] ∧
     s.thm.fw.meter ≠ []) ∧
    zero.certOf 2 (zeros 64) = none ∧
    (let c := zeros 6 ++ [2] ++ zeros 2041
     Config.shake256 ((c.drop 96).take 1952) 64 = List.replicate 64 1 →
       (State.certOf { zero with thm := { zero.thm with fw := { zero.thm.fw with alias_ := c } } } 2 (List.replicate 64 1)).isSome) := by
  refine ⟨by decide +kernel, by decide +kernel, by decide +kernel, fun h => ?_⟩
  simp only [State.certOf, certKeyHash, reduceCtorEq, List.all_replicate]
  rw [if_neg (by decide), if_neg (by decide +kernel)]
  simp only [List.isSome_find?, List.any_append, List.any_cons,
    Bool.or_eq_true, Bool.and_eq_true, beq_iff_eq]
  exact .inl (.inl (.inl ⟨by decide +kernel, h⟩))

theorem test_witness_unitQueries : (∀ s ∈ [zero, { zero with boot := { zero.boot with repairs := [1 * 256 + 191] } }],
    ready (asked (host 0x0103 1 191 []) s) 0x0103 (host 0x0103 1 191 []) = true) := by decide +kernel

/-- A session at a step, last heard at tick 0. -/
def inStep (sid n ticks : Nat) : State :=
  { zero with ticks := ticks, thm := { zero.thm with sessions := [(sid, ⟨n, [], [], [], [], [], 0, 0, none, []⟩)], ladder := { Ladder.init with windows := 0 } } }
theorem test_witness_sessionSteps : (∀ ticks ∈ [6000, 6001], ∀ e ∈ [(1, oper 0x0111 0x0A 0 [7, 0]), (2, oper 0x0112 0x0A 0 ([7] ++ zeros 1091))],
      let s := asked e.2 (inStep 7 e.1 ticks)
      ready s e.2.op e.2 = true ∧ e.2.f 0 2 = 7 ∧ (s.session 7).map (fun x => (x.step, decide (s.ticks ≤ x.last + 6000))) = some (e.1, ticks == 6000)) := by
  decide +kernel
theorem test_witness_sessionAuth : let q := oper 0x0113 0x0A 0 ([7] ++ zeros 3312)
    let s := asked q (inStep 7 3 6000)
    ready s 0x0113 q = true ∧ q.f 0 2 = 7 ∧ (s.session 7).map (fun x => (x.step, decide (s.ticks ≤ x.last + 6000))) = some (3, true) ∧
    q.session = some 7 := by decide +kernel
theorem test_witness_sessionOffers : let q := oper 0x0110 0x0A 0 (zeros 32)
    (∀ n ∈ [0, 3, 4], ∀ w ∈ [0, 1], let s := asked q { zero with thm := { zero.thm with
        sessions := (List.range n).map fun k => (k, ⟨1, [], [], [], [], [], 0, 0, none, []⟩), ladder := { Ladder.init with windows := w } } }
      ready s 0x0110 q = true ∧ s.thm.sessions.length = n ∧ s.entropyOk = (w == 0)) ∧
    (ready (asked (oper 0x0111 0x0A 0 [7, 0]) zero) 0x0111 (oper 0x0111 0x0A 0 [7, 0]) = true ∧ zero.session 7 = none) := by decide +kernel
theorem test_witness_sessionEnds : let q := oper 0x0114 0x0A 0 []
    ready (asked q (inStep 7 4 0)) 0x0114 q = true ∧ q.session = some 7 ∧
    (∀ e ∈ [(3, 6000), (3, 6001), (4, 5999999), (4, 6000000)], ((inStep 7 e.1 e.2).session (7 : BitVec 16).toNat).map
      (fun x => (decide (x.step < 4 ∧ x.last + 6000 < (inStep 7 e.1 e.2).ticks), decide (x.step = 4 ∧ x.last + 6000000 ≤ (inStep 7 e.1 e.2).ticks))) =
      some (e.2 == 6001, e.2 == 6000000)) ∧ zero.session (7 : BitVec 16).toNat = none := by decide +kernel

/-- A debug certificate of a scope and panel, expiry 1, nonce of zeros; its key hash and signature zero. -/
def cert (scope panel : Nat) : List Byte :=
  asciiBytes "DBGC" ++ leBytes 2 1 ++ leBytes 2 scope ++ zeros 16 ++ zeros 32 ++ leBytes 4 panel ++ zeros 4 ++ leBytes 8 1 ++ zeros 3373
/-- The checks of a certificate hold, with an authority's key of one byte under which the opaque functions accept it. -/
def withNonce (l : List (Reg × Fld × Nat) := []) (dbgs : List DbgSession := []) : State :=
  set l { zero with thm := { zero.thm with nonces := [(zeros 32, 0)], dbgs := dbgs, ladder := { Ladder.init with windows := 0 }
                                           conf := { zero.thm.conf with dbgauth := [1], ownerkey := [1], opkey := [1] }
                                           staged := [(0, [9]), (1, [9]), (2, [9])] } }
theorem certified_of {s : State} {c : List Byte} (hs : Config.shake256 [1] 64 = zeros 64) (hv : Config.mlDsaVerify [1] (c.take 136) (c.drop 136) = true)
    (h : (decide (s.thm.fuses.dbglock = false ∧ c.take 4 = asciiBytes "DBGC" ∧ field c 4 2 = 1 ∧ bits (field c 6 2) 14 3 = 0 ∧ field c 60 4 = 0 ∧
      ((field c 6 2).testBit 0 = true ∨ field c 56 4 = 0) ∧ field c 8 16 = s.serial ∧ (c.drop 72).take 64 = zeros 64 ∧ s.stitch < field c 64 8) &&
      (match s.thm.nonces.find? (fun m => m.1 == (c.drop 24).take 32) with
       | some n => decide (field c 64 8 ≤ n.2 + 8640000000)
       | none => false)) = true) : certified s [1] c ∧ presented s c := by
  simp only [Bool.and_eq_true, decide_eq_true_eq] at h
  obtain ⟨⟨h1, h2, h3, h4, h5, h6, h7, h8, h9⟩, h⟩ := h
  split at h
  · rename_i n e
    simp only [decide_eq_true_eq] at h
    refine ⟨⟨h1, h2, h3, h4, h5, h6, h7, by decide, h8.trans hs.symm, hv, h9, n, e, h⟩, h1, h2, h3, h4, h5, h6, h7, n, List.mem_of_find?_eq_some e, ?_⟩
    simpa using List.find?_some e
  · cases h
theorem test_witness_certified (hs : Config.shake256 [1] 64 = zeros 64) (hv : ∀ c : List Byte, Config.mlDsaVerify [1] (c.take 136) (c.drop 136) = true) :
    ∀ c ∈ [cert 1 1, cert 2 0, cert 4 0, cert 0x8000 0], certified (withNonce []) [1] c ∧ presented (withNonce []) c := by
  have h : ∀ c ∈ [cert 1 1, cert 2 0, cert 4 0, cert 0x8000 0], (decide ((withNonce []).thm.fuses.dbglock = false ∧ c.take 4 = asciiBytes "DBGC" ∧
      field c 4 2 = 1 ∧ bits (field c 6 2) 14 3 = 0 ∧ field c 60 4 = 0 ∧
      ((field c 6 2).testBit 0 = true ∨ field c 56 4 = 0) ∧ field c 8 16 = (withNonce []).serial ∧ (c.drop 72).take 64 = zeros 64 ∧
      (withNonce []).stitch < field c 64 8) &&
      (match (withNonce []).thm.nonces.find? (fun m => m.1 == (c.drop 24).take 32) with
       | some n => decide (field c 64 8 ≤ n.2 + 8640000000)
       | none => false)) = true := by decide +kernel
  exact fun c hc => certified_of hs (hv c) (h c hc)
/-- The certificate is presented and not certified: it has expired. -/
theorem test_witness_presented : let s := withNonce [({ kind := .tuStitch }, ⟨63, 0⟩, 1)]
    presented s (cert 2 0) ∧ ¬certified s [1] (cert 2 0) := by
  have h : let s := withNonce [({ kind := .tuStitch }, ⟨63, 0⟩, 1)]
    let c := cert 2 0
    s.thm.fuses.dbglock = false ∧ c.take 4 = asciiBytes "DBGC" ∧ field c 4 2 = 1 ∧ bits (field c 6 2) 14 3 = 0 ∧ field c 60 4 = 0 ∧
      ((field c 6 2).testBit 0 = true ∨ field c 56 4 = 0) ∧ field c 8 16 = s.serial ∧ (zeros 32, 0) ∈ s.thm.nonces ∧ zeros 32 = (c.drop 24).take 32 ∧
      ¬(s.stitch < field c 64 8) := by decide +kernel
  obtain ⟨h1, h2, h3, h4, h5, h6, h7, h8, h9, h10⟩ := h
  exact ⟨⟨h1, h2, h3, h4, h5, h6, h7, _, h8, h9⟩, fun h => h10 h.2.2.2.2.2.2.2.2.2.2.1⟩

theorem test_witness_keys : (∀ k ∈ [2, 3], ready (asked (host 0x0115 0x0A 0 ([k] ++ zeros 1959)) zero) 0x0115 (host 0x0115 0x0A 0 ([k] ++ zeros 1959)) = true) ∧
    (∀ op ∈ [0x0E05, 0x0A09, 0x0116], (∀ p ∈ [[], [1], cert 0x8000 0], let q := host op 0x0A 0 p
      ready (asked q (withNonce [])) op q = true ∧ ready (asked q zero) op q = true)) ∧
    (∀ k < 3, SMap.find (withNonce []).thm.staged k = some [9] ∧ (withNonce []).thm.conf.key k = [1] ∧ zero.thm.conf.key k = [] ∧
      SMap.find zero.thm.staged k = none) ∧ field (cert 0x8000 0) 6 2 = 0x8000 := by decide +kernel

theorem test_witness_debugNonces : let q := host 0x0E01 0x0A 0 []
    (∀ n ∈ [0, 3, 4], ∀ w ∈ [0, 1], let s := asked q { zero with thm := { zero.thm with
        nonces := (List.range n).map fun k => (zeros k, 0), ladder := { Ladder.init with windows := w } } }
      ready s 0x0E01 q = true ∧ s.thm.nonces.length = n ∧ s.entropyOk = (w == 0)) := by decide +kernel

def pending (opened : Bool) (expiry : Nat) : DbgSession := ⟨1, 1, zeros 32, expiry, opened, none⟩
theorem test_witness_debugOpens : (∀ c ∈ [cert 1 1, cert 2 0, cert 4 0], let q := host 0x0E02 0x0A 0 c
      ready (asked q (withNonce [])) 0x0E02 q = true) ∧
    (withNonce []).safeHold = false ∧ (withNonce []).tenantsEmpty = true ∧
    (let s := withNonce [({ kind := .hubPstate, i := 1 }, F.hubPstate.STATE, psRunning)]
     s.tenantsEmpty = false ∧ s.pstate (field (cert 1 1) 56 4 % 512) = psRunning ∧ field (cert 1 1) 56 4 = s.handle 1 ∧ (1, zeros 32) ∉ s.thm.consents ∧
     (1, zeros 32) ∈ ({ s with thm := { s.thm with consents := [(1, zeros 32)] } } : State).thm.consents) ∧
    (let q := tenant 0x0E03 0x0C 1 (zeros 32)
     ready (asked q (withNonce [] [pending false 9])) 0x0E03 q = true ∧ ready (asked q (withNonce [])) 0x0E03 q = true ∧ ready (asked q zero) 0x0E03 q = true ∧
     (withNonce [] [pending false 9]).thm.dbgs.find? (fun y => !y.opened && y.panel == 1 && y.nonce == zeros 32) = some (pending false 9) ∧
     (∃ m ∈ (withNonce []).thm.nonces, m.1 = zeros 32) ∧ zero.thm.nonces = []) := by decide +kernel

theorem test_witness_debugCloses : let q := host 0x0E04 0x0A 0 (zeros 32)
    (∀ e ∈ [1, 0], let s := withNonce [] [pending true e]
      ready (asked q s) 0x0E04 q = true ∧ s.thm.dbgs.find? (fun y => y.nonce == zeros 32) = some (pending true e) ∧ (pending true e).job = none ∧
      s.thm.dbgs.find? (fun y => ofLeBytes y.nonce == (0 : BitVec 256).toNat) = some (pending true e) ∧ ((pending true e).expiry ≤ s.stitch ↔ e = 0)) ∧
    ready (asked q zero) 0x0E04 q = true ∧ zero.thm.dbgs.find? (fun y => y.nonce == zeros 32) = none := by decide +kernel


/-! ### Ockar: panels and contracts -/

/-- A contract of one core and no memory: MAXC 1, WEIGHT 1, MINL 1, MINW 1, PWDOG 100; FLAGS and BOLT as given. -/
def con (flags bolt : Nat) : List Byte :=
  leBytes 2 0 ++ leBytes 2 2 ++ leBytes 2 1 ++ leBytes 1 flags ++ leBytes 9 0 ++ leBytes 2 1 ++ leBytes 1 1 ++ leBytes 1 bolt ++ leBytes 8 0 ++
    leBytes 2 100 ++ leBytes 34 0
/-- Two bolts or more, two channels; a panel's state; a request. -/
def pan (p st : Nat) (q : OckReq) (l : List (Reg × Fld × Nat) := []) : State :=
  asked q (runs (thread 0 []) 1 ([({ kind := .hubPstate, i := p }, F.hubPstate.STATE, st), ({ kind := .hubBoltcfg }, F.hubBoltcfg.CUR, 2)] ++ l))
theorem or_none {f : Nat → Nat} (l : List Nat) (h : ∀ t ∈ l, f t = 0) : l.foldl (fun m t => m ||| f t) 0 = 0 := by
  induction l with
  | nil => rfl
  | cons a l ih => simpa [h a (.head _)] using ih fun t ht => h t (.tail _ ht)
/-- No way is locked when no register of WRP.L3WAY is listed with one. -/
theorem noLocks {s : State} (h : ∀ e ∈ s.regs, 0x7F0020008800 ≤ e.1 → e.1 < 0x7F0020C08800 → F.wrpL3way.LOCK.get (e.2 % 2 ^ 32) = 0) {t : Nat}
    (ht : t < 192) : s.lockedWays t = 0 := by
  suffices H : ∀ (l : List Nat), (∀ p ∈ l, p < 512) → l.foldl (fun m p => m ||| s.fld { kind := .wrpL3way, i := t, j := p } F.wrpL3way.LOCK) 0 = 0 from
    H _ fun p => List.mem_range.1
  intro l
  induction l with
  | nil => intro _; rfl
  | cons p l ih =>
    intro hp
    have h0 : s.fld { kind := .wrpL3way, i := t, j := p } F.wrpL3way.LOCK = 0 := by
      have hp := hp p (.head _)
      have ha : Reg.addr { kind := .wrpL3way, i := t, j := p } = 0x7F0020008800 + 0x10000 * t + 4 * p := by simp only [Reg.addr, RegKind.place]
      have hw : Reg.width { kind := .wrpL3way, i := t, j := p } = 32 := by simp only [Reg.width, RegKind.place]
      have hr : Reg.reset { kind := .wrpL3way, i := t, j := p } = RegKind.wrpL3way.reset := by simp only [Reg.reset]
      simp only [State.fld, State.rd, RegFile.read, hw, ha, hr]
      rcases e : SMap.find s.regs (0x7F0020008800 + 0x10000 * t + 4 * p) with _ | x
      · rw [Option.getD_none]; decide +kernel
      · have := h _ (find_mem e)
        simp only at this
        exact this (by omega) (by omega)
    simpa [h0] using ih fun q hq => hp q (.tail _ hq)
theorem conSum_none {s : State} {p : Nat} {c : List Byte} (h : s.conBad c = none)
    (h8 : (let others := (List.range 512).filter fun q => q ≠ p && s.contracted q
      let all := (p, c) :: others.map fun q => (q, s.contract q)
      (all.map fun e => s.mirShare e.1 e.2).sum = 0 ∧ (all.map fun e => cf' e.2 40 4).sum = 0 ∧
      (let mine := all.filter fun e => cf' e.2 19 1 == cf' c 19 1
       let tokens := ((List.range 8).map s.portSum).sum
       let offline := (s.pot.filter fun e => !isCxl e.1 && decide (e.1 < s.reservedGranule) && potKind e.2 == kOffline).length
       s.boltState (cf' c 19 1) ≠ 4 ∧ ¬(((s.boltCores (cf' c 19 1)).filter s.coreIn).length < (mine.map fun e => cf' e.2 0 2).sum) ∧
       ¬(16476 < (all.map fun e => cf' e.2 16 2).sum) ∧ (List.range 8).filter (fun r => s.flag { kind := .hpHdm, i := r } F.hpHdm.EN) = [] ∧
       (∀ t ∈ s.boltCores (cf' c 19 1), t < 192) ∧
       (∀ e ∈ s.regs, 0x7F0020008800 ≤ e.1 → e.1 < 0x7F0020C08800 → F.wrpL3way.LOCK.get (e.2 % 2 ^ 32) = 0) ∧ ¬(16 < ((mine.filter fun e => bit (cf' e.2 6 1) 0).map fun e => cf' e.2 18 1).sum +
         (mine.filter fun e => !bit (cf' e.2 6 1) 0).foldl (fun m e => max m (cf' e.2 18 1)) 0) ∧
       ¬(tokens * 95 < (all.map fun e => cf' e.2 20 2).sum * 125 * 100) ∧ ¬(tokens * 95 < (all.map fun e => cf' e.2 24 2).sum * 125 * 100) ∧
       ¬(s.reservedGranule - offline < (all.map fun e => s.memShare e.1 e.2 + s.mirShare e.1 e.2).sum)))) :
    s.conRefuse p c = none := by
  obtain ⟨g1, g2, h1, h2, h3, h4, k1, k2, h5, h6, h7, h8⟩ := h8
  simp only [State.conRefuse, h, State.conSum, Option.map_eq_none_iff, or_none _ fun t ht => noLocks k2 (k1 t ht), show 16 - popWays 0 = 16 from rfl]
  rw [if_neg h1, if_neg h2, if_neg h3, if_neg (by rw [h4]; exact Bool.false_ne_true), if_neg h5, if_neg h6, if_neg h7, if_neg h8,
    if_neg (by rw [g1]; exact Nat.not_lt_zero _), if_neg (by rw [g2]; exact Nat.not_lt_zero _)]
theorem run_of {s : State} {mir : Bool} {n i : Nat} (hi : i < s.reservedGranule) (h : s.fits false mir i n = true) :
    ∃ g, (s.findRun false mir n).1 = some g := by
  simp only [State.findRun]
  split
  · exact ⟨_, rfl⟩
  · simp only [Bool.false_eq_true, if_false, Nat.zero_add, Option.map_eq_some_iff]
    have : ((List.range (State.reservedGranule (State.freeNat s).2)).find? fun i => (State.freeNat s).2.fits false mir i n).isSome :=
      List.find?_isSome.2 ⟨i, List.mem_range.2 hi, h⟩
    obtain ⟨x, hx⟩ := Option.isSome_iff_exists.1 this
    exact ⟨x, x, hx, rfl⟩

def bReq (c : List Byte) : OckReq := host 0x0201 0x0C 2 c
theorem test_witness_builds : let q := bReq (con 0 1)
    let s := pan 1 psRunning q [(mbxPageR 1, F.mbxPage.EN, 1)]
    ready s 0x0201 q = true ∧ s.thm.taint = false ∧ s.contracted 2 = false ∧ s.tape.sheet = none ∧ (off s q).conRefuse 2 (con 0 1) = none ∧
    s.entropyOk = true ∧
    (∃ g m, ((off s q).findRun false (decide (field (con 0 1) 12 4 ≠ 0)) (saveGranules (con 0 1))).1 = some g ∧ m < (off s q).reservedGranule ∧
      isCxl m = false ∧ (off s q).isFree m = true ∧ m ∉ runOf g (saveGranules (con 0 1))) ∧
    (∀ h ∈ s.clist, h < 24) ∧ s.clist.length ≤ 24 := by
  refine ⟨by decide +kernel, by decide +kernel, by decide +kernel, by decide +kernel, conSum_none (by decide +kernel) (by decide +kernel), by decide +kernel, ?_,
    by decide +kernel, by decide +kernel⟩
  obtain ⟨g, hg⟩ := run_of (s := off (pan 1 psRunning (bReq (con 0 1)) [(mbxPageR 1, F.mbxPage.EN, 1)]) (bReq (con 0 1))) (mir := false) (n := 1) (i := 9)
    (by decide +kernel) (by decide +kernel)
  by_cases h : g = 100
  · exact ⟨g, 200, hg, by decide +kernel, by decide +kernel, by decide +kernel, by subst h; decide +kernel⟩
  · refine ⟨g, 100, hg, by decide +kernel, by decide +kernel, by decide +kernel, ?_⟩
    rw [show saveGranules (con 0 1) = 1 by decide +kernel]
    simp only [runOf, List.mem_map, List.mem_range, not_exists, not_and]
    omega
/-- The same refused: the taint, a panel that has a contract, a contract against R312, no entropy. -/
theorem test_witness_buildsRefused : (∀ c ∈ [con 0 1, zeros 64], let q := bReq c
      ready (asked q zero) 0x0201 q = true ∧ ready (pan 2 psBuilt q) 0x0201 q = true ∧ (pan 2 psBuilt q).contracted 2 = true ∧ zero.thm.taint = false ∧
      ({ asked q zero with thm := { (asked q zero).thm with taint := true } } : State).thm.taint = true) ∧
    (∃ o, zero.conRefuse 2 (zeros 64) = some (.no stBadParam (po o) 0)) ∧
    (let s := { zero with thm := { zero.thm with ladder := { Ladder.init with windows := 1 } } }
     s.entropyOk = false) := by
  refine ⟨by decide +kernel, ⟨4, ?_⟩, by decide +kernel⟩
  simp only [State.conRefuse, show zero.conBad (zeros 64) = some 4 by decide +kernel]

/-- Panel 1 is BUILT with STAGE granules 4 and 5; the launch list lies in panel 0's granule 2 and names two of a list. -/
def lReq (n : Nat) : OckReq := host 0x0202 0x0C 1 (leBytes 4 n ++ zeros 4 ++ leBytes 8 0x20000)
def staged (n g h : Nat) (st : Nat := psBuilt) (owner : Nat := 0) : State :=
  State.setBytes { pan 1 st (lReq n) with
    pot := [(2, mkPot kOwned false true true true owner), (4, mkPot kStage false true true true 1), (5, mkPot kStage false false true true 1)] } 0x20000
    (leBytes 8 (g * 65536) ++ leBytes 8 (h * 65536))
theorem test_witness_launches : (∀ n ∈ [0, 2, 16384, 16385], ready (staged n 4 5) 0x0202 (lReq n) = true) ∧ (staged 2 4 5).pstate 1 = psBuilt ∧
    (staged 2 4 5 psRunning).pstate 1 ≠ psBuilt ∧ SMap.wf (fun _ => 0) (staged 2 4 5).pot = true ∧
    (∀ h, 0x20000 / 65536 ≤ h → h ≤ (0x20000 + 8 * 2 - 1) / 65536 → owns (staged 2 4 5) h 0 kOwned) ∧
    (∀ k, k < 2 → listed (staged 2 4 5) 0x20000 k % 65536 = 0 ∧ owns (staged 2 4 5) (listed (staged 2 4 5) 0x20000 k / 65536) 1 kStage) ∧
    listed (staged 2 4 5) 0x20000 0 ≠ listed (staged 2 4 5) 0x20000 1 ∧ listed (staged 2 4 4) 0x20000 0 = listed (staged 2 4 4) 0x20000 1 ∧
    ¬owns (staged 2 4 6) (listed (staged 2 4 6) 0x20000 1 / 65536) 1 kStage := by
  unfold owns
  refine ⟨by decide +kernel, by decide +kernel, by decide +kernel, by decide +kernel, fun h h1 h2 => ?_, ?_⟩
  · have : h = 2 := by omega
    subst this; decide +kernel
  · decide +kernel

theorem test_witness_lifecycleCommands : (∀ e ∈ [(0x0203, psRunning), (0x0203, psPaused), (0x0204, psPaused), (0x0204, psRunning), (0x0205, psFaulted),
      (0x0205, psBuilt), (0x0206, psResetting), (0x0206, psTearing)], ∀ p ∈ [0, 511], let q := host e.1 0x0C p []
    ready (pan p e.2 q) e.1 q = true ∧ (pan p e.2 q).pstate p = e.2 ∧ (∀ t, (pan p e.2 q).stranded p t = false)) ∧
    let q := host 0x0205 0x0C 511 []
    let s := pan 511 psFaulted q [({ kind := .hubBoltstat }, ⟨7, 5⟩, 4)]
    ready s 0x0205 q = true ∧ s.stranded 511 .reset = true ∧ s.stranded 511 .tear = false := by
  refine ⟨fun e he p hp => ?_, by decide +kernel⟩
  have h : ∀ e ∈ [(0x0203, psRunning), (0x0203, psPaused), (0x0204, psPaused), (0x0204, psRunning), (0x0205, psFaulted),
      (0x0205, psBuilt), (0x0206, psResetting), (0x0206, psTearing)], ∀ p ∈ [0, 511], let q := host e.1 0x0C p []
    ready (pan p e.2 q) e.1 q = true ∧ (pan p e.2 q).pstate p = e.2 ∧ (pan p e.2 q).boltState ((pan p e.2 q).panelBolt p) ≠ 4 := by decide +kernel
  obtain ⟨h1, h2, h3⟩ := h e he p hp
  exact ⟨h1, h2, fun t => by simp [State.stranded, h3]⟩

theorem test_witness_panelQueries : let q := tenant 0x0207 0x0C 1 []
    ready (pan 1 psRunning q) 0x0207 q = true ∧ (pan 1 psRunning q).handle 1 < 2 ^ 32 := by decide +kernel

/-- FN_ASSIGN of function 0x12 below root port 15 to panel 1, and FN_RELEASE of it. -/
def aReq : OckReq := host 0x0208 0x0C 1 ([15, 0, 0x12, 0] ++ leBytes 4 0x3FFFF ++ leBytes 4 0x3FFFF ++ [1])
def rReq (rp : Nat) : OckReq := host 0x0209 0x0C 1 (leBytes 1 rp ++ [0, 0x12, 0])
def below (p v : Nat) : List (Reg × Fld × Nat) :=
  [(func0R 3 511, F.hpFunc0.V, v), (func0R 3 511, F.hpFunc0.RP, 15), (func0R 3 511, F.hpFunc0.RID, 0x12), (func0R 3 511, F.hpFunc0.PANEL, p),
   ({ kind := .hpCfg, i := 3 }, F.hpCfg.BIF, 2)]
theorem test_witness_functions : (∀ v ∈ [0, 1], let s := pan 1 psRunning aReq (below 1 v)
      ready s 0x0208 aReq = true ∧ (bifPorts (s.fld { kind := .hpCfg, i := 3 } F.hpCfg.BIF)).testBit (15 % 4) = true ∧ aReq.f 0 1 = 15 ∧
      aReq.f 4 4 ≤ aReq.f 8 4 ∧ aReq.f 8 4 < 2 ^ 18 ∧ aReq.f 12 1 ≤ 1 ∧ s.panelGone 1 = false ∧
      (∀ e, e < 512 → s.flag (func0R 3 e) F.hpFunc0.V = true → s.fld (func0R 3 e) F.hpFunc0.RP = 15 → s.fld (func0R 3 e) F.hpFunc0.PANEL = 1) ∧
      (v = 1 → s.flag (func0R 3 511) F.hpFunc0.V = true ∧ s.fld (func0R 3 511) F.hpFunc0.RP = 15 ∧ s.fld (func0R 3 511) F.hpFunc0.RID = 0x12) ∧
      (v = 0 → ∀ e, e < 512 → s.flag (func0R 3 e) F.hpFunc0.V = false)) ∧
    (∀ rp ∈ [15, 16], ready (pan 1 psRunning (rReq rp) (below 1 1)) 0x0209 (rReq rp) = true) ∧
    (∀ p ∈ [1, 2], (pan 1 psRunning (rReq 15) (below p 1)).funcAt 15 0x12 = some 511 ∧
      (pan 1 psRunning (rReq 15) (below p 1)).fld (func0R 3 511) F.hpFunc0.PANEL = p) ∧
    (pan 1 psRunning (rReq 15) (below 1 0)).funcAt 15 0x12 = none := by decide +kernel
theorem test_witness_notMuted : ∀ o, (pan 1 psRunning (rReq 15) (below 1 1)).muted o = false := by intro o; cases o <;> rfl

/-- A notice of module 0x100's panel 7 to panel 1, which shares its fate or does not. -/
def nReq (ev : Nat) : OckReq := reqOf (.weft 0x100 0 none) (0x100 * 512 + 7) 0x0220 0x0C 1 (zeros 4 ++ leBytes 1 ev)
def member (ev m fate : Nat) : State :=
  (pan 1 psRunning (nReq ev) [({ kind := .cutContract, i := 1 }, ⟨50, 50⟩, fate)]).setPanel 1 { PanelSt.init with members := [(m, 7)] }
theorem test_witness_memberEvents : (∀ ev ∈ [1, 7], ∀ fate ∈ [0, 1], let s := member ev 0x100 fate
      ready s 0x0220 (nReq ev) = true ∧ (nReq ev).via = .weft 0x100 0 none ∧ (nReq ev).f 4 1 = ev ∧ s.panelGone 1 = false ∧
      (s.ct 1 6 1).testBit 2 = (fate == 1) ∧ (∃ e ∈ (s.panel 1).members, e.1 = 0x100 ∧ e.1 * 512 + e.2 = hdRequester (nReq ev).head)) ∧
    ready (member 1 0x101 0) 0x0220 (nReq 1) = true ∧
    ¬(∃ e ∈ ((member 1 0x101 0).panel 1).members, e.1 = 0x100 ∧ e.1 * 512 + e.2 = hdRequester (nReq 1).head) := by decide +kernel

def cReq (c : List Byte) : OckReq := host 0x0301 0x0C 1 c
theorem test_witness_contractCommands : (∀ e ∈ [(con 0 0, psRunning), (con 1 0, psRunning), (con 0 1, psRunning), (con 1 1, psBuilt), (con 0 0, psTearing)],
      let s := pan 1 e.2 (cReq e.1)
      ready s 0x0301 (cReq e.1) = true ∧ s.panelGone 1 = (e.2 == psTearing) ∧ s.pstate 1 = e.2 ∧ field (s.contract 1) 6 1 % 4 = 0 ∧ field (s.contract 1) 19 1 = 0 ∧
      (off s (cReq e.1)).conRefuse 1 e.1 = none) ∧
    (∃ o, (off (pan 1 psRunning (cReq (zeros 64))) (cReq (zeros 64))).conRefuse 1 (zeros 64) = some (.no stBadParam (po o) 0)) ∧
    (let q := tenant 0x0302 0x0C 1 []
     ready (pan 1 psRunning q) 0x0302 q = true) := by
  refine ⟨?_, ⟨4, ?_⟩, by decide +kernel⟩
  · have h : ∀ e ∈ [(con 0 0, psRunning), (con 1 0, psRunning), (con 0 1, psRunning), (con 1 1, psBuilt), (con 0 0, psTearing)], let s := pan 1 e.2 (cReq e.1)
      ready s 0x0301 (cReq e.1) = true ∧ s.panelGone 1 = (e.2 == psTearing) ∧ s.pstate 1 = e.2 ∧ field (s.contract 1) 6 1 % 4 = 0 ∧
      field (s.contract 1) 19 1 = 0 := by decide +kernel
    intro e he
    refine ⟨(h e he).1, (h e he).2.1, (h e he).2.2.1, (h e he).2.2.2.1, (h e he).2.2.2.2, conSum_none ?_ ?_⟩
    · revert e; decide +kernel
    · revert e; decide +kernel
  · simp only [State.conRefuse, show (off (pan 1 psRunning (cReq (zeros 64))) (cReq (zeros 64))).conBad (zeros 64) = some 4 by decide +kernel]

theorem test_witness_cutterCommands : (∀ e ∈ [(0, 0, 0), (1, 0, 0), (2, 15, 1), (2, 0, 511), (3, 0, 0)],
      let q := host 0x0303 1 191 (leBytes 1 e.1 ++ leBytes 1 e.2.1 ++ leBytes 2 e.2.2)
      let s := (pan 1 psRunning q [({ kind := .hubBoltcfg }, F.hubBoltcfg.CUR, 0)]).setPanel 1 { PanelSt.init with seats := 16 }
      ready s 0x0303 q = true ∧ q.f 0 1 = e.1 ∧ q.f 1 1 = e.2.1 ∧ q.f 2 2 = e.2.2 ∧ s.panelGone e.2.2 = (e.2.2 != 1) ∧ 15 < (s.panel 1).seats ∧
      s.panelBolt 1 = s.boltOf 191) ∧
    (let q := host 0x0303 1 191 [2, 0, 1, 0]
     let s := (pan 1 psRunning q [({ kind := .hubBoltcfg }, F.hubBoltcfg.CUR, 1), ({ kind := .hubBoltstat }, ⟨15, 13⟩, 1)]).setPanel 1
       { PanelSt.init with seats := 16 }
     ready s 0x0303 q = true ∧ s.panelGone 1 = false ∧ 0 < (s.panel 1).seats ∧ s.panelBolt 1 ≠ s.boltOf 191) ∧
    (∀ e ∈ [(0, 504), (511, 1), (512, 1), (511, 2), (0, 505), (0, 0)], let q := host 0x0304 7 0 (leBytes 2 e.1 ++ leBytes 2 e.2)
      ready (pan 1 psRunning q) 0x0304 q = true ∧ q.f 0 2 = e.1 ∧ q.f 2 2 = e.2) := by decide +kernel


/-! ### Ockar: memory -/

/-- GRANT of `n` granules to panel 1, which holds two of the three of its contract, and may have one mirrored and one of CXL memory. -/
def gReq (n kind mir sp : Nat) : OckReq := host 0x0401 0x0C 1 (leBytes 4 n ++ leBytes 1 kind ++ [7] ++ leBytes 1 mir ++ leBytes 1 sp)
def grants (q : OckReq) (st : Nat := psRunning) : State :=
  pan 1 st q [({ kind := .cutContract, i := 1, j := 1 }, ⟨63, 0⟩, 3 + 2 ^ 32), ({ kind := .cutContract, i := 1, j := 5 }, ⟨31, 0⟩, 1)]
theorem noCxl {s : State} (h : ∀ r < 8, s.flag { kind := .hpHdm, i := r } F.hpHdm.EN = false) {mir : Bool} {n : Nat} (hn : 0 < n) :
    (s.findRun true mir n).1 = none := by
  have hd : ∀ off : Nat, (State.freeNat s).2.hdmOf off = none := by
    intro off
    have : s.hdmOf off = none := by
      simp only [State.hdmOf, List.find?_eq_none, List.mem_range, Bool.and_eq_true, not_and]
      intro r hr hf; rw [h r hr] at hf; exact absurd hf.1 Bool.false_ne_true
    exact this
  have hf : ∀ k, (State.freeNat s).2.fits true mir k n = false := by
    intro k
    cases hc : isCxl k with
    | false => simp [State.fits, hc]
    | true =>
      simp only [State.fits, Bool.and_eq_false_iff, List.all_eq_false, List.mem_range]
      refine .inr ⟨0, hn, ?_⟩
      simp [State.isFree, State.granuleExists, hc, hd]
  simp only [State.findRun, hf, if_false, Bool.false_eq_true, if_true, Option.map_eq_none_iff, List.find?_eq_none]
  intro x _; simp
theorem test_witness_granuleGrants : (∀ e ∈ [(1, kOwned, 0, 0), (2, kStage, 0, 0), (1, kOwned, 1, 0), (1, kOwned, 0, 1), (2, kOwned, 0, 1)],
      let q := gReq e.1 e.2.1 e.2.2.1 e.2.2.2
      let s := grants q
      ready s 0x0401 q = true ∧ q.f 0 4 = e.1 ∧ q.f 4 1 = e.2.1 ∧ q.f 5 1 = 7 ∧ q.f 6 1 = e.2.2.1 ∧ q.f 7 1 = e.2.2.2 ∧ s.panelGone 1 = false ∧
      (e.2.2.2 = 0 → (((off s q).granted 1).length + e.1 ≤ s.ct 1 8 4 ↔ e.1 = 1)) ∧
      (e.2.2.2 = 1 → (((off s q).held 1 true [kOwned]).length + e.1 ≤ s.ct 1 40 4 ↔ e.1 = 1)) ∧
      (e.2.2.1 = 1 → (((off s q).granted 1).filter fun g => potMir (s.potEntry g)).length + e.1 ≤ s.ct 1 12 4)) ∧
    (grants (gReq 1 kOwned 0 0) psTearing).panelGone 1 = true ∧
    (∀ mir, ∃ g, ((off (grants (gReq 1 kOwned 0 0)) (gReq 1 kOwned 0 0)).findRun false mir 1).1 = some g) ∧
    ((off (grants (gReq 1 kOwned 0 1)) (gReq 1 kOwned 0 1)).findRun true false 1).1 = none := by
  refine ⟨by decide +kernel, by decide +kernel, fun mir => run_of (i := 9) (by decide +kernel) (by cases mir <;> decide +kernel),
    noCxl (by decide +kernel) (by decide)⟩

def relReq (a n : Nat) : OckReq := host 0x0402 0x0C 1 (leBytes 8 a ++ leBytes 4 n)
theorem test_witness_releases : (∀ e ∈ [(0, 2), (1, 1), (0x10000, 2)], ready (pan 1 psRunning (relReq e.1 e.2)) 0x0402 (relReq e.1 e.2) = true) ∧
    (∀ h ∈ runOf 0 2, (off (pan 1 psRunning (relReq 0 2)) (relReq 0 2)).releasable 1 h = true) ∧
    (∃ h ∈ runOf 1 2, (off (pan 1 psRunning (relReq 0x10000 2)) (relReq 0x10000 2)).releasable 1 h = false) := by decide +kernel

def potReq (g n : Nat) : OckReq := host 0x0403 0x0D 0 (leBytes 8 (g * 65536) ++ leBytes 2 n)
theorem test_witness_potReads : (∀ e ∈ [(0, 0), (0, 2016), (0, 2017), (204799, 1), (204799, 2)],
      ready (pan 1 psRunning (potReq e.1 e.2)) 0x0403 (potReq e.1 e.2) = true) ∧
    (∀ h ∈ runOf 204799 1, h < (pan 1 psRunning (potReq 0 1)).protTop / 65536) ∧
    (∃ h ∈ runOf 204799 2, (pan 1 psRunning (potReq 0 1)).protTop / 65536 ≤ h ∧ isCxl h = false) ∧
    (pan 1 psRunning (potReq 0 1)).reservedGranule ≤ 204799 := by decide +kernel

/-- A shootdown of granule 0 waits for an agent; an access of agent 193 to it is open or not. -/
def shot (busy : Bool) (w : List Nat) : State :=
  let s := { zero with shoots := [⟨[(0, 0)], w, none⟩] }
  if busy then s.setReq 193 0 (some (miss .rdio)) else s
theorem test_witness_shootdownAcks : (∀ busy ∈ [true, false], ∀ w ∈ [[193], [0, 193]], (shot busy w).shoots = ⟨[(0, 0)], w, none⟩ :: [] ∧ 193 ∈ w ∧
    (shot busy w).oldAccess 193 [0] = busy ∧ (w.filter (· ≠ 193) = [] ↔ w = [193])) ∧ (0 : Agent).val < 192 := by decide +kernel

/-- L3_LOCK of granules 0 and 1 to panel 1, whose MINW is given. -/
def lockReq (n w : Nat) : OckReq := host 0x0404 0x0C 1 (leBytes 8 0 ++ leBytes 4 n ++ leBytes 1 w)
def locks (n w minw : Nat) : State := pan 1 psRunning (lockReq n w) [({ kind := .cutContract, i := 1, j := 2 }, ⟨23, 16⟩, minw)]
theorem choice_free {s : State} (h : ∀ e ∈ s.regs, 0x7F0020008800 ≤ e.1 → e.1 < 0x7F0020C08800 → F.wrpL3way.LOCK.get (e.2 % 2 ^ 32) = 0) {t : Nat}
    (ht : t < 192) (w : Nat) :
    s.lockChoice t w = (((List.range 16).reverse.filter fun i => !bit 0 i).take w).foldl (fun m i => m + 2 ^ i) 0 := by
  simp only [State.lockChoice, noLocks h ht]
theorem test_witness_wayLocks :
    (∀ e ∈ [(2, 0), (2, 8), (2, 9), (3, 8)], ready (locks e.1 e.2 0) 0x0404 (lockReq e.1 e.2) = true) ∧
    (let u := off (locks 2 8 0) (lockReq 2 8)
     let tiles := u.sliceList (u.panelBolt 1)
     (∀ h ∈ runOf 0 2, owns u h 1 kOwned ∨ owns u h 1 kStage) ∧ (∃ h ∈ runOf 0 3, ¬owns u h 1 kOwned ∧ ¬owns u h 1 kStage) ∧ u.panelGone 1 = false ∧
     tiles ≠ [] ∧ (∀ t ∈ tiles, t < 192) ∧ (∀ t ∈ tiles, popWays (u.lockChoice t 8) = 8 ∧ ∀ o ∈ u.boltPanels (u.panelBolt 1),
       u.ct o 18 1 ≤ popWays ((u.fld { kind := .wrpL3way, i := t, j := o } F.wrpL3way.ALLOC &&& (0xFFFF - u.lockChoice t 8)) |||
         (u.fld { kind := .wrpL3way, i := t, j := o } F.wrpL3way.LOCK ||| if o = 1 then u.lockChoice t 8 else 0)))) ∧
    (let u := off (locks 2 8 17) (lockReq 2 8)
     ¬(∀ t ∈ u.sliceList (u.panelBolt 1), ∀ o ∈ u.boltPanels (u.panelBolt 1), u.ct o 18 1 ≤
       popWays ((u.fld { kind := .wrpL3way, i := t, j := o } F.wrpL3way.ALLOC &&& (0xFFFF - u.lockChoice t 8)) |||
         (u.fld { kind := .wrpL3way, i := t, j := o } F.wrpL3way.LOCK ||| if o = 1 then u.lockChoice t 8 else 0)))) ∧
    (let q := host 0x0405 0x0C 1 []
     ready (pan 1 psRunning q) 0x0405 q = true ∧ (∀ t ∈ (off (pan 1 psRunning q) q).boltCores ((off (pan 1 psRunning q) q).panelBolt 1), t < 192)) := by
  have hk : ∀ minw ∈ [0, 17], ∀ e ∈ (off (locks 2 8 minw) (lockReq 2 8)).regs, 0x7F0020008800 ≤ e.1 → e.1 < 0x7F0020C08800 →
      F.wrpL3way.LOCK.get (e.2 % 2 ^ 32) = 0 := by decide +kernel
  have ht : ∀ minw ∈ [0, 17], ∀ t ∈ (off (locks 2 8 minw) (lockReq 2 8)).sliceList ((off (locks 2 8 minw) (lockReq 2 8)).panelBolt 1), t < 192 := by
    decide +kernel
  have hp : ∀ minw ∈ [0, 17], (off (locks 2 8 minw) (lockReq 2 8)).boltPanels ((off (locks 2 8 minw) (lockReq 2 8)).panelBolt 1) = [1] := by decide +kernel
  refine ⟨by decide +kernel, ⟨by unfold owns; decide +kernel, by unfold owns; decide +kernel, by decide +kernel, by decide +kernel, ht 0 (by decide), ?_⟩, ?_,
    by decide +kernel⟩
  · intro t h
    rw [choice_free (hk 0 (by decide)) (ht 0 (by decide) t h), hp 0 (by decide)]
    refine ⟨by decide +kernel, fun o ho => ?_⟩
    simp only [List.mem_singleton] at ho
    subst ho
    rw [show (off (locks 2 8 0) (lockReq 2 8)).ct 1 18 1 = 0 by decide +kernel]
    exact Nat.zero_le _
  · show ¬_
    intro h
    have := h 0 (by decide +kernel) 1 (by rw [hp 17 (by decide)]; decide)
    rw [choice_free (hk 17 (by decide)) (by decide)] at this
    revert this; decide +kernel

theorem test_witness_waysCleaned : let s := zero.setTile 191 { TileSt.init with clean := [⟨0xFF00, 0⟩] }
    (s.tile 191).clean = ⟨0xFF00, 0⟩ :: [] ∧ s.thm.jobs = [] ∧ (zero.tile 191).clean = [] ∧
    (s.setFld { kind := .wrpCctl, i := 191 } F.wrpCctl.L3_EN 1).l3On 191 = true := by decide +kernel
theorem test_witness_rising : rising zero ∧ noStale zero := ⟨by unfold rising; decide +kernel, noStale_of (by decide +kernel)⟩

def invReq (a n : Nat) : OckReq := host 0x0406 0x0D 0 (leBytes 8 a ++ leBytes 4 n)
theorem test_witness_rangeInvalidation : (∀ e ∈ [(1, 1), (0, 0), (0, 2), (204799 * 65536, 1)], ready (pan 1 psRunning (invReq e.1 e.2)) 0x0406 (invReq e.1 e.2) = true) ∧
    (∀ h ∈ runOf 0 2, (pan 1 psRunning (invReq 0 2)).granuleExists h = true) ∧
    (∃ h ∈ runOf 204799 1, (pan 1 psRunning (invReq 0 2)).granuleExists h = false) ∧
    (let j : Job := ⟨0, invReq 0 2, [0, 2], 0⟩
     let s : State := { zero with thm := { zero.thm with jobs := [j] } }
     s.thm.jobs = [j] ∧ j.data = [0, 2] ∧ j.op = 0x0406 ∧ s.rangeBusy (runOf 0 2) = false ∧
     ({ sCoh.setDir 0 0 { DirEnt.free with busy := some 0 } with thm := { zero.thm with jobs := [j] } } : State).rangeBusy (runOf 0 2) = true) := by
  decide +kernel

/-- CACHE_DISABLE or CACHE_ENABLE of a cache of tile 191, whose caches are enabled or not. -/
def cacheReq (op k : Nat) : OckReq := host op 2 191 (leBytes 1 k)
theorem test_witness_cacheCommands : (∀ op ∈ [0x0407, 0x0408], ∀ k ∈ [0, 3, 4], ∀ v ∈ [0, 1], let s := asked (cacheReq op k) (set [(cctlR 191, enableBit k, v)])
    ready s op (cacheReq op k) = true ∧ (cacheReq op k).f 0 1 = k ∧ s.fld (cctlR 191) (enableBit k) = v) := by decide +kernel
theorem test_witness_arraysReady : (let s := (set [(cctlR 191, F.wrpCctl.INV_L3, 1), (cctlR 191, F.wrpCctl.INV_L2, 0),
      (cctlR 191, F.wrpCctl.INV_L1, 0)]).setTile 191 { TileSt.init with enable := 8 }
    s.thm.jobs = [] ∧ (∀ i ∈ [F.wrpCctl.INV_L3, F.wrpCctl.INV_L2, F.wrpCctl.INV_L1], i ≠ F.wrpCctl.INV_L3 → s.flag (cctlR 191) i = false) ∧
    bit (s.tile 191).enable 3 = true) ∧ (zero.tile 191).snpQ = [] ∧ (zero.tile 191).homeQ = [] ∧ (zero.tile 191).enable = 0 := by decide +kernel
theorem test_witness_invalidationEnds : ∀ op ∈ [0x0407, 0x0408], ∀ k ∈ [0, 1, 2, 3], let j : Job := ⟨0, cacheReq op k, [191, k, 1], 0⟩
    (j.op = 0x0407 ∨ j.op = 0x0408) ∧ j.data = [(191 : Tile).val, k, 1] ∧ (set [(cctlR 191, F.wrpCctl.INV_L1, 0)]).flag (cctlR 191) F.wrpCctl.INV_L1 = false := by decide +kernel

theorem test_witness_memorySettings :
    (∀ q ∈ [host 0x0409 0x0D 0 [2], host 0x0409 0x0D 0 [3], host 0x040A 0x0D 0 [1, 1, 0, 1], host 0x040A 0x0D 0 [3, 1, 4, 0], host 0x040A 0x0D 0 [4, 0, 0, 0],
        host 0x040B 0x0D 0 ([1, 0, 3, 0] ++ zeros 8), host 0x040B 0x0D 0 ([15, 3, 3, 0] ++ leBytes 4 0 ++ leBytes 4 1), host 0x040B 0x0D 0 ([16, 0, 0, 0] ++ zeros 8),
        host 0x040B 0x0D 0 ([1, 2, 3, 0] ++ leBytes 4 0 ++ leBytes 4 204799), host 0x040C 3 12 (leBytes 4 4194303), host 0x040D 3 23 [1], host 0x040D 3 23 [168],
        host 0x040D 3 23 [169], host 0x040E 5 7 ([1, 0] ++ leBytes 2 0 ++ leBytes 2 0x3FFF), host 0x040E 5 8 ([1, 0] ++ zeros 4),
        host 0x040F 5 15 [4, 2, 5, 1, 1], host 0x040F 5 15 [5, 0, 0, 0, 0]], ready (pan 1 psRunning q) q.op q = true) ∧
    (pan 1 psEmpty (host 0x040C 3 12 (zeros 4))).tenantsEmpty = true ∧ (pan 1 psRunning (host 0x040C 3 12 (zeros 4))).tenantsEmpty = false ∧
    12 ∈ (pan 1 psRunning (host 0x040C 3 12 (zeros 4))).clist ∧ 1 < (pan 1 psRunning (invReq 0 2)).reservedGranule ∧
    (pan 1 psRunning (invReq 0 2)).reservedGranule ≤ 204799 ∧ 0 < (pan 1 psRunning (invReq 0 2)).protTop / 65536 ∧
    (let s := set [({ kind := .hpHdm, i := 7 }, F.hpHdm.EN, 1), ({ kind := .hpHdm, i := 7 }, F.hpHdm.LIMIT, 0x3FFF), (rpctlR 15, F.hpRpctl.EN, 1)] zero
     (s.hdmGranted 0 0x3FFF = false) ∧ ({ s with pot := [(cxlFirst, mkPot kOwned false true true true 1)] } : State).hdmGranted 0 0x3FFF = true ∧
     s.flag { kind := .hpHdm, i := 7 } F.hpHdm.EN = true ∧ s.fld { kind := .hpHdm, i := 7 } F.hpHdm.BASE = 0 ∧
     s.fld { kind := .hpHdm, i := 7 } F.hpHdm.LIMIT = 0x3FFF ∧ s.flag (rpctlR 15) F.hpRpctl.EN = true ∧ s.unitOut 5 15 = false) := by decide +kernel


/-! ### Ockar: the network engine -/

/-- Panel 1 runs with virtual port 9 and bobbin 16383 in a state, of a panel. -/
def nets (q : OckReq) (up : Nat := 1) (bob : Nat := 1) (st : Nat := bIdle) (owner : Nat := 1) (pst : Nat := psRunning) : State :=
  pan 1 pst q [(vpctlR 9, F.neVpctl.EN, up), (vpctlR 9, F.neVpctl.PANEL, owner), (bctlR 16383, F.neBctl.EN, bob), (bctlR 16383, F.neBctl.STATE, st),
    (bctlR 16383, F.neBctl.PANEL, owner), (bctlR 16383, F.neBctl.VP, 9)]
def vpReq (v : Nat) : OckReq := host 0x0501 0x0C 1 (leBytes 2 v ++ leBytes 2 4095 ++ leBytes 2 4095 ++ [3, 31] ++ leBytes 2 1023 ++ leBytes 2 16383 ++ [3] ++ zeros 3 ++
  leBytes 8 (2 ^ 63 + 0x20) ++ zeros 56 ++ leBytes 2 0x8FFF ++ zeros 14)
theorem test_witness_virtualPorts :
    (∀ v ∈ [9, 4095, 4096], ready (nets (vpReq v)) 0x0501 (vpReq v) = true ∧ (vpReq v).f 0 2 = v) ∧
    (let q := vpReq 9
     q.f 2 2 < 4096 ∧ q.f 4 2 < 4096 ∧ q.f 6 1 < 4 ∧ q.f 7 1 < 32 ∧ q.f 8 2 < 1024 ∧ q.f 10 2 < 16384 ∧ q.f 12 1 < 4 ∧
     (∀ k, k < 8 → q.f (16 + 8 * k) 8 / 2 ^ 48 % 2 ^ 15 = 0 ∧ q.f (80 + 2 * k) 2 / 2 ^ 12 % 8 = 0) ∧ (nets q).vpUp 9 = true ∧
     (nets q 0).vpUp 9 = false ∧ (nets q).panelGone 1 = false) ∧
    (∀ op ∈ [0x0502, 0x0503], let q := host op 0x0C 1 (leBytes 2 9)
     ready (nets q) op q = true ∧ (nets q).vpUp 9 = true ∧ (nets q).vpPanel 9 = 1 ∧ ready (nets q 0) op q = true ∧ (nets q 0).vpUp 9 = false) ∧
    (let q := tenant 0x0503 0x0C 1 (leBytes 2 9)
     ready (nets q 1 1 bIdle 2) 0x0503 q = true ∧ (nets q 1 1 bIdle 2).vpPanel 9 ≠ 1 ∧ q.isPanel = true ∧ q.isHost = false) := by decide +kernel

def rmacs (n : Nat) (s : State) : State := { s with net := { s.net with rmacs := List.replicate n ⟨0, 0, 1, 0, 0⟩ } }
theorem test_witness_hostTables :
    (∀ e ∈ [(4095, 1), (4095, 0), (4096, 1)], let q := host 0x0504 6 0 (leBytes 2 e.1 ++ leBytes 2 4095 ++ leBytes 6 0x20 ++ leBytes 2 4095 ++ leBytes 2 4095 ++ leBytes 1 e.2)
     ready (nets q) 0x0504 q = true ∧ q.f 0 2 = e.1 ∧ q.f 14 1 = e.2 ∧ q.f 2 2 < 4096 ∧ q.f 10 2 < 4096 ∧ q.f 12 2 < 4096) ∧
    (∀ n ∈ [0, 1, 1023, 1024], let q := host 0x0509 6 0 (leBytes 2 n ++ zeros 20 ++ leBytes 2 7 ++ zeros 33 ++ [63] ++ zeros 3 ++ [8] ++ zeros 74)
     ready (nets q) 0x0509 q = true ∧ q.f 0 2 = n ∧ q.f 22 2 < 8 ∧ q.f 57 1 < 64 ∧ q.f 61 1 ≤ 8) ∧
    (∀ e ∈ [(15, 1), (15, 0), (16, 0)], let q := host 0x050E 6 0 (leBytes 1 e.1 ++ leBytes 1 e.2 ++ zeros 30)
     ready (nets q) 0x050E q = true ∧ q.f 0 1 = e.1 ∧ q.f 1 1 = e.2) ∧
    (∀ e ∈ [(2 ^ 24 - 1, 1), (2 ^ 24 - 1, 0), (2 ^ 24, 0)], let q := host 0x050F 6 0 (leBytes 4 e.1 ++ leBytes 2 4095 ++ leBytes 1 e.2)
     ready (nets q) 0x050F q = true ∧ q.f 0 4 = e.1 ∧ q.f 4 2 = 4095 ∧ q.f 6 1 = e.2) := by decide +kernel
/-- Full tables. -/
theorem test_witness_fullTables : 32768 ≤ ((rmacs 32768 zero).net.rmacs.filter fun x => x.swd ≠ 4095 ∨ x.vlan ≠ 4095 ∨ x.mac ≠ 0x20).length ∧
    (∀ m : SMap (Option Nat), SMap.find m 5 = none → SMap.remove m 5 = m) ∧
    ((List.range 4096).map fun k => (k + 6, some (0 : Nat))).length = 4096 := by
  refine ⟨?_, fun m => ?_, by rw [List.length_map, List.length_range]⟩
  · simp only [rmacs, List.filter_replicate]
    refine Nat.le_of_eq ?_
    rw [if_pos (by decide), List.length_replicate]
  · induction m with
    | nil => intro _; rfl
    | cons e m ih =>
      intro h
      simp only [SMap.find] at h
      split at h
      · cases h
      · rename_i he; simp only [SMap.remove, if_neg he, ih h]

/-- FLOW_ADD of a rule of 40 zero bytes but DIR, VP, and of an action. -/
def flowReq (who : Nat → Nat → Nat → List Byte → OckReq) (dir act target : Nat) : OckReq :=
  who 0x0505 6 0 (zeros 37 ++ leBytes 1 dir ++ leBytes 2 9 ++ leBytes 2 act ++ leBytes 2 target ++ leBytes 2 4095 ++ leBytes 2 1023)
def flowAt (key : List Byte) (way : Nat) : FlowEnt :=
  { index := 4 * ((crc32c key).toNat % 16384) + way, key := key, act := 16, target := 0, meter := 0, tmpl := 0, pkts := 0, bytes := 0 }
def withFlows (l : List FlowEnt) (s : State) : State := { s with net := { s.net with flows := l, meters := [(4095, ⟨0, 0, 0, 1, 0⟩)] } }
theorem test_witness_flowAdd :
    (∀ e ∈ [(1, 17, 16383), (0, 17, 4095), (0, 24, 0), (1, 20, 0), (1, 18, 0)], ∀ w ∈ [host, tenant], let q := flowReq w e.1 e.2.1 e.2.2
      ready (withFlows [] (nets q)) 0x0505 q = true ∧ q.f 37 1 = e.1 ∧ q.f 38 2 = 9 ∧ q.f 40 1 = e.2.1 ∧ q.f 42 2 = e.2.2 ∧ q.f 44 2 < 4096 ∧ q.f 46 2 < 1024 ∧
      (withFlows [] (nets q)).vpUp 9 = true ∧ (withFlows [] (nets q)).vpPanel 9 = 1 ∧ ((withFlows [] (nets q)).meter 4095).panel = 1) ∧
    (let q := flowReq host 1 25 0
     ready (nets q) 0x0505 q = true ∧ (25 : Nat).testBit 3 = true ∧ 25 % 8 ≠ 0) ∧
    (let s := nets (flowReq host 1 17 16383)
     s.flag (bctlR 16383) F.neBctl.EN = true ∧ s.fld (bctlR 16383) F.neBctl.VP = 9 ∧ s.bobPanel 16383 = 1) ∧
    (nets (flowReq host 1 17 16383) 1 0).flag (bctlR 16383) F.neBctl.EN = false ∧
    (let q := flowReq tenant 1 18 0
     (nets q 0).vpUp 9 = false ∧ q.isHost = false ∧ q.panel = some 1 ∧ (nets q 1 1 bIdle 2).bobPanel 16383 ≠ 1) ∧
    (let key := (flowReq host 1 18 0).payload.take 40
     (∃ way, way < 4 ∧ ∀ e ∈ ([0, 1, 2].map (flowAt key)), e.index ≠ 4 * ((crc32c key).toNat % 16384) + way) ∧
     ¬(∃ way, way < 4 ∧ ∀ e ∈ ([0, 1, 2, 3].map (flowAt key)), e.index ≠ 4 * ((crc32c key).toNat % 16384) + way) ∧
     (flowAt key 3).index / 4 = (crc32c key).toNat % 16384) := by decide +kernel
def fr (who : Nat → Nat → Nat → List Byte → OckReq) (op i : Nat) : OckReq := who op 6 0 (leBytes 4 i)
theorem test_witness_flowDelRead : let e : FlowEnt := { index := 65535, key := zeros 38 ++ [9, 0], act := 16, target := 0, meter := 0, tmpl := 0, pkts := 0, bytes := 0 }
    (∀ w ∈ [host, tenant], ∀ o ∈ [1, 2], let s := withFlows [e] (nets (fr w 0x0506 65535) 1 1 bIdle o)
      ready s 0x0506 (fr w 0x0506 65535) = true ∧ (fr w 0x0506 65535).f 0 4 = 65535 ∧ s.vpPanel (field e.key 38 2) = o) ∧
    ready (nets (fr host 0x0506 65536)) 0x0506 (fr host 0x0506 65536) = true ∧
    ready (withFlows [e] (nets (fr host 0x0507 65535))) 0x0507 (fr host 0x0507 65535) = true ∧ e.key.length = 40 ∧
    ready (nets (fr host 0x0507 65535)) 0x0507 (fr host 0x0507 65535) = true ∧ (nets (fr host 0x0507 65535)).net.flows = [] := by decide +kernel

def meterReq (who : Nat → Nat → Nat → List Byte → OckReq) (m p : Nat) : OckReq := who 0x0508 6 0 (leBytes 2 m ++ leBytes 2 p ++ leBytes 4 1 ++ leBytes 4 1)
theorem test_witness_meters : (∀ e ∈ [(4095, 511), (4095, 512), (4096, 0)], ready (withFlows [] (nets (meterReq host e.1 e.2))) 0x0508 (meterReq host e.1 e.2) = true) ∧
    (let q := meterReq tenant 4095 0
     ready (withFlows [] (nets q)) 0x0508 q = true ∧ ((withFlows [] (nets q)).meter 4095).panel = 1 ∧ ((nets q).meter 4095).panel ≠ 1 ∧
     q.isHost = false ∧ q.panel = some 1 ∧ q.f 2 2 = 0) := by decide +kernel

def bobReq (b : Nat) : OckReq := host 0x050A 0x0C 1 (leBytes 2 b ++ leBytes 2 9 ++ [3, 1, 10, 10, 10, 0] ++ leBytes 2 2047)
def ringReq (a : Nat) : OckReq := host 0x050B 0x0C 1 (leBytes 2 16383 ++ zeros 6 ++ leBytes 8 a ++ leBytes 8 (a + 0x1000) ++ leBytes 8 (a + 0x2000))
theorem test_witness_bobbinCommands :
    (let q := bobReq 16383
     ready (nets q) 0x050A q = true ∧ q.f 0 2 = 16383 ∧ q.f 2 2 = 9 ∧ q.f 4 1 ≤ 3 ∧ (q.f 5 1 = 1 ∧ q.f 4 1 ≠ 0) ∧ q.f 6 1 ≤ 10 ∧ q.f 7 1 ≤ 10 ∧ q.f 8 1 ≤ 10 ∧
     q.f 10 2 < 2048 ∧ (nets q).vpUp 9 = true ∧ (nets q).vpPanel 9 = 1 ∧ (nets q).flag (bctlR 16383) F.neBctl.EN = true ∧
     (nets q 1 0).flag (bctlR 16383) F.neBctl.EN = false ∧ (nets q 1 0).panelGone 1 = false ∧ (nets q 0).vpUp 9 = false) ∧
    (∀ a ∈ [0, 1], ∀ st ∈ [bIdle, bRun], let s := nets (ringReq a) 1 1 st
      ready s 0x050B (ringReq a) = true ∧ s.flag (bctlR 16383) F.neBctl.EN = true ∧ s.bobPanel 16383 = 1 ∧ s.bobState 16383 = st ∧ (ringReq a).f 8 8 % 64 = a) ∧
    (let q := tenant 0x050C 0x0C 1 (leBytes 2 16383)
     ready (nets q) 0x050C q = true ∧ ready (nets q 1 1 bIdle 2) 0x050C q = true ∧ (nets q 1 1 bIdle 2).bobPanel 16383 ≠ 1 ∧ q.isPanel = true ∧ q.isHost = false ∧
     (nets q).bobState 16383 ≠ bResetting) ∧
    (let q := tenant 0x050B 0x0C 1 (ringReq 0).payload
     ready (nets q 1 1 bIdle 2) 0x050B q = true) := by decide +kernel
theorem test_witness_ringsOwned : let s := nets (ringReq 0)
    ringOwned s 1 0 (32 * s.sqSize 16383) ∧ ringOwned s 1 0x1000 (16 * s.rqSize 16383) ∧ ringOwned s 1 0x2000 (32 * s.cqSize 16383) := by
  have h : let s := nets (ringReq 0)
      (s.granuleExists 0 = true ∧ owns s 0 1 kOwned ∧ potR (s.potEntry 0) = true ∧ potW (s.potEntry 0) = true) ∧ 32 * s.sqSize 16383 = 2048 ∧
      16 * s.rqSize 16383 = 1024 ∧ 32 * s.cqSize 16383 = 2048 := by unfold owns; decide +kernel
  intro s
  obtain ⟨h0, h1, h2, h3⟩ := h
  refine ⟨?_, ?_, ?_⟩ <;>
  · intro g _ hg
    have : g = 0 := by
      have h1 : 32 * s.sqSize 16383 = 2048 := h1
      have h2 : 16 * s.rqSize 16383 = 1024 := h2
      have h3 : 32 * s.cqSize 16383 = 2048 := h3
      omega
    subst this; exact h0

def upReq (mode sub : Nat) : OckReq := host 0x050D 4 6 ([BitVec.ofNat 8 mode, 1, BitVec.ofNat 8 sub, 3] ++ leBytes 2 4095)
theorem test_witness_uplinkSettings : (∀ e ∈ [(0, 0), (1, 2), (1, 1), (2, 3), (2, 4), (3, 0)], ready (nets (upReq e.1 e.2)) 0x050D (upReq e.1 e.2) = true ∧
      (upReq e.1 e.2).f 0 1 = e.1 ∧ (upReq e.1 e.2).f 2 1 = e.2 ∧ (upReq e.1 e.2).f 1 1 = 1 ∧ (upReq e.1 e.2).f 3 1 ≤ 3 ∧ (upReq e.1 e.2).f 4 2 < 4096) ∧
    (nets (upReq 0 0)).fld (pctlR 6) F.wpPctl.ROLE = 2 ∧ (nets (upReq 0 0)).fld (pctlR 0) F.wpPctl.ROLE ≠ 2 := by decide +kernel


/-! ### Ockar: fabric, time and Tape -/

def fabReq (id k : Nat) : OckReq := host 0x0601 0x0D 0 (leBytes 2 id ++ List.replicate 3 (BitVec.ofNat 8 k) ++ [1] ++ zeros 2 ++ leBytes 8 9)
theorem test_witness_fabricShape : (∀ e ∈ [(0xFFF, 15), (0xFFF, 16), (0xFF8, 7), (0x777, 7)], ready (asked (fabReq e.1 e.2) zero) 0x0601 (fabReq e.1 e.2) = true ∧
      (fabReq e.1 e.2).f 0 2 = e.1 ∧ (fabReq e.1 e.2).f 2 1 = e.2 ∧ (fabReq e.1 e.2).f 4 1 = e.2 ∧ (fabReq e.1 e.2).f 5 1 = 1) := by decide +kernel

def portReq (role train : Nat) : OckReq := host 0x0602 4 0 [BitVec.ofNat 8 role, 0, 0, BitVec.ofNat 8 train]
theorem test_witness_portSettings : (∀ role ∈ [1, 2, 3], ∀ tr ∈ [0, 1], let s := asked (portReq role tr) (inState lsUp)
      ready s 0x0602 (portReq role tr) = true ∧ s.fld (pctlR 0) F.wpPctl.ROLE = 1 ∧ s.fld (pctlR 0) F.wpPctl.DIM = 0 ∧ s.portUp 0 = true ∧ s.unitOut 4 0 = false) ∧
    (portReq 2 1).f 0 1 = 2 ∧ (portReq 2 1).f 3 1 = 1 ∧ (portReq 1 0).f 3 1 = 0 := by decide +kernel

def exReq (w : Nat → Nat → Nat → List Byte → OckReq) (p a perm : Nat) : OckReq := w 0x0603 0x0C p (leBytes 8 a ++ leBytes 1 perm)
def unReq (w : Nat → Nat → Nat → List Byte → OckReq) (a : Nat) : OckReq := w 0x0604 0x0C 1 (leBytes 4 a)
theorem test_witness_exports :
    (∀ e ∈ [(0, 3), (1, 0), (0x20000, 0), (204800 * 65536, 0)], ready (pan 1 psRunning (exReq tenant 1 e.1 e.2)) 0x0603 (exReq tenant 1 e.1 e.2) = true) ∧
    (exReq tenant 1 0 3).isHost = false ∧ (exReq tenant 1 0 3).f 8 1 = 3 ∧
    ready (pan 1 psRunning (exReq host 1 0 0)) 0x0603 (exReq host 1 0 0) = true ∧ (exReq host 1 0 0).isHost = true ∧
    (let s := pan 1 psRunning (exReq tenant 1 0 3)
     s.panelGone 1 = false ∧ owns s 0 1 kOwned ∧ ¬owns s 2 1 kOwned ∧ 0x20000 < s.protTop ∧ s.protTop ≤ 204800 * 65536 ∧
     (SMap.get (fun _ => 0) s.weft.inmap 65535).testBit 63 = false) ∧
    (∀ k, k < 65536 → (SMap.get (fun _ => 0) ((List.range 65536).map fun k => (k, 2 ^ 63)) k).testBit 63 = true) ∧
    (∀ w ∈ [host, tenant], ∀ a ∈ [1, 0xFFFF0000], ready (pan 1 psRunning (unReq w a)) 0x0604 (unReq w a) = true) ∧
    (let s := (pan 1 psRunning (unReq host 0xFFFF0000)).setWeft fun x => { x with inmap := [(65535, 2 ^ 63 + 1 * 2 ^ 52)] }
     ready s 0x0604 (unReq host 0xFFFF0000) = true ∧ (SMap.get (fun _ => 0) s.weft.inmap 65535).testBit 63 = true ∧
     bits (SMap.get (fun _ => 0) s.weft.inmap 65535) 60 52 = 1) := by
  unfold owns
  refine ⟨by decide +kernel, by decide +kernel, by decide +kernel, by decide +kernel, by decide +kernel, by decide +kernel, fun k hk => ?_,
    by decide +kernel, by decide +kernel⟩
  simp only [SMap.get, find_range hk fun _ => 2 ^ 63, Option.getD_some]
  decide

def memReq (p m : Nat) : OckReq := host 0x0605 0x0C p (leBytes 2 m ++ leBytes 2 511 ++ [1])
theorem test_witness_members : (∀ m ∈ [4095, 4096], ready (pan 1 psRunning (memReq 1 m)) 0x0605 (memReq 1 m) = true ∧ (memReq 1 m).f 0 2 = m) ∧
    (memReq 1 4095).f 2 2 = 511 ∧ (memReq 1 4095).f 4 1 = 1 ∧ (pan 1 psRunning (memReq 1 4095)).panelGone 1 = false ∧
    (pan 1 psTearing (memReq 1 4095)).panelGone 1 = true := by decide +kernel

def barReq (ctx : Nat) : OckReq := host 0x0606 0x0C 1 ([255, BitVec.ofNat 8 ctx] ++ leBytes 2 4095 ++ leBytes 2 4096)
theorem test_witness_barriersAndRoutes : (∀ ctx ∈ [63, 64], ready (pan 1 psRunning (barReq ctx)) 0x0606 (barReq ctx) = true ∧ (barReq ctx).f 1 1 = ctx) ∧
    (barReq 63).f 2 2 < 4096 ∧ (barReq 63).f 4 2 = 4096 ∧ ((pan 1 psRunning (barReq 63)).panel 1).members = [] ∧
    ((member 1 0x100 0).panel 1).members ≠ [] ∧ (pan 1 psRunning (barReq 63)).panelGone 1 = false ∧
    (pan 1 psRunning (barReq 63)).fld (barR 255) F.wpBar.COUNT = 0 ∧
    (∀ w ∈ [host, tenant], ∀ p ∈ [1, 2], let q := w 0x0607 0x0C 1 [255]
      let s := pan 1 psRunning q [(barR 255, F.wpBar.COUNT, 1), (barR 255, F.wpBar.PANEL, p)]
      ready s 0x0607 q = true ∧ s.fld (barR 255) F.wpBar.COUNT ≠ 0 ∧ s.fld (barR 255) F.wpBar.PANEL = p) ∧
    (∀ d ∈ [4095, 4096], let q := host 0x0608 0x0D 0 (leBytes 2 d)
      ready (asked q zero) 0x0608 q = true ∧ q.f 0 2 = d) := by decide +kernel

theorem test_witness_timeCommands :
    (∀ v ∈ [3, 0, 1], let q := host 0x0701 9 0 (leBytes 4 v)
      ready (asked q zero) 0x0701 q = true ∧ F.tuCtrl.REFSEL.get (q.f 0 4) = v) ∧
    (∀ op ∈ [0x0702, 0x0703], ∀ e ∈ [(2 ^ 48 - 1, 999999999), (2 ^ 48, 0), (0, 1000000000)], let q := host op 9 0 (leBytes 8 e.1 ++ leBytes 4 e.2)
      ready (asked q zero) op q = true ∧ q.f 0 8 = e.1 ∧ q.f 8 4 = e.2) ∧
    zero.committed = false ∧ (set [(tuStatusR, F.tuStatus.COMMITTED, 1)]).committed = true ∧ zero.follower = false ∧
    (∀ p, p < 512 → zero.pstate p = psEmpty) ∧ (pan 1 psRunning (host 0x0706 9 0 [])).pstate 1 ≠ psEmpty ∧
    (∀ v ∈ [2 ^ 19 - 1, 2 ^ 19], let q := host 0x0704 9 0 (leBytes 4 v)
      ready (asked q zero) 0x0704 q = true ∧ q.f 0 4 = v) ∧
    (let q := host 0x0705 9 0 (leBytes 4 (2 ^ 32 - 1))
     ready (asked q zero) 0x0705 q = true) ∧
    ready (asked (host 0x0706 9 0 []) zero) 0x0706 (host 0x0706 9 0 []) = true := by decide +kernel

def sheets (seq : Nat) (recs : List (List Byte)) (s : State) : State :=
  { s with sw := { s.sw with pers := { s.sw.pers with seq := seq }, store := { s.sw.store with sheets := [⟨5, 9, [1], [2]⟩, ⟨4, 9, [1], [2]⟩] } }
           tape := { s.tape with records := [(5, recs)] } }
def shReq (by_ v : Nat) : OckReq := host 0x0801 8 0 (leBytes 1 by_ ++ zeros 7 ++ leBytes 8 v)
/-- The record of panel 1's build 0. -/
def rec1 : List Byte := leBytes 4 1 ++ zeros 252
def recReq (w : Nat → Nat → Nat → List Byte → OckReq) (seq p : Nat) : OckReq := w 0x0802 8 0 (leBytes 4 seq ++ leBytes 4 p ++ leBytes 8 0)
theorem test_witness_tapeFetches :
    (∀ e ∈ [(0, 5), (1, 9), (0, 3), (0, 6), (2, 0)], let s := asked (shReq e.1 e.2) (sheets 5 [rec1] zero)
      ready s 0x0801 (shReq e.1 e.2) = true ∧ (⟨5, 9, [1], [2]⟩ : Signed) ∈ s.sheets ∧ (⟨4, 9, [1], [2]⟩ : Signed) ∈ s.sheets ∧
      s.seqAbove 6 = true ∧ s.seqAbove 3 = false ∧ (∀ x ∈ s.sheets, x.seq ≠ 3) ∧ (∀ x ∈ s.sheets, x.seq ≠ 6)) ∧
    (∀ e ∈ [(5, 1), (5, 2), (6, 1), (4, 1)], let q := recReq tenant e.1 e.2
      let s := asked q (sheets 5 [zeros 256, rec1] zero)
      ready s 0x0802 q = true ∧ q.panel = some 1 ∧ q.isHost = false ∧ (q.f 4 4 = s.handle 1 ↔ e.2 = 1) ∧ q.f 8 8 = (s.panel 1).build ∧
      (5, [zeros 256, rec1]) ∈ s.tape.records ∧ (∀ x ∈ s.tape.records, x.1 = 5 → x.2 = [zeros 256, rec1]) ∧ (∀ x ∈ s.tape.records, x.1 ≠ 4)) ∧
    [zeros 256, rec1][1]? = some rec1 ∧ field rec1 0 4 = 1 ∧ field rec1 8 8 = 0 ∧ field (zeros 256) 0 4 ≠ 1 := by decide +kernel


/-! ### Ockar: attestation and firmware -/

def repReq (fl : Nat) : OckReq := host 0x0901 0x0C 1 (zeros 128 ++ leBytes 1 fl)
theorem test_witness_reportRequests : (∀ fl ∈ [0, 1, 2], ∀ st ∈ [psRunning, psFaulted, psBuilt], ready (pan 1 st (repReq fl)) 0x0901 (repReq fl) = true ∧
      (repReq fl).f 128 1 = fl ∧ (pan 1 st (repReq fl)).pstate 1 = st ∧ (pan 1 st (repReq fl)).thm.taint = false) := by decide +kernel
theorem test_witness_reportFields : (511 : Nat) < 512 ∧ (zeros 64).length = 64 ∧ (some (zeros 1184)) ≠ none := by decide +kernel

def offered (q : OckReq) (since stitch : Nat) : State :=
  (pan 1 psRunning q [({ kind := .tuStitch }, ⟨63, 0⟩, stitch)]).setPanel 1 { PanelSt.init with offer := some ⟨[1], [2], since⟩ }
def secReq (a : Nat) : OckReq := tenant 0x0903 0x0C 1 (zeros 1088 ++ leBytes 8 a)
theorem test_witness_tenantSecrets :
    (let q := tenant 0x0902 0x0C 1 []
     ready (offered q 0 0) 0x0902 q = true ∧ ((offered q 0 0).panel 1).offer = some ⟨[1], [2], 0⟩ ∧ ready (pan 1 psRunning q) 0x0902 q = true ∧
     ((pan 1 psRunning q).panel 1).offer = none) ∧
    (∀ a ∈ [0xFFC0, 0xFFC1, 0x20000], ready (offered (secReq a) 0 0) 0x0903 (secReq a) = true ∧ (secReq a).f 1088 8 = a) ∧
    (let s := offered (secReq 0xFFC0) 0 0
     s.granuleExists 0 = true ∧ owns s 0 1 kOwned ∧ potR (s.potEntry 0) = true ∧ potW (s.potEntry 0) = true ∧ ¬owns s 2 1 kOwned ∧
     potW (({ s with pot := [(0, mkPot kOwned false true false true 1)] } : State).potEntry 0) = false) ∧
    (∀ n ∈ [5999999, 6000000], ((offered (secReq 0) 0 n).stitch < 0 + 6000000 ↔ n = 5999999)) := by
  unfold owns
  refine ⟨by decide +kernel, by decide +kernel, by decide +kernel, by decide +kernel⟩

/-- The header of an image: a body of 64 bytes, one section, its hashes zero, SVN 1. -/
def hdr : List Byte :=
  [0x5A#8, 0x50, 0x46, 0x57] ++ leBytes 2 1 ++ leBytes 2 0 ++ leBytes 4 1 ++ leBytes 4 64 ++ zeros 144 ++ leBytes 2 1 ++ zeros 30 ++
    (leBytes 4 1 ++ leBytes 4 0 ++ leBytes 4 64 ++ zeros 4) ++ zeros 304
def image : SMap Byte := (List.range 512).map fun i => (i, hdr.getD i 0)
def bank : FlashBank := { FlashBank.erased with image := image }
theorem bank_image : bank.image = image := by simp only [bank]
theorem bank_shipped : bank.shipped = false := by simp only [bank, FlashBank.erased]
/-- An image passes every check of R373, if the opaque functions give the hashes zero and accept the signature. -/
theorem image_ok {s : State} {b : FlashBank} (hb : b.image = image) (hs : b.shipped = false) (hf : s.thm.fuses = zero.thm.fuses)
    (ho : s.thm.conf.ownerkey = []) (h1 : Config.shake256 (bank.read 512 64) 64 = zeros 64)
    (h2 : ∀ k, Config.shake256 (Config.fwKeys k) 64 = zeros 64) (h3 : ∀ k m s, Config.mlDsaVerify (Config.fwKeys k) m s = true) : s.checkImage b = 0 := by
  have eb : ∀ i n, b.read i n = bank.read i n := fun i n => by
    simp only [FlashBank.read, FlashBank.byte, hb, hs, bank_image, bank_shipped]
  have e0 : bank.read 0 512 = hdr := by
    have hl : hdr.length = 512 := by decide +kernel
    refine List.ext_getElem (by simp [FlashBank.read, hl]) fun i h1 h2 => ?_
    simp only [FlashBank.read, List.getElem_map, List.getElem_range, Nat.zero_add, FlashBank.byte, SMap.get]
    have hi : i < 512 := hl ▸ h2
    rw [show bank.image = image by simp only [bank], image, find_range hi fun i => hdr.getD i 0, Option.getD_some,
      List.getD_eq_getElem?_getD, List.getElem?_eq_getElem h2, Option.getD_some]
  have e1 : imgLen hdr = 64 := by decide +kernel
  have e3 : (hdr.drop 32).take 64 = zeros 64 := by decide +kernel
  have e2 : imgSigner hdr = some 0 := by
    have : (hdr.drop 96).take 64 = zeros 64 := by decide +kernel
    simp only [imgSigner, this, h2, beq_self_eq_true]
    rfl
  simp only [State.checkImage, eb, hf, ho, e0, e1, e2, e3, h1, h3]
  rw [if_neg (by decide +kernel), if_neg (by decide +kernel), if_neg (by decide +kernel), if_neg (by decide), if_neg (by decide +kernel),
    if_neg (by simp), if_neg (by decide +kernel)]
theorem test_witness_imageChecks (h1 : Config.shake256 (bank.read 512 64) 64 = zeros 64) (h2 : ∀ k, Config.shake256 (Config.fwKeys k) 64 = zeros 64)
    (h3 : ∀ k m s, Config.mlDsaVerify (Config.fwKeys k) m s = true) : zero.checkImage bank = 0 := image_ok bank_image bank_shipped rfl rfl h1 h2 h3

/-- Bank A runs; the update of bank B of 64 bytes, an erase, a check. -/
def updating (q : OckReq) (up : Option (Nat × Nat)) (er : Option Nat) (ck : Option (Nat × Nat)) (rec_ : Bool := false) : State :=
  asked q { zero with thm := { zero.thm with recovery := rec_, fw := { zero.thm.fw with update := up, erasing := er, checked := ck } } }
def ibReq (k n : Nat) : OckReq := host 0x0A01 0x0A 0 (leBytes 1 k ++ zeros 3 ++ leBytes 4 n)
def iwReq (k at_ n : Nat) : OckReq := host 0x0A02 0x0A 0 (leBytes 1 k ++ zeros 3 ++ leBytes 4 at_ ++ leBytes 2 n ++ zeros 22 ++ zeros n)
def ikReq (op k : Nat) : OckReq := host op 0x0A 0 (leBytes 1 k)
theorem test_witness_imageUpdates :
    (∀ e ∈ [(1, 64), (1, 130016256), (1, 0), (1, 65), (1, 130016320), (0, 64), (2, 64)], let s := updating (ibReq e.1 e.2) none none none
      ready s 0x0A01 (ibReq e.1 e.2) = true ∧ s.thm.recovery = false ∧ s.thm.fw.running = 0 ∧ s.thm.fw.erasing = none ∧ s.thm.fw.update = none) ∧
    (∀ e ∈ [(0, 1), (7189, 5), (7190, 5), (0, 0)], let s := updating (iwReq 1 e.1 e.2) (some (1, 64)) none none
      (0 < e.2 → ready s 0x0A02 (iwReq 1 e.1 e.2) = true) ∧ (e.1 + e.2 ≤ 512 + 64 + 6618 ∨ e.1 = 7190) ∧ s.thm.fw.update = some (1, 64)) ∧
    (let q := host 0x0A02 0x0A 0 ([1] ++ zeros 32)
     ready (updating q (some (1, 64)) none none) 0x0A02 q = true ∧ q.f 8 2 = 0) ∧
    (∀ op ∈ [0x0A03, 0x0A04], ∀ k ∈ [0, 1, 2], ready (updating (ikReq op k) (some (1, 64)) none none) op (ikReq op k) = true ∧
      ready (updating (ikReq op k) (some (0, 64)) (some 0) none) op (ikReq op k) = true ∧ ready (updating (ikReq op k) none none none true) op (ikReq op k) = true) ∧
    (∀ r ∈ [0, 7], (updating (ikReq 0x0A04 1) (some (1, 64)) none (some (1, r))).thm.fw.checked = some (1, r)) ∧
    ((updating (ikReq 0x0A04 1) (some (1, 64)) none none).bank 1).magic = false ∧
    (let j : Job := ⟨0, ibReq 1 64, [], 0⟩
     j.op = 0x0A01) := by decide +kernel

theorem test_witness_firmwareRuns :
    (∀ k ∈ [0, 1, 2], ∀ op ∈ [0x0A05, 0x0A06], ready (asked (ikReq op k) zero) op (ikReq op k) = true ∧ ready (pan 1 psRunning (ikReq op k)) op (ikReq op k) = true) ∧
    (∀ p, p < 512 → zero.pstate p = psEmpty) ∧ (pan 1 psRunning (ikReq 0x0A05 0)).pstate 1 ≠ psEmpty ∧
    (let q := host 0x0A07 0x0A 0 []
     ready (updating q none none none) 0x0A07 q = true ∧ ready (updating q none (some 1) none) 0x0A07 q = true) ∧
    (let q := oper 0x0A08 0x0A 0 []
     ready (asked q zero) 0x0A08 q = true ∧ ready (pan 1 psRunning q) 0x0A08 q = true ∧ q.via = .i3c (some 7)) := by decide +kernel


/-! ### Ockar: power, errors, the Swatch store, self-test -/

def domReq (d t : Nat) : OckReq := host 0x0B01 0x0D 0 (leBytes 2 d ++ leBytes 1 t)
def capReq (w : Nat) : OckReq := host 0x0B02 0x0D 0 (leBytes 2 w)
/-- Claim 3 names a domain. -/
def claimed (d : Nat) (s : State) : State := set [(claimR 3, F.pwrClaim.EN, 1), (claimR 3, F.pwrClaim.DOMAIN, d)] s
theorem test_witness_powerCommands :
    (∀ e ∈ [(424, 0), (424, 1), (424, 2), (424, 3), (425, 0), (383, 2), (384, 0), (387, 2), (388, 1), (388, 2), (192, 0), (192, 2), (191, 0), (191, 1),
        (191, 2), (0, 3), (0, 0)], ready (asked (domReq e.1 e.2) zero) 0x0B01 (domReq e.1 e.2) = true ∧ (domReq e.1 e.2).f 0 2 = e.1 ∧
      (domReq e.1 e.2).f 2 1 = e.2) ∧
    192 - 192 ∉ zero.noSlice ∧ 388 - 388 ∈ (runs (thread 0 [])).clist ∧
    (∃ v, v < 4096 ∧ (set [(vpctlR 4095, F.neVpctl.EN, 1)]).flag (vpctlR v) F.neVpctl.EN = true) ∧
    (∀ d ∈ [1, 191, 192, 424], zero.claims d = [] ∧ (claimed d zero).claims d ≠ [] ∧ zero.flag (dstatR d) F.pwrDstat.BUSY = false) ∧
    ((runs (thread 0 [])).core 1).seat.isSome = true ∧ (zero.core 191).seat = none ∧ (runs (thread 0 [])).claims 1 = [] ∧
    (∀ e ∈ [(1, 0), (1, 1), (1, 2)], ready (asked (domReq e.1 e.2) (runs (thread 0 []))) 0x0B01 (domReq e.1 e.2) = true) ∧
    (∀ t ∈ [0, 1, 2], t ≠ (set [(dstatR 191, F.pwrDstat.CUR, 2 - t / 2 * 2)]).fld (dstatR 191) F.pwrDstat.CUR) ∧ 191 ∉ zero.pwr.noRet ∧
    (∀ w ∈ [499, 500, 900, 901], ready (asked (capReq w) zero) 0x0B02 (capReq w) = true ∧ (capReq w).f 0 2 = w) := by
  refine ⟨by decide +kernel, by decide +kernel, by decide +kernel, ⟨4095, by decide +kernel, by decide +kernel⟩, by decide +kernel, by decide +kernel,
    by decide +kernel, by decide +kernel, by decide +kernel, by decide +kernel, by decide +kernel, by decide +kernel⟩

/-- Records of stitches 3, 5 and 9; the second names panel 1. -/
def rec_ (st fl p : Nat) : ErrRec := ⟨st, 0x0D000000, 1, 2, 0, fl, 0, p, 0, 1, zeros 16, 0, st⟩
def logged (q : OckReq) : State := asked q { zero with ras := { zero.ras with ring := [rec_ 9 0 0, rec_ 5 2 1, rec_ 3 2 2] } }
def errReq (w : Nat → Nat → Nat → List Byte → OckReq) (op cls idx st n : Nat) : OckReq := w op cls idx (leBytes 8 st ++ leBytes 1 n)
theorem test_witness_errorQueries :
    (∀ n ∈ [0, 1, 62, 63], (let q := errReq host 0x0C01 0x0D 0 4 n
       ready (logged q) 0x0C01 q = true ∧ q.f 8 1 = n ∧ q.f 0 8 = 4) ∧
      (let q := errReq tenant 0x0C02 0x0C 1 0 n
       ready (logged q) 0x0C02 q = true ∧ q.f 8 1 = n ∧ (logged q).handle q.tidx = 1)) ∧
    (rec_ 9 0 0).syndrome.length = 16 ∧
    (let q := host 0x0C03 0x0D 0 (leBytes 4 0)
     let s := asked q { zero with pot := [(7, mkPot kOffline false false false false 0)], toOffline := [3] }
     ready s 0x0C03 q = true ∧ (7, mkPot kOffline false false false false 0) ∈ s.pot ∧ 3 ∈ s.toOffline) := by decide +kernel
def svcReq (cls idx a : Nat) : OckReq := host 0x0C04 cls idx (leBytes 1 a)
def outOf (l : List (Nat × Nat)) (fused : List Nat) (q : OckReq) : State :=
  asked q { zero with outUnits := l.map fun e => unitId e.1 e.2, boot := { zero.boot with repairs := fused } }
theorem test_witness_unitsInAndOut :
    (∀ e ∈ [(1, 191), (2, 0), (3, 23), (0x0A, 0), (0x0B, 3)], ∀ a ∈ [0, 1, 2], (svcReq e.1 e.2 a).f 0 1 = a ∧
      ready (outOf [e] [] (svcReq e.1 e.2 a)) 0x0C04 (svcReq e.1 e.2 a) = true ∧ (outOf [e] [] (svcReq e.1 e.2 a)).unitOut e.1 e.2 = true ∧
      ready (outOf [] [] (svcReq e.1 e.2 a)) 0x0C04 (svcReq e.1 e.2 a) = true ∧ (outOf [] [] (svcReq e.1 e.2 a)).unitOut e.1 e.2 = false ∧
      (svcReq e.1 e.2 a).tcls = e.1 ∧ (svcReq e.1 e.2 a).tidx = e.2) ∧
    (let s := outOf [(1, 191)] [1 * 256 + 191] (svcReq 1 191 1)
     ready s 0x0C04 (svcReq 1 191 1) = true ∧ 1 * 256 + 191 ∈ s.boot.repairs ∧ s.unitOut 1 191 = true) := by decide +kernel

def returning (l : List Job) (rc : List Nat) : State := { zero with thm := { zero.thm with jobs := l, recon := rc } }
theorem test_witness_reconciliation :
    (∀ e ∈ [(3, 24), (3, 23), (0x0E, 0)], let id := (BitVec.ofNat 32 (e.1 * 2 ^ 24 + e.2)).toNat
      (unitCount (id / 2 ^ 24) ≤ id % 2 ^ 24 ↔ e ≠ (3, 23))) ∧
    (∀ j ∈ (returning [⟨0, host 0x0203 0x0C 2 [], [], 0⟩] []).thm.jobs, j.op ≠ 0x0C04) ∧
    (let j : Job := ⟨0, svcReq 3 23 1, [1], 0⟩
     (returning [j] []).thm.jobs = [j] ∧ j.op = 0x0C04 ∧ j.q.unit = 3 * 2 ^ 24 + 23 ∧ j.arg 0 = 1) ∧
    3 * 2 ^ 24 + 23 ∉ zero.thm.recon ∧ 3 * 2 ^ 24 + 23 ∈ (returning [] [3 * 2 ^ 24 + 23]).thm.recon := by decide +kernel

def swReq (w : Nat → Nat → Nat → List Byte → OckReq) (off n : Nat) : OckReq := w 0x0D01 0x0D 0 (leBytes 4 off ++ leBytes 2 n)
/-- The operator without a session; panel 1's Thimble session-less requester holds a service certificate until stitch 9. -/
def bare (op cls idx : Nat) (payload : List Byte) : OckReq := reqOf (.i3c none) (2 ^ 31) op cls idx payload
def served (q : OckReq) (l : List (Nat × Nat)) : State := asked q { zero with thm := { zero.thm with service := l } }
theorem test_witness_storeQueries :
    (∀ e ∈ [(0, 0), (0, 4033), (0, 1), (0, 4032), (0x3FFFFFF, 1), (0x3FFFFFF, 2)], ready (asked (swReq host e.1 e.2) zero) 0x0D01 (swReq host e.1 e.2) = true ∧
      (swReq host e.1 e.2).isOperator = false ∧ (swReq host e.1 e.2).f 0 4 = e.1 ∧ (swReq host e.1 e.2).f 4 2 = e.2 ∧
      (swInside e.1 e.2 = true ↔ e.1 + e.2 ≤ 0x4000000)) ∧
    ready (asked (swReq oper 0 1) zero) 0x0D01 (swReq oper 0 1) = true ∧ (swReq oper 0 1).session.isSome = true ∧
    (let q := swReq bare 0 1
     ready (served q []) 0x0D01 q = true ∧ q.isOperator = true ∧ q.session = none ∧ (served q []).thm.service = [] ∧
     ready (served q [(2 ^ 31, 9)]) 0x0D01 q = true ∧ ((2 ^ 31, 9) : Nat × Nat).1 = hdRequester q.head ∧ (served q [(2 ^ 31, 9)]).stitch < 9) ∧
    (let x := { zero.sw.store with sheets := [⟨5, 9, zeros 256, zeros 3309⟩] }
     x.sheets = [⟨5, 9, zeros 256, zeros 3309⟩] ∧ (zeros 256 ++ zeros 3309).length = 3565) ∧
    (∀ k ∈ [0, 1], let q := host 0x0F01 0x0D 0 (leBytes 2 k)
     let s := asked q { zero with boot := { zero.boot with head := zeros 64 } }
     ready s 0x0F01 q = true ∧ s.boot.head.length = 64 ∧ q.f 0 2 = k ∧ ((s.boot.head ++ s.boot.entries.flatMap RepEnt.bytes).length + 4031) / 4032 = 1) := by
  decide +kernel


/-! ### Starts, resets, hung cores -/

/-- The two banks at a start. -/
def rom (a b : FlashBank) : State := { zero with thm := { zero.thm with fw := { zero.thm.fw with a := a, b := b } } }
def inBank (st tries seq : Nat) : FlashBank := { bank with magic := true, state := st, tries := tries, seq := seq }
theorem test_witness_romBoots (h1 : Config.shake256 (bank.read 512 64) 64 = zeros 64) (h2 : ∀ k, Config.shake256 (Config.fwKeys k) 64 = zeros 64)
    (h3 : ∀ k m s, Config.mlDsaVerify (Config.fwKeys k) m s = true) :
    zero.romReady = true ∧ ({ zero with thm := { zero.thm with recovery := true } } : State).romReady = false ∧ zero.ras.holdAfter = false ∧ zero.thm.fuses.life ≠ 7 ∧
    ([⟨0x0A000000, 0, 1, 2, 3, 4⟩] : List Failure) ≠ [] ∧
    (let s := rom FlashBank.erased FlashBank.erased
     s.romReady = true ∧ ¬bootable s 0 ∧ ¬bootable s 1 ∧ s.ras.holdAfter = false ∧ s.thm.fuses.life ≠ 7) ∧
    (∀ e ∈ [(bkGood, bkGood, 0xFE), (bkNew, bkGood, 0xFE), (bkNew, bkNew, 0xF0)], let s := rom (inBank e.1 e.2.2 9) (inBank e.2.1 0xFE 8)
      s.romReady = true ∧ preferred s 0) ∧
    (let s := rom (inBank bkNew 0xF8 9) (inBank bkGood 0xFE 8)
     s.romReady = true ∧ ¬bootable s 0 ∧ preferred s 1) := by
  have im : ∀ a b c, (inBank a b c).image = image ∧ (inBank a b c).shipped = false := fun a b c =>
    ⟨by simp only [inBank, bank_image], by simp only [inBank, bank_shipped]⟩
  have ok : ∀ (a b c d e f k : Nat), (rom (inBank a b c) (inBank d e f)).checkImage ((rom (inBank a b c) (inBank d e f)).bank k) = 0 := by
    intro a b c d e f k
    have : (rom (inBank a b c) (inBank d e f)).bank k = inBank a b c ∨ (rom (inBank a b c) (inBank d e f)).bank k = inBank d e f := by
      simp only [State.bank, FwSt.bank, rom]; split <;> simp
    exact image_ok (by rcases this with h | h <;> rw [h, (im _ _ _).1]) (by rcases this with h | h <;> rw [h, (im _ _ _).2]) rfl rfl h1 h2 h3
  have no : ∀ a b : FlashBank, a.magic = false → b.magic = false → ∀ k, ¬bootable (rom a b) k := by
    intro a b ha hb k h
    have := h.1
    simp only [State.bank, FwSt.bank, rom] at this
    split at this <;> simp_all
  refine ⟨by decide +kernel, by decide +kernel, by decide +kernel, by decide +kernel, by decide +kernel, ⟨by decide +kernel, no _ _ rfl rfl _, no _ _ rfl rfl _,
    by decide +kernel, by decide +kernel⟩, ?_, by decide +kernel, ?_, ?_⟩
  · have : ∀ e ∈ [(bkGood, bkGood, 0xFE), (bkNew, bkGood, 0xFE), (bkNew, bkNew, 0xF0)], let s := rom (inBank e.1 e.2.2 9) (inBank e.2.1 0xFE 8)
      s.romReady = true ∧ (s.bank 0).magic = true ∧ ((s.bank 0).state = bkNew ∨ (s.bank 0).state = bkGood) ∧
        ¬((s.bank 0).state = bkNew ∧ (s.bank 0).tries = 0xF8) ∧ (((s.bank 0).state = bkNew ∧ (s.bank (1 - 0)).state = bkGood) ∨
    ((s.bank 0).state = (s.bank (1 - 0)).state ∧ (s.bank (1 - 0)).seq < (s.bank 0).seq)) := by decide +kernel
    intro e he
    obtain ⟨a, b, c, d, f⟩ := this e he
    exact ⟨a, ⟨b, c, ok _ _ _ _ _ _ _, d⟩, fun _ => f⟩
  · rintro ⟨-, -, -, h⟩; exact absurd h (by decide +kernel)
  · exact ⟨⟨by decide +kernel, by decide +kernel, ok _ _ _ _ _ _ _, by decide +kernel⟩, fun h => absurd h.2.2.2 (by decide +kernel)⟩

/-- Firmware runs, and domains `l` are ON. -/
def upTo (l : List Nat) (b : BootSt) (s : State := zero) : State :=
  { s with regs := l.map fun d => (Reg.addr (dstatR d), 0), boot := b, thm := { s.thm with firmware := true, conf := { s.thm.conf with first := 2 } }, clist := [0, 12] }
theorem test_witness_training :
    (∀ e ∈ [(List.range 24, false), (List.range 23, false), (List.range 24, true)], let s := upTo (e.1.map (388 + ·)) { zero.boot with trained := e.2 }
      ((s.thm.firmware = true ∧ s.boot.trained = false ∧ ∀ c, c < 24 → s.fld (dstatR (388 + c)) F.pwrDstat.CUR = pwOn) ↔ e = (List.range 24, false))) ∧
    (∀ e ∈ [[], [3], List.range 12], let s := upTo ((List.range 24).map (388 + ·)) { zero.boot with chansOut := e }
      (((List.range 12).filter fun c => c ∉ s.boot.chansOut) = [] ↔ e = List.range 12) ∧ s.flag hubBoot F.hubBoot.WARM = false) ∧
    (∀ c ∈ [0, 23], let f : Failure := ⟨BitVec.ofNat 32 (unitId 3 c), 18, 0, 0, 0, 0⟩
      f.array = 18 ∧ f.unit.toNat = unitId 3 c) ∧ zero.boot.entries.length ≤ 1022 ∧ zero.boot.chansOut = [] := by decide +kernel

theorem noFail {s : State} (h : ∀ e ∈ s.regs, 0x7F0030000000 ≤ e.1) (n p : Nat) : s.linkFailed n p = false := by
  have key : ∀ r : Reg, r.addr < 0x7F0030000000 → r.reset = 0 → ∀ f, s.flag r f = false := by
    intro r ha hr f
    have : SMap.find s.regs r.addr = none := by
      rcases e : SMap.find s.regs r.addr with _ | x
      · rfl
      · have := h _ (find_mem e); simp only at this; omega
    simp [State.flag, State.fld, State.rd, RegFile.read, this, hr, Fld.get, bits]
  simp only [State.linkFailed, linkBit]
  split
  · rename_i r f hl
    split at hl
    · split at hl <;> simp only [Option.some.injEq, Prod.mk.injEq, reduceCtorEq] at hl
      rw [← hl.1]
      exact key _ (by simp only [Reg.addr, RegKind.place]; omega) rfl _
    · split at hl <;> simp only [Option.some.injEq, Prod.mk.injEq, reduceCtorEq] at hl
      rw [← hl.1]
      exact key _ (by simp only [Reg.addr, RegKind.place]; omega) rfl _
  · rfl
theorem upTo_on {l : List Nat} {b : BootSt} {s : State} {d : Nat} (h : d ∈ l) : (upTo l b s).fld (dstatR d) F.pwrDstat.CUR = pwOn := by
  have : SMap.find (l.map fun d => (Reg.addr (dstatR d), 0)) (Reg.addr (dstatR d)) = some 0 := by
    induction l with
    | nil => cases h
    | cons e l ih =>
      simp only [List.map_cons, SMap.find]
      split
      · rfl
      · rename_i hne
        cases h with
        | head => exact absurd rfl hne
        | tail _ h => exact ih h
  simp only [State.fld, State.rd, RegFile.read, upTo, this, Option.getD_some, Nat.zero_mod]
  rfl

/-- A hang of a core's first thread: its counter, the stitches of earlier hangs. -/
def hangs (n : Nat) (l : List Nat) (p : Nat := 1) (t : Nat := 0) : State :=
  { zero with
    ticks := t
    cores := [(5, { Core.init with seat := some (p, 255), thr0 := { thread 0 [] with noRetire := n }, hangs := l })] }
theorem test_witness_basting :
    (∀ c ∈ [[0, 12], [0]], let s := { upTo (List.range 388) { zero.boot with trained := true } with clist := c }
      (s.thm.firmware = true ∧ s.boot.trained = true ∧ s.boot.basted = false ∧ ∀ d, d < 388 → s.fld (dstatR d) F.pwrDstat.CUR = pwOn) ∧
      (∀ n p, s.linkFailed n p = false) ∧ s.outUnits = [] ∧ s.boot.repairs = [] ∧ s.thm.conf.contract0 = [] ∧ (s.clist.length < 2 ↔ c = [0]) ∧
      s.fld { kind := .hubBoltcfg } F.hubBoltcfg.CUR ≤ 2) ∧
    zero.boot.trained = false ∧ ([⟨BitVec.ofNat 32 (unitId 1 191), 0, 0, 0, 0, 0⟩] : List Failure) ≠ [] ∧
    (∀ c ∈ [0, 191], (BitVec.ofNat 32 (unitId 1 c)).toNat = unitId 1 c) ∧
    (∀ c ∈ [6, 10], ((BitVec.ofNat 32 (unitId c 0)).toNat / 2 ^ 24) ∈ [6, 7, 8, 9, 10]) := by
  refine ⟨fun c hc => ?_, by decide +kernel, by decide +kernel, by decide +kernel, by decide +kernel⟩
  have on := fun d hd => upTo_on (l := List.range 388) (b := { zero.boot with trained := true }) (s := zero) (d := d) hd
  intro s
  refine ⟨⟨rfl, rfl, rfl, fun d hd => on d (List.mem_range.2 hd)⟩, noFail ?_, rfl, rfl, rfl, ?_, ?_⟩
  rotate_left
  · show c.length < 2 ↔ c = [0]
    revert c; decide
  · show (upTo (List.range 388) { zero.boot with trained := true }).fld { kind := .hubBoltcfg } F.hubBoltcfg.CUR ≤ 2
    decide +kernel
  simp only [s, upTo, List.mem_map, Reg.addr, RegKind.place, dstatR]
  rintro e ⟨d, -, rfl⟩
  simp only; omega

theorem test_witness_loaderCopies :
    (∀ k ∈ [0, 1, 2], let s := upTo [] { zero.boot with basted := true, copies := k }
      s.thm.firmware = true ∧ s.boot.basted = true ∧ s.boot.loaded = false ∧ s.safeHold = false ∧ (∀ h ∈ s.clist, h < 24) ∧ s.clist.length ≤ 24 ∧
      (s.boot.copies = 0 ↔ k = 0) ∧ (zeros s.thm.conf.loaderLen).length ≤ max 1 s.thm.conf.first * 65536 ∧ s.flag hubBoot F.hubBoot.WARM = false ∧
      (∃ g, (s.findRun false false (max 1 s.thm.conf.first)).1 = some g)) ∧ zero.boot.basted = false := by
  refine ⟨fun k hk => ?_, by decide +kernel⟩
  have : ∀ k ∈ [0, 1, 2], let s := upTo [] { zero.boot with basted := true, copies := k }
      s.thm.firmware = true ∧ s.boot.basted = true ∧ s.boot.loaded = false ∧ s.safeHold = false ∧ (∀ h ∈ s.clist, h < 24) ∧ s.clist.length ≤ 24 ∧
      (s.boot.copies = 0 ↔ k = 0) ∧ (zeros s.thm.conf.loaderLen).length ≤ max 1 s.thm.conf.first * 65536 ∧ s.flag hubBoot F.hubBoot.WARM = false ∧
      0 < s.reservedGranule ∧ s.fits false false 0 (max 1 s.thm.conf.first) = true := by decide +kernel
  obtain ⟨a, b, c, d, e, f, g, h, i, j, l⟩ := this k hk
  exact ⟨a, b, c, d, e, f, g, h, i, run_of j l⟩

/-- Fabric time on: the master or a follower, how long the join has taken. -/
def joining (n : Option Nat) (l : List (Reg × Fld × Nat)) : State :=
  set ([(tuCtrlR, F.tuCtrl.FABTIME, 1), (pctlR 0, F.wpPctl.ROLE, 1)] ++ l) (upTo [] { zero.boot with basted := true, loaded := true, first := some (0, 1), joinAge := n })
theorem test_witness_releasing :
    (∀ e ∈ [none, some 299999, some 300000], (joining e []).boot.joinAge = e ∧ (joining e []).joinOver = false) ∧
    (∀ e ∈ [0, 1], let s := joining (some 300000) [(fcfgR, F.wpFcfg.EN, 1), (tuCtrlR, F.tuCtrl.MASTER_ELIG, e)]
      (s.follower = true ∧ s.upPorts = [] ∧ s.flag tuCtrlR F.tuCtrl.MASTER_ELIG = true ↔ e = 1)) ∧
    (∀ s ∈ [joining none [(tuStatusR, F.tuStatus.IS_MASTER, 1)], joining none [(hubBoot, F.hubBoot.WARM, 1)]],
      let c := s.contract 0
      s.thm.firmware = true ∧ s.boot.loaded = true ∧ s.boot.released = false ∧ s.safeHold = false ∧ s.joinOver = true ∧ s.boot.first = some (0, 1) ∧
      (∃ sv, (s.findRun false (decide (field c 12 4 ≠ 0)) (saveGranules c)).1 = some sv ∧ 0x2000 ∉ runOf sv (saveGranules c)) ∧ 0x2000 < s.reservedGranule ∧ isCxl 0x2000 = false ∧
      s.isFree 0x2000 = true ∧ field c 12 4 = 0 ∧ (∀ h ∈ s.clist, h < 24) ∧ s.clist.length ≤ 24) := by
  refine ⟨by decide +kernel, by decide +kernel, fun s hs => ?_⟩
  have : ∀ s ∈ [joining none [(tuStatusR, F.tuStatus.IS_MASTER, 1)], joining none [(hubBoot, F.hubBoot.WARM, 1)]],
      let c := s.contract 0
      s.thm.firmware = true ∧ s.boot.loaded = true ∧ s.boot.released = false ∧ s.safeHold = false ∧ s.joinOver = true ∧ s.boot.first = some (0, 1) ∧
      0 < s.reservedGranule ∧ s.fits false (decide (field c 12 4 ≠ 0)) 0 (saveGranules c) = true ∧ saveGranules c = 0 ∧ 0x2000 < s.reservedGranule ∧ isCxl 0x2000 = false ∧
      s.isFree 0x2000 = true ∧ field c 12 4 = 0 ∧ (∀ h ∈ s.clist, h < 24) ∧ s.clist.length ≤ 24 := by decide +kernel
  obtain ⟨a, b, c, d, e, f, g, h, i, j⟩ := this s hs
  refine ⟨a, b, c, d, e, f, ?_, j⟩
  rw [j.2.2.2.1] at h ⊢
  obtain ⟨sv, hv⟩ := run_of g h
  exact ⟨sv, hv, by rw [i]; simp [runOf]⟩

theorem test_witness_coldResets :
    (∀ e ∈ [(Instr.pwrOk false, { zero.boot with pwrOk := false }), (.modResetN false, { zero.boot with resetN := false }),
        (.undervoltageLockout true, { zero.boot with uvp := true }), (.overvoltageLockout true, { zero.boot with ovp := true })],
      ∃ b : Bool, (e.1 = .pwrOk b ∧ zero.boot.pwrOk ≠ b ∧ e.2 = { zero.boot with pwrOk := b }) ∨
      (e.1 = .modResetN b ∧ zero.boot.resetN ≠ b ∧ zero.boot.pwrOk = true ∧ e.2 = { zero.boot with resetN := b }) ∨
      (e.1 = .undervoltageLockout b ∧ zero.boot.uvp ≠ b ∧ e.2 = { zero.boot with uvp := b }) ∨
      (e.1 = .overvoltageLockout b ∧ zero.boot.ovp ≠ b ∧ e.2 = { zero.boot with ovp := b })) ∧
    zero.boot.clearing = false ∧ ({ zero.boot with clearing := true } : BootSt).clearing = true ∧
    (let held := fun (x : BootSt) => x.pwrOk = false ∨ x.resetN = false ∨ x.uvp = true ∨ x.ovp = true
     ¬held zero.boot ∧ held { zero.boot with uvp := true } ∧ held { zero.boot with uvp := true, ovp := true }) ∧
    zero.pwr.trip = false ∧ zero.boot.jtag.drive = none := by
  refine ⟨fun e he => ?_, by decide +kernel, by decide +kernel, by decide +kernel, by decide +kernel, by decide +kernel⟩
  simp only [List.mem_cons, List.not_mem_nil, or_false] at he
  rcases he with rfl | rfl | rfl | rfl
  · exact ⟨false, .inl ⟨rfl, by decide +kernel, rfl⟩⟩
  · exact ⟨false, .inr (.inl ⟨rfl, by decide +kernel, by decide +kernel, rfl⟩)⟩
  · exact ⟨true, .inr (.inr (.inl ⟨rfl, by decide +kernel, rfl⟩))⟩
  · exact ⟨true, .inr (.inr (.inr ⟨rfl, by decide +kernel, rfl⟩))⟩
theorem test_witness_warmResets : zero.resetDue = none ∧ ({ zero with resetDue := some .warm } : State).resetDue ≠ none ∧
    zero.tape.sheet = none ∧ (0x7A11 : BitVec 16) ≠ 0 := by decide +kernel
theorem test_witness_hungCores :
    (∀ e ∈ [(9, [], 1, 0), (100000, [], 1, 0), (100000, [0], 1, 100000), (100000, [1], 511, 100000)], let s := hangs e.1 e.2.1 e.2.2.1 e.2.2.2
      let x := s.core 5
      x.seat = some (e.2.2.1, 255) ∧ x.thr0.started = true ∧
      (s.fld { kind := .rasTmo, i := 3 } F.rasTmo.VALUE ≤ x.thr0.noRetire ↔ e.1 = 100000) ∧ x.thr1.started = false ∧ x.thr0.canCheck = true ∧
      s.paired 5 = false ∧ ((∀ k ∈ x.hangs, k + 100000 ≤ s.ticks) ↔ e.2.1 ≠ [1]) ∧ s.boltState (s.panelBolt e.2.2.1) ≠ 2 ∧ nothingToWrite s 5) ∧
    (let s := set [({ kind := .hubBoltstat }, ⟨7, 5⟩, 1)] (hangs 100000 [])
     s.isHostBolt (s.boltOf 5) = false ∧ s.boltState (s.boltOf 5) = 1) ∧
    (zero.core 5).testing = none ∧
    (let s := { zero with cores := [(5, { Core.init with testing := some 0 })], thm := { zero.thm with jobs := [⟨0, host 0x0C04 1 5 [1], [0], 0⟩] } }
     (s.core 5).testing.isSome = true ∧ s.cut.twin = [] ∧ 256 + 5 ∉ s.boot.repairs ∧ s.boot.repairs.length < 256 ∧
     (let j : Job := ⟨0, host 0x0C04 1 5 [1], [0], 0⟩
      s.thm.jobs = [j] ∧ j.op = 0x0C04 ∧ j.q.tidx = 5 ∧ j.arg 0 = 0)) := by
  unfold nothingToWrite; decide +kernel


/-! ### Twin-needle pairs, the Swatch store, power domains and clocks -/

/-- Core 1 is the main core of core 2 and runs seat 3 of panel 1; its first thread is to compare. -/
def pairOf (x y : Thread) (held : List HeldStore) (l : List (Reg × Fld × Nat) := []) : State :=
  let s := runs x 1 ([({ kind := .wrpTwpair, i := 1 }, F.wrpTwpair.EN, 1), ({ kind := .wrpTwpair, i := 1 }, F.wrpTwpair.PARTNER, 2),
    ({ kind := .wrpTwpair, i := 2 }, F.wrpTwpair.EN, 1), ({ kind := .wrpTwpair, i := 2 }, F.wrpTwpair.CHK, 1),
    ({ kind := .wrpTwpair, i := 2 }, F.wrpTwpair.PARTNER, 1)] ++ l)
  { s with cores := [(1, { Core.init with seat := some (1, 3), thr0 := x, held := held, ckpt := some (thread 0 [], Thread.init) }),
                     (2, { Core.init with seat := some (1, 3), thr0 := y })] }
def at4096 (n : Nat) (forced : Bool := false) : Thread := { thread 0 [] with sinceCmp := n, forced := forced, sig := 7 }
def store8 : HeldStore := ⟨0, 0x40, zeros 8, false, false⟩
theorem test_witness_twinCompares :
    (zero.isMain 1 = false ∧ (pairOf (at4096 0) (at4096 0) []).isMain 2 = false) ∧
    (∀ e ∈ [(4095, 4095, false), (4096, 4096, false), (4096, 4095, false), (5, 5, true)], ∀ h ∈ [[], [store8]],
      let s := pairOf (at4096 e.1 e.2.2) (at4096 e.2.1) h
      s.isMain 1 = true ∧ s.partnerOf 1 = 2 ∧ (s.thr 2).lvq = [] ∧ (s.thr 4).lvq = [] ∧
      ((s.thr 2).forced = true ∨ 4096 ≤ (s.thr 2).sinceCmp ↔ e.1 ≠ 4095) ∧ ((s.thr 4).sinceCmp = (s.thr 2).sinceCmp ↔ e.1 = e.2.1) ∧
      (s.thr 2).sig = (7 : BitVec 64).toNat ∧ (s.core 1).held = h ∧ (s.core 1).seat = some (1, 3) ∧ (s.core 1).ckpt = some (thread 0 [], Thread.init) ∧
      s.isMemory store8.pa store8.data.length = true ∧ s.granuleBolt (store8.pa / 65536) = s.boltOf 1 ∧ s.boltState (s.panelBolt 1) ≠ 2 ∧
      nothingToWrite s 1 ∧ nothingToWrite s 2 ∧ (s.panel 1).saveBase = none) ∧
    (store8.thread = 2 % 2 ∧ store8.eoi = false ∧ store8.data ≠ []) := by
  unfold nothingToWrite; decide +kernel

def billed (p : Nat) : Acct := ⟨p, 0, true, false, false, false, false, false, 100, 0, 0, 0, 0, 0, 0, 0, 0, 0, 0, 0, 0, 0⟩
def tested (released second : Bool) : State :=
  { pairOf (at4096 0) (at4096 0) [] with
    cut := { zero.cut with twin := [⟨1, 1, 2, some (1, 3), 4, 6, second, released⟩] }
    tape := { zero.tape with sheet := some ⟨0, 0, 0, 0, false, false, false, false, [billed 0, billed 1], 0⟩ } }
theorem test_witness_twinOutcomes :
    (∀ e ∈ (tested false false).cut.twin, e.main = 1 → e.released = false) ∧
    (∀ b ∈ [false, true], let s := tested true b
      let y : TwinTest := ⟨1, 1, 2, some (1, 3), 4, 6, b, true⟩
      s.cut.twin = [y] ∧ y.released = true ∧ y.chk < 192 ∧ y.seat.isSome = true ∧ 0 < y.panel ∧ s.boltState (s.panelBolt y.panel) ≠ 2 ∧ s.thm.jobs = [] ∧
      s.boot.repairs.length ≤ 254 ∧ 256 + 1 ∉ s.boot.repairs ∧ 256 + 2 ∉ s.boot.repairs ∧
      s.tape.sheet = some ⟨0, 0, 0, 0, false, false, false, false, [billed 0, billed 1], 0⟩ ∧ (billed 0).panel = 0 ∧ (billed 1).panel = y.panel ∧
      (billed 0).final = false ∧ y.ckpt ≤ y.found) ∧
    (let s := pairOf (at4096 0) (at4096 0) []
     s.isMain 1 = true ∧ s.partnerOf 1 ≠ 1 ∧ s.isMain 2 = false ∧ s.paired 1 = true ∧ s.paired 3 = false) := by decide +kernel

def waits (w : List (SwWrite × Nat)) (d : List Nat) : State := { zero with sw := { zero.sw with wait := w, dirty := d } }
theorem test_witness_swatchFlushes : SMap.wf (fun _ => (0 : Nat)) zero.sw.counts = true ∧
    (∀ b ∈ [false, true], ({ zero with time := { zero.time with dropped := if b then [10] else [] } } : State).time.over 10 = b) ∧
    (∀ k ∈ [15, 16], (waits [(.event (rec_ 1 0 0), k)] []).sw.wait = [(.event (rec_ 1 0 0), k)]) ∧
    (∀ k ∈ [15, 48], (waits [(.sheet ⟨1, 2, [], []⟩, k)] (List.range 33)).sw.wait = [(.sheet ⟨1, 2, [], []⟩, k)]) := by decide +kernel
theorem test_witness_swatchSamples : (∀ c ∈ [-41, -40, -39, 134, 135, 136], (c ≤ (-40 : Int) ∨ (∃ k ∈ List.range 176, c = ((k : Nat) : Int) - 40) ∨ 135 ≤ c)) ∧
    (∀ c ∈ [1, 2], ((set [(dstatR 0, F.pwrDstat.CUR, c)]).fld (dstatR 0) F.pwrDstat.CUR ≤ 1 ↔ c = 1)) ∧
    (∀ mv ∈ [409, 410, 1029, 1030], mv < 410 ∨ (∃ k ∈ List.range 64, 400 + 10 * k ≤ mv ∧ mv < 410 + 10 * k) ∨ 1030 ≤ mv) ∧
    (∀ n ∈ [0, 1000, 1001, 10000, 10001, 10 ^ 16, 10 ^ 16 + 1], n ≤ 10 ^ 3 ∨ (∃ k ∈ List.range 14, 1 ≤ k ∧ 10 ^ (k + 2) < n ∧ n ≤ 10 ^ (k + 3)) ∨ 10 ^ 16 < n) := by
  decide +kernel
/-- The bins meet: a temperature at the end of one, as the statement's equation gives it. -/
theorem test_swatchSample_bin : ∀ c ∈ [(-41, 0), (-40, 0), (-39, 1), (134, 174), (135, 175), (136, 175)],
    (match exec (.swatchSample [(4, c.1)] [] []) zero with
     | .next t => decide (swCounter t (0x200 + 704 * 4 + 4 * c.2) = 1)
     | _ => false) = true := by decide +kernel

/-- A domain in a transition to `k` from `old`, with a request that waits. -/
def moving (d old k : Nat) (h : Option Nat) : State :=
  { set [(dstatR d, F.pwrDstat.CUR, old), (dstatR d, F.pwrDstat.BUSY, 1), (pctlR 0, F.wpPctl.ROLE, 1)] (runs (thread 0 [])) with
    pwr := { zero.pwr with goal := [(d, k)], held := [(d, h)] } }
theorem test_witness_transitions :
    (∀ d ∈ [0, 1, 191, 192, 383, 388, 411, 412, 420, 423], ∀ e ∈ [(0, 2), (2, 0), (1, 1), (0, 1)], let s := moving d e.1 e.2 none
      SMap.find s.pwr.goal d = some e.2 ∧ e.2 ≤ 2 ∧ (d < 192 → (s.core d).thr0.wc = [] ∧ (s.core d).thr1.wc = []) ∧ s.fld (dstatR d) F.pwrDstat.CUR = e.1 ∧
      s.heldFor d = none ∧ s.unitOut 4 0 = false ∧ s.flag hubBoot F.hubBoot.WARM = false) ∧
    zero.pwr.goal = [] ∧ (∀ h ∈ [0, 1, 2], (moving 1 0 1 (some h)).heldFor 1 = some h ∧ (moving 1 0 1 (some h)).claims 1 = []) ∧
    (moving 412 2 0 none).fld (pctlR 0) F.wpPctl.ROLE = 1 ∧ ((moving 1 0 1 none).core 1).seat = some (1, 0) ∧ (moving 1 0 1 none).paired 1 = false ∧
    (moving 420 2 0 none).boot.jtag.drive = none ∧ 1 ∉ zero.pwr.noRet := by decide +kernel

/-- A thread of panel `p` waits with its wakes enabled. -/
def asleep (p w : Nat) (l : List (Reg × Fld × Nat) := []) : State :=
  let s := runs ({ thread 0 [] with waiting := true }.setCr crPWRMODE (BitVec.ofNat 64 w)) p l
  { s with sint := [(p, 0, 0, 1)] }
theorem test_witness_wakes :
    (runs (thread 0 [])).seatOf 2 = some (1, 0) ∧ ((runs (thread 0 [])).thr 2).waiting = false ∧ zero.seatOf 2 = none ∧
    (∀ w ∈ [0, 0x200, 0x400], let s := asleep 0 w [({ kind := .pwrPortdet, i := 0 }, F.pwrPortdet.STICKY, 0), ({ kind := .pwrPortdet, i := 7 }, F.pwrPortdet.STICKY, 1), ({ kind := .pwrPortdet, i := 7 }, F.pwrPortdet.SEEN, 1)]
      let x := s.thr 2
      s.seatOf 2 = some (0, 0) ∧ x.waiting = true ∧ x.started = true ∧ x.halted = false ∧ (x.crFld crPWRMODE F.crPWRMODE.STITCHW = 1 ↔ w = 0x200) ∧
      (x.crFld crPWRMODE F.crPWRMODE.PORTW = 1 ↔ w = 0x400) ∧ s.flag { kind := .pwrPortdet, i := 7 } F.pwrPortdet.STICKY = true ∧
      s.flag { kind := .pwrPortdet, i := 7 } F.pwrPortdet.SEEN = true ∧ s.flag { kind := .pwrPortdet, i := 0 } F.pwrPortdet.STICKY = false ∧
      (∃ e ∈ s.sint, e.1 = 0 ∧ e.2.1 = 0 ∧ e.2.2.1 = 0) ∧ s.flag (dstatR 1) F.pwrDstat.BUSY = false ∧ s.fld (dstatR 1) F.pwrDstat.CUR = 0) ∧
    (∀ c ∈ [0, 1], (asleep 1 0x200 [(dstatR 1, F.pwrDstat.CUR, c)]).fld (dstatR 1) F.pwrDstat.CUR = c) ∧
    (∀ pend ∈ [0, 1], let s := asleep 1 0x100 [({ kind := .icVec, i := 1, j := 5 }, F.icVec.EN, 1), ({ kind := .icVec, i := 1, j := 5 }, F.icVec.PEND, pend)]
      (s.thr 2).crFld crPWRMODE F.crPWRMODE.IRQW = 1 ∧ (s.vectorsFor 1 0 0 ≠ [] ↔ pend = 1)) := by decide +kernel

/-- Core 1 runs from its PLL, or is to. -/
def clocks (pll : Bool) (cur : Nat) (hot : List Nat) (seat : Option (Nat × Nat) := some (1, 0)) : State :=
  { set [(dstatR 1, F.pwrDstat.CUR, cur)] zero with
    cores := [(1, { Core.init with seat := seat, thr0 := (thread 0 []).setCr 0x021 1, pll := pll })]
    cut := { zero.cut with staged := some ⟨[(1, .seat 1 0 none), (2, .idle)], [], [], [], none, []⟩ }
    pwr := { zero.pwr with hot := hot } }
theorem test_witness_clocksAndGrants :
    (∀ e ∈ [(false, 0), (true, 0), (false, 1)], let s := clocks e.1 e.2 [0]
      ((s.core 1).seat ≠ none ∧ (s.core 1).thr0.crFld 0x021 F.crCLKSEL.SRC = 1 ∧ (s.core 1).pll = false ∧ s.fld (dstatR 1) F.pwrDstat.CUR = 0 ↔ e = (false, 0)) ∧
      s.cut.staged = some ⟨[(1, .seat 1 0 none), (2, .idle)], [], [], [], none, []⟩) ∧
    SMap.risingFrom 0 [(1, CoreUse.seat 1 0 none), (2, .idle)] = true ∧ zero.cut.staged = none ∧
    (∀ q ∈ [some (1, 0), some (1, 1)], let s := clocks false 1 [] q
      s.fld (dstatR 1) F.pwrDstat.CUR = 1 ∧ s.flag (dstatR 1) F.pwrDstat.BUSY = false ∧ (s.core 1).seat = q) := by decide +kernel

def brown (l : List Nat) (t : Nat) (seat : Option (Nat × Nat)) : State :=
  { set [(dstatR 1, F.pwrDstat.CUR, 1)] zero with
    ticks := t
    cores := [(1, { Core.init with seat := seat, hangs := l })]
    seats := [(1 * 256, { SeatRec.init with valid := true, thr0 := thread 0 [] })]
    tiles := [(7, { TileSt.init with dir := [(0x40, ⟨.em, 1, 0, 0, none, 0⟩)] })] }
theorem test_witness_brownOuts :
    (∀ e ∈ [([], 0), ([0], 99999), ([0], 100000)], ∀ q ∈ [none, some (1, 0)], let s := brown e.1 e.2 q
      s.fld (dstatR 1) F.pwrDstat.CUR = 1 ∧ s.ras.writtenCorr < 192 ∧ ((∃ k ∈ (s.core 1).hangs, s.ticks < k + 100000) ↔ e.2 = 99999) ∧
      ((∀ k ∈ (s.core 1).hangs, k + 100000 ≤ s.ticks) ↔ e.2 ≠ 99999) ∧ (s.core 1).seat = q ∧ (s.seat 1 0).valid = true ∧ (s.readSeat 1 0).valid = true ∧ s.savePoisoned 1 0 = false ∧
      7 ∈ s.boltCores (s.boltOf 1) ∧ (0x40, ⟨.em, 1, 0, 0, none, 0⟩) ∈ (s.tile 7).dir) ∧
    zero.fld (dstatR 1) F.pwrDstat.CUR ≠ 1 := by decide +kernel
theorem test_witness_temperatures :
    ((brown [] 0 none).fld (dstatR 1) F.pwrDstat.CUR = 1 ∧ SMap.find (moving 1 0 1 none).pwr.goal 1 = some 1 ∧
      ¬(zero.fld (dstatR 426) F.pwrDstat.CUR = 1 ∨ SMap.find zero.pwr.goal 426 = some 1)) ∧
    zero.boot.jtag.drive = none ∧ zero.pwr.hot = [] ∧ zero.pwr.trip = false ∧ (clocks true 0 [0, 3]).pwr.hot ≠ [] ∧ (clocks true 0 [0, 3]).pwr.trip = false ∧
    ((clocks true 0 [0]).core 1).pll = true ∧ ((clocks true 0 [0]).core 1).thr0.crFld 0x021 F.crCLKSEL.SRC = 1 := by decide +kernel


/-! ### The JTAG port -/

def port (b : BootSt) : State := { zero with boot := b }
theorem test_witness_boundaryScan : zero.boot.pwrOk = true ∧ (port { zero.boot with pwrOk := false }).boot.pwrOk = false ∧ JtagRow zero .extest 0x00 true 64 0 ∧
    (port { zero.boot with jtag := ⟨0, 5, some 0⟩ }).boot.jtag.drive ≠ none ∧ JtagRow (port { zero.boot with jtag := ⟨0, 5, some 0⟩ }) .extest 0x00 true 64 5 :=
  ⟨by decide +kernel, by decide +kernel, .extest, by decide +kernel, .extest⟩
theorem test_witness_scanClears : zero.boot.clearing = false ∧ zero.boot.scanOpen = false ∧
    (∀ b ∈ [false, true], let s := port { zero.boot with clearing := true, coldAfter := b }
      s.boot.pwrOk = true ∧ s.boot.clearing = true ∧ s.boot.coldAfter = b) ∧
    (port { zero.boot with scanOpen := true }).boot.scanOpen = true ∧ (port { zero.boot with pwrOk := false }).boot.pwrOk = false := by decide +kernel

/-- A debug session, of a panel or of the module, open or not. -/
def debugged (p scope : Nat) (opened : Bool) (seat : Option (Nat × Nat)) (l : List (Reg × Fld × Nat) := []) : State :=
  { set l (runs (thread 0 [])) with
    cores := [(1, { Core.init with seat := seat, thr0 := { thread 0 [] with halted := true } })]
    thm := { zero.thm with dbgs := [⟨scope, p, [], 9, opened, none⟩] } }
theorem test_witness_runControl :
    (∀ e ∈ [(1, 1, some (1, 0)), (0, 2, some (0, 255))], reachedByDebugger (debugged e.1 e.2.1 true e.2.2) 2 ∧ ¬reachedByDebugger (debugged e.1 e.2.1 false e.2.2) 2 ∧
      (debugged e.1 e.2.1 true e.2.2).boot.pwrOk = true) ∧
    reachedByDebugger (debugged 0 4 true none) 384 ∧ ¬reachedByDebugger (debugged 1 1 true (some (2, 0))) 2 ∧ ¬reachedByDebugger (debugged 1 1 true (some (1, 0))) 384 ∧
    (let s := debugged 1 1 true (some (1, 0)) [({ kind := .wrpTwpair, i := 1 }, F.wrpTwpair.EN, 1)]
     reachedByDebugger s 2 ∧ s.isMain 1 = true) ∧
    (let s := debugged 1 1 true (some (1, 0))
     (s.thr 2).halted = true ∧ potKind (s.potEntry 0) = kOwned ∧ potPanel (s.potEntry 0) = 1 ∧ potW (s.potEntry 0) = true ∧ s.panelOf 2 ≠ 0 ∧ (debugged 0 2 true (some (0, 255))).panelOf 2 = 0 ∧
     potPanel (s.potEntry 2) ≠ 1) := by
  have yes : ∀ (s : State) (p n : Nat), (s.core (2 / 2)).seat = some (p, n) → s.isChecker (2 / 2) = false → s.boot.resetN = true → s.boot.uvp = false → s.boot.ovp = false →
      (∃ x ∈ s.thm.dbgs, x.opened = true ∧ ((x.scope.testBit 0 = true ∧ x.panel = p) ∨ (x.scope.testBit 1 = true ∧ p = 0))) → reachedByDebugger s 2 :=
    fun s p n h1 h2 h3 h4 h5 h6 => ⟨h3, h4, h5, by rw [if_neg (by decide)]; exact ⟨p, n, h1, h2, h6⟩⟩
  have no : ∀ (s : State) (p n : Nat), (s.core (2 / 2)).seat = some (p, n) →
      (∀ x ∈ s.thm.dbgs, ¬(x.opened = true ∧ ((x.scope.testBit 0 = true ∧ x.panel = p) ∨ (x.scope.testBit 1 = true ∧ p = 0)))) → ¬reachedByDebugger s 2 := by
    rintro s p n h1 h2 ⟨-, -, -, h⟩
    rw [if_neg (by decide)] at h
    obtain ⟨p', n', h3, -, x, hx, h4⟩ := h
    rw [h1, Option.some.injEq, Prod.mk.injEq] at h3
    exact h2 x hx (h3.1 ▸ h4)
  refine ⟨fun e he => ?_, ⟨by decide +kernel, by decide +kernel, by decide +kernel, ?_⟩, ?_, ?_, ?_, by decide +kernel⟩
  · simp only [List.mem_cons, List.not_mem_nil, or_false] at he
    rcases he with rfl | rfl
    · exact ⟨yes _ 1 0 (by decide +kernel) (by decide +kernel) (by decide +kernel) (by decide +kernel) (by decide +kernel) (by decide +kernel),
        no _ 1 0 (by decide +kernel) (by decide +kernel), by decide +kernel⟩
    · exact ⟨yes _ 0 255 (by decide +kernel) (by decide +kernel) (by decide +kernel) (by decide +kernel) (by decide +kernel) (by decide +kernel),
        no _ 0 255 (by decide +kernel) (by decide +kernel), by decide +kernel⟩
  · rw [if_pos (by decide)]; decide +kernel
  · exact no _ 2 0 (by decide +kernel) (by decide +kernel)
  · rintro ⟨-, -, -, h⟩
    rw [if_pos (by decide)] at h
    exact absurd h (by decide +kernel)
  · exact ⟨yes _ 1 0 (by decide +kernel) (by decide +kernel) (by decide +kernel) (by decide +kernel) (by decide +kernel) (by decide +kernel), by decide +kernel⟩


/-! ### The block as a whole -/

def commands (l : List Instr) : State := { sU with pending := l }
theorem test_witness_stepRunsFrontCommand : (commands [.add 2 5 2 3 false, .beq 2 2 2 true 0]).pending = .add 2 5 2 3 false :: [.beq 2 2 2 true 0] ∧
    (commands []).pending = [] := ⟨rfl, rfl⟩
theorem nexts {r : Host.Outcome State Fault Refusal} {P : State → Prop} [DecidablePred P]
    (h : (match r with | .next t => decide (P t) | _ => false) = true) : ∃ t, r = .next t ∧ P t := by
  cases r with
  | next t => exact ⟨t, rfl, of_decide_eq_true h⟩
  | fault _ => cases h
  | refused _ => cases h
/-- The invariant holds with an addition and a branch waiting, and the first of them completes. -/
theorem test_witness_stepKeepsInvariant : Inv (commands [.add 2 5 2 3 false, .beq 2 2 2 true 0]) ∧
    ∃ t, step (commands [.add 2 5 2 3 false, .beq 2 2 2 true 0]) = .next t ∧ (t.thr 2).gr 5 = 0x10007 := by
  refine ⟨⟨fun c hc => ?_, ?_, by decide +kernel⟩, ?_⟩
  · simp only [commands, List.mem_cons, List.not_mem_nil, or_false] at hc
    rcases hc with rfl | rfl
    · exact .alu (imm := 0) .add
    · exact .branch .beq
  · unfold State.pcAligned; decide +kernel
  · exact nexts (P := fun t => (t.thr 2).gr 5 = 0x10007) (by decide +kernel)
theorem noWdogs (l : List Nat) (s : State) (h : ∀ p, (s.panel p).wdogDue = false) : l.foldl (fun s p => s.wdogExpire p) s = s := by
  induction l with
  | nil => rfl
  | cons p l ih => rw [List.foldl_cons, show s.wdogExpire p = s by simp [State.wdogExpire, h p], ih]
theorem test_witness_stitchBoundaries : zero.powered = true ∧ zero.wdogsDue.resetDue = none ∧ zero.wdogsDue.warmLate = false ∧ 9 ∉ zero.time.dropped ∧ (zero.stitch + 1) * 10000 < 2 ^ 48 * 1000000000 :=
  ⟨by decide +kernel, by rw [State.wdogsDue, noWdogs _ _ fun _ => rfl]; rfl,
   by rw [State.wdogsDue, noWdogs _ _ fun _ => rfl]; decide +kernel, by decide +kernel, by decide +kernel⟩

/-! ### Values that the manual gives -/

/-- R67: the most negative number divided by −1 overflows to itself, with remainder 0; a division by zero gives all ones. -/
theorem test_divisionCorners : ∃ t, exec (.div 2 7 4 5 false) sU = .next t ∧ (t.thr 2).gr 7 = 0x8000000000000000 ∧ (t.thr 2).pc = 0x104 :=
  nexts (P := fun t => (t.thr 2).gr 7 = 0x8000000000000000 ∧ (t.thr 2).pc = 0x104) (by decide +kernel)
theorem test_divisionByZero : ∃ t, exec (.divu 2 7 4 1 false) sU = .next t ∧ (t.thr 2).gr 7 = 0xFFFFFFFFFFFFFFFF :=
  nexts (P := fun t => (t.thr 2).gr 7 = 0xFFFFFFFFFFFFFFFF) (by decide +kernel)
/-- R66: a W form sign-extends its 32-bit result. g0 stays zero. -/
theorem test_addW : ∃ t, exec (.add 2 7 5 4 true) sU = .next t ∧ (t.thr 2).gr 7 = 0xFFFFFFFFFFFFFFFF :=
  nexts (P := fun t => (t.thr 2).gr 7 = 0xFFFFFFFFFFFFFFFF) (by decide +kernel)
theorem test_g0 : ∃ t, exec (.add 2 0 2 3 false) sU = .next t ∧ (t.thr 2).gr 0 = 0 :=
  nexts (P := fun t => (t.thr 2).gr 0 = 0) (by decide +kernel)
/-- Table MOD-4: IDCODE's register holds 0x1019254B. -/
theorem test_idcode : ∃ t, exec .idcode zero = .next t ∧ t.sent = [.jtag 32 0x1019254B] :=
  nexts (P := fun t => t.sent = [.jtag 32 0x1019254B]) (by decide +kernel)
/-- The words that the chapter writes out: ADD g3, g4, g5 and the canonical no-op ADDI g0, g0, 0; the two words that are always illegal. -/
theorem test_words : decodeWord 2 0x04642800 false false = some (.add 2 3 4 5 false) ∧ decodeWord 2 0x08000000 false false = some (.addi 2 0 0 0) ∧
    decodeWord 2 0 false false = none ∧ decodeWord 2 0xFFFFFFFF false false = none := by decide +kernel

end Sys2Proof.Tests
end

section
/-! The stitch number at the end of its register: R18's count has 64 bits, and a boundary wraps it. -/

namespace Sys2Proof.Machine

/-- A boundary with no panel watchdog due leaves every panel as it is (R56). -/
theorem State.wdogsDue_of_none {s : State} (h : ∀ p, (s.panel p).wdogDue = false) : s.wdogsDue = s := by
  have expire : ∀ p, s.wdogExpire p = s := fun p => by simp [State.wdogExpire, h p]
  unfold State.wdogsDue
  induction List.range 512 with
  | nil => rfl
  | cons p ps ih => rw [List.foldl_cons, expire, ih]

/-- TU.STITCH after a boundary: the next number, within the 64 bits of the register (R18). -/
theorem State.stitch_nextStitch (s : State) : s.nextStitch.stitch = (s.stitch + 1) % 2 ^ 64 := by
  have width : Reg.width { kind := .tuStitch } = 64 := rfl
  unfold State.nextStitch State.setTod
  rw [State.stitch, State.rd_wr_same, Nat.mul_div_cancel _ (by decide), width]

/-- Reset with the greatest number that Thimble can write to TU.STITCH before commitment (R25). -/
def lastStitch : State := State.reset.wr { kind := .tuStitch } (2 ^ 64 - 1)

theorem lastStitch_stitch : lastStitch.stitch = 2 ^ 64 - 1 := State.rd_wr_same _ _ _

theorem lastStitch_wdogsDue : lastStitch.wdogsDue = lastStitch := State.wdogsDue_of_none fun _ => rfl

end Sys2Proof.Machine

open Sys2Proof.Machine

/-- Refutes O60: TU.STITCH has 64 bits, and the statement's bound lets the stitch number reach 2^64 (its TOD is then still below
2^48 s). From stitch 2^64 − 1 the boundary leads to stitch 0. -/
theorem not_stitchBoundaries : ¬ Obligations.StitchBoundaries := by
  unfold Obligations.StitchBoundaries
  intro h
  let x : Sys2Proof.Reading := ⟨0, 0, 0, [], [], false, false⟩
  have due : lastStitch.wdogsDue.resetDue = none := by rw [lastStitch_wdogsDue]; rfl
  have late : lastStitch.wdogsDue.warmLate = false := by rw [lastStitch_wdogsDue]; decide
  obtain ⟨_, next⟩ := h x lastStitch rfl due late
  have inTod : (lastStitch.stitch + 1) * 10000 < 2 ^ 48 * 1000000000 := by rw [lastStitch_stitch]; decide
  obtain ⟨stitch, _⟩ := next inTod
  rw [State.stitch_nextStitch, lastStitch_stitch] at stitch
  exact absurd stitch (by decide)
end

section
/-! Fields of a register: a value put together field by field from a register's table reads back field by field, and what that
says of a write by access codes, of what a read returns and of what it leaves (R13, R14). -/

namespace Sys2Proof.Machine

/-! ### Sums of numbers that share no bit -/

/-- Numbers that share no bit add without a carry. -/
theorem testBit_add_of_disjoint (i : Nat) {a b : Nat} (h : ∀ j, a.testBit j = true → b.testBit j = false) :
    (a + b).testBit i = (a.testBit i || b.testBit i) := by
  have h0 : a % 2 + b % 2 < 2 := by
    have := h 0
    simp only [Nat.testBit_zero, decide_eq_true_eq, decide_eq_false_iff_not] at this
    omega
  induction i generalizing a b with
  | zero =>
    simp only [Nat.testBit_zero, ← Bool.decide_or, decide_eq_decide]
    omega
  | succ i ih =>
    have halves : (a + b) / 2 = a / 2 + b / 2 := by omega
    have h' : ∀ j, (a / 2).testBit j = true → (b / 2).testBit j = false := fun j => by
      simpa only [Nat.testBit_succ] using h (j + 1)
    have h0' : a / 2 % 2 + b / 2 % 2 < 2 := by
      have := h' 0
      simp only [Nat.testBit_zero, decide_eq_true_eq, decide_eq_false_iff_not] at this
      omega
    rw [Nat.testBit_succ, halves, ih h' h0', Nat.testBit_succ, Nat.testBit_succ]

/-- Taking away the bits that two numbers share clears them. -/
theorem sub_and_eq_ldiff (a b : Nat) : a - (a &&& b) = Nat.ldiff a b := by
  have whole : (a &&& b) + Nat.ldiff a b = a := Nat.eq_of_testBit_eq fun i => by
    rw [testBit_add_of_disjoint i fun j hj => by
      simp only [Nat.testBit_and, Bool.and_eq_true] at hj
      simp [Nat.testBit_ldiff, hj.2]]
    simp only [Nat.testBit_and, Nat.testBit_ldiff]
    cases a.testBit i <;> cases b.testBit i <;> rfl
  omega

/-! ### The fields of a register table -/

/-- Two rows of a field table share no bit. -/
def FldRow.apart (f g : FldRow) : Prop := f.hi < g.lo ∨ g.hi < f.lo

/-- A number has bits in a field only. -/
def FldRow.holds (f : FldRow) (x : Nat) : Prop := ∀ i, x.testBit i = true → f.lo ≤ i ∧ i ≤ f.hi

/-- The fields of every register share no bit (R14). -/
theorem RegKind.fields_apart (k : RegKind) : k.fields.Pairwise FldRow.apart := by
  unfold FldRow.apart; cases k <;> decide

/-- The fields of every register lie within its width (R14). -/
theorem Reg.field_lt_width {r : Reg} {f : FldRow} (h : f ∈ r.kind.fields) : f.hi < r.width := by
  have within : ∀ (k : RegKind), ∀ f ∈ k.fields, f.hi < k.place.width := fun k => by cases k <;> decide
  exact within r.kind f h

theorem FldRow.testBit_mask (f : FldRow) (i : Nat) : f.mask.testBit i = (decide (f.lo ≤ i) && decide (i - f.lo < f.hi + 1 - f.lo)) := by
  rw [FldRow.mask, Nat.testBit_mul_two_pow, Nat.testBit_two_pow_sub_one]

theorem FldRow.holds_and_mask (f : FldRow) (x : Nat) : f.holds (x &&& f.mask) := fun i hi => by
  simp only [Nat.testBit_and, Bool.and_eq_true, FldRow.testBit_mask, decide_eq_true_eq] at hi
  omega

theorem FldRow.holds_zero (f : FldRow) : f.holds 0 := fun i hi => by simp at hi

theorem FldRow.bits_and_mask (f : FldRow) (x : Nat) : bits (x &&& f.mask) f.hi f.lo = bits x f.hi f.lo :=
  Nat.eq_of_testBit_eq fun i => by
    simp only [testBit_bits, Nat.testBit_and, FldRow.testBit_mask]
    by_cases h : i < f.hi + 1 - f.lo <;> simp [h]

/-- A sum of one number per field, each with bits in its field only: its bits are theirs. -/
theorem testBit_sum_fields {l : List FldRow} (hl : l.Pairwise FldRow.apart) {g : FldRow → Nat} (hg : ∀ f ∈ l, f.holds (g f))
    (i : Nat) : (l.map g).sum.testBit i = l.any fun f => (g f).testBit i := by
  induction l generalizing i with
  | nil => simp
  | cons f l ih =>
    obtain ⟨hf, hl⟩ := List.pairwise_cons.mp hl
    have hsum := ih hl fun f' hf' => hg f' (List.mem_cons_of_mem _ hf')
    have disjoint : ∀ j, (g f).testBit j = true → (l.map g).sum.testBit j = false := fun j hj => by
      rw [hsum j, List.any_eq_false]
      intro f' hf' hj'
      have mine := hg f List.mem_cons_self j hj
      have other := hg f' (List.mem_cons_of_mem _ hf') j hj'
      have := hf f' hf'
      unfold FldRow.apart at this
      omega
    rw [List.map_cons, List.sum_cons, testBit_add_of_disjoint i disjoint, hsum i, List.any_cons]

/-- A register value put together field by field reads in each field what was put there. -/
theorem bits_sum_fields {l : List FldRow} (hl : l.Pairwise FldRow.apart) {g : FldRow → Nat} (hg : ∀ f ∈ l, f.holds (g f))
    {f : FldRow} (hf : f ∈ l) : bits (l.map g).sum f.hi f.lo = bits (g f) f.hi f.lo :=
  Nat.eq_of_testBit_eq fun i => by
    rw [testBit_bits, testBit_bits, testBit_sum_fields hl hg]
    by_cases hi : i < f.hi + 1 - f.lo
    · have only : ∀ f' ∈ l, (g f').testBit (f.lo + i) = true → f' = f := fun f' hf' h' => by
        by_contra hne
        have inside := hg f' hf' _ h'
        have symmetric : Std.Symm FldRow.apart := ⟨fun _ _ h => h.symm⟩
        have := hl.forall hf' hf hne
        unfold FldRow.apart at this
        omega
      congr 1
      rw [Bool.eq_iff_iff, List.any_eq_true]
      exact ⟨fun ⟨f', hf', h'⟩ => only f' hf' h' ▸ h', fun h => ⟨f, hf, h⟩⟩
    · simp [hi]

/-! ### Writes by access codes -/

/-- A field read from a value cut to a width it lies in. -/
theorem bits_mod (n : Nat) {hi lo w : Nat} (h : hi < w) : bits (n % 2 ^ w) hi lo = bits n hi lo := Fld.get_mod ⟨hi, lo⟩ n w h

theorem bits_or (a b hi lo : Nat) : bits (a ||| b) hi lo = bits a hi lo ||| bits b hi lo :=
  Nat.eq_of_testBit_eq fun i => by
    simp only [testBit_bits, Nat.testBit_or]
    cases decide (i < hi + 1 - lo) <;> rfl

theorem bits_clear (a b hi lo : Nat) : bits (a - (a &&& b)) hi lo = bits a hi lo - (bits a hi lo &&& bits b hi lo) := by
  rw [sub_and_eq_ldiff, sub_and_eq_ldiff]
  refine Nat.eq_of_testBit_eq fun i => ?_
  simp only [testBit_bits, Nat.testBit_ldiff]
  cases decide (i < hi + 1 - lo) <;> rfl

/-- A write by access codes (R13): each field as the writer's code says (Table SCO-7). -/
theorem State.bits_regPut (s : State) (o : Owner) (r : Reg) (v : Nat) {f : FldRow} (hf : f ∈ r.kind.fields) :
    bits ((s.regPut o r v v).rd r) f.hi f.lo = Spec.fieldAfter (f.writeAcc o) (bits (s.rd r) f.hi f.lo) (bits v f.hi f.lo) := by
  rw [State.regPut, State.rd_wr_same, bits_mod _ (Reg.field_lt_width hf),
    bits_sum_fields r.kind.fields_apart (fun f _ => by split <;> exact f.holds_and_mask _) hf]
  cases f.writeAcc o <;> simp only [Spec.fieldAfter, FldRow.bits_and_mask, bits_or, bits_clear]

/-- A register takes a value cut to its width. -/
theorem State.wr_mod (s : State) (r : Reg) (v : Nat) : s.wr r (v % 2 ^ r.width) = s.wr r v := by
  simp only [State.wr, RegFile.write, Nat.mod_mod]

/-- A write by access codes changes its register only. -/
theorem State.regPut_eq_wr (s : State) (o : Owner) (r : Reg) (v ones : Nat) :
    s.regPut o r v ones = s.wr r ((s.regPut o r v ones).rd r) := by
  rw [State.regPut, State.rd_wr_same, State.wr_mod]

end Sys2Proof.Machine
end

section
/-! Registers by address: the value that a write of a whole register carries, where two registers cannot meet, and what Thimble's
reads and writes by address come to (R13, R14). -/

namespace Sys2Proof.Machine

/-! ### Little-endian values of a whole register (R11) -/

theorem leBytes_eq_map (n v : Nat) : leBytes n v = (List.range n).map fun i => BitVec.ofNat 8 (v / 2 ^ (8 * i)) := by
  induction n generalizing v with
  | zero => rfl
  | succ n ih =>
    rw [leBytes, ih, List.range_succ_eq_map, List.map_cons, List.map_map]
    refine congrArg₂ _ (by simp) (List.map_congr_left fun i _ => ?_)
    simp only [Function.comp_apply, Nat.succ_eq_add_one, Nat.mul_add, Nat.pow_add, Nat.div_div_eq_div_mul]
    rw [Nat.mul_comm]

theorem leBytes_length (n v : Nat) : (leBytes n v).length = n := by simp [leBytes_eq_map]

theorem leBytes_getD {n i : Nat} (v : Nat) (h : i < n) : (leBytes n v).getD i 0 = BitVec.ofNat 8 (v / 2 ^ (8 * i)) := by
  simp [leBytes_eq_map, h]

theorem ofLeBytes_leBytes (n v : Nat) : ofLeBytes (leBytes n v) = v % 2 ^ (8 * n) := by
  induction n generalizing v with
  | zero => simp [leBytes, ofLeBytes, Nat.mod_one]
  | succ n ih =>
    rw [leBytes, ofLeBytes, ih, BitVec.toNat_ofNat, Nat.mul_add, Nat.add_comm (8 * n), Nat.pow_add, Nat.mod_mul]

/-- Registers are whole bytes wide. -/
theorem Reg.eight_mul_width_div (r : Reg) : 8 * (r.width / 8) = r.width := by
  have whole : ∀ k : RegKind, 8 * (k.place.width / 8) = k.place.width := fun k => by cases k <;> rfl
  exact whole r.kind

/-- A write of every byte of a register leaves nothing of its old value. -/
theorem merged_whole (r : Reg) (v old : Nat) : merged r r.addr (leBytes (r.width / 8) v) old = v % 2 ^ r.width := by
  have bytes : (List.range (r.width / 8)).map (fun i =>
      if r.addr ≤ r.addr + i ∧ r.addr + i < r.addr + (leBytes (r.width / 8) v).length then
        (leBytes (r.width / 8) v).getD (r.addr + i - r.addr) 0
      else BitVec.ofNat 8 (old / 2 ^ (8 * i))) = leBytes (r.width / 8) v := by
    refine (List.map_congr_left fun i hi => ?_).trans (leBytes_eq_map _ v).symm
    have hi := List.mem_range.mp hi
    rw [if_pos ⟨by omega, by rw [leBytes_length]; omega⟩, Nat.add_sub_cancel_left, leBytes_getD v hi]
  rw [merged, bytes, ofLeBytes_leBytes, Reg.eight_mul_width_div]

/-- An access of every byte of a register covers all its bits. -/
theorem covered_whole (r : Reg) : covered r r.addr (r.width / 8) = 2 ^ r.width - 1 := by
  have ones : ∀ n, ofLeBytes ((List.range n).map fun _ => (0xFF : Byte)) = 2 ^ (8 * n) - 1 := fun n => by
    induction n with
    | zero => rfl
    | succ n ih =>
      have := Nat.one_le_two_pow (n := 8 * n)
      rw [List.range_succ_eq_map, List.map_cons, List.map_map, ofLeBytes, Function.comp_def, ih, Nat.mul_add, Nat.pow_add]
      have byte : (0xFF : Byte).toNat = 255 := rfl
      rw [byte]
      omega
  have bytes : (List.range (r.width / 8)).map (fun i =>
      if r.addr ≤ r.addr + i ∧ r.addr + i < r.addr + r.width / 8 then (0xFF : Byte) else 0) =
      (List.range (r.width / 8)).map fun _ => 0xFF :=
    List.map_congr_left fun i hi => by
      have hi := List.mem_range.mp hi
      rw [if_pos ⟨by omega, by omega⟩]
  rw [covered, bytes, ones, Reg.eight_mul_width_div]

/-! ### Where registers lie -/

/-- The last address at which a register of an array starts. -/
def Place.last (p : Place) : Nat := p.base + p.s1 * (p.n1 - 1) + p.s2 * (p.n2 - 1)

/-- Two arrays lie apart. -/
def RegKind.apart (k l : RegKind) : Bool := decide (k.place.last < l.place.base) || decide (l.place.last < k.place.base)

theorem Reg.addr_in_place {r : Reg} (h : r.ok = true) : r.kind.place.base ≤ r.addr ∧ r.addr ≤ r.kind.place.last := by
  simp only [Reg.ok, Bool.and_eq_true, decide_eq_true_eq] at h
  obtain ⟨hi, hj⟩ := h
  have row := Nat.mul_le_mul_left r.kind.place.s1 (Nat.le_sub_one_of_lt hi)
  have col := Nat.mul_le_mul_left r.kind.place.s2 (Nat.le_sub_one_of_lt hj)
  unfold Reg.addr Place.last
  omega

/-- Registers of arrays that lie apart have different addresses. -/
theorem Reg.addr_ne {q r : Reg} (hq : q.ok = true) (hr : r.ok = true) (h : q.kind.apart r.kind = true) : q.addr ≠ r.addr := by
  have := Reg.addr_in_place hq
  have := Reg.addr_in_place hr
  simp only [RegKind.apart, Bool.or_eq_true, decide_eq_true_eq] at h
  omega

/-- The copy of an array that an address search finds is one of its copies. -/
theorem Place.find_inside {p : Place} {a i j : Nat} (h : p.find a = some (i, j)) : i < p.n1 ∧ j < p.n2 := by
  simp only [Place.find, Option.ite_none_left_eq_some, Option.ite_none_right_eq_some, Option.some.injEq, Prod.mk.injEq] at h
  obtain ⟨_, ⟨hi, hj, _⟩, rfl, rfl⟩ := h
  exact ⟨hi, hj⟩

/-- A register that an address search finds is one of its array. -/
theorem Reg.ok_of_ofAddr {a : Nat} {r : Reg} (h : Reg.ofAddr a = some r) : r.ok = true := by
  obtain ⟨k, _, hk⟩ := List.exists_of_findSome?_eq_some h
  obtain ⟨⟨i, j⟩, found, rfl⟩ := Option.map_eq_some_iff.mp hk
  obtain ⟨hi, hj⟩ := Place.find_inside found
  simp [Reg.ok, hi, hj]

/-- A register that the physical map names is one of its array. -/
theorem State.ok_of_target {s : State} {a : Nat} {r : Reg} (h : s.target a = .reg r) : r.ok = true := by
  unfold State.target at h
  repeat' split at h
  all_goals cases h
  all_goals exact Reg.ok_of_ofAddr ‹_›

/-! ### Reads and writes by address

The kernel must not evaluate the physical map at an address that is a variable: the products that bound protected memory would be
counted down one by one. Each of these laws therefore makes the map a variable before it goes into a match on what lies there. -/

/-- The bytes of the register at an address. -/
theorem State.regBytes_of_target {s : State} {r : Reg} {a : Nat} (target : s.target a = .reg r) (addr : r.addr = a) :
    s.regBytes a = r.width / 8 := by
  have unfolded : @State.regBytes = @State.regBytes := rfl
  conv at unfolded => rhs; delta State.regBytes
  rw [unfolded]
  obtain ⟨map, hmap⟩ : ∃ map, map = State.target := ⟨_, rfl⟩
  rw [← hmap] at target ⊢
  simp only [target, addr, Nat.sub_self, Nat.mul_zero, Nat.sub_zero]

/-- A write of a register by Thimble, and by a core that is refused (R13, R15). -/
theorem execRegisterWrite_of_target {s : State} {r : Reg} {a : BitVec 52} (target : s.target a.toNat = .reg r) (v : Word) :
    let data := leBytes (s.regBytes a.toNat) v.toNat
    execRegisterWrite .thimble a v s =
      .next (s.regStore .thimble r (merged r a.toNat data (s.rd r)) (merged r a.toNat data 0)) ∧
    ∀ (th : Thr) (u : State), s.live th = true → s.devStore th a.toNat data (.reg r) = (u, .refused) →
      execRegisterWrite (.core th) a v s = .next (u.except th 0x05 0x07 0 (u.thr th).pc (BitVec.ofNat 64 a.toNat)) := by
  have unfolded : @execRegisterWrite = @execRegisterWrite := rfl
  conv at unfolded => rhs; delta execRegisterWrite
  rw [unfolded]
  obtain ⟨map, hmap⟩ : ∃ map, map = State.target := ⟨_, rfl⟩
  rw [← hmap] at target ⊢
  refine ⟨by simp only [target], fun th u live refused => ?_⟩
  simp only [target, live, refused, Bool.not_true, Bool.false_eq_true, if_false]

/-- A read of a register by Thimble, and by a core that is refused (R13, R15). -/
theorem execRegisterReadClear_of_target {s : State} {r : Reg} {a : BitVec 52} (target : s.target a.toNat = .reg r) :
    (let load := s.regLoad .thimble r (covered r a.toNat (s.regBytes a.toNat))
     execRegisterReadClear .thimble a s = .next (load.1.emit (.value a.toNat load.2))) ∧
    ∀ (th : Thr) (u : State), s.live th = true → s.devLoad th a.toNat (s.regBytes a.toNat) (.reg r) = (u, .refused) →
      execRegisterReadClear (.core th) a s = .next (u.except th 0x04 0x07 0 (u.thr th).pc (BitVec.ofNat 64 a.toNat)) := by
  have unfolded : @execRegisterReadClear = @execRegisterReadClear := rfl
  conv at unfolded => rhs; delta execRegisterReadClear
  rw [unfolded]
  obtain ⟨map, hmap⟩ : ∃ map, map = State.target := ⟨_, rfl⟩
  rw [← hmap] at target ⊢
  refine ⟨by simp only [target], fun th u live refused => ?_⟩
  simp only [target, live, refused, Bool.not_true, Bool.false_eq_true, if_false]

/-- A write by Thimble stores the value, cut to the register's width, under Thimble's codes. -/
theorem exec_registerWrite_thimble {s : State} {r : Reg} {a : BitVec 52} (h : Spec.liesAt s r a) (v : Word) :
    exec (.registerWrite .thimble a v) s = .next (s.regStore .thimble r (v.toNat % 2 ^ r.width) (v.toNat % 2 ^ r.width)) := by
  have write := (execRegisterWrite_of_target h.1 v).1
  rw [State.regBytes_of_target h.1 h.2, ← h.2, merged_whole, merged_whole] at write
  exact write

/-- A read by Thimble sends what the register returns and leaves what the read leaves. -/
theorem exec_registerRead_thimble {s : State} {r : Reg} {a : BitVec 52} (h : Spec.liesAt s r a) :
    exec (.registerReadClear .thimble a) s =
      .next ((s.regLoad .thimble r (2 ^ r.width - 1)).1.emit (.value a.toNat (s.regLoad .thimble r (2 ^ r.width - 1)).2)) := by
  have read := (execRegisterReadClear_of_target h.1).1
  rw [State.regBytes_of_target h.1 h.2] at read
  have covers : covered r a.toNat (r.width / 8) = 2 ^ r.width - 1 := by rw [← h.2, covered_whole]
  rw [covers] at read
  exact read

/-- A register that sets nothing going takes what is written to it and no more (R13). -/
theorem State.regStore_ordinary {r : Reg} (h : Spec.ordinary r.kind) (s : State) (o : Owner) (v ones : Nat) :
    s.regStore o r v ones = s.regPut o r v ones := by
  unfold State.regStore
  split
  case h_25 => rfl
  all_goals simp_all [Spec.ordinary]

/-- A read of a register other than the clock's (R26) returns its value and clears what it is to clear. -/
theorem State.regLoad_plain {r : Reg} (hs : r.kind ≠ .tuTodS) (hn : r.kind ≠ .tuTodNs) (s : State) (o : Owner) (seen : Nat) :
    s.regLoad o r seen = (s.wr r (r.kind.afterRead o seen (s.rd r)), r.kind.readValue o (s.rd r)) := by
  unfold State.regLoad
  split
  · exact absurd ‹_› hs
  · exact absurd ‹_› hn
  · rfl

/-- What a read returns (R13): WO and reserved fields as zero, the others their value. -/
theorem RegKind.bits_readValue (k : RegKind) (o : Owner) (v : Nat) {f : FldRow} (hf : f ∈ k.fields) :
    bits (k.readValue o v) f.hi f.lo = if f.readAcc o = .no ∨ f.readAcc o = .wo then 0 else bits v f.hi f.lo := by
  rw [RegKind.readValue, bits_sum_fields k.fields_apart (fun f _ => by
    split
    · exact f.holds_zero
    · exact f.holds_zero
    · exact f.holds_and_mask v) hf]
  cases f.readAcc o <;> simp only [f.bits_and_mask, reduceCtorEq, or_false, or_true, if_true, if_false]
  all_goals simp [bits]

/-- What a read of a whole register leaves (R13): RC fields cleared, the others as they were. -/
theorem Reg.bits_afterRead (r : Reg) (o : Owner) {v : Nat} (hv : v < 2 ^ r.width) {f : FldRow} (hf : f ∈ r.kind.fields) :
    bits (r.kind.afterRead o (2 ^ r.width - 1) v) f.hi f.lo = if f.readAcc o = .rc then 0 else bits v f.hi f.lo := by
  have seen : ∀ m, v &&& m &&& (2 ^ r.width - 1) = v &&& m := fun m => by
    rw [Nat.and_two_pow_sub_one_eq_mod, Nat.mod_eq_of_lt (Nat.lt_of_le_of_lt Nat.and_le_left hv)]
  simp only [RegKind.afterRead, seen, Nat.sub_self]
  rw [bits_sum_fields r.kind.fields_apart (fun f _ => by
    split
    · exact f.holds_zero
    · exact f.holds_and_mask v) hf]
  cases f.readAcc o <;> simp only [f.bits_and_mask, reduceCtorEq, if_true, if_false]
  simp [bits]

end Sys2Proof.Machine
end

section
/-! What a corrected error record changes (R405, R406), and what exception entry leaves (R82, R83): the two halves of a refused
register access (R15). -/

namespace Sys2Proof.Machine

/-! ### Records of corrected errors -/

/-- A register that no error record touches: not the counters of errors and records, nor a vector of panel 0 (R405, R407). -/
def Reg.clearOfErrors (q : Reg) : Prop :=
  q.addr ≠ Reg.addr { kind := .rasStat } ∧ q.addr ≠ Reg.addr { kind := .rasSeq } ∧
  ∀ v < 2048, q.addr ≠ Reg.addr { kind := .icVec, i := 0, j := v }

/-- From `s` to `t` nothing has changed but the error collector's own: its records and registers, panel 0's vectors, and what waits
for the Swatch store; no reset of before is forgotten (R420). -/
def State.errOnly (s t : State) : Prop :=
  t = { s with regs := t.regs, ras := t.ras, sw := t.sw } ∧ (∀ q : Reg, q.clearOfErrors → t.rd q = s.rd q) ∧
  t.ras.fatals = s.ras.fatals

theorem State.errOnly_trans {s t u : State} (h : s.errOnly t) (h' : t.errOnly u) : s.errOnly u := by
  obtain ⟨eq, regs, fatals⟩ := h
  obtain ⟨eq', regs', fatals'⟩ := h'
  refine ⟨?_, fun q hq => (regs' q hq).trans (regs q hq), fatals'.trans fatals⟩
  rw [eq', eq]

/-- A write of one of the collector's registers. -/
theorem State.errOnly_wr (s : State) {r : Reg} (v : Nat) (h : ∀ q : Reg, q.clearOfErrors → q.addr ≠ r.addr) : s.errOnly (s.wr r v) :=
  ⟨rfl, fun q hq => s.rd_wr_other q r v (h q hq), rfl⟩

theorem State.errOnly_wr_rasStat (s : State) (v : Nat) : s.errOnly (s.wr { kind := .rasStat } v) := s.errOnly_wr v fun _ hq => hq.1

theorem State.errOnly_wr_rasSeq (s : State) (v : Nat) : s.errOnly (s.wr { kind := .rasSeq } v) := s.errOnly_wr v fun _ hq => hq.2.1

theorem State.errOnly_refl (s : State) : s.errOnly s := ⟨rfl, fun _ _ => rfl, rfl⟩

theorem State.errOnly_raise (s : State) (v : Nat) : s.errOnly (s.raise 0 v) := by
  unfold State.raise State.setFld
  split
  · next h => exact s.errOnly_wr _ fun _ hq => hq.2.2 v h.2
  · exact s.errOnly_refl

theorem State.errOnly_sw (s : State) (x : SwatchSt) : s.errOnly { s with sw := x } := ⟨rfl, fun _ _ => rfl, rfl⟩

theorem State.errOnly_ras (s : State) (x : RasSt) (h : x.fatals = s.ras.fatals) : s.errOnly { s with ras := x } :=
  ⟨rfl, fun _ _ => rfl, h⟩

theorem State.errOnly_swUnit (s : State) (u code : Nat) : s.errOnly (s.swUnit u code) := by
  unfold State.swUnit
  split
  · exact s.errOnly_sw _
  · exact s.errOnly_refl

/-- The count of a corrected error and its unit's (R405, R441). -/
theorem State.errOnly_counted (s : State) (u code : Nat) : s.errOnly ((s.countErr 0).swUnit u code) :=
  State.errOnly_trans (s.errOnly_wr_rasStat _) (State.errOnly_swUnit _ u code)

/-- The record of an error is among those written. -/
def RasSt.hasRecord (x : RasSt) (e : ErrEvt) : Prop := ∃ r ∈ x.ring, r.cls = e.cls ∧ r.code = e.code ∧ r.paddr = e.paddr

theorem foldErr_hasRecord {e : ErrEvt} (he : e.cls = 0) {n : Nat} {l recs : List ErrRec} (h : foldErr e n l = some recs) :
    ∃ r ∈ recs, r.cls = e.cls ∧ r.code = e.code ∧ r.paddr = e.paddr := by
  induction l generalizing recs with
  | nil => cases h
  | cons r l ih =>
    rw [foldErr] at h
    split at h
    · next same =>
      obtain rfl := Option.some.inj h
      obtain ⟨_, cls, _, code, paddr⟩ := same
      exact ⟨_, List.mem_cons_self, cls.trans he.symm, code, paddr⟩
    · obtain ⟨recs', found, rfl⟩ := Option.map_eq_some_iff.mp h
      obtain ⟨x, mem, same⟩ := ih found
      exact ⟨x, List.mem_cons_of_mem _ mem, same⟩

/-- A record of a corrected error is written, and nothing is but the collector's own (R405–R407). -/
theorem State.writeRec_corrected (s : State) {e : ErrEvt} (he : e.cls = 0) :
    s.errOnly (s.writeRec e) ∧ (s.writeRec e).ras.hasRecord e := by
  have step : ∀ {t u : State}, s.errOnly t ∧ t.ras.hasRecord e → t.errOnly u → u.ras = t.ras → s.errOnly u ∧ u.ras.hasRecord e :=
    fun ⟨only, record⟩ only' same => ⟨State.errOnly_trans only only', same ▸ record⟩
  unfold State.writeRec
  extract_lets seq r x s1 s2 s3 s4 n
  have written : s.errOnly s1 ∧ s1.ras.hasRecord e :=
    ⟨s.errOnly_ras _ rfl, r, by simp only [s1, List.take_succ_cons]; exact List.mem_cons_self, rfl, rfl, rfl⟩
  have stored : s.errOnly s2 ∧ s2.ras.hasRecord e := by
    simp only [s2]
    split
    · exact step written (s1.errOnly_sw _) rfl
    · exact written
  have numbered : s.errOnly s3 ∧ s3.ras.hasRecord e := step stored (s2.errOnly_wr_rasSeq _) rfl
  have same : s4 = s3 := if_neg (by omega)
  rw [same]
  split
  · exact step numbered (s3.errOnly_raise _) (s3.raise_ras _ _)
  · exact numbered

/-- A corrected error changes nothing but the collector's own, and is recorded unless 192 have been in this stitch (R406). -/
theorem State.logErr_corrected (s : State) {e : ErrEvt} (he : e.cls = 0) :
    s.errOnly (s.logErr e) ∧ (s.ras.writtenCorr < 192 → (s.logErr e).ras.hasRecord e) := by
  unfold State.logErr
  simp only [he, if_true]
  have counted := s.errOnly_counted e.unitId e.code
  have ras : ((s.countErr 0).swUnit e.unitId e.code).ras = s.ras := by
    unfold State.swUnit; split <;> rfl
  generalize (s.countErr 0).swUnit e.unitId e.code = t at *
  split
  · next recs found =>
    obtain ⟨r, mem, same⟩ := foldErr_hasRecord he found
    exact ⟨State.errOnly_trans counted (t.errOnly_ras _ rfl), fun _ => ⟨r, List.mem_append_left _ mem, same⟩⟩
  · split
    · next full => exact ⟨State.errOnly_trans counted (t.errOnly_wr_rasSeq _), fun room => absurd full (by rw [ras]; omega)⟩
    · obtain ⟨only, record⟩ := t.writeRec_corrected he
      exact ⟨State.errOnly_trans counted only, fun _ => record⟩

/-! ### Exception entry -/

/-- The control registers after entry: those of the level's bank and STATUS are written, the others stand. -/
theorem Thread.cr0_enter (x : Thread) (lvl cause sub code : Nat) (sec : Bool) (epc eaddr : Word) (m : Nat) :
    (x.enter lvl cause sub code sec epc eaddr).cr0 m =
      if m = 0 then BitVec.ofNat 64 (enterStatus lvl (x.cr0 0).toNat)
      else if m = bankNo lvl crEADDR then eaddr
      else if m = bankNo lvl crECAUSE then mkEcause cause sub code (x.st (exlOf lvl) == 1) sec
      else if m = bankNo lvl crEPC then epc &&& ~~~3#64
      else x.cr0 m := by
  have cr : ∀ (y : Thread) (pc : Word), ({ y with pc := pc, retired := true, noRetire := 0, waiting := false } : Thread).cr0 m = y.cr0 m :=
    fun _ _ => rfl
  simp only [Thread.enter, cr, Thread.cr0_setCr]

/-- STATUS after entry, field by field. -/
theorem Thread.st_enter (x : Thread) (lvl cause sub code : Nat) (sec : Bool) (epc eaddr : Word) {f : Fld} (hf : f.hi < 64) :
    (x.enter lvl cause sub code sec epc eaddr).st f = f.get (enterStatus lvl (x.cr0 0).toNat) := by
  rw [Thread.st, Thread.crFld, Thread.cr0_enter, if_pos rfl, BitVec.toNat_ofNat, Fld.get_mod _ _ _ hf]

/-- The pc after entry: the handler's address (R83 step 4). -/
theorem Thread.pc_enter (x : Thread) {lvl : Nat} (hl : lvl = 1 ∨ lvl = 2) (cause sub code : Nat) (sec : Bool) (epc eaddr : Word) :
    (x.enter lvl cause sub code sec epc eaddr).pc =
      (x.cr0 (bankNo lvl crEVEC) &&& ~~~0xFFF#64) + BitVec.ofNat 64 (vecOffset cause) := by
  rcases hl with rfl | rfl <;>
    simp [Thread.enter, Thread.cr0_setCr, bankNo, crEVEC, crEADDR, crECAUSE, crEPC]

/-- STATUS after entry (R83 steps 2 and 3): the level, IE cleared, and in the level's bank EXL set and the old level and enable. -/
theorem get_enterStatus {l : Nat} (hl : l = 1 ∨ l = 2) (st : Nat) : let y := enterStatus l st
    F.crSTATUS.PL.get y = l ∧ F.crSTATUS.IE.get y = 0 ∧
    if l = 2 then F.crSTATUS.HEXL.get y = 1 ∧ F.crSTATUS.HPP.get y = F.crSTATUS.PL.get st ∧ F.crSTATUS.HPIE.get y = F.crSTATUS.IE.get st
    else F.crSTATUS.SEXL.get y = 1 ∧ F.crSTATUS.SPP.get y = F.crSTATUS.PL.get st % 2 ∧ F.crSTATUS.SPIE.get y = F.crSTATUS.IE.get st := by
  have enable : F.crSTATUS.IE.get st % 2 = F.crSTATUS.IE.get st := Nat.mod_mod _ _
  have level : F.crSTATUS.PL.get st % 4 = F.crSTATUS.PL.get st := Nat.mod_mod _ _
  rcases hl with rfl | rfl
  · simp (disch := decide) only [enterStatus, OfNat.one_ne_ofNat, if_false, Fld.get_set_other, Fld.get_set_same]
    exact ⟨rfl, rfl, rfl, rfl, enable⟩
  · simp (disch := decide) only [enterStatus, if_true, Fld.get_set_other, Fld.get_set_same]
    exact ⟨rfl, rfl, rfl, level, enable⟩

/-- ECAUSE of an exception without a code, from the insecure side (Table ISA-11). -/
theorem mkEcause_toNat {cause sub : Nat} (hc : cause < 256) (hs : sub < 256) (nest : Bool) :
    (mkEcause cause sub 0 nest false).toNat = cause + sub * 256 + if nest = true then 65536 else 0 := by
  unfold mkEcause
  cases nest <;> simp only [b2n, BitVec.toNat_ofNat, if_true, if_false, Bool.false_eq_true] <;> omega

/-- The handler's offset (R83 step 4). -/
theorem ofNat_vecOffset (cause : Nat) : BitVec.ofNat 64 (vecOffset cause) =
    if cause = 0x20 then 0x100#64 else if cause = 0x10 then 0x200#64 else if cause = 0x11 then 0x300#64 else 0#64 := by
  unfold vecOffset
  split
  · rfl
  · split
    · rfl
    · split <;> rfl

section
variable {s t : State} {th cause sub : Nat} (hc : cause < 256) (hs : sub < 256) {epc eaddr : Word}
include hc hs

/-- A thread that has entered a level is as R83 says. -/
theorem enteredAt_of_enter {l : Nat} (hl : l = 1 ∨ l = 2) (h : t.thr th = (s.thr th).enter l cause sub 0 false epc eaddr) :
    Spec.enteredAt s t th l cause sub 0 false epc eaddr := by
  obtain ⟨level, enable, bank⟩ := get_enterStatus hl ((s.thr th).cr0 0).toNat
  unfold Spec.enteredAt Thread.pl
  rw [h]
  simp (disch := decide) only [Thread.st_enter, Thread.cr0_enter]
  refine ⟨?_, ?_, ?_, level, enable, bank, ?_⟩
  · rcases hl with rfl | rfl <;> rfl
  · rcases hl with rfl | rfl <;> rfl
  · rcases hl with rfl | rfl <;> exact (mkEcause_toNat hc hs _).trans (by simp [exlOf])
  · rw [Thread.pc_enter _ hl, ofNat_vecOffset]; rfl

/-- An exception at the thread's own level leaves what R82 and R83 say. -/
theorem State.entered_except (hth : th ≠ thmThread) (h : t.thr th = s.thr th) :
    Spec.entered s (t.except th cause sub 0 epc eaddr) th cause sub 0 epc eaddr := by
  have after : (t.except th cause sub 0 epc eaddr).thr th = (s.thr th).enter (takenAt (s.thr th).pl) cause sub 0 false epc eaddr := by
    rw [State.except, if_neg hth, State.thr_setThr_same, h]
  unfold Spec.entered
  by_cases high : (s.thr th).pl = 2
  · rw [if_pos high]
    rw [takenAt, if_pos high] at after
    exact enteredAt_of_enter hc hs (.inr rfl) after
  · rw [if_neg high]
    rw [takenAt, if_neg high] at after
    exact enteredAt_of_enter hc hs (.inl rfl) after

end

/-- An exception of a core's thread changes that thread alone. -/
theorem State.except_coresOnly (s : State) {th : Nat} (hth : th ≠ thmThread) (cause sub code : Nat) (epc eaddr : Word) :
    s.coresOnly (s.except th cause sub code epc eaddr) := by
  rw [State.except, if_neg hth]; rfl

end Sys2Proof.Machine
end

section
/-! The statements about register access (R13–R15, R45, R56, R88, R260), each from the laws above. -/

namespace Sys2Proof.Machine

/-! ### Reads and writes by Thimble -/

theorem registerWrites : Spec.RegisterWrites := fun r a v s ord lies => by
  refine ⟨s.regPut .thimble r (v.toNat % 2 ^ r.width) (v.toNat % 2 ^ r.width), ?_, State.regPut_eq_wr _ _ _ _ _, fun f hf => ?_⟩
  · rw [exec_registerWrite_thimble lies, State.regStore_ordinary ord]
  · rw [State.bits_regPut _ _ _ _ hf, bits_mod _ (Reg.field_lt_width hf)]; rfl

theorem registerReads : Spec.RegisterReads := fun r a s notTodS notTodNs lies => by
  have read := exec_registerRead_thimble lies
  rw [State.regLoad_plain notTodS notTodNs] at read
  refine ⟨_, _, read, rfl, rfl, fun f hf => ⟨RegKind.bits_readValue _ _ _ hf, ?_⟩⟩
  have left : ((s.wr r (r.kind.afterRead .thimble (2 ^ r.width - 1) (s.rd r))).emit
      (.value a.toNat (r.kind.readValue .thimble (s.rd r)))).rd r = _ :=
    s.rd_wr_same r _
  rw [left, bits_mod _ (Reg.field_lt_width hf), r.bits_afterRead _ (s.rd_lt r) hf]; rfl

/-- Before commitment Thimble writes TU.STITCH whole (R25). -/
theorem State.regPut_tuStitch (s : State) {r : Reg} (h : r.kind = .tuStitch) (v : Nat) :
    s.regPut .thimble r (v % 2 ^ r.width) (v % 2 ^ r.width) = s.wr r v := by
  have width : r.width = 64 := by rw [Reg.width, h]; rfl
  have whole : (r.kind.fields) = [⟨63, 0, .rw, .ro, .no⟩] := by rw [h]; rfl
  have mask : v % 2 ^ 64 &&& (2 ^ 64 - 1) = v % 2 ^ 64 := by rw [Nat.and_two_pow_sub_one_eq_mod, Nat.mod_mod]
  rw [← s.wr_mod r v, State.regPut, whole, width]
  simp only [List.map_cons, List.map_nil, List.sum_cons, List.sum_nil, FldRow.mask, FldRow.writeAcc]
  exact congrArg _ mask

/-- A clock register is not written after commitment (R25). -/
theorem State.regStore_clock {s : State} {r : Reg} (h : r.kind ∈ [.tuTodS, .tuTodNs, .tuStitch]) (committed : s.committed = true)
    (o : Owner) (v ones : Nat) : s.regStore o r v ones = s := by
  have clock : s.regStore o r v ones = s.clockWrite o r v ones := by
    simp only [List.mem_cons, List.not_mem_nil, or_false] at h
    rcases h with h | h | h <;> simp only [State.regStore, h]
  rw [clock, State.clockWrite, if_pos committed]

/-- TU.STITCH takes what Thimble writes before commitment (R25). -/
theorem State.regStore_tuStitch {s : State} {r : Reg} (h : r.kind = .tuStitch) (uncommitted : s.committed = false) (v : Nat) :
    s.regStore .thimble r (v % 2 ^ r.width) (v % 2 ^ r.width) = s.wr r v := by
  simp only [State.regStore, h, State.clockWrite, uncommitted, Bool.false_eq_true, reduceCtorEq, if_false]
  exact s.regPut_tuStitch h v

/-- Taking WP.PCTL into use changes no register (R235). -/
theorem State.rd_keepInUse (s : State) (p : Nat) (r : Reg) : (s.keepInUse p).rd r = s.rd r := by
  unfold State.keepInUse; split <;> rfl

theorem guardedWrites : Spec.GuardedWrites := fun r a v s lies => by
  have write := exec_registerWrite_thimble lies v
  refine ⟨fun clock committed => ?_, fun stitch uncommitted => ?_, fun pctl => ?_, fun tmo => ?_⟩
  · rw [write, State.regStore_clock clock committed]
  · exact ⟨_, by rw [write, State.regStore_tuStitch stitch uncommitted], rfl⟩
  · have taken : s.regStore .thimble r (v.toNat % 2 ^ r.width) (v.toNat % 2 ^ r.width) =
        (s.keepInUse r.i).regPut .thimble r (v.toNat % 2 ^ r.width) (v.toNat % 2 ^ r.width) := by simp only [State.regStore, pctl]
    refine ⟨_, by rw [write, taken], fun f hf => ?_⟩
    rw [State.bits_regPut _ _ _ _ hf, State.rd_keepInUse, bits_mod _ (Reg.field_lt_width hf)]; rfl
  · have width : r.width = 32 := by rw [Reg.width, tmo]; rfl
    have value : ⟨19, 0, .rw, .ro, .no⟩ ∈ r.kind.fields := by rw [tmo]; decide
    have cut : F.rasTmo.VALUE.get (v.toNat % 2 ^ r.width) = bits v.toNat 19 0 := bits_mod _ (by rw [width]; decide)
    have kept : s.regStore .thimble r (v.toNat % 2 ^ r.width) (v.toNat % 2 ^ r.width) = if tmoRange r.i (bits v.toNat 19 0) then
        s.regPut .thimble r (v.toNat % 2 ^ r.width) (v.toNat % 2 ^ r.width) else s := by simp only [State.regStore, tmo, cut]
    rw [write, kept]
    refine ⟨fun out => by rw [out]; rfl, fun inside => ⟨_, by rw [inside]; rfl, State.regPut_eq_wr _ _ _ _ _, ?_⟩⟩
    exact (State.bits_regPut _ _ _ _ value).trans cut

/-! ### Refused accesses -/

theorem RegKind.apart_rasStat {k : RegKind} : k ≠ .rasStat → k.apart .rasStat = true := by cases k <;> decide
theorem RegKind.apart_rasSeq {k : RegKind} : k ≠ .rasSeq → k.apart .rasSeq = true := by cases k <;> decide
theorem RegKind.apart_icVec {k : RegKind} : k ≠ .icVec → k.apart .icVec = true := by cases k <;> decide

/-- Every register but the collector's counters and the vectors is clear of error records. -/
theorem Reg.clearOfErrors_of_kind {r : Reg} (ok : r.ok = true) (hStat : r.kind ≠ .rasStat) (hSeq : r.kind ≠ .rasSeq)
    (hVec : r.kind ≠ .icVec) : r.clearOfErrors := by
  refine ⟨Reg.addr_ne ok (by decide) (RegKind.apart_rasStat hStat), Reg.addr_ne ok (by decide) (RegKind.apart_rasSeq hSeq), fun v hv => ?_⟩
  exact Reg.addr_ne ok (decide_eq_true hv) (RegKind.apart_icVec hVec)

/-- Errors leave the threads as they are. -/
theorem State.errOnly_thr {s t : State} (h : s.errOnly t) (th : Nat) : t.thr th = s.thr th := by rw [h.1]; rfl

/-- A core's access to the one register there, which its column does not list, is refused (R15). -/
theorem State.devDenied_reg {s : State} {th pa n : Nat} {r : Reg} (only : s.regsAt pa n = [r])
    (unlisted : s.regListed (s.panelOf th) (s.ownerAt (s.panelOf th) (s.thr th).pl r) r = false) :
    s.devDenied th pa n (.reg r) = true := by
  simp only [State.devDenied, only, List.any_cons, unlisted, Bool.not_false, Bool.true_or]

/-- What a refused access leaves once its exception is taken (R15): the thread entered, no register changed but the collector's and the
vectors, and REG_ACCESS recorded. -/
theorem State.refused_access (s : State) (th : Thr) {r : Reg} (clear : r.clearOfErrors) (a : Nat) {cause : Nat} (hc : cause < 256) (ea : Word) :
    let t := s.regDenied (th / 2) (s.panelOf th) a
    let u := t.except th cause 0x07 0 (t.thr th).pc ea
    Spec.entered s u th cause 0x07 0 (s.thr th).pc ea ∧ u.rd r = s.rd r ∧
    (s.ras.writtenCorr < 192 → ∃ e ∈ u.ras.ring, e.code = 0x25 ∧ e.paddr = a) := by
  intro t u
  have core : th.val ≠ thmThread := Nat.ne_of_lt th.isLt
  obtain ⟨only, record⟩ : s.errOnly t ∧ (s.ras.writtenCorr < 192 → t.ras.hasRecord _) := s.logErr_corrected rfl
  have thr := State.errOnly_thr only th
  have cores : t.coresOnly u := t.except_coresOnly core _ _ _ _ _
  refine ⟨?_, ?_, fun room => ?_⟩
  · exact thr ▸ State.entered_except hc (by decide) core thr
  · have regs : u.regs = t.regs := by rw [← cores]
    rw [State.rd_of_regs regs, only.2.1 r clear]
  · obtain ⟨e, mem, _, code, paddr⟩ := record room
    have ras : u.ras = t.ras := by rw [← cores]
    exact ⟨e, ras ▸ mem, code, paddr⟩

theorem registerDenials : Spec.RegisterDenials := fun th r a v s lies live only unlisted hStat hSeq hVec => by
  have clear := Reg.clearOfErrors_of_kind (State.ok_of_target lies.1) hStat hSeq hVec
  have bytes := State.regBytes_of_target lies.1 lies.2
  have denied := State.devDenied_reg only unlisted
  have write := (execRegisterWrite_of_target lies.1 v).2 th _ live (by
    rw [bytes, State.devStore, leBytes_length]; simp only [denied, if_true]; rfl)
  have read := (execRegisterReadClear_of_target lies.1).2 th _ live (by
    rw [bytes, State.devLoad]; simp only [denied, if_true]; rfl)
  obtain ⟨store, storeKeeps, storeRecord⟩ := s.refused_access th clear a.toNat (cause := 0x05) (by decide) (BitVec.ofNat 64 a.toNat)
  obtain ⟨load, loadKeeps, loadRecord⟩ := s.refused_access th clear a.toNat (cause := 0x04) (by decide) (BitVec.ofNat 64 a.toNat)
  exact ⟨⟨_, write, store, storeKeeps, storeRecord⟩, ⟨_, read, load, loadKeeps, loadRecord⟩⟩

/-! ### Vectors, the panel's own requests -/

/-- What a panel's write of a vector is before its two corrections: every field that it may write takes the value (R88). -/
theorem State.fld_regPut_icVec (s : State) (p v n : Nat) {f : FldRow} (hf : f ∈ RegKind.icVec.fields) :
    (s.regPut .panelSw { kind := .icVec, i := p, j := v } n n).fld { kind := .icVec, i := p, j := v } ⟨f.hi, f.lo⟩ =
      Spec.fieldAfter f.p (s.fld { kind := .icVec, i := p, j := v } ⟨f.hi, f.lo⟩) (Fld.get ⟨f.hi, f.lo⟩ n) :=
  s.bits_regPut .panelSw _ n hf

/-- A field cleared under a condition. -/
def State.clearIf (s : State) (c : Bool) (r : Reg) (f : Fld) : State := if c then s.setFld r f 0 else s

theorem State.fld_clearIf_same (s : State) (c : Bool) {r : Reg} {f : Fld} (hw : f.hi < r.width) :
    (s.clearIf c r f).fld r f = if c then 0 else s.fld r f := by
  unfold State.clearIf
  split
  · exact (s.fld_setFld_same r f 0 hw).trans (Nat.zero_mod _)
  · rfl

theorem State.fld_clearIf_other (s : State) (c : Bool) {r : Reg} {f g : Fld} (hw : f.hi < r.width) (h : f.hi < g.lo ∨ g.hi < f.lo) :
    (s.clearIf c r g).fld r f = s.fld r f := by
  unfold State.clearIf
  split
  · exact s.fld_setFld_field r f g 0 hw h
  · rfl

theorem State.panel_clearIf (s : State) (c : Bool) (r : Reg) (f : Fld) (p : Nat) : (s.clearIf c r f).panel p = s.panel p := by
  unfold State.clearIf; split <;> rfl

/-- A write of a vector with its corrections: HLVL cleared outside panel 0, EN where the panel lacks the seat (R88, Table ISA-24). -/
theorem State.icVecWrite_eq (s : State) (o : Owner) (r : Reg) (v ones : Nat) :
    s.icVecWrite o r v ones =
      let t := (s.regPut o r v ones).clearIf (r.i ≠ 0) r F.icVec.HLVL
      t.clearIf (decide ((s.panel r.i).seats ≤ t.fld r F.icVec.SEAT)) r F.icVec.EN := by
  have corrected : (if r.i = 0 then s.regPut o r v ones else (s.regPut o r v ones).setFld r F.icVec.HLVL 0) =
      (s.regPut o r v ones).clearIf (r.i ≠ 0) r F.icVec.HLVL := by
    by_cases h : r.i = 0 <;> simp [State.clearIf, h]
  have seats : ((s.regPut o r v ones).clearIf (r.i ≠ 0) r F.icVec.HLVL).panel r.i = s.panel r.i := State.panel_clearIf _ _ _ _ _
  rw [State.icVecWrite]
  dsimp only
  rw [corrected, seats]
  simp only [State.clearIf, decide_eq_true_eq]

theorem vectorWrites : Spec.VectorWrites := fun p v value s => by
  intro r f n
  have run : exec (.icVec p v value) s = .next (s.icVecWrite .panelSw r value.toNat value.toNat) := rfl
  have put : ∀ {x : FldRow}, x ∈ RegKind.icVec.fields → _ := fun hx => s.fld_regPut_icVec p v value.toNat hx
  let s1 := s.regPut .panelSw r value.toNat value.toNat
  let s2 := s1.clearIf (r.i ≠ 0) r F.icVec.HLVL
  have hlvl : ∀ {x : Fld}, x.hi < 64 → x.hi < 9 ∨ 9 < x.lo → s2.fld r x = s1.fld r x := fun hx h => s1.fld_clearIf_other _ hx h
  let u := s2.clearIf (decide ((s.panel r.i).seats ≤ s2.fld r F.icVec.SEAT)) r F.icVec.EN
  have en : ∀ {x : Fld}, x.hi < 64 → x.hi < 31 ∨ 31 < x.lo → u.fld r x = s2.fld r x := fun hx h => s2.fld_clearIf_other _ hx h
  have both : ∀ {x : Fld}, x.hi < 64 → x.hi < 9 ∨ 9 < x.lo → x.hi < 31 ∨ 31 < x.lo → u.fld r x = s1.fld r x :=
    fun hx h h' => (en hx h').trans (hlvl hx h)
  have seat : s2.fld r F.icVec.SEAT = n F.icVec.SEAT :=
    (hlvl (by decide) (by decide)).trans (put (x := ⟨7, 0, .rw, .ro, .rw⟩) (by decide))
  have high : s1.fld r F.icVec.HLVL = n F.icVec.HLVL := put (x := ⟨9, 9, .rw, .ro, .rw⟩) (by decide)
  have enabled : s2.fld r F.icVec.EN = n F.icVec.EN :=
    (hlvl (by decide) (by decide)).trans (put (x := ⟨31, 31, .rw, .ro, .rw⟩) (by decide))
  refine ⟨u, run.trans (congrArg _ (s.icVecWrite_eq _ _ _ _)), ?_, ?_, ?_, ?_, ?_, ?_, ?_⟩
  · exact (both (by decide) (by decide) (by decide)).trans (put (x := ⟨30, 30, .rw, .ro, .rw⟩) (by decide))
  · exact (both (by decide) (by decide) (by decide)).trans (put (x := ⟨19, 16, .rw, .ro, .rw⟩) (by decide))
  · exact (both (by decide) (by decide) (by decide)).trans (put (x := ⟨8, 8, .rw, .ro, .rw⟩) (by decide))
  · exact (en (by decide) (by decide)).trans seat
  · exact (both (by decide) (by decide) (by decide)).trans (put (x := ⟨29, 29, .rw, .ro, .ro⟩) (by decide))
  · refine (en (by decide) (by decide)).trans ((s1.fld_clearIf_same _ (show 9 < 64 by decide)).trans ?_)
    rw [high]
    simp only [ne_eq, decide_not, Bool.not_eq_true', decide_eq_false_iff_not, ite_not, r]
  · refine (s2.fld_clearIf_same _ (show 31 < 64 by decide)).trans ?_
    rw [seat, enabled]
    simp only [decide_eq_true_eq, ← Nat.not_lt, ite_not, r]

theorem State.fld_lt (s : State) (r : Reg) (f : Fld) : s.fld r f < 2 ^ (f.hi + 1 - f.lo) := Nat.mod_lt _ (Nat.two_pow_pos _)

/-- 0xA5 reloads the panel watchdog (Table PNL-12). -/
theorem State.kick_reload (s : State) (p : Nat) :
    (s.kick p 0xA5).fld { kind := .hubPwdog, i := p } F.hubPwdog.REMAIN = s.fld { kind := .hubPwdog, i := p } F.hubPwdog.PERIOD := by
  rw [State.kick, if_pos rfl, State.fld_setFld_same _ _ _ _ (show 15 < 32 by decide)]
  exact Nat.mod_eq_of_lt (s.fld_lt _ F.hubPwdog.PERIOD)

/-- A self-reset request of another panel than 0 is a trigger (R45). -/
theorem State.selfReset_other (s : State) {p : Nat} (hp : p ≠ 0) :
    s.selfReset p = (s.setFld { kind := .hubPstate, i := p } F.hubPstate.SELFRESET 1).trigger p .selfReset := if_neg hp

/-- Errors leave the resets that are asked for, and the secure interrupts, as they are. -/
theorem State.errOnly_due {s t : State} (h : s.errOnly t) : t.resetDue = s.resetDue ∧ t.sint = s.sint := by
  rw [h.1]; exact ⟨rfl, rfl⟩

/-- A self-reset request of panel 0 is recorded as HOST_SELFRESET and asks for a warm reset, which is no fault (R45). -/
theorem State.selfReset_host (s : State) (room : s.ras.writtenCorr < 192) :
    (s.selfReset 0).resetDue = askReset s.resetDue .warm ∧ (∃ e ∈ (s.selfReset 0).ras.ring, e.cls = 0 ∧ e.code = 0x4E) ∧
    (s.selfReset 0).ras.fatals = s.ras.fatals ∧ (s.selfReset 0).sint = s.sint := by
  let t := s.setFld { kind := .hubPstate, i := 0 } F.hubPstate.SELFRESET 1
  let e : ErrEvt := { unitId := unitId 0x0D 0, cls := 0, code := 0x4E, action := 9, flags := flagPanel, panel := t.handle 0 }
  have run : s.selfReset 0 = (t.logErr e).resetAt .warm := by
    rw [State.selfReset, if_pos rfl]
  obtain ⟨only, record⟩ := t.logErr_corrected (e := e) rfl
  obtain ⟨x, mem, cls, code, _⟩ := record room
  obtain ⟨due, sint⟩ := State.errOnly_due only
  rw [State.setFld_resetDue] at due
  rw [State.setFld_sint] at sint
  rw [run, State.resetAt_ras, State.resetAt_sint, State.resetAt, due]
  exact ⟨rfl, ⟨x, mem, cls, code⟩, only.2.2, sint⟩

theorem askReset_warm (old : Option ResetKind) : askReset old .warm = some (if old = some .cold then .cold else .warm) := by
  rcases old with _ | _ | _ <;> rfl

/-- A trigger waits behind those accepted before it (R43). -/
theorem State.triggers_trigger (s : State) (p : Nat) (t : Trigger) (c : Option Nat) :
    ((s.trigger p t c).panel p).triggers = (s.panel p).triggers ++ [(t, c)] := by
  simp only [State.trigger, State.panel, State.setPanel, SMap.get_put_same]

theorem State.panel_setFld (s : State) (r : Reg) (f : Fld) (v p : Nat) : (s.setFld r f v).panel p = s.panel p := by
  rw [State.panel, State.setFld_panels, State.panel]

theorem panelRequests : Spec.PanelRequests := fun p s => by
  refine ⟨⟨_, rfl, s.kick_reload p⟩, fun v hv => ?_, fun other => ?_, fun host room => ?_⟩
  · have value : v.toNat ≠ 0xA5 := fun h => hv (BitVec.eq_of_toNat_eq h)
    exact congrArg _ (if_neg value)
  · refine ⟨_, congrArg Host.Outcome.next (s.selfReset_other other), ?_, ?_, ?_⟩
    · have asked : (s.setFld { kind := .hubPstate, i := p } F.hubPstate.SELFRESET 1).fld { kind := .hubPstate, i := p }
          F.hubPstate.SELFRESET = 1 := s.fld_setFld_same _ _ _ (show 8 < 32 by decide)
      rw [State.flag, State.fld, State.rd_of_regs (State.trigger_regs _ _ _ _)]
      exact beq_of_eq asked
    · rw [State.triggers_trigger, State.panel_setFld]
    · rw [State.trigger_resetDue, State.setFld_resetDue]
  · obtain ⟨due, record, fatals, sint⟩ := s.selfReset_host room
    rw [askReset_warm] at due
    exact ⟨_, congrArg (fun k => Host.Outcome.next (s.selfReset k)) host, due, record, fatals, sint⟩

/-! ### Barriers -/

section
variable (s : State) (n : Fin 256)

/-- The state with ARRIVE of a context set. -/
def State.arrived : State := s.setFld (barR n) F.wpBar.ARRIVE 1

theorem barR_ok : (barR n).ok = true := by
  have := n.isLt
  simp [Reg.ok, barR, RegKind.place]

/-- A register of an array that lies apart from the contexts reads on. -/
theorem State.rd_arrived_apart {q : Reg} (ok : q.ok = true) (h : q.kind.apart .wpBar = true) : (s.arrived n).rd q = s.rd q :=
  s.rd_setFld_other q _ _ _ (Reg.addr_ne ok (barR_ok n) h)

/-- A context's other fields, and every field of the other contexts, read on. -/
theorem State.fld_arrived_bar (m : Nat) {f : Fld} (hf : f.hi < 64) (h : 0 < f.lo) : (s.arrived n).fld (barR m) f = s.fld (barR m) f := by
  by_cases same : m = n
  · rw [same]; exact s.fld_setFld_field _ _ _ _ hf (.inr h)
  · refine s.fld_setFld_other _ _ _ _ _ ?_
    simp only [barR, Reg.addr, RegKind.place]
    omega

theorem State.fld_arrived_ARRIVE : (s.arrived n).fld (barR n) F.wpBar.ARRIVE = 1 :=
  s.fld_setFld_same _ _ _ (show 0 < 64 by decide)

theorem barR_addr_ne_barcntR (m k : Nat) : (barR m).addr ≠ (barcntR k).addr := by
  simp only [barR, barcntR, Reg.addr, RegKind.place]
  omega

theorem State.myId_arrived : (s.arrived n).myId = s.myId := by
  unfold State.myId State.fld
  rw [s.rd_arrived_apart n (by decide) (by decide)]

/-- Arriving changes no route (R246). -/
theorem State.wordTo_arrived {d : Nat} (hd : d < 4096) : (s.arrived n).wordTo d = s.wordTo d := by
  have psel : (s.arrived n).rd (pselR d) = s.rd (pselR d) :=
    s.rd_arrived_apart n (by simp [Reg.ok, pselR, RegKind.place, hd]) (show RegKind.apart .wpPsel .wpBar = true by decide)
  have route : ∀ w < 4, (s.arrived n).rd (routeR d w) = s.rd (routeR d w) := fun w hw =>
    s.rd_arrived_apart n (by simp [Reg.ok, routeR, RegKind.place, hd, hw]) (show RegKind.apart .wpRoute .wpBar = true by decide)
  have pselFld : ∀ f, (s.arrived n).fld (pselR d) f = s.fld (pselR d) f := fun f => congrArg f.get psel
  have pselFlag : ∀ f, (s.arrived n).flag (pselR d) f = s.flag (pselR d) f := fun f => congrArg (· == 1) (pselFld f)
  have sel : s.fld (pselR d) F.wpPsel.SEL < 4 := s.fld_lt _ _
  have weft : (s.arrived n).weft = s.weft := rfl
  simp only [State.wordTo, State.myId_arrived, pselFlag, pselFld, route _ sel, weft]

theorem State.rootCtx_arrived (rctx : Nat) : (s.arrived n).rootCtx rctx = s.rootCtx rctx := by
  simp (disch := decide) only [State.rootCtx, State.myId_arrived, State.fld_arrived_bar]

variable (vacant : s.fld (barR n) F.wpBar.ARRIVE = 0) (used : s.fld (barR n) F.wpBar.COUNT ≠ 0)
include vacant used

/-- An arrival on a module other than the root sends BARARR with its GEN to the root (R260). -/
theorem State.barArrive_away {w : Nat} (away : s.fld (barR n) F.wpBar.ROOT ≠ s.myId) (word : s.wordTo (s.fld (barR n) F.wpBar.ROOT) = some w) :
    s.barArrive n = (s.arrived n).sendCell (mkCell 0x03 (s.fld (barR n) F.wpBar.ROOT) (s.handle (s.fld (barR n) F.wpBar.PANEL))
      (s.fld (barR n) F.wpBar.GEN) (s.fld (barR n) F.wpBar.RCTX) false false w []) := by
  have ready : (s.flag (barR n) F.wpBar.ARRIVE || s.fld (barR n) F.wpBar.COUNT == 0) = false := by simp [State.flag, vacant, used]
  have arrive : s.setFld (barR n) F.wpBar.ARRIVE 1 = s.arrived n := rfl
  have root : s.fld (barR n) F.wpBar.ROOT < 4096 := s.fld_lt _ _
  have myId := s.myId_arrived n
  simp (disch := decide) only [State.barArrive, ready, arrive, Bool.false_eq_true, if_false, State.fld_arrived_bar, myId, away,
    s.wordTo_arrived n root, word, State.handle]

/-- The root's own arrival is counted (R260). -/
theorem State.barArrive_root (root : s.fld (barR n) F.wpBar.ROOT = s.myId) :
    s.barArrive n = (s.arrived n).barCount (s.fld (barR n) F.wpBar.RCTX) (s.fld (barR n) F.wpBar.GEN) s.myId := by
  have ready : (s.flag (barR n) F.wpBar.ARRIVE || s.fld (barR n) F.wpBar.COUNT == 0) = false := by simp [State.flag, vacant, used]
  have arrive : s.setFld (barR n) F.wpBar.ARRIVE 1 = s.arrived n := rfl
  have myId := s.myId_arrived n
  simp (disch := decide) only [State.barArrive, ready, arrive, Bool.false_eq_true, if_false, State.fld_arrived_bar, myId, root, if_true]

end

/-- An arrival at the root that is not the last: ARRIVED counts it (R260). -/
theorem State.barCount_counted (s : State) {rctx gen src n : Nat} (ctx : s.rootCtx rctx = some n) (same : s.fld (barR n) F.wpBar.GEN = gen)
    (first : src ∉ SMap.get (fun _ => []) s.weft.counted n) (more : s.fld (barcntR n) F.wpBarcnt.ARRIVED + 1 ≠ s.fld (barR n) F.wpBar.COUNT) :
    ∃ w, s.barCount rctx gen src = { s with weft := w }.setFld (barcntR n) F.wpBarcnt.ARRIVED (s.fld (barcntR n) F.wpBarcnt.ARRIVED + 1) := by
  refine ⟨{ s.weft with counted := SMap.insert s.weft.counted n (src :: SMap.get (fun _ => []) s.weft.counted n) }, ?_⟩
  unfold State.barCount
  rw [ctx]
  dsimp -zeta only
  extract_lets seen weft t k u _ _
  rw [if_neg (by simp only [ne_eq, same, not_true_eq_false, false_or]; exact first)]
  have count : u.fld (barR n) F.wpBar.COUNT = s.fld (barR n) F.wpBar.COUNT := t.fld_setFld_other _ _ _ _ _ (barR_addr_ne_barcntR n n)
  have notLast : k ≠ s.fld (barR n) F.wpBar.COUNT := more
  rw [count, if_neg notLast]
  rfl

theorem barrierArrivals : Spec.BarrierArrivals := fun n s => by
  refine ⟨fun idle => ?_, fun vacant used => ⟨fun w away word => ?_, fun root ctx first more => ?_⟩⟩
  · have closed : (s.flag (barR n) F.wpBar.ARRIVE || s.fld (barR n) F.wpBar.COUNT == 0) = true := by
      rcases idle with h | h <;> simp [State.flag, h]
    exact congrArg Host.Outcome.next (if_pos closed)
  · exact ⟨_, congrArg Host.Outcome.next (s.barArrive_away n vacant used away word), s.fld_arrived_ARRIVE n, rfl⟩
  · have count : (s.arrived n).fld (barcntR n) F.wpBarcnt.ARRIVED = s.fld (barcntR n) F.wpBarcnt.ARRIVED :=
      s.fld_setFld_other _ _ _ _ _ (barR_addr_ne_barcntR n n).symm
    have fits : s.fld (barcntR n) F.wpBarcnt.ARRIVED + 1 < 2 ^ 13 := more.trans (s.fld_lt (barR n) F.wpBar.COUNT)
    obtain ⟨w, counted⟩ := (s.arrived n).barCount_counted (gen := s.fld (barR n) F.wpBar.GEN) (src := s.myId)
      ((s.rootCtx_arrived n _).trans ctx) (s.fld_arrived_bar n n (by decide) (by decide)) first
      (by rw [count, s.fld_arrived_bar n n (by decide) (by decide)]; exact Nat.ne_of_lt more)
    refine ⟨_, congrArg Host.Outcome.next ((s.barArrive_root n vacant used root).trans counted), ?_, ?_⟩
    · exact (State.fld_setFld_other _ _ _ _ _ _ (barR_addr_ne_barcntR n n)).trans (s.fld_arrived_ARRIVE n)
    · rw [State.fld_setFld_same _ _ _ _ (show 12 < 64 by decide), count]
      exact Nat.mod_eq_of_lt fits

end Sys2Proof.Machine

open Sys2Proof.Machine

/-- Settles O34: writes and reads field by field from the register tables (log entries 47, 109), the clock's and the time limits'
conditions (log entry 110), refused accesses (log entry 26), vectors (log entry 25), self-resets and kicks, and arrivals. -/
theorem registerAccess : Obligations.RegisterAccess :=
  ⟨registerWrites, guardedWrites, registerReads, registerDenials, vectorWrites, panelRequests, barrierArrivals⟩
end

section
/-! Where statements of the Cutter's plans and of Ockar's barrier contexts fail, and the values of reset. -/

namespace Sys2Proof.Machine

/-- With CUT.CTRL.EN = 0, as after reset, task 5 plans nothing, and is done for the stitch (R21, R315). -/
theorem exec_cutterAllocation_reset : exec .cutterAllocation State.reset = .next (State.reset.taskDone 5) := rfl

end Sys2Proof.Machine

open Sys2Proof.Machine

/-- Refutes O35: with the Cutter off, task 5 plans nothing but is marked as done for the stitch; after reset it is not so marked. -/
theorem not_cutterPlans : ¬ Obligations.CutterPlans := by
  unfold Obligations.CutterPlans
  rintro ⟨plans, -⟩
  obtain ⟨off, -⟩ := plans State.reset
  have same := (exec_cutterAllocation_reset.symm.trans (off (.inl rfl)))
  injection same with same
  have done : [5] = ([] : List Nat) := congrArg (fun s => s.time.done) same
  cases done

end

section
namespace Sys2Proof.Machine

/-- A register that nothing has written since reset. -/
theorem State.rd_reset (r : Reg) : State.reset.rd r = r.reset % 2 ^ r.width := rfl

theorem State.fld_reset {r : Reg} {f : Fld} (h : f.hi < r.width) : State.reset.fld r f = f.get r.reset := by
  rw [State.fld, State.rd_reset, Fld.get_mod _ _ _ h]

end Sys2Proof.Machine
open Sys2Proof.Machine

/-- Settles O57: each register at its table's reset value; of the arrays whose copies differ, by what the copy's index gives. -/
theorem resetValues : Obligations.ResetValues := by
  have partner : ∀ c < 24, State.reset.fld { kind := .mcCtrl, i := c } F.mcCtrl.PARTNER = (c + 12) % 24 := by decide
  have ports : ∀ p < 6, State.reset.fld (pctlR p) F.wpPctl.ROLE = 1 ∧ State.reset.fld (pctlR p) F.wpPctl.DIM = p / 2 ∧
      State.reset.fld (pctlR p) F.wpPctl.DIR = p % 2 := by decide
  have off : ∀ d < 425, State.reset.fld (dstatR d) F.pwrDstat.CUR = 2 := fun d hd => by
    have reset : (dstatR d).reset = 2 ^ 63 := if_pos hd
    rw [State.fld_reset (show 63 < 64 by decide), reset]
    rfl
  refine ⟨rfl, rfl, rfl, rfl, rfl, rfl, rfl, rfl, rfl, rfl, rfl, rfl, rfl, rfl, rfl, rfl, fun p => rfl, partner, ports, ⟨rfl, rfl⟩, off⟩
end

section
/-! Where the statement of Ockar's barrier commands fails: a cancelled context forgets the arrivals it has counted, which are no
register's (R260, R261). -/

namespace Sys2Proof.Machine

/-! ### A reply over a mailbox leaves the Weft as it is (R347, R388) -/

theorem State.emit_weft (s : State) (o : Out) : (s.emit o).weft = s.weft := by
  unfold State.emit; split <;> rfl

/-- A fold of steps that each leave the Weft as it is. -/
theorem foldl_weft {α : Type} (f : State → α → State) (h : ∀ s a, (f s a).weft = s.weft) (l : List α) (s : State) :
    (l.foldl f s).weft = s.weft := by
  induction l generalizing s with
  | nil => rfl
  | cons a l ih => rw [List.foldl_cons, ih, h]

theorem State.dropCopy_weft (s : State) (t line : Nat) : (s.dropCopy t line).weft = s.weft := by
  unfold State.dropCopy State.setL2 State.modTile
  dsimp only
  split
  · rfl
  · split <;> rfl

theorem State.dropCopies_weft (s : State) (h line : Nat) (op : WarpOp) : (s.dropCopies h line op).weft = s.weft := by
  have dropped : ∀ hs : List Nat, (hs.foldl (fun s t => s.dropCopy t line) (s.snoopAll h 0xFF line op hs)).weft = s.weft := fun hs => by
    rw [foldl_weft _ (fun s t => s.dropCopy_weft t line), State.snoopAll, foldl_weft _ fun s t => s.emit_weft _]
  unfold State.dropCopies
  dsimp only
  split
  · exact dropped _
  · exact dropped _

theorem State.recall_weft (s : State) (line : Nat) : (s.recall line).weft = s.weft := by
  unfold State.recall
  split
  · rfl
  · split
    · rfl
    · exact s.dropCopies_weft _ _ _

theorem State.homeStore_weft (s : State) (p pa : Nat) (data : List Byte) : (s.homeStore p pa data).weft = s.weft :=
  foldl_weft _ State.recall_weft _ s

theorem State.slotWrite_weft (s : State) (p slot : Nat) (bytes : List Byte) : (s.slotWrite p slot bytes).weft = s.weft := by
  have stored : (s.slotBytes p slot bytes).weft = s.weft := foldl_weft _ (fun s e => s.homeStore_weft _ _ _) _ s
  unfold State.slotWrite
  dsimp only
  split
  · exact stored
  · rw [State.raise_weft]; exact stored

/-- A reply to a request of a mailbox without a session. -/
theorem State.reply_weft_mailbox (s : State) {q : OckReq} {p slot : Nat} (h : q.via = .mailbox p slot none) (status stitch : Nat)
    (payload : List Byte) : (s.reply q status stitch payload).weft = s.weft := by
  have session : q.session = none := by rw [OckReq.session, h]
  unfold State.reply
  split
  · rfl
  · simp only [session, h]
    exact s.slotWrite_weft _ _ _

/-! ### A context with an arrival is cancelled -/

/-- BAR_CANCEL of context 0, asked for by the host manager for panel 0. -/
def cancelReq : OckReq :=
  { via := .mailbox 0 0 none
    head := leBytes 1 1 ++ leBytes 1 0 ++ leBytes 2 0x0607 ++ leBytes 4 7 ++ leBytes 4 0 ++ leBytes 4 (0x0C * 2 ^ 24) ++ leBytes 2 1 ++
      leBytes 2 0 ++ leBytes 8 0 ++ leBytes 4 0
    payload := [0], mac := [], at_ := 0, tick := 0, answered := false }

/-- Reset, with context 0 set for 2 arrivals and that of module 1 counted. -/
def oneArrived : State :=
  { State.reset.setFld (barR 0) F.wpBar.COUNT 2 with weft := { WeftSt.init with counted := [(0, [1])] } }

/-- In which BAR_CANCEL is what Thimble has taken. -/
def cancelAsked : State := { oneArrived with thm := { ThmSt.init with taken := [cancelReq] } }

/-- The common checks include whose request it is (R385). -/
theorem State.whoCheck_of_preCheck {s : State} {r : OckRow} {q : OckReq} (h : s.preCheck r q = none) : s.whoCheck r q = none := by
  unfold State.preCheck at h
  split at h
  · cases h
  · exact Option.eq_none_iff_forall_ne_some.mpr ‹_›

/-- A command that passes every check and comes to OK (R385): its reply goes out in the state it leaves. -/
theorem State.ockar_ok {s u t : State} {op : Nat} {q : OckReq} {f : OckReq → State → State × Ans} {payload : List Byte}
    (passes : Spec.passes s op q u) (own : s.foreign op q = none) (ok : f q u = (t, .ok payload)) :
    s.ockar op (Spec.layout op) f = t.reply q stOk t.stitch payload := by
  obtain ⟨⟨next, off⟩, ⟨r, row, checks⟩, stray⟩ := passes
  have foreign : u.foreign op q = s.foreign op q := by rw [off]; rfl
  have who := State.whoCheck_of_preCheck checks
  simp only [State.ockar, next, row, ← off, foreign, own, who, checks, stray, ok, Option.map_none, Option.or_none]

theorem cancel_passes : Spec.passes cancelAsked 0x0607 cancelReq oneArrived := by
  have taken : [cancelReq].erase cancelReq = [] := List.erase_cons_head cancelReq []
  refine ⟨⟨by decide, ?_⟩, ⟨row 0x0607 cPan byPH bI 1 1, rfl, by decide⟩, by decide⟩
  simp only [cancelAsked, taken]
  rfl

/-- The cancelled context has forgotten its arrivals. -/
theorem exec_barCancel_cancelAsked : ∃ t, exec .barCancel cancelAsked = .next (State.reply t cancelReq stOk t.stitch []) ∧ t.weft.counted = [] :=
  ⟨((oneArrived.wr (barR 0) 0).wr (barcntR 0) 0).forgetArrivals 0,
    congrArg Host.Outcome.next (State.ockar_ok cancel_passes rfl (if_neg (by decide))), rfl⟩

end Sys2Proof.Machine

open Sys2Proof.Machine

/-- Refutes O47: BAR_CANCEL of a context that has counted an arrival changes more than registers: the arrivals are forgotten. -/
theorem not_ockarFabric : ¬ Obligations.OckarFabric := by
  unfold Obligations.OckarFabric
  rintro ⟨-, -, -, -, ⟨-, cancel, -⟩, -⟩
  obtain ⟨ours, -⟩ := cancel cancelAsked oneArrived cancelReq cancel_passes
  obtain ⟨w, replied, onlyRegs, -⟩ := ours (by decide)
  obtain ⟨t, run, forgot⟩ := exec_barCancel_cancelAsked
  have same : t.reply cancelReq stOk t.stitch [] = w.reply cancelReq stOk w.stitch [] := by
    injection run.symm.trans replied
  have weft : t.weft = w.weft := by
    have := congrArg State.weft same
    rwa [State.reply_weft_mailbox _ rfl, State.reply_weft_mailbox _ rfl] at this
  have counted : w.weft.counted = [(0, [1])] := by rw [onlyRegs]; rfl
  rw [weft, counted] at forgot
  cases forgot

end

section
/-! Laws of the Time Unit's operations: what a move of STATE, a fault flag, a lost reference and a set time leave (R25–R30, Table TIM-5,
Table TIM-6). -/

namespace Sys2Proof.Machine

variable (s : State)

/-! ### Registers through these operations -/

theorem State.fld_of_rd {s t : State} {r : Reg} (h : t.rd r = s.rd r) (f : Fld) : t.fld r f = s.fld r f := by rw [State.fld, State.fld, h]

theorem State.flag_of_fld {s t : State} {r : Reg} {f : Fld} (h : t.fld r f = s.fld r f) : t.flag r f = s.flag r f := by
  rw [State.flag, State.flag, h]

/-- Whether the module follows the fabric master depends on three registers. -/
theorem State.follower_of_rd {s t : State} (ctrl : t.rd tuCtrlR = s.rd tuCtrlR) (shape : t.rd fcfgR = s.rd fcfgR)
    (master : t.fld tuStatusR F.tuStatus.IS_MASTER = s.fld tuStatusR F.tuStatus.IS_MASTER) : t.follower = s.follower := by
  rw [State.follower, State.flag_of_fld (State.fld_of_rd ctrl _), State.flag_of_fld (State.fld_of_rd shape _), State.isMaster,
    State.flag_of_fld master]
  rfl

/-- TOD depends on two registers. -/
theorem State.tod_of_rd {s t : State} (sec : t.rd { kind := .tuTodS } = s.rd { kind := .tuTodS })
    (ns : t.rd { kind := .tuTodNs } = s.rd { kind := .tuTodNs }) : t.tod = s.tod := by rw [State.tod, State.tod, sec, ns]

@[simp] theorem State.rd_setTime (f : TimeSt → TimeSt) (r : Reg) : (s.setTime f).rd r = s.rd r := rfl
@[simp] theorem State.fld_setTime (f : TimeSt → TimeSt) (r : Reg) (g : Fld) : (s.setTime f).fld r g = s.fld r g := rfl
@[simp] theorem State.weft_setTime (f : TimeSt → TimeSt) : (s.setTime f).weft = s.weft := rfl
@[simp] theorem State.weft_setFld (r : Reg) (f : Fld) (v : Nat) : (s.setFld r f v).weft = s.weft := rfl
@[simp] theorem State.time_setFld (r : Reg) (f : Fld) (v : Nat) : (s.setFld r f v).time = s.time := rfl
@[simp] theorem State.tuState_setTime (f : TimeSt → TimeSt) : (s.setTime f).tuState = s.tuState := rfl
@[simp] theorem State.ownState_setTime (f : TimeSt → TimeSt) : (s.setTime f).ownState = s.ownState := rfl
@[simp] theorem State.tod_setTime (f : TimeSt → TimeSt) : (s.setTime f).tod = s.tod := rfl
@[simp] theorem State.stitch_setTime (f : TimeSt → TimeSt) : (s.setTime f).stitch = s.stitch := rfl
@[simp] theorem State.time_setTime (f : TimeSt → TimeSt) : (s.setTime f).time = f s.time := rfl

/-! ### A move of STATE (Table TIM-5) -/

/-- A move of STATE changes TU.STATUS and the time since LOCKED only. -/
theorem State.setTuState_frame (v : Nat) :
    s.setTuState v = { s with regs := (s.setTuState v).regs, time := (s.setTuState v).time } := by
  unfold State.setTuState
  dsimp only
  split <;> split <;> rfl

/-- What a move of STATE does to the Time Unit's other state: leaving LOCKED starts the count of R37. -/
theorem State.setTuState_time (v : Nat) : ∃ n c, (s.setTuState v).time = { s.time with sinceLock := n, class52 := c } := by
  unfold State.setTuState
  dsimp only
  split <;> split <;> exact ⟨_, _, rfl⟩

theorem State.follower_setFld_STATE (v : Nat) : (s.setFld tuStatusR F.tuStatus.STATE v).follower = s.follower :=
  State.follower_of_rd (s.rd_setFld_other _ _ _ _ (by decide)) (s.rd_setFld_other _ _ _ _ (by decide))
    (s.fld_setFld_field _ _ _ _ (by decide) (by decide))

/-- The registers after a move of STATE. -/
theorem State.rd_setTuState (v : Nat) (r : Reg) : (s.setTuState v).rd r =
    (if s.follower then s.setFld tuStatusR F.tuStatus.STATE v
      else (s.setFld tuStatusR F.tuStatus.STATE v).setFld tuStatusR F.tuStatus.OWNSTATE v).rd r := by
  unfold State.setTuState
  dsimp only
  rw [s.follower_setFld_STATE]
  split <;> split <;> rfl

theorem State.rd_setTuState_other (v : Nat) {r : Reg} (h : r.addr ≠ tuStatusR.addr) : (s.setTuState v).rd r = s.rd r := by
  rw [s.rd_setTuState]
  split
  · exact s.rd_setFld_other _ _ _ _ h
  · rw [State.rd_setFld_other _ _ _ _ _ h, s.rd_setFld_other _ _ _ _ h]

/-- The fields of TU.STATUS above OWNSTATE stand. -/
theorem State.fld_setTuState_field (v : Nat) {f : Fld} (hi : f.hi < 32) (lo : 5 < f.lo) :
    (s.setTuState v).fld tuStatusR f = s.fld tuStatusR f := by
  rw [State.fld_of_rd (s.rd_setTuState v tuStatusR)]
  split
  · exact s.fld_setFld_field _ _ _ _ hi (.inr (show 2 < f.lo by omega))
  · rw [State.fld_setFld_field _ _ _ _ _ hi (.inr lo), s.fld_setFld_field _ _ _ _ hi (.inr (show 2 < f.lo by omega))]

theorem State.tuState_setTuState {v : Nat} (h : v < 8) : (s.setTuState v).tuState = v := by
  have set : (s.setFld tuStatusR F.tuStatus.STATE v).fld tuStatusR F.tuStatus.STATE = v :=
    (s.fld_setFld_same _ _ _ (by decide)).trans (Nat.mod_eq_of_lt h)
  rw [State.tuState, State.fld_of_rd (s.rd_setTuState v tuStatusR)]
  split
  · exact set
  · rw [State.fld_setFld_field _ _ _ _ _ (by decide) (by decide), set]

/-- OWNSTATE moves with STATE unless the module follows the fabric master (Table TIM-5). -/
theorem State.ownState_setTuState {v : Nat} (h : v < 8) : (s.setTuState v).ownState = if s.follower then s.ownState else v := by
  rw [State.ownState, State.fld_of_rd (s.rd_setTuState v tuStatusR)]
  split
  · exact s.fld_setFld_field _ _ _ _ (by decide) (by decide)
  · exact (State.fld_setFld_same _ _ _ _ (by decide)).trans (Nat.mod_eq_of_lt h)

theorem State.tuState_lt : s.tuState < 8 := s.fld_lt _ _

/-! ### A fault flag (R26) -/

theorem tuStatusR_clear : tuStatusR.clearOfErrors := Reg.clearOfErrors_of_kind (by decide) (by decide) (by decide) (by decide)

/-- A fault flag changes TU.STATUS and the collector's own. -/
theorem State.timeFlag_frame (f : Fld) (n : Nat) :
    s.timeFlag f n = { s with regs := (s.timeFlag f n).regs, ras := (s.timeFlag f n).ras, sw := (s.timeFlag f n).sw } := by
  unfold State.timeFlag
  split
  · rfl
  · exact (State.logErr_corrected _ rfl).1.1

/-- The registers that no error record touches, after a fault flag. -/
theorem State.rd_timeFlag (f : Fld) (n : Nat) {r : Reg} (clear : r.clearOfErrors) :
    (s.timeFlag f n).rd r = (if s.flag tuStatusR f then s else s.setFld tuStatusR f 1).rd r := by
  unfold State.timeFlag
  split
  · rfl
  · exact (State.logErr_corrected _ rfl).1.2.1 r clear

theorem State.rd_timeFlag_other (f : Fld) (n : Nat) {r : Reg} (clear : r.clearOfErrors) (h : r.addr ≠ tuStatusR.addr) :
    (s.timeFlag f n).rd r = s.rd r := by
  rw [s.rd_timeFlag f n clear]
  split
  · rfl
  · exact s.rd_setFld_other _ _ _ _ h

theorem State.fld_timeFlag_field {f g : Fld} (n : Nat) (hi : g.hi < 32) (h : g.hi < f.lo ∨ f.hi < g.lo) :
    (s.timeFlag f n).fld tuStatusR g = s.fld tuStatusR g := by
  rw [State.fld_of_rd (s.rd_timeFlag f n tuStatusR_clear)]
  split
  · rfl
  · exact s.fld_setFld_field _ _ _ _ hi h

theorem State.flag_timeFlag {f : Fld} (n : Nat) (hi : f.hi < 32) (one : f.hi = f.lo) : (s.timeFlag f n).flag tuStatusR f = true := by
  rw [State.flag_of_fld (State.fld_of_rd (s.rd_timeFlag f n tuStatusR_clear) f)]
  split
  · assumption
  · have width : f.hi + 1 - f.lo = 1 := by omega
    rw [State.flag, State.fld_setFld_same _ _ _ _ hi, width]
    rfl

theorem State.tuState_timeFlag {f : Fld} (n : Nat) (h : 2 < f.lo) : (s.timeFlag f n).tuState = s.tuState :=
  s.fld_timeFlag_field (g := F.tuStatus.STATE) n (by decide) (.inl h)

theorem State.ownState_timeFlag {f : Fld} (n : Nat) (h : 5 < f.lo) : (s.timeFlag f n).ownState = s.ownState :=
  s.fld_timeFlag_field (g := F.tuStatus.OWNSTATE) n (by decide) (.inl h)

theorem State.timeFlag_time (f : Fld) (n : Nat) : (s.timeFlag f n).time = s.time := by rw [s.timeFlag_frame]

/-! ### The loss of the reference (Table TIM-6) -/

theorem lossTo_eq_afterLoss (st : Nat) (hold : Bool) : lossTo st hold = Spec.afterLoss st hold := by
  unfold lossTo Spec.afterLoss
  split
  · next h => rw [h]; rfl
  · split
    · next h => rw [h]; rfl
    · split
      · contradiction
      · contradiction
      · rfl

theorem lossTo_lt {st : Nat} (h : st < 8) (hold : Bool) : lossTo st hold < 8 := by
  unfold lossTo
  split
  · decide
  · split
    · split <;> decide
    · exact h

/-- What HOLDOVER keeps at the loss of the reference (R29): the averaged correction of a LOCKED Time Unit, in force from now on. -/
def State.heldOver : State :=
  let u := if s.tuState = tsLocked then s.setTime fun x => { x with heldFreq := x.meanFreq } else s
  if lossTo s.tuState s.time.main.fromHold = tsHoldover ∧ s.tuState ≠ tsHoldover then
    u.wr { kind := .tuFreqadj } (ofI32 u.time.heldFreq) else u

/-- A lost reference: STATE moves, the count of samples starts again, and REF_LOST is set. -/
theorem State.loseMain_eq : s.loseMain = ((s.heldOver.setTuState (lossTo s.tuState s.time.main.fromHold)).setTime fun y =>
    { y with main := { y.main with good := 0, samples := [] } }).timeFlag F.tuStatus.REF_LOST 2 := rfl

theorem State.rd_heldOver {r : Reg} (h : r.addr ≠ Reg.addr { kind := .tuFreqadj }) : s.heldOver.rd r = s.rd r := by
  unfold State.heldOver
  dsimp only
  split <;> split
  · exact State.rd_wr_other _ _ _ _ h
  · exact s.rd_wr_other _ _ _ h
  · rfl
  · rfl

theorem State.heldOver_time : ∃ f, s.heldOver.time = { s.time with heldFreq := f } := by
  unfold State.heldOver
  dsimp only
  split <;> split <;> exact ⟨_, rfl⟩

/-- TU.STATUS after a lost reference. -/
theorem State.status_loseMain : let st := lossTo s.tuState s.time.main.fromHold
    s.loseMain.flag tuStatusR F.tuStatus.REF_LOST = true ∧ s.loseMain.tuState = st ∧
    s.loseMain.ownState = if s.follower then s.ownState else st := by
  have st : lossTo s.tuState s.time.main.fromHold < 8 := lossTo_lt s.tuState_lt _
  have status : s.heldOver.rd tuStatusR = s.rd tuStatusR := s.rd_heldOver (by decide)
  have follower : s.heldOver.follower = s.follower :=
    State.follower_of_rd (s.rd_heldOver (by decide)) (s.rd_heldOver (by decide)) (State.fld_of_rd status _)
  have own : s.heldOver.ownState = s.ownState := State.fld_of_rd status _
  rw [s.loseMain_eq]
  refine ⟨State.flag_timeFlag _ 2 (by decide) rfl, ?_, ?_⟩
  · rw [State.tuState_timeFlag _ _ (by decide), State.tuState_setTime, State.tuState_setTuState _ st]
  · rw [State.ownState_timeFlag _ _ (by decide), State.ownState_setTime, State.ownState_setTuState _ st, follower, own]

/-- What a lost reference leaves of the Time Unit's other state. -/
theorem State.time_loseMain : ∃ f n c, s.loseMain.time =
    { s.time with heldFreq := f, sinceLock := n, class52 := c, main := { s.time.main with good := 0, samples := [] } } := by
  obtain ⟨f, time⟩ := s.heldOver_time
  obtain ⟨n, c, moved⟩ := s.heldOver.setTuState_time (lossTo s.tuState s.time.main.fromHold)
  refine ⟨f, n, c, ?_⟩
  rw [s.loseMain_eq, State.timeFlag_time]
  simp only [State.setTime, moved, time]

/-- TU.CTRL and the other registers that neither error records nor the Time Unit's state concern stand. -/
theorem State.rd_loseMain {r : Reg} (clear : r.clearOfErrors) (status : r.addr ≠ tuStatusR.addr)
    (freq : r.addr ≠ Reg.addr { kind := .tuFreqadj }) : s.loseMain.rd r = s.rd r := by
  rw [s.loseMain_eq, State.rd_timeFlag_other _ _ _ clear status, State.rd_setTime, State.rd_setTuState_other _ _ status,
    s.rd_heldOver freq]

end Sys2Proof.Machine
end

section
/-! The module's own time reference (R26–R30, R37): inputs, the PTP client and service, holdover. -/

namespace Sys2Proof.Machine

/-! ### The module's own reference (R27, R28) -/

/-- From `s` to `t` only the Time Unit's other state has changed, and with it a sample of the module's own reference has come. -/
theorem onlySamples_of_time {s : State} {v : Sample} {x : TimeSt} (main : x.main = (s.ownSample v).time.main)
    (own : x.own = (s.ownSample v).time.own) : Spec.onlySamples s { s with time := x } [v] x.badEdges := by
  refine ⟨rfl, ?_, rfl⟩
  have follower : State.follower { s with time := x } = s.follower := rfl
  unfold Spec.refTrack
  rw [follower, main, own]
  unfold State.ownSample
  split <;> rfl

/-- A sample of the module's own reference changes the Time Unit's other state only. -/
theorem State.ownSample_frame (s : State) (v : Sample) : s.ownSample v = { s with time := (s.ownSample v).time } := by
  unfold State.ownSample; split <;> rfl

theorem State.badEdges_ownSample (s : State) (v : Sample) : (s.ownSample v).time.badEdges = s.time.badEdges := by
  unfold State.ownSample; split <;> rfl

theorem State.fromHold_ownSample (s : State) (v : Sample) : (s.ownSample v).time.main.fromHold = s.time.main.fromHold := by
  unfold State.ownSample; split <;> rfl

/-- What the module's own reference leaves when it is lost and is the one followed (Table TIM-6). -/
theorem refLost_loseRef {s u : State} (regs : u.regs = s.regs) (hold : u.time.main.fromHold = s.time.main.fromHold)
    (alone : s.follower = false) : Spec.refLost s u.loseRef := by
  have same : u.follower = false := by
    rw [State.follower_of_rd (State.rd_of_regs regs _) (State.rd_of_regs regs _) (State.fld_of_rd (State.rd_of_regs regs _) _), alone]
  have state : u.tuState = s.tuState := State.fld_of_rd (State.rd_of_regs regs _) _
  obtain ⟨flag, moved, own⟩ := u.status_loseMain
  obtain ⟨f, n, c, time⟩ := u.time_loseMain
  have lost : u.loseRef = u.loseMain := by rw [State.loseRef, same, if_neg Bool.false_ne_true]
  rw [same, if_neg Bool.false_ne_true] at own
  rw [lost, Spec.refLost, ← lossTo_eq_afterLoss, ← hold, ← state]
  exact ⟨flag, moved, own.trans moved.symm, by rw [time], by rw [time]⟩

/-- An edge that is rejected or missing breaks the count of samples (R27). -/
theorem State.badEdge_few {s : State} (h : s.time.badEdges < 2) : Spec.onlySamples s s.badEdge [.broken] (s.time.badEdges + 1) := by
  have few : ¬3 ≤ (s.ownSample .broken).time.badEdges + 1 := by rw [s.badEdges_ownSample]; omega
  rw [State.badEdge, State.time_setTime, if_neg few, State.setTime, s.ownSample_frame, ← s.badEdges_ownSample .broken]
  exact onlySamples_of_time rfl rfl

/-- The third in a row loses the reference (R27). -/
theorem State.badEdge_third {s : State} (h : 2 ≤ s.time.badEdges) (alone : s.follower = false) : Spec.refLost s s.badEdge := by
  have third : 3 ≤ (s.ownSample .broken).time.badEdges + 1 := by rw [s.badEdges_ownSample]; omega
  rw [State.badEdge, State.time_setTime, if_pos third]
  refine refLost_loseRef ?_ (s.fromHold_ownSample _) alone
  rw [s.ownSample_frame]; rfl

theorem ppsInputs : Spec.PpsInputs := fun s sel => by
  refine ⟨fun edge ref10m => ?_, s.badEdge, if_neg (not_not_intro sel), State.badEdge_few, State.badEdge_third⟩
  intro off rejected
  have listens : ¬(s.refsel ≠ 1 ∨ (!s.time.ref10m) = true) := by simp [sel, ref10m]
  by_cases bad : rejected
  · refine ⟨s.badEdge, ?_, fun good => absurd bad good, fun _ => State.badEdge_few, fun _ => State.badEdge_third⟩
    exact (if_neg listens).trans (if_pos bad)
  · refine ⟨_, (if_neg listens).trans (if_neg bad), fun _ => ?_, fun h => absurd h bad, fun h => absurd h bad⟩
    rw [State.setTime, s.ownSample_frame]
    exact onlySamples_of_time rfl rfl

theorem referenceInputs : Spec.ReferenceInputs := fun s => by
  refine ⟨fun sel ref10m alone => ?_, fun sel alone => ?_, _, rfl, rfl, rfl⟩
  · let u := s.setTime fun x => { x with ref10m := false }
    obtain ⟨f, n, c, time⟩ := u.time_loseMain
    have follower : u.follower = false := alone
    refine ⟨u.loseRef, if_pos ⟨sel, ref10m⟩, ?_, refLost_loseRef rfl rfl alone⟩
    rw [State.loseRef, follower, if_neg (by decide), time]
    rfl
  · let u := s.setTime fun x => { x with masters := [] }
    obtain ⟨f, n, c, time⟩ := u.time_loseMain
    have follower : u.follower = false := alone
    refine ⟨u.loseRef, if_pos sel, ?_, refLost_loseRef rfl rfl alone⟩
    rw [State.loseRef, follower, if_neg (by decide), time]
    rfl

/-! ### The PTP client (R28, R29) -/

theorem lexLt_asymm {l m : List Nat} (h : lexLt l m = true) : lexLt m l = false := by
  induction l generalizing m with
  | nil => cases h
  | cons x l ih =>
    cases m with
    | nil => cases h
    | cons y m =>
      simp only [lexLt, Bool.or_eq_true, decide_eq_true_eq, Bool.and_eq_true, beq_iff_eq] at h
      rcases h with less | ⟨rfl, rest⟩
      · simp [lexLt, Nat.lt_asymm less, Nat.ne_of_gt less]
      · simp [lexLt, ih rest]

/-- The first of a list sorted by a strict order is the member below all others. -/
theorem head?_insertBy {α : Type} (lt : α → α → Bool) (x : α) (l : List α) :
    (insertBy lt x l).head? = some (match l.head? with
      | some y => if lt y x then y else x
      | none => x) := by
  cases l with
  | nil => rfl
  | cons y l => simp only [insertBy, List.head?_cons]; split <;> rfl

theorem head?_sortBy_of_least {α : Type} (lt : α → α → Bool) (asymm : ∀ a b, lt a b = true → lt b a = false)
    {best : α} {l : List α} (mem : best ∈ l) (least : ∀ b ∈ l, b = best ∨ lt best b = true) : (sortBy lt l).head? = some best := by
  have fromList : ∀ (l : List α) (y : α), (sortBy lt l).head? = some y → y ∈ l := by
    intro l
    induction l with
    | nil => intro y h; cases h
    | cons x l ih =>
      intro y h
      rw [sortBy, head?_insertBy] at h
      split at h
      · next z hz =>
        obtain rfl := Option.some.inj h
        split
        · exact List.mem_cons_of_mem _ (ih z hz)
        · exact List.mem_cons_self
      · obtain rfl := Option.some.inj h; exact List.mem_cons_self
  induction l with
  | nil => cases mem
  | cons x l ih =>
    rw [sortBy, head?_insertBy]
    have tail : ∀ b ∈ l, b = best ∨ lt best b = true := fun b hb => least b (List.mem_cons_of_mem _ hb)
    by_cases isIn : best ∈ l
    · rw [ih isIn tail]
      rcases least x List.mem_cons_self with rfl | less
      · simp
      · simp [less]
    · obtain rfl : best = x := (List.mem_cons.mp mem).resolve_right isIn
      split
      · next y hy =>
        rcases tail y (fromList l y hy) with rfl | less
        · simp
        · simp [asymm _ _ less]
      · rfl

/-- The chosen master is the one whose data set is lowest of those that qualify (R28). -/
theorem State.ptpMaster_eq {s : State} {best : Announce} (mem : best ∈ s.qualified)
    (least : ∀ b ∈ s.qualified, b = best ∨ lexLt (annKey best) (annKey b) = true) : s.ptpMaster = some best :=
  head?_sortBy_of_least (fun a b => lexLt (annKey a) (annKey b)) (fun _ _ => lexLt_asymm) mem least

theorem ptpClient : Spec.PtpClient := fun u s client => by
  refine ⟨fun a dom mine => ⟨_, if_pos ⟨client, mine⟩, rfl, fun b => ?_⟩, fun a dom x off other => ⟨?_, ?_⟩, fun best dom off mine mem least => ?_⟩
  · simp only [State.time_setTime, List.mem_append, List.mem_filter, List.mem_singleton, decide_eq_true_eq]
    exact or_comm
  · exact if_neg fun h => other h.2
  · exact if_neg fun h => other h.2.1
  · have master : s.ptpMaster.map (·.sender) = some best.sender := by rw [State.ptpMaster_eq mem least]; rfl
    refine ⟨⟨_, if_pos ⟨client, mine, master⟩, ?_⟩, fun x other => if_neg fun h => other ?_⟩
    · rw [State.setTime, s.ownSample_frame, ← s.badEdges_ownSample (.offset off)]
      exact onlySamples_of_time rfl rfl
    · exact Option.some.inj (h.2.2.symm.trans master)

/-! ### Holdover, reads and the PTP service (R26, R37) -/

theorem holdoverAndReads : Spec.HoldoverAndReads := fun s => by
  refine ⟨fun holdover long => ⟨_, if_pos ⟨holdover, long⟩, ?_, rfl⟩, fun holdover early => ?_, fun locked => if_pos locked, fun free => ?_,
    _, rfl, rfl, rfl⟩
  · simp [State.clockClass, holdover, tsLocked, tsHoldover]
  · simp [State.clockClass, holdover, early, tsLocked, tsHoldover]
  · rcases free with free | acquiring
    · simp [State.clockClass, free, tsLocked, tsHoldover]
    · simp [State.clockClass, acquiring, tsLocked, tsHoldover]

/-- The state with messages sent. -/
def State.sending (s : State) (l : List Out) : State := { s with sent := s.sent ++ l }

theorem State.emit_ptp (s : State) (port : PtpPort) (typ : Nat) (l : List Nat) : s.emit (.ptp port typ l) = s.sending [.ptp port typ l] :=
  if_neg Bool.false_ne_true

@[simp] theorem State.sending_sending (s : State) (l m : List Out) : (s.sending l).sending m = s.sending (l ++ m) := by
  rw [State.sending, State.sending, State.sending, List.append_assoc]
@[simp] theorem State.flag_sending (s : State) (l : List Out) (r : Reg) (f : Fld) : (s.sending l).flag r f = s.flag r f := rfl
@[simp] theorem State.tod_sending (s : State) (l : List Out) : (s.sending l).tod = s.tod := rfl

/-- What an Announce says of the grandmaster (R37). -/
def State.grandmaster (s : State) : List Nat :=
  match (if s.refsel = 2 then s.ptpMaster else none) with
  | some a => [a.prio1.toNat, a.prio2.toNat, a.gm.toNat, a.steps.toNat + 1]
  | none => [128, 128, Config.clockIdentity.toNat, 0]

theorem State.announceFields_eq (s : State) : s.announceFields =
    [s.fld tuCtrlR F.tuCtrl.PTPDOM, s.clockClass, s.rd { kind := .tuUtcofs }] ++ s.grandmaster := by
  unfold State.announceFields State.grandmaster
  generalize (if s.refsel = 2 then s.ptpMaster else none) = master
  cases master <;> rfl

/-- The messages that the service sends (R37). -/
theorem ptpServiceMessage_eq {port : PtpPort} {s : State} (served : s.ptpServed port = true) : exec (.ptpServiceMessage port) s =
    .next (s.sending ([.ptp port 0xB s.announceFields] ++
      if s.flag tuCtrlR F.tuCtrl.PTP_2STEP then [.ptp port 0 [], .ptp port 8 [s.tod]] else [.ptp port 0 [s.tod]])) := by
  refine (if_neg (by rw [served]; decide)).trans ?_
  simp only [State.emit_ptp, State.emits, List.foldl, State.flag_sending, State.sending_sending, State.tod_sending]
  split <;> rfl

/-- The answers to a Delay_Req (R37). -/
theorem ptpDelayReq_eq {port : PtpPort} {s : State} (served : s.ptpServed port = true) (client : BitVec 80) (seq : BitVec 16) (rx : BitVec 80) :
    exec (.ptpDelayReq port client seq rx (s.flag tuCtrlR F.tuCtrl.PTP_P2P)) s =
    .next (s.sending ([.ptp port (if s.flag tuCtrlR F.tuCtrl.PTP_P2P then 3 else 9) [seq.toNat, client.toNat, rx.toNat]] ++
      if s.flag tuCtrlR F.tuCtrl.PTP_P2P && s.flag tuCtrlR F.tuCtrl.PTP_2STEP then [.ptp port 0xA [seq.toNat, client.toNat, s.tod]] else [])) := by
  refine (if_pos ⟨served, rfl⟩).trans ?_
  simp only [State.emit_ptp, State.flag_sending, State.sending_sending, State.tod_sending, Bool.and_eq_true]
  split
  · rfl
  · rw [List.append_nil]

theorem ptpService : Spec.PtpService := fun port s served => by
  refine ⟨fun client seq rx => ⟨_, ptpDelayReq_eq served client seq rx, rfl, (List.append_assoc _ _ _).symm⟩,
    _, s.grandmaster, ptpServiceMessage_eq served, rfl, fun a sel master => ?_, fun sel => ?_, ?_⟩
  · rw [State.grandmaster, if_pos sel, master]
  · rw [State.grandmaster, if_neg sel]
  · rw [s.announceFields_eq]; exact (List.append_assoc _ _ _).symm
end Sys2Proof.Machine
end
section
/-! The discipline step with one sample waiting, on a module alone (R18, R29, R30, Table TIM-6). -/

namespace Sys2Proof.Machine

/-! ### A time set (R17) -/

theorem State.rd_setTod_other (s : State) (ns : Nat) {r : Reg} (sec : r.addr ≠ Reg.addr { kind := .tuTodS })
    (nano : r.addr ≠ Reg.addr { kind := .tuTodNs }) (stitch : r.addr ≠ Reg.addr { kind := .tuStitch }) : (s.setTod ns).rd r = s.rd r := by
  unfold State.setTod
  dsimp only
  rw [State.rd_wr_other _ _ _ _ stitch, State.rd_wr_other _ _ _ _ nano, State.rd_wr_other _ _ _ _ sec]

theorem State.tod_setTod (s : State) {ns : Nat} (h : ns < 2 ^ 48 * 1000000000) : (s.setTod ns).tod = ns := by
  have sec : (s.setTod ns).rd { kind := .tuTodS } = ns / 1000000000 % 2 ^ 64 := by
    unfold State.setTod
    dsimp only
    rw [State.rd_wr_other _ _ _ _ (by decide), State.rd_wr_other _ _ _ _ (by decide), State.rd_wr_same]
    rfl
  have nano : (s.setTod ns).rd { kind := .tuTodNs } = ns % 1000000000 * 65536 % 2 ^ 64 := by
    unfold State.setTod
    dsimp only
    rw [State.rd_wr_other _ _ _ _ (by decide), State.rd_wr_same]
    rfl
  rw [State.tod, sec, nano, bits_eq]
  omega

/-- Before commitment a sample sets TOD to the reference's time, under PPS_IN of the nanoseconds only until Ockar has set a time (R30). -/
theorem State.stepTod_eq {s : State} (alone : s.follower = false) (o : Int) : s.stepTod o = s.setTod
    (if s.refsel = 1 ∧ s.time.ockarSet = false then s.tod / 1000000000 * 1000000000 + (((s.tod : Int) - o) % 1000000000).toNat
      else ((s.tod : Int) - o).toNat) := by
  unfold State.stepTod
  simp only [alone, Bool.not_false, Bool.true_and, Bool.and_eq_true, beq_iff_eq, Bool.not_eq_true']
  split <;> rfl

theorem State.tod_stepTod {s : State} (alone : s.follower = false) {o : Int} (low : 0 ≤ (s.tod : Int) - o)
    (high : (s.tod : Int) - o < 2 ^ 48 * 1000000000) (now : s.tod < 2 ^ 48 * 1000000000) :
    ((s.stepTod o).tod : Int) = if s.refsel = 1 ∧ s.time.ockarSet = false
      then s.tod / 1000000000 * 1000000000 + ((s.tod : Int) - o) % 1000000000 else s.tod - o := by
  rw [State.stepTod_eq alone]
  split
  · rw [State.tod_setTod _ (by omega)]; omega
  · rw [State.tod_setTod _ (by omega)]; omega

theorem State.wr_wr_wr_frame (s : State) (p q r : Reg) (u v w : Nat) :
    ((s.wr p u).wr q v).wr r w = { s with regs := (((s.wr p u).wr q v).wr r w).regs } := rfl

theorem State.setTod_frame (s : State) (ns : Nat) : s.setTod ns = { s with regs := (s.setTod ns).regs } :=
  s.wr_wr_wr_frame _ _ _ _ _ _

theorem State.stepTod_frame (s : State) (o : Int) : s.stepTod o = { s with regs := (s.stepTod o).regs } := by
  unfold State.stepTod
  dsimp only
  split <;> exact s.setTod_frame _

theorem State.rd_stepTod_other (s : State) (o : Int) {r : Reg} (sec : r.addr ≠ Reg.addr { kind := .tuTodS })
    (nano : r.addr ≠ Reg.addr { kind := .tuTodNs }) (stitch : r.addr ≠ Reg.addr { kind := .tuStitch }) : (s.stepTod o).rd r = s.rd r := by
  unfold State.stepTod
  dsimp only
  split <;> exact s.rd_setTod_other _ sec nano stitch

/-! ### One sample (Table TIM-6) -/

/-- The state and the track after one sample of the reference followed. -/
def State.tracked (s : State) (o : Int) : Nat × Track := tableStep s.tuState { s.time.main with samples := [] } (.offset o)

theorem State.tracked_lt (s : State) (o : Int) : (s.tracked o).1 < 8 := by
  have moves : (s.tracked o).1 = 1 ∨ (s.tracked o).1 = 2 ∨ (s.tracked o).1 = s.tuState := by
    unfold State.tracked tableStep
    dsimp only
    generalize (if decide (o.natAbs ≤ 100) = true then s.time.main.good + 1 else 0) = g
    split
    · exact .inl rfl
    · split
      · split
        · exact .inr (.inl rfl)
        · exact .inr (.inr rfl)
      · exact .inr (.inr rfl)
  have := s.tuState_lt
  omega

theorem State.samples_tracked (s : State) (o : Int) : (s.tracked o).2.samples = [] := by
  unfold State.tracked tableStep
  dsimp only
  generalize (if decide (o.natAbs ≤ 100) = true then s.time.main.good + 1 else 0) = g
  split
  · rfl
  · split
    · split <;> rfl
    · rfl

/-- A reference that is there takes FREERUN and HOLDOVER to ACQUIRING. -/
theorem State.tracked_idle {s : State} (h : s.tuState = 0 ∨ s.tuState = 3) (o : Int) :
    (s.tracked o).1 = 1 ∧ (s.tracked o).2.fromHold = decide (s.tuState = 3) := by
  have idle : s.tuState = tsFree ∨ s.tuState = tsHoldover := h
  unfold State.tracked tableStep
  dsimp only
  rw [if_pos idle]
  exact ⟨rfl, rfl⟩

/-- In ACQUIRING the samples within 100 ns are counted; the 16th in a row locks. -/
theorem State.tracked_acquiring {s : State} (h : s.tuState = 1) (o : Int) :
    let g := if o.natAbs ≤ 100 then s.time.main.good + 1 else 0
    (s.tracked o).1 = (if g = 16 then 2 else 1) ∧ (s.tracked o).2.good = g := by
  unfold State.tracked tableStep
  simp only [h, tsFree, tsAcquiring, tsHoldover, tsLocked, decide_eq_true_eq]
  generalize (if o.natAbs ≤ 100 then s.time.main.good + 1 else 0) = g
  by_cases full : g = 16 <;> simp [full]

theorem State.tracked_locked {s : State} (h : s.tuState = 2) (o : Int) : (s.tracked o).1 = 2 := by
  simp [State.tracked, tableStep, h, tsFree, tsAcquiring, tsHoldover]

/-! ### The step -/

/-- The state after a sample has moved STATE. -/
def State.moved (s : State) (o : Int) : State :=
  let u := s.setTime fun y => { y with main := (s.tracked o).2 }
  if (s.tracked o).1 = s.tuState then u else u.setTuState (s.tracked o).1

/-- The new frequency correction continues from the one in force (R25). -/
def State.steerFreq (u : State) : State :=
  (u.freeBits 32).2.wr { kind := .tuFreqadj } ((u.rd { kind := .tuFreqadj } + (u.freeBits 32).1.toNat) % 2 ^ 32)

/-- The state after a sample has moved STATE, TU.OFFSET and the frequency correction. -/
def State.steered (s : State) (o : Int) : State := ((s.moved o).setOffset o).steerFreq

/-- An offset above 10 ms after commitment sets TIME_FAULT (R30). -/
def State.checkOffset (s : State) (o : Int) : State :=
  if s.committed ∧ 10000000 < o.natAbs then s.timeFlag F.tuStatus.TIME_FAULT 0 else s

/-- The offset is taken out of TOD in one write before commitment when it is more than 1 µs, and otherwise is to be slewed out (R30). -/
def State.takeOffset (s : State) (o : Int) : State :=
  if !s.committed ∧ 1000 < o.natAbs then (s.stepTod o).setTime fun y => { y with slew := 0 }
  else (s.checkOffset o).setTime fun y => { y with slew := -o * 65536 }

theorem State.time_steerFreq (u : State) : u.steerFreq.time = u.time := rfl
theorem State.time_setOffset (u : State) (o : Int) : (u.setOffset o).time = u.time := rfl

theorem State.moved_time (s : State) (o : Int) :
    ∃ n c, (s.moved o).time = { s.time with main := (s.tracked o).2, sinceLock := n, class52 := c } := by
  unfold State.moved
  dsimp only
  split
  · exact ⟨_, _, rfl⟩
  · obtain ⟨n, c, time⟩ := (s.setTime fun y => { y with main := (s.tracked o).2 }).setTuState_time (s.tracked o).1
    exact ⟨n, c, time⟩

theorem State.rd_moved_other (s : State) (o : Int) {r : Reg} (h : r.addr ≠ tuStatusR.addr) : (s.moved o).rd r = s.rd r := by
  unfold State.moved
  dsimp only
  split
  · rfl
  · exact State.rd_setTuState_other _ _ h

theorem State.fld_moved (s : State) (o : Int) {f : Fld} (hi : f.hi < 32) (lo : 5 < f.lo) :
    (s.moved o).fld tuStatusR f = s.fld tuStatusR f := by
  unfold State.moved
  dsimp only
  split
  · rfl
  · exact State.fld_setTuState_field _ _ hi lo

theorem State.tuState_moved (s : State) (o : Int) : (s.moved o).tuState = (s.tracked o).1 := by
  unfold State.moved
  dsimp only
  split
  · next same => exact same.symm
  · exact State.tuState_setTuState _ (s.tracked_lt o)

/-! The registers and the rest of the state after a sample has steered the Time Unit. -/

section
variable (s : State) (o : Int)

theorem State.rd_steered_other {r : Reg} (status : r.addr ≠ tuStatusR.addr) (offset : r.addr ≠ Reg.addr { kind := .tuOffset })
    (freq : r.addr ≠ Reg.addr { kind := .tuFreqadj }) : (s.steered o).rd r = s.rd r :=
  (State.rd_wr_other _ _ _ _ freq).trans ((State.rd_wr_other _ _ _ _ offset).trans (s.rd_moved_other o status))

theorem State.rd_steered_status : (s.steered o).rd tuStatusR = (s.moved o).rd tuStatusR :=
  (State.rd_wr_other _ _ _ _ (by decide)).trans (State.rd_wr_other _ _ _ _ (by decide))

theorem State.fld_steered {f : Fld} (hi : f.hi < 32) (lo : 5 < f.lo) : (s.steered o).fld tuStatusR f = s.fld tuStatusR f :=
  (State.fld_of_rd (s.rd_steered_status o) f).trans (s.fld_moved o hi lo)

theorem State.tuState_steered : (s.steered o).tuState = (s.tracked o).1 :=
  (State.fld_of_rd (s.rd_steered_status o) _).trans (s.tuState_moved o)

theorem State.rd_tuOffset_steered : (s.steered o).rd { kind := .tuOffset } = ofI32 (max (-2147483647) (min 2147483647 o)) := by
  exact (State.rd_wr_other _ _ _ _ (by decide)).trans ((State.rd_wr_same _ _ _).trans (Nat.mod_eq_of_lt (BitVec.isLt _)))

theorem State.steered_time : ∃ n c, (s.steered o).time = { s.time with main := (s.tracked o).2, sinceLock := n, class52 := c } := by
  rw [State.steered, State.time_steerFreq, State.time_setOffset]
  exact s.moved_time o

theorem State.follower_steered : (s.steered o).follower = s.follower :=
  State.follower_of_rd (s.rd_steered_other o (by decide) (by decide) (by decide)) (s.rd_steered_other o (by decide) (by decide) (by decide))
    (s.fld_steered o (by decide) (by decide))

theorem State.committed_steered : (s.steered o).committed = s.committed := State.flag_of_fld (s.fld_steered o (by decide) (by decide))

theorem State.tod_steered : (s.steered o).tod = s.tod :=
  State.tod_of_rd (s.rd_steered_other o (by decide) (by decide) (by decide)) (s.rd_steered_other o (by decide) (by decide) (by decide))

end

theorem State.follower_moved (s : State) (o : Int) : (s.moved o).follower = s.follower :=
  State.follower_of_rd (s.rd_moved_other o (by decide)) (s.rd_moved_other o (by decide)) (s.fld_moved o (by decide) (by decide))

/-- What one sample does on a module alone (R29, R30). -/
theorem State.discipline_one {s : State} {o : Int} (alone : s.follower = false) (one : s.time.main.samples = [.offset o]) :
    s.discipline = (s.steered o).takeOffset o := by
  have follows : ¬((s.moved o).follower = true ∧ (s.moved o).refsel ≠ 0) := by rw [s.follower_moved, alone]; simp
  have moves : s.discipline =
      (if (s.moved o).follower ∧ (s.moved o).refsel ≠ 0 then s.moved o else (s.moved o).setOffset o).steerFreq.takeOffset o := by
    unfold State.discipline
    dsimp only
    rw [one]
    rfl
  rw [moves, if_neg follows, State.steered]

end Sys2Proof.Machine
end

section
/-! The discipline step, assembled (R18, R21, R29, R30). -/

namespace Sys2Proof.Machine

/-! ### What the offset leaves -/

theorem State.rd_checkOffset (s : State) (o : Int) {r : Reg} (clear : r.clearOfErrors) (status : r.addr ≠ tuStatusR.addr) :
    (s.checkOffset o).rd r = s.rd r := by
  unfold State.checkOffset
  split
  · exact s.rd_timeFlag_other _ _ clear status
  · rfl

theorem State.fld_checkOffset (s : State) (o : Int) {f : Fld} (hi : f.hi < 32) (h : f.hi < F.tuStatus.TIME_FAULT.lo ∨ F.tuStatus.TIME_FAULT.hi < f.lo) :
    (s.checkOffset o).fld tuStatusR f = s.fld tuStatusR f := by
  unfold State.checkOffset
  split
  · exact s.fld_timeFlag_field _ hi h
  · rfl

theorem State.time_checkOffset (s : State) (o : Int) : (s.checkOffset o).time = s.time := by
  unfold State.checkOffset
  split
  · exact s.timeFlag_time _ _
  · rfl

section
variable {s : State} {o : Int}

theorem State.takeOffset_steps (h : s.committed = false ∧ 1000 < o.natAbs) :
    s.takeOffset o = (s.stepTod o).setTime fun y => { y with slew := 0 } := if_pos (by rw [h.1]; exact ⟨rfl, h.2⟩)

theorem State.takeOffset_slews (h : ¬(s.committed = false ∧ 1000 < o.natAbs)) :
    s.takeOffset o = (s.checkOffset o).setTime fun y => { y with slew := -o * 65536 } :=
  if_neg fun steps => h ⟨Bool.not_eq_true' _ ▸ steps.1, steps.2⟩

theorem State.rd_takeOffset {r : Reg} (clear : r.clearOfErrors) (status : r.addr ≠ tuStatusR.addr)
    (sec : r.addr ≠ Reg.addr { kind := .tuTodS }) (nano : r.addr ≠ Reg.addr { kind := .tuTodNs })
    (stitch : r.addr ≠ Reg.addr { kind := .tuStitch }) : (s.takeOffset o).rd r = s.rd r := by
  by_cases h : s.committed = false ∧ 1000 < o.natAbs
  · rw [State.takeOffset_steps h]; exact s.rd_stepTod_other o sec nano stitch
  · rw [State.takeOffset_slews h]; exact s.rd_checkOffset o clear status

theorem State.fld_takeOffset {f : Fld} (hi : f.hi < 32) (apart : f.hi < F.tuStatus.TIME_FAULT.lo ∨ F.tuStatus.TIME_FAULT.hi < f.lo) :
    (s.takeOffset o).fld tuStatusR f = s.fld tuStatusR f := by
  by_cases h : s.committed = false ∧ 1000 < o.natAbs
  · rw [State.takeOffset_steps h]
    exact State.fld_of_rd (s.rd_stepTod_other o (by decide) (by decide) (by decide)) _
  · rw [State.takeOffset_slews h]; exact s.fld_checkOffset o hi apart

theorem State.tuState_takeOffset : (s.takeOffset o).tuState = s.tuState := State.fld_takeOffset (f := F.tuStatus.STATE) (by decide) (by decide)

theorem State.takeOffset_time : ∃ w, (s.takeOffset o).time = { s.time with slew := w } := by
  by_cases h : s.committed = false ∧ 1000 < o.natAbs
  · rw [State.takeOffset_steps h, s.stepTod_frame]; exact ⟨0, rfl⟩
  · rw [State.takeOffset_slews h, State.time_setTime, s.time_checkOffset]; exact ⟨_, rfl⟩

/-- What is not stepped is to be slewed out, and TOD stands. -/
theorem State.takeOffset_slew (h : ¬(s.committed = false ∧ 1000 < o.natAbs)) :
    (s.takeOffset o).tod = s.tod ∧ (s.takeOffset o).stitch = s.stitch ∧ (s.takeOffset o).time.slew = -o * 65536 := by
  have same : ∀ {r : Reg}, r.clearOfErrors → r.addr ≠ tuStatusR.addr → (s.takeOffset o).rd r = s.rd r := fun clear status => by
    rw [State.takeOffset_slews h]; exact s.rd_checkOffset o clear status
  refine ⟨State.tod_of_rd (same ?_ (by decide)) (same ?_ (by decide)), same ?_ (by decide), by rw [State.takeOffset_slews h]; rfl⟩
  all_goals exact Reg.clearOfErrors_of_kind (by decide) (by decide) (by decide) (by decide)

theorem State.flag_takeOffset_fault (committed : s.committed = true) (far : 10000000 < o.natAbs) :
    (s.takeOffset o).flag tuStatusR F.tuStatus.TIME_FAULT = true := by
  have slews : ¬(s.committed = false ∧ 1000 < o.natAbs) := by rw [committed]; exact fun h => Bool.noConfusion h.1
  rw [State.takeOffset_slews slews, State.checkOffset, if_pos ⟨committed, far⟩]
  exact s.flag_timeFlag 0 (by decide) rfl

end

/-! ### The slew (R18) -/

/-- What a discipline step slews, in 2^-16 ns. -/
def State.slewStep (s : State) : Int :=
  let lim := slewLimit (toI32 (s.rd { kind := .tuFreqadj }))
  max (-lim) (min lim s.time.slew)

/-- A frequency correction is a signed number of 32 bits. -/
theorem natAbs_toI32 (n : Nat) : (toI32 n).natAbs ≤ 2 ^ 31 := by
  have low := (BitVec.ofNat 32 n).le_toInt
  have high := (BitVec.ofNat 32 n).toInt_lt
  unfold toI32
  omega

/-- Slew and frequency correction together move the stitch by no more than 2 ns. -/
theorem State.slewStep_bound (s : State) : s.slewStep.natAbs * 100000 + (toI32 (s.rd { kind := .tuFreqadj })).natAbs ≤ 131072 * 100000 := by
  have width := natAbs_toI32 (s.rd { kind := .tuFreqadj })
  unfold State.slewStep slewLimit
  dsimp only
  generalize toI32 (s.rd { kind := .tuFreqadj }) = f at *
  omega

/-- The state after the slew. -/
def State.slewed (s : State) : State :=
  (s.setTime fun x => { x with slew := x.slew - s.slewStep, freqs := (toI32 (s.rd { kind := .tuFreqadj }) :: x.freqs).take 1024 }).setTime
    fun x => { x with lastQual := s.qual }

/-- Task 6 of a stitch, on a module that is neither follower nor master. -/
theorem disciplineStep_eq {s : State} (first : s.time.over 6 = false) (alone : (s.taskDone 6).discipline.follower = false)
    (single : (s.taskDone 6).discipline.isMaster = false) : exec .disciplineStep s = .next (s.taskDone 6).discipline.slewed := by
  have monitor : (s.taskDone 6).discipline.monitorOwn = (s.taskDone 6).discipline := if_pos (by rw [alone]; rfl)
  have steps : exec .disciplineStep s = .next
      (if (s.taskDone 6).discipline.monitorOwn.isMaster && decide ((s.taskDone 6).discipline.monitorOwn.time.lastQual <
          (s.taskDone 6).discipline.monitorOwn.qual) then (s.taskDone 6).discipline.monitorOwn.slewed.startElection
        else (s.taskDone 6).discipline.monitorOwn.slewed) := if_neg (by rw [first]; decide)
  rw [steps, monitor, single, Bool.false_and, if_neg Bool.false_ne_true]

@[simp] theorem State.rd_slewed (s : State) (r : Reg) : s.slewed.rd r = s.rd r := rfl
@[simp] theorem State.tuState_slewed (s : State) : s.slewed.tuState = s.tuState := rfl
@[simp] theorem State.tod_slewed (s : State) : s.slewed.tod = s.tod := rfl
@[simp] theorem State.stitch_slewed (s : State) : s.slewed.stitch = s.stitch := rfl
@[simp] theorem State.flag_slewed (s : State) (r : Reg) (f : Fld) : s.slewed.flag r f = s.flag r f := rfl
@[simp] theorem State.main_slewed (s : State) : s.slewed.time.main = s.time.main := rfl
@[simp] theorem State.over_slewed (s : State) (n : Nat) : s.slewed.time.over n = s.time.over n := rfl
@[simp] theorem State.slew_slewed (s : State) : s.slewed.time.slew = s.time.slew - s.slewStep := rfl

theorem State.over_taskDone (s : State) (n : Nat) : (s.taskDone n).time.over n = true := by
  simp [State.taskDone, TimeSt.over]

/-! ### One step with one sample -/

section
variable (s : State) (o : Int)

/-- The state after a step that had one sample waiting. -/
def State.stepped : State := (((s.taskDone 6).steered o).takeOffset o).slewed

theorem State.fld_stepped {f : Fld} (hi : f.hi < 28) (lo : 5 < f.lo) :
    (((s.taskDone 6).steered o).takeOffset o).fld tuStatusR f = s.fld tuStatusR f := by
  rw [State.fld_takeOffset (by omega) (.inl (Nat.lt_trans hi (by decide))), State.fld_steered _ _ (by omega) lo]
  rfl

theorem State.tuState_stepped : (s.stepped o).tuState = (s.tracked o).1 := by
  rw [State.stepped, State.tuState_slewed, State.tuState_takeOffset, State.tuState_steered]
  rfl

theorem State.time_steered_takeOffset : ∃ w n c, (((s.taskDone 6).steered o).takeOffset o).time =
    { (s.taskDone 6).time with slew := w, main := (s.tracked o).2, sinceLock := n, class52 := c } := by
  obtain ⟨w, slew⟩ := State.takeOffset_time (s := (s.taskDone 6).steered o) (o := o)
  obtain ⟨n, c, time⟩ := (s.taskDone 6).steered_time o
  exact ⟨w, n, c, by rw [slew, time]; rfl⟩

theorem State.main_stepped : (s.stepped o).time.main = (s.tracked o).2 := by
  obtain ⟨w, n, c, time⟩ := s.time_steered_takeOffset o
  rw [State.stepped, State.main_slewed, time]

theorem State.over_stepped : (s.stepped o).time.over 6 = true := by
  obtain ⟨w, n, c, time⟩ := s.time_steered_takeOffset o
  rw [State.stepped, State.over_slewed, time]
  exact s.over_taskDone 6

theorem State.rd_tuOffset_stepped : (s.stepped o).rd { kind := .tuOffset } = ofI32 (max (-2147483647) (min 2147483647 o)) := by
  rw [State.stepped, State.rd_slewed, State.rd_takeOffset ?_ (by decide) (by decide) (by decide) (by decide), State.rd_tuOffset_steered]
  exact Reg.clearOfErrors_of_kind (by decide) (by decide) (by decide) (by decide)

theorem disciplineStep_eq_stepped {s : State} {o : Int} (first : s.time.over 6 = false) (fabtime : s.flag tuCtrlR F.tuCtrl.FABTIME = false)
    (single : s.isMaster = false) (one : s.time.main.samples = [.offset o]) : exec .disciplineStep s = .next (s.stepped o) := by
  have alone : s.follower = false := by rw [State.follower, fabtime, Bool.false_and, Bool.false_and]
  have moves : (s.taskDone 6).discipline = ((s.taskDone 6).steered o).takeOffset o := State.discipline_one alone one
  have ctrl : (((s.taskDone 6).steered o).takeOffset o).rd tuCtrlR = s.rd tuCtrlR := by
    rw [State.rd_takeOffset ?_ (by decide) (by decide) (by decide) (by decide), State.rd_steered_other _ _ (by decide) (by decide) (by decide)]
    · rfl
    · exact Reg.clearOfErrors_of_kind (by decide) (by decide) (by decide) (by decide)
  refine (disciplineStep_eq first ?_ ?_).trans (by rw [State.stepped, moves])
  · rw [moves, State.follower, State.flag_of_fld (State.fld_of_rd ctrl _), fabtime, Bool.false_and, Bool.false_and]
  · rw [moves, State.isMaster, State.flag_of_fld (s.fld_stepped o (f := F.tuStatus.IS_MASTER) (by decide) (by decide))]
    exact single

/-- A sample that steps TOD (R30). -/
theorem State.tod_stepped (steps : s.committed = false ∧ 1000 < o.natAbs) (low : 0 ≤ (s.tod : Int) - o)
    (high : (s.tod : Int) - o < 2 ^ 48 * 1000000000) (now : s.tod < 2 ^ 48 * 1000000000) (alone : s.follower = false) :
    ((s.stepped o).tod : Int) = if s.refsel = 1 ∧ s.time.ockarSet = false
      then s.tod / 1000000000 * 1000000000 + ((s.tod : Int) - o) % 1000000000 else s.tod - o := by
  have tod : ((s.taskDone 6).steered o).tod = s.tod := (s.taskDone 6).tod_steered o
  have committed : ((s.taskDone 6).steered o).committed = s.committed := (s.taskDone 6).committed_steered o
  have follower : ((s.taskDone 6).steered o).follower = false := ((s.taskDone 6).follower_steered o).trans alone
  have refsel : ((s.taskDone 6).steered o).refsel = s.refsel :=
    State.fld_of_rd ((s.taskDone 6).rd_steered_other o (by decide) (by decide) (by decide)) _
  have ockarSet : ((s.taskDone 6).steered o).time.ockarSet = s.time.ockarSet := by
    obtain ⟨n, c, time⟩ := (s.taskDone 6).steered_time o
    rw [time]; rfl
  rw [← committed] at steps
  rw [← tod] at low high now
  rw [State.stepped, State.tod_slewed, State.takeOffset_steps steps, State.tod_setTime, ← tod, ← refsel, ← ockarSet]
  exact State.tod_stepTod follower low high now

/-- A sample that leaves TOD as it is and slews (R18). -/
theorem State.slew_stepped (slews : ¬(s.committed = false ∧ 1000 < o.natAbs)) :
    (s.stepped o).tod = s.tod ∧ (s.stepped o).stitch = s.stitch ∧
    (-o * 65536 - (s.stepped o).time.slew).natAbs * 100000 + (toI32 ((s.stepped o).rd { kind := .tuFreqadj })).natAbs ≤ 131072 * 100000 := by
  have committed : ((s.taskDone 6).steered o).committed = s.committed := (s.taskDone 6).committed_steered o
  rw [← committed] at slews
  obtain ⟨tod, stitch, slew⟩ := State.takeOffset_slew slews
  have bound := (((s.taskDone 6).steered o).takeOffset o).slewStep_bound
  rw [State.stepped, State.tod_slewed, State.stitch_slewed, State.slew_slewed, State.rd_slewed, tod, stitch, slew, sub_sub_cancel,
    State.tod_steered, State.stitch, State.rd_steered_other _ _ (by decide) (by decide) (by decide)]
  exact ⟨rfl, rfl, bound⟩

theorem State.fault_stepped (committed : s.committed = true) (far : 10000000 < o.natAbs) :
    (s.stepped o).flag tuStatusR F.tuStatus.TIME_FAULT = true := by
  have stays : ((s.taskDone 6).steered o).committed = true := ((s.taskDone 6).committed_steered o).trans committed
  rw [State.stepped, State.flag_slewed, State.flag_takeOffset_fault stays far]

end

theorem disciplineStep : Spec.DisciplineStep := by
  refine ⟨fun s dropped => if_pos dropped, fun o s first fabtime single one => ?_⟩
  have alone : s.follower = false := by rw [State.follower, fabtime, Bool.false_and, Bool.false_and]
  refine ⟨s.stepped o, disciplineStep_eq_stepped first fabtime single one, ?_, s.over_stepped o, s.rd_tuOffset_stepped o, fun idle => ?_,
    fun acquiring near last => ?_, fun acquiring near more => ?_, fun acquiring far => ?_, fun locked => ?_,
    fun steps low high now => s.tod_stepped o steps low high now alone, s.slew_stepped o, s.fault_stepped o⟩
  · rw [s.main_stepped, s.samples_tracked]
  · rw [s.main_stepped, s.tuState_stepped]
    exact State.tracked_idle idle o
  · obtain ⟨state, good⟩ := State.tracked_acquiring acquiring o
    rw [s.tuState_stepped, state, if_pos near, last, if_pos rfl]
  · obtain ⟨state, good⟩ := State.tracked_acquiring acquiring o
    rw [if_pos near] at state good
    rw [s.tuState_stepped, s.main_stepped, state, good, if_neg (by omega)]
    exact ⟨rfl, rfl⟩
  · obtain ⟨state, good⟩ := State.tracked_acquiring acquiring o
    rw [if_neg (Nat.not_le.mpr far)] at state good
    rw [s.tuState_stepped, s.main_stepped, state, good]
    exact ⟨rfl, rfl⟩
  · rw [s.tuState_stepped, State.tracked_locked locked]

end Sys2Proof.Machine
end

section
/-! Dropped stitches (R21, R22), and the records that the collector writes in one stitch (R405, R406). -/

namespace Sys2Proof.Machine

/-! ### Records of one stitch -/

/-- The record of a corrected error, as it stands at the head of the ring. -/
theorem State.ras_writeRec (s : State) {e : ErrEvt} (he : e.cls = 0) : ∃ r : ErrRec, r.code = e.code ∧ r.detail = e.detail ∧
    (s.writeRec e).ras.ring = (r :: s.ras.ring).take 65536 ∧ (s.writeRec e).ras.written = s.ras.written + 1 ∧
    (s.writeRec e).ras.writtenCorr = s.ras.writtenCorr + 1 := by
  unfold State.writeRec
  extract_lets seq r x s1 s2 s3 s4 n
  have stored : s2.ras = s1.ras := by simp only [s2]; split <;> rfl
  have same : s4 = s3 := if_neg (by omega)
  have ras : ∀ u : State, u.ras = s1.ras → u.ras.ring = (r :: s.ras.ring).take 65536 ∧ u.ras.written = s.ras.written + 1 ∧
      u.ras.writtenCorr = s.ras.writtenCorr + 1 := fun u hu => by
    rw [hu]
    exact ⟨rfl, rfl, by simp only [s1, x, he, if_true]⟩
  refine ⟨r, rfl, rfl, ?_⟩
  rw [same]
  split
  · exact ras _ ((s3.raise_ras _ _).trans stored)
  · exact ras _ stored

theorem foldErr_none {e : ErrEvt} {n : Nat} {l : List ErrRec} (h : ∀ r ∈ l, r.code ≠ e.code) : foldErr e n l = none := by
  induction l with
  | nil => rfl
  | cons r l ih =>
    obtain ⟨this, rest⟩ := List.forall_mem_cons.mp h
    rw [foldErr, if_neg fun same => this same.2.2.2.1, ih rest]
    rfl

/-- Folding keeps the codes of the records. -/
theorem codes_foldErr {e : ErrEvt} {n : Nat} {l recs : List ErrRec} (h : foldErr e n l = some recs) :
    recs.map (·.code) = l.map (·.code) := by
  induction l generalizing recs with
  | nil => cases h
  | cons r l ih =>
    rw [foldErr] at h
    split at h
    · obtain rfl := Option.some.inj h; rfl
    · obtain ⟨recs', found, rfl⟩ := Option.map_eq_some_iff.mp h
      rw [List.map_cons, List.map_cons, ih found]

theorem ras_counted (s : State) (u code : Nat) : ((s.countErr 0).swUnit u code).ras = s.ras := by
  unfold State.swUnit; split <;> rfl

theorem State.ras_addFld (s : State) (r : Reg) (f : Fld) (n : Nat) : (s.addFld r f n).ras = s.ras := rfl

/-- Records put in place of the first `n` of a ring are the first `n` of what results. -/
theorem mem_of_mem_take_replaced {α : Type} {l m : List α} {n : Nat} (length : m.length = min n l.length) {a : α}
    (h : a ∈ (m ++ l.drop n).take n) : a ∈ m := by
  rcases Nat.le_total n l.length with fits | short
  · rwa [List.take_left' (by omega)] at h
  · rw [List.drop_eq_nil_of_le short, List.append_nil] at h
    exact List.mem_of_mem_take h

theorem mem_of_mem_take_cons {α : Type} {l : List α} {n k : Nat} {a b : α} (h : b ∈ ((a :: l).take k).take (n + 1)) :
    b = a ∨ b ∈ l.take n := by
  rw [List.take_take, Nat.min_comm, ← List.take_take] at h
  exact List.mem_cons.mp (List.mem_of_mem_take h)

/-- An error of another code puts no record of a code among those of the stitch, and takes one corrected record's room at most. -/
theorem State.logErr_other_code (s : State) {e : ErrEvt} (he : e.cls = 0) {c : Nat} (other : e.code ≠ c)
    (h : ∀ r ∈ s.ras.ring.take s.ras.written, r.code ≠ c) :
    (∀ r ∈ (s.logErr e).ras.ring.take (s.logErr e).ras.written, r.code ≠ c) ∧ (s.logErr e).ras.writtenCorr ≤ s.ras.writtenCorr + 1 := by
  unfold State.logErr
  simp only [he, if_true]
  have ras := ras_counted s e.unitId e.code
  generalize (s.countErr 0).swUnit e.unitId e.code = t at *
  rw [← ras] at h ⊢
  split
  · next recs found =>
    have codes := codes_foldErr found
    have length : recs.length = min t.ras.written t.ras.ring.length := by
      rw [← List.length_map (f := (·.code)), codes, List.length_map, List.length_take]
    refine ⟨fun r hr => ?_, Nat.le_succ _⟩
    have mem : r.code ∈ (t.ras.ring.take t.ras.written).map (·.code) := codes ▸ List.mem_map_of_mem (mem_of_mem_take_replaced length hr)
    obtain ⟨q, hq, same⟩ := List.mem_map.mp mem
    rw [← same]
    exact h q hq
  · split
    · rw [t.ras_addFld]
      exact ⟨h, Nat.le_succ _⟩
    · obtain ⟨r, code, _, ring, written, corr⟩ := t.ras_writeRec he
      rw [ring, written, corr]
      refine ⟨fun q hq => ?_, le_rfl⟩
      rcases mem_of_mem_take_cons hq with rfl | old
      · rw [code]; exact other
      · exact h q old

/-- A first error of its code in a stitch with room for it is recorded with its DETAIL (R405, R406). -/
theorem State.logErr_first_code (s : State) {e : ErrEvt} (he : e.cls = 0)
    (first : ∀ r ∈ s.ras.ring.take s.ras.written, r.code ≠ e.code) (room : s.ras.writtenCorr < 192) :
    ∃ r ∈ (s.logErr e).ras.ring, r.code = e.code ∧ r.detail = e.detail := by
  unfold State.logErr
  simp only [he, if_true]
  have ras := ras_counted s e.unitId e.code
  generalize (s.countErr 0).swUnit e.unitId e.code = t at *
  rw [← ras] at first room
  rw [foldErr_none first]
  obtain ⟨r, code, detail, ring, _⟩ := t.ras_writeRec he
  refine ⟨r, ?_, code, detail⟩
  dsimp only
  rw [if_neg (Nat.not_le.mpr room), ring, List.take_succ_cons]
  exact List.mem_cons_self

/-! ### A dropped stitch -/

/-- The unit that a task's drop is recorded for. -/
def dropUnit (n : Nat) : Nat := if n = 5 ∨ n = 8 then unitId 7 0 else if n = 9 then unitId 0x0A 0 else if n = 10 then unitId 0x0D 0 else unitId 9 0

/-- The state after a drop, before the records of it. -/
def State.dropped (s : State) (n : Nat) : State :=
  let u := (s.addFld { kind := .tuDrop, i := n } F.tuDrop.COUNT 1).setTime fun x =>
    { x with drops := SMap.insert x.drops n (SMap.get (fun _ => 0) s.time.drops n + 1), dropped := x.dropped ++ [n] }
  if n = 5 ∨ n = 8 then { u with cut := { u.cut with plan := none } } else u

/-- A drop's record, and at every 100th in a row one of PERSISTENT_DROP. -/
theorem State.dropTask_eq (s : State) (n : Nat) : s.dropTask n =
    let u := (s.dropped n).logErr { unitId := dropUnit n, cls := 0, code := 0x01, action := 0, detail := n }
    let k := SMap.get (fun _ => 0) s.time.drops n + 1
    if k % 100 = 0 then u.logErr { unitId := dropUnit n, cls := 0, code := 0x02, action := 0, detail := k * 2 ^ 32 + n } else u := rfl

theorem State.dropped_ras (s : State) (n : Nat) : (s.dropped n).ras = s.ras := by
  unfold State.dropped
  dsimp only
  split <;> rfl

theorem State.time_dropped (s : State) (n : Nat) : (s.dropped n).time =
    { s.time with drops := SMap.insert s.time.drops n (SMap.get (fun _ => 0) s.time.drops n + 1), dropped := s.time.dropped ++ [n] } := by
  unfold State.dropped
  dsimp only
  split <;> rfl

theorem State.rd_dropped (s : State) (n : Nat) (r : Reg) :
    (s.dropped n).rd r = (s.addFld { kind := .tuDrop, i := n } F.tuDrop.COUNT 1).rd r := by
  unfold State.dropped
  dsimp only
  split <;> rfl

theorem State.plan_dropped (s : State) {n : Nat} (h : n = 5 ∨ n = 8) : (s.dropped n).cut.plan = none := by
  unfold State.dropped
  dsimp only
  rw [if_pos h]

/-- The records of a drop change the collector's own only. -/
theorem State.errOnly_dropTask (s : State) (n : Nat) : (s.dropped n).errOnly (s.dropTask n) := by
  rw [s.dropTask_eq n]
  have first : (s.dropped n).errOnly _ := (State.logErr_corrected _ (e := ⟨dropUnit n, 0, 0x01, 0, 0, 0, 0, 0xFF, [], n⟩) rfl).1
  dsimp only
  split
  · exact State.errOnly_trans first (State.logErr_corrected _ rfl).1
  · exact first

/-- The 100th drop in a row and every further 100th is recorded as PERSISTENT_DROP. -/
theorem State.persistent_dropTask (s : State) {n : Nat} (room : s.ras.writtenCorr < 191)
    (first : ∀ e ∈ s.ras.ring.take s.ras.written, e.code ≠ 0x02)
    (often : (SMap.get (fun _ => 0) s.time.drops n + 1) % 100 = 0) : ∃ e ∈ (s.dropTask n).ras.ring,
      e.code = 0x02 ∧ e.detail = (SMap.get (fun _ => 0) s.time.drops n + 1) * 2 ^ 32 + n := by
  rw [s.dropTask_eq n]
  dsimp only
  rw [if_pos often]
  rw [← s.dropped_ras n] at room first
  obtain ⟨stillFirst, less⟩ := (s.dropped n).logErr_other_code (e := ⟨dropUnit n, 0, 0x01, 0, 0, 0, 0, 0xFF, [], n⟩) rfl
    (by decide : (0x01 : Nat) ≠ 0x02) first
  exact State.logErr_first_code _ rfl stillFirst (by omega)

theorem droppedStitches : Spec.DroppedStitches := by
  refine ⟨fun n s ended => if_pos (.inr (.inr (.inr ended))), fun n s low high boundary first room alone => ?_⟩
  intro r k
  have runs : ¬(n.val < 5 ∨ n.val = 7 ∨ 10 < n.val ∨ s.time.over n = true) := by rw [first]; simp; omega
  obtain ⟨frame, regs, _⟩ := s.errOnly_dropTask n
  have ok : r.ok = true := Bool.and_eq_true_iff.mpr ⟨decide_eq_true n.isLt, rfl⟩
  have time : (s.dropTask n).time = (s.dropped n).time := by rw [frame]
  have cut : (s.dropTask n).cut = (s.dropped n).cut := by rw [frame]
  refine ⟨s.dropTask n, if_neg runs, ?_, ?_, ?_, fun cutter => ?_, fun often => ?_⟩
  · rw [State.fld, regs r (Reg.clearOfErrors_of_kind ok (nofun) (nofun) (nofun)), s.rd_dropped]
    refine (s.fld_setFld_same r F.tuDrop.COUNT _ (show 63 < 64 by decide)).trans (Nat.mod_eq_of_lt ?_)
    exact Nat.lt_of_le_of_lt (Nat.min_le_left _ _) (by decide)
  · rw [time, s.time_dropped, SMap.find_insert_same]; rfl
  · rw [time, s.time_dropped]; simp [TimeSt.over]
  · rw [cut, s.plan_dropped cutter]
  · obtain ⟨e, mem, code, detail⟩ := s.persistent_dropTask room alone often
    refine ⟨e, mem, code, ?_⟩
    have : k = SMap.get (fun _ => 0) s.time.drops n + 1 := rfl
    rw [detail, this]
    omega

end Sys2Proof.Machine
open Sys2Proof.Machine

/-- Settles O18: each input of the reference goes through what a sample, or a lost reference, leaves of the Time Unit. -/
theorem timeReference : Obligations.TimeReference :=
  ⟨ppsInputs, referenceInputs, ptpClient, disciplineStep, holdoverAndReads, ptpService, droppedStitches⟩

end

section
/-! Cells that the module makes (Table WFT-5), and cells flooded (R252, R261). -/

namespace Sys2Proof.Machine

/-! ### The payload of a cell -/

theorem leBytes_ofLeBytes (l : List Byte) : leBytes l.length (ofLeBytes l) = l := by
  induction l with
  | nil => rfl
  | cons b l ih =>
    have low : BitVec.ofNat 8 (b.toNat + 256 * ofLeBytes l) = b := by
      apply BitVec.eq_of_toNat_eq
      rw [BitVec.toNat_ofNat]
      have := b.isLt
      omega
    have high : (b.toNat + 256 * ofLeBytes l) / 256 = ofLeBytes l := by have := b.isLt; omega
    rw [List.length_cons, ofLeBytes, leBytes, low, high, ih]

theorem ofLeBytes_lt (l : List Byte) : ofLeBytes l < 2 ^ (8 * l.length) := by
  conv_lhs => rw [← leBytes_ofLeBytes l]
  rw [ofLeBytes_leBytes]
  exact Nat.mod_lt _ (Nat.two_pow_pos _)

theorem padTo_eq {n : Nat} {l : List Byte} (h : l.length ≤ n) : padTo n l = l ++ List.replicate (n - l.length) 0 := by
  rw [padTo, List.take_of_length_le h]

theorem cellBytes_length (c : Cell) : (cellBytes c).length = 128 := leBytes_length _ _

theorem toNat_ofNat_of_lt {w n : Nat} (h : n < 2 ^ w) : (BitVec.ofNat w n).toNat = n := by rw [BitVec.toNat_ofNat, Nat.mod_eq_of_lt h]

/-- The payload of a cell is what it was made of, and zeros. -/
theorem cellBytes_of_data {c : Cell} {l : List Byte} (data : c.data = BitVec.ofNat 1024 (ofLeBytes (padTo 128 l))) (h : l.length ≤ 128) :
    cellBytes c = l ++ List.replicate (128 - l.length) 0 := by
  have length : (padTo 128 l).length = 128 := by rw [padTo_eq h, List.length_append, List.length_replicate]; omega
  have fits := ofLeBytes_lt (padTo 128 l)
  have whole := leBytes_ofLeBytes (padTo 128 l)
  rw [length, (rfl : 8 * 128 = 1024)] at fits
  rw [length] at whole
  rw [cellBytes, data, toNat_ofNat_of_lt fits, whole, padTo_eq h]

/-- A field within the bytes that the payload was made of. -/
theorem cd_of_data {c : Cell} {l : List Byte} (data : c.data = BitVec.ofNat 1024 (ofLeBytes (padTo 128 l))) (h : l.length ≤ 128) {a n : Nat}
    (within : a + n ≤ l.length) : cd c a n = field l a n := by
  rw [cd, cellBytes_of_data data h, field, field, List.drop_append_of_le_length (by omega), List.take_append_of_le_length (by simp; omega)]

/-- A field of a cell made here. -/
theorem cd_mkLocal (typ me srch tag arg : Nat) {l : List Byte} (h : l.length ≤ 128) {a n : Nat} (within : a + n ≤ l.length) :
    cd (mkLocal typ me srch tag arg l) a n = field l a n := cd_of_data rfl h within

/-- A field that stands behind other bytes. -/
theorem field_append_right {l m : List Byte} {a b n : Nat} (h : b = l.length + a) : field (l ++ m) b n = field m a n := by
  rw [field, field, h, List.drop_append, List.drop_eq_nil_of_le (Nat.le_add_right _ _), List.nil_append, Nat.add_sub_cancel_left]

/-- A field that stands before other bytes. -/
theorem field_append_left {l m : List Byte} {a n : Nat} (h : a + n ≤ l.length) : field (l ++ m) a n = field l a n := by
  rw [field, field, List.drop_append_of_le_length (by omega), List.take_append_of_le_length (by simp; omega)]

/-- A field that is a whole number. -/
theorem field_leBytes (n v : Nat) : field (leBytes n v) 0 n = v % 2 ^ (8 * n) := by
  rw [field, List.drop_zero, List.take_of_length_le (leBytes_length n v).le, ofLeBytes_leBytes]

/-- The last field of some bytes. -/
theorem field_append_last {l : List Byte} {a n v : Nat} (h : a = l.length) : field (l ++ leBytes n v) a n = v % 2 ^ (8 * n) := by
  rw [field_append_right (a := 0) h, field_leBytes]

/-! ### Cells sent to neighbours -/

theorem State.foldl_sendLocal (s : State) (l : List Nat) (c : Cell) :
    l.foldl (fun s p => s.sendLocal p c) s = { s with weft := { s.weft with own := s.weft.own ++ l.map fun p => (some p, c) } } := by
  induction l generalizing s with
  | nil => rw [List.map_nil, List.append_nil]; rfl
  | cons p l ih => rw [List.foldl_cons, ih, State.sendLocal, List.map_cons, List.append_assoc]; rfl

/-- A flood puts one cell into the queue of every UP port but one. -/
theorem State.flood_eq (s : State) (c : Cell) (except : Option Nat) : s.flood c except =
    { s with weft := { s.weft with own := s.weft.own ++ (s.upPorts.filter fun p => some p ≠ except).map fun p => (some p, c) } } :=
  s.foldl_sendLocal _ c

theorem State.mem_flood {s : State} {c : Cell} {except : Option Nat} {q : Nat} (up : q ∈ s.upPorts) (h : some q ≠ except) :
    (some q, c) ∈ (s.flood c except).weft.own := by
  rw [s.flood_eq]
  exact List.mem_append_right _ (List.mem_map_of_mem (List.mem_filter.mpr ⟨up, decide_eq_true h⟩))

theorem State.mem_upPorts {s : State} {p : Port} : p.val ∈ s.upPorts ↔ s.portUp p = true := by
  rw [State.upPorts, List.mem_filter, List.mem_range]
  exact and_iff_right p.isLt

/-- A flood from one UP port goes out of all the others. -/
theorem State.own_flood_length {s : State} {p : Port} (up : s.portUp p = true) (c : Cell) :
    (s.flood c (some p.val)).weft.own.length + 1 = s.weft.own.length + s.upPorts.length := by
  have nodup : s.upPorts.Nodup := List.Nodup.filter _ List.nodup_range
  have others : (s.upPorts.filter fun q => some q ≠ some p.val) = s.upPorts.erase p.val := by
    rw [nodup.erase_eq_filter]
    exact List.filter_congr fun q _ => by by_cases same : q = p.val <;> simp [same]
  have mem := State.mem_upPorts.mpr up
  have pos := List.length_pos_of_mem mem
  rw [s.flood_eq, others]
  simp only [List.length_append, List.length_map, List.length_erase_of_mem mem]
  omega

end Sys2Proof.Machine
end

section
/-! Elections, SYNC cells and link delays (R32–R36, R495). -/

namespace Sys2Proof.Machine

/-! ### Time cells (Table TIM-7) -/

section
variable (s : State) (typ qual prio modid seq stitch corr hops ns : Nat)

/-- The bytes that a time cell is made of. -/
def timeBytes : List Byte :=
  leBytes 1 typ ++ leBytes 1 qual ++ leBytes 1 prio ++ leBytes 1 0 ++ leBytes 2 modid ++ leBytes 2 seq ++ leBytes 8 stitch ++ leBytes 8 corr ++
    leBytes 8 (ns / 1000000000) ++ leBytes 4 (ns % 1000000000) ++ leBytes 2 0 ++ leBytes 2 hops

theorem timeBytes_length : (timeBytes typ qual prio modid seq stitch corr hops ns).length = 40 := by
  simp [timeBytes, leBytes_length]

theorem timeCell_eq : s.timeCell typ qual prio modid seq stitch corr hops ns =
    mkLocal 0x01 s.myId (s.handle 0) 0 0 (timeBytes typ qual prio modid seq stitch corr hops ns) := rfl

/-- The key, SEQ and CORR of a time cell. -/
theorem timeCell_fields : let c := s.timeCell typ qual prio modid seq stitch corr hops ns
    cd c 0 1 = typ % 256 ∧ cd c 1 1 = qual % 256 ∧ cd c 2 1 = prio % 256 ∧ cd c 4 2 = modid % 65536 ∧ cd c 6 2 = seq % 65536 ∧
    cd c 16 8 = corr % 2 ^ 64 := by
  have length := timeBytes_length typ qual prio modid seq stitch corr hops ns
  have read : ∀ {a n : Nat}, a + n ≤ 40 → cd (s.timeCell typ qual prio modid seq stitch corr hops ns) a n =
      field (timeBytes typ qual prio modid seq stitch corr hops ns) a n := fun within => by
    rw [timeCell_eq, cd_mkLocal _ _ _ _ _ (by omega) (by omega)]
  refine ⟨?_, ?_, ?_, ?_, ?_, ?_⟩
  all_goals
    rw [read (by decide), timeBytes]
    simp (disch := simp [leBytes_length]) only [field_append_left, field_append_last, field_leBytes, Nat.reduceMul, Nat.reducePow]
end

/-! ### Elections (R32, R33) -/

theorem ElectKey.lt_iff (a b : ElectKey) : a.lt b = true ↔ Spec.keyLess a b := by
  simp [ElectKey.lt, lexLt, Spec.keyLess]

theorem State.timeSeq_snd (s : State) (typ : Nat) :
    (s.timeSeq typ).2 = { s with time := { s.time with seqs := ((s.timeSeq typ).2).time.seqs } } := rfl

/-- The best key goes out of the UP ports; the next SEQ is counted. -/
theorem State.sendElect_eq (s : State) (k : ElectKey) (e : Option Nat) (h : Nat) : ∃ c, s.sendElect k e h = (s.timeSeq 2).2.flood c e :=
  ⟨_, rfl⟩

/-- From `s` to `t` nothing has changed but the election and the cells that wait. -/
def State.electing (s t : State) (e : Option Nat) : Prop :=
  ∃ b q l, t = { s with time := { s.time with electing := e, best := b, seqs := q }, weft := { s.weft with own := s.weft.own ++ l } }

theorem State.electing_refl (s : State) : s.electing s s.time.electing := ⟨s.time.best, s.time.seqs, [], by rw [List.append_nil]⟩

theorem State.startElection_open {s : State} {n : Nat} (h : s.time.electing = some n) : s.startElection = s :=
  if_pos (by rw [h, Option.isSome_some, Bool.or_true])

/-- An election starts here, unless one is open. -/
theorem State.startElection_electing {s : State} (fabtime : s.flag tuCtrlR F.tuCtrl.FABTIME = true) :
    s.electing s.startElection (some (s.time.electing.getD 0)) := by
  cases started : s.time.electing with
  | some n =>
    rw [State.startElection_open started, Option.getD_some, ← started]
    exact s.electing_refl
  | none =>
    unfold State.startElection
    rw [if_neg (by simp [fabtime, started])]
    dsimp only
    split
    · next k own =>
      obtain ⟨c, sent⟩ := (s.setTime fun x => { x with electing := some 0, best := some k }).sendElect_eq k none 0
      rw [own, sent, State.timeSeq_snd, State.flood_eq]
      exact ⟨some k, _, _, rfl⟩
    · next own =>
      rw [own]
      exact ⟨none, s.time.seqs, [], by rw [List.append_nil]; rfl⟩

/-- Whether a key beats the best seen. -/
def ElectKey.beats (k : ElectKey) : Option ElectKey → Bool
  | some b => k.lt b
  | none => true

theorem ElectKey.beats_some (k b : ElectKey) : k.beats (some b) = k.lt b := rfl

/-- A key that beats the best seen is kept and sent on. -/
def State.keepKey (s : State) (k : ElectKey) (p : Port) (hops : Nat) : State :=
  (s.setTime fun x => { x with best := some k }).sendElect k (some p.val) hops

theorem elect_eq {p : Port} {s : State} (up : s.portUp p = true) (fabtime : s.flag tuCtrlR F.tuCtrl.FABTIME = true) (c : Cell) :
    exec (.elect p c) s = .next (if (Spec.cellKey c).beats s.startElection.time.best
      then s.startElection.keepKey (Spec.cellKey c) p (cd c 38 2 + 1) else s.startElection) := by
  have heard : ¬(!s.portUp p || !s.flag tuCtrlR F.tuCtrl.FABTIME) = true := by rw [up, fabtime]; decide
  refine (if_neg heard).trans ?_
  rw [apply_ite Host.Outcome.next]
  rfl

theorem State.keepKey_eq (s : State) (k : ElectKey) (p : Port) (hops : Nat) : ∃ q c, s.keepKey k p hops =
    State.flood { s with time := { s.time with best := some k, seqs := q } } c (some p.val) := by
  obtain ⟨c, sent⟩ := (s.setTime fun x => { x with best := some k }).sendElect_eq k (some p.val) hops
  exact ⟨_, c, sent⟩

theorem electionKeys : Spec.ElectionKeys := fun p c s up fabtime => by
  refine ⟨fun idle => ⟨_, elect_eq up fabtime c, ?_⟩, fun n k started best => ⟨fun less => ⟨_, elect_eq up fabtime c, ?_⟩, fun notLess => ?_⟩⟩
  · obtain ⟨b, q, l, starts⟩ := State.startElection_electing fabtime
    rw [starts, idle]
    split
    · obtain ⟨q', c', kept⟩ := State.keepKey_eq _ (Spec.cellKey c) p (cd c 38 2 + 1)
      rw [kept, State.flood_eq]
      exact ⟨rfl, rfl⟩
    · exact ⟨rfl, rfl⟩
  · obtain ⟨q, c', kept⟩ := s.keepKey_eq (Spec.cellKey c) p (cd c 38 2 + 1)
    have length := State.own_flood_length (s := { s with time := { s.time with best := some (Spec.cellKey c), seqs := q } }) up c'
    rw [State.startElection_open started, best, ElectKey.beats_some, if_pos ((ElectKey.lt_iff _ _).mpr less), kept]
    refine ⟨?_, ?_, length, ?_⟩
    · rw [State.flood_eq]
    · rw [State.flood_eq]; exact started
    · rw [State.flood_eq]
  · rw [elect_eq up fabtime, State.startElection_open started, best, ElectKey.beats_some, if_neg fun lt => notLess ((ElectKey.lt_iff _ _).mp lt)]

/-! ### The master (R32, R495) -/

/-- From `s` to `t` the Time Unit's state and tracks may have moved, but neither its time nor its master. -/
def State.retracked (s t : State) : Prop :=
  (∃ m o n c, t = { s with regs := t.regs, time := { s.time with main := m, own := o, sinceLock := n, class52 := c } }) ∧
  (∀ r : Reg, r.addr ≠ tuStatusR.addr → t.rd r = s.rd r) ∧ ∀ f : Fld, f.hi < 32 → 5 < f.lo → t.fld tuStatusR f = s.fld tuStatusR f

theorem State.retracked_setTuState (s : State) (m o : Track) (v : Nat) :
    s.retracked ((s.setTime fun x => { x with main := m, own := o }).setTuState v) := by
  let u := s.setTime fun x => { x with main := m, own := o }
  obtain ⟨n, c, time⟩ := u.setTuState_time v
  refine ⟨⟨m, o, n, c, ?_⟩, fun r h => State.rd_setTuState_other u v h, fun f hi lo => State.fld_setTuState_field u v hi lo⟩
  rw [State.setTuState_frame, time]
  rfl

theorem State.retracked_retrack (s : State) (was : Bool) : s.retracked (s.retrack was) := by
  unfold State.retrack
  split
  · exact s.retracked_setTuState _ _ _
  · split
    · exact s.retracked_setTuState _ _ _
    · exact ⟨⟨s.time.main, s.time.own, s.time.sinceLock, s.time.class52, rfl⟩, fun _ _ => rfl, fun _ _ _ => rfl⟩

/-- The module has itself as master. -/
def State.isBest (s : State) (k : Option ElectKey) : Bool := k.any fun k => k.modid == s.myId && s.flag tuCtrlR F.tuCtrl.MASTER_ELIG

/-- The module that MASTER_ID names. -/
def State.masterId (s : State) (k : Option ElectKey) : Nat :=
  match k.filter fun k => k.modid ≠ s.myId with
  | some k => k.modid
  | none => s.myId

theorem State.masterId_some (s : State) (k : ElectKey) : s.masterId (some k) = k.modid := by
  unfold State.masterId
  by_cases me : k.modid = s.myId <;> simp [Option.filter, me]

/-- The state with the master named, before the reference followed changes with it. -/
def State.namedMaster (s : State) (k : Option ElectKey) : State :=
  ((s.setFld tuStatusR F.tuStatus.MASTER_ID (s.masterId k)).setFld tuStatusR F.tuStatus.IS_MASTER (b2n (s.isBest k))).setTime fun x =>
    { x with known := s.isBest k || (k.filter fun k => k.modid ≠ s.myId).isSome, masterPrio := match k.filter fun k => k.modid ≠ s.myId with
      | some k => k.prio1
      | none => x.masterPrio }

theorem State.setMaster_eq (s : State) (k : Option ElectKey) : s.setMaster k =
    if s.isBest k then ((s.namedMaster k).retrack s.follower).setTime fun x => { x with lastQual := ((s.namedMaster k).retrack s.follower).qual }
    else (s.namedMaster k).retrack s.follower := rfl

theorem State.rd_namedMaster (s : State) (k : Option ElectKey) {r : Reg} (h : r.addr ≠ tuStatusR.addr) :
    (s.namedMaster k).rd r = s.rd r := by
  rw [State.namedMaster, State.rd_setTime, State.rd_setFld_other _ _ _ _ _ h, s.rd_setFld_other _ _ _ _ h]

theorem State.masterId_namedMaster (s : State) (k : Option ElectKey) :
    (s.namedMaster k).fld tuStatusR F.tuStatus.MASTER_ID = s.masterId k % 4096 := by
  rw [State.namedMaster, State.fld_setTime, State.fld_setFld_field _ _ _ _ _ (by decide) (by decide), s.fld_setFld_same _ _ _ (by decide)]
  rfl

theorem State.isMaster_namedMaster (s : State) (k : Option ElectKey) : (s.namedMaster k).isMaster = s.isBest k := by
  rw [State.namedMaster, State.isMaster, State.flag, State.fld_setTime, State.fld_setFld_same _ _ _ _ (by decide)]
  cases s.isBest k <;> rfl

/-- A master named leaves TOD, the stitch and the election, and names itself in TU.STATUS. -/
theorem State.setMaster_laws (s : State) (k : Option ElectKey) : let t := s.setMaster k
    (∀ r : Reg, r.addr ≠ tuStatusR.addr → t.rd r = s.rd r) ∧ t.fld tuStatusR F.tuStatus.MASTER_ID = s.masterId k % 4096 ∧
    t.isMaster = s.isBest k ∧ t.time.electing = s.time.electing := by
  intro t
  obtain ⟨⟨m, o, n, c, frame⟩, regs, status⟩ := (s.namedMaster k).retracked_retrack s.follower
  have same : (∀ r, t.rd r = ((s.namedMaster k).retrack s.follower).rd r) ∧
      t.time.electing = ((s.namedMaster k).retrack s.follower).time.electing := by
    simp only [t, s.setMaster_eq]
    split <;> exact ⟨fun _ => rfl, rfl⟩
  obtain ⟨rd, electing⟩ := same
  refine ⟨fun r h => ?_, ?_, ?_, ?_⟩
  · rw [rd, regs r h, s.rd_namedMaster k h]
  · rw [State.fld_of_rd (rd _), status _ (by decide) (by decide), s.masterId_namedMaster]
  · rw [State.isMaster, State.flag_of_fld ((State.fld_of_rd (rd _) _).trans (status F.tuStatus.IS_MASTER (by decide) (by decide)))]
    exact s.isMaster_namedMaster k
  · rw [electing, frame]
    rfl

theorem electionEnds : Spec.ElectionEnds := fun n s started over128 => by
  have ends : exec .electionEnd s = .next ((s.setTime fun x => { x with electing := none, best := none, sinceSync := 0 }).setMaster s.time.best) := by
    change execElectionEnd s = _
    rw [execElectionEnd, started]
    exact if_neg (Nat.not_lt.mpr over128)
  obtain ⟨regs, named, isMaster, electing⟩ := (s.setTime fun x => { x with electing := none, best := none, sinceSync := 0 }).setMaster_laws s.time.best
  refine ⟨_, ends, electing, State.tod_of_rd (regs _ (by decide)) (regs _ (by decide)), regs _ (by decide), fun k best id => ?_, fun best => ?_⟩
  · rw [named, isMaster, best, State.masterId_some, Nat.mod_eq_of_lt id]
    exact ⟨rfl, by simp [State.isBest]; rfl⟩
  · rw [named, isMaster, best]
    exact ⟨Nat.mod_eq_of_lt (s.fld_lt _ _), rfl⟩

theorem State.main_namedMaster (s : State) (k : Option ElectKey) : (s.namedMaster k).time.main = s.time.main := by
  rw [State.namedMaster, State.time_setTime, State.time_setFld, State.time_setFld]

theorem State.weft_namedMaster (s : State) (k : Option ElectKey) : (s.namedMaster k).weft = s.weft := by
  rw [State.namedMaster, State.weft_setTime, State.weft_setFld, State.weft_setFld]

/-- With another module as its master a follower stays one, and goes on with the samples it has. -/
theorem State.setMaster_other {s : State} {k : ElectKey} (other : k.modid ≠ s.myId) (follower : s.follower = true) :
    s.setMaster (some k) = s.namedMaster (some k) ∧ (s.namedMaster (some k)).follower = true := by
  have notMe : s.isBest (some k) = false := by simp [State.isBest, other]
  have single : s.isMaster = false := by
    rw [State.follower, Bool.and_eq_true, Bool.not_eq_true'] at follower
    exact follower.2
  have still : (s.namedMaster (some k)).follower = true := by
    rw [State.follower, State.flag_of_fld (State.fld_of_rd (s.rd_namedMaster (some k) (by decide)) _),
      State.flag_of_fld (State.fld_of_rd (s.rd_namedMaster (some k) (by decide)) _), s.isMaster_namedMaster, notMe, ← single]
    exact follower
  have stays : (s.namedMaster (some k)).retrack s.follower = s.namedMaster (some k) := by
    rw [State.retrack, follower, still]
    rfl
  exact ⟨by rw [s.setMaster_eq, notMe, if_neg Bool.false_ne_true, stays], still⟩

/-! ### SYNC cells (R34, R35, R495) -/

/-- A SYNC cell as it is passed on (R34). -/
def State.passedCell (s : State) (p : Port) (c : Cell) (residence : BitVec 64) : Cell :=
  mkLocal 0x01 s.myId (cf c cSRCH) 0 0 ((cellBytes c).take 16 ++
    leBytes 8 ((cd c 16 8 + s.fld { kind := .wpLdly, i := p.val } F.wpLdly.DELAY * 4096 + residence.toNat) % 2 ^ 64) ++
    ((cellBytes c).drop 24).take 14 ++ leBytes 2 (cd c 38 2 + 1))

theorem State.passedCell_fields (s : State) (p : Port) (c : Cell) (residence : BitVec 64) : let f := s.passedCell p c residence
    cd f 0 16 = cd c 0 16 ∧
    cd f 16 8 = (cd c 16 8 + s.fld { kind := .wpLdly, i := p } F.wpLdly.DELAY * 4096 + residence.toNat) % 2 ^ 64 ∧
    cd f 38 2 = (cd c 38 2 + 1) % 65536 := by
  have length := cellBytes_length c
  generalize corr : (cd c 16 8 + s.fld { kind := .wpLdly, i := p } F.wpLdly.DELAY * 4096 + residence.toNat) % 2 ^ 64 = v
  have small : v % 2 ^ 64 = v := by rw [← corr, Nat.mod_mod]
  intro f
  have read : ∀ {a n : Nat}, a + n ≤ 40 → cd f a n = field ((cellBytes c).take 16 ++ leBytes 8 v ++ ((cellBytes c).drop 24).take 14 ++
      leBytes 2 (cd c 38 2 + 1)) a n := fun within => by
    simp only [f, State.passedCell, corr]
    exact cd_mkLocal _ _ _ _ _ (by simp [leBytes_length, length]) (by simpa [leBytes_length, length] using within)
  refine ⟨?_, ?_, ?_⟩
  · rw [read (by decide)]
    simp (disch := simp [leBytes_length, length]) only [field_append_left]
    rw [cd, field, field, List.drop_zero, List.drop_zero, List.take_take, Nat.min_self]
  · rw [read (by decide)]
    simp (disch := simp [leBytes_length, length]) only [field_append_left, field_append_last]
    exact small
  · rw [read (by decide), field_append_last (by simp [leBytes_length, length])]
    rfl

/-- The state with a SYNC cell remembered and passed on. -/
def State.syncPassed (s : State) (p : Port) (c : Cell) (residence : BitVec 64) : State :=
  (s.setTime fun x => { x with syncSeen := SMap.insert x.syncSeen (cd c 4 2 % 4096) (cd c 6 2) }).flood (s.passedCell p c residence) (some p.val)

/-- A module without a master takes the sender as master. -/
def State.takeMaster (s : State) (c : Cell) : State :=
  if s.follower ∧ !s.time.known then s.setMaster (some (Spec.cellKey c)) else s

/-- The state with a sample of the master's SYNC cell. -/
def State.syncSampled (s : State) (c : Cell) (o : Int) : State :=
  s.setTime fun x => { x with main := x.main.add (.offset o), sinceSync := 0, followed := true, masterPrio := cd c 2 1 }

/-- A SYNC cell of the master is a sample (R34). -/
def State.takeSync (s : State) (c : Cell) (o : Int) : State :=
  if s.follower ∧ s.fld tuStatusR F.tuStatus.MASTER_ID = cd c 4 2 % 4096 then
    if 1000 < o.natAbs then (s.syncSampled c o).timeFlag F.tuStatus.ALIGN_FAULT 1 else s.syncSampled c o
  else s

theorem sync_eq {p : Port} {c : Cell} {s : State} (up : s.portUp p = true) (fabtime : s.flag tuCtrlR F.tuCtrl.FABTIME = true)
    (other : cd c 4 2 % 4096 ≠ s.myId) (fresh : SMap.find s.time.syncSeen (cd c 4 2 % 4096) = none) (residence : BitVec 64) (o : Int) :
    exec (.sync p c residence o) s = .next ((((s.syncPassed p c residence).takeMaster c).takeSync c o).joinElection (cd c 2 1)) := by
  have heard : ¬(!s.portUp p || !s.flag tuCtrlR F.tuCtrl.FABTIME) = true := by rw [up, fabtime]; decide
  change execSync p c residence o s = _
  unfold execSync
  rw [if_neg heard]
  dsimp only
  rw [fresh, if_neg (by simp [other])]
  rfl

theorem State.takeMaster_laws {s : State} {c : Cell} (follower : s.follower = true) (other : cd c 4 2 % 4096 ≠ s.myId)
    (same : s.time.known = true → s.fld tuStatusR F.tuStatus.MASTER_ID = cd c 4 2 % 4096) : let t := s.takeMaster c
    t.follower = true ∧ t.fld tuStatusR F.tuStatus.MASTER_ID = cd c 4 2 % 4096 ∧ t.time.main = s.time.main ∧ t.weft = s.weft ∧
    ∀ r : Reg, r.addr ≠ tuStatusR.addr → t.rd r = s.rd r := by
  unfold State.takeMaster
  cases known : s.time.known
  · obtain ⟨named, still⟩ := State.setMaster_other (k := Spec.cellKey c) other follower
    rw [if_pos ⟨follower, rfl⟩, named]
    refine ⟨still, ?_, s.main_namedMaster _, s.weft_namedMaster _, fun r h => s.rd_namedMaster _ h⟩
    rw [s.masterId_namedMaster, s.masterId_some]
    exact Nat.mod_mod _ _
  · rw [if_neg (by simp)]
    exact ⟨follower, same known, rfl, rfl, fun _ _ => rfl⟩

/-- What the sample of a SYNC cell leaves. -/
theorem State.takeSync_laws {s : State} {c : Cell} (follower : s.follower = true)
    (master : s.fld tuStatusR F.tuStatus.MASTER_ID = cd c 4 2 % 4096) (o : Int) : let t := s.takeSync c o
    t.time = (s.syncSampled c o).time ∧ t.weft = s.weft ∧ t.fld tuStatusR F.tuStatus.MASTER_ID = cd c 4 2 % 4096 ∧
    (∀ r : Reg, r.clearOfErrors → r.addr ≠ tuStatusR.addr → t.rd r = s.rd r) ∧
    (1000 < o.natAbs → t.flag tuStatusR F.tuStatus.ALIGN_FAULT = true) := by
  unfold State.takeSync
  rw [if_pos ⟨follower, master⟩]
  by_cases far : 1000 < o.natAbs
  · rw [if_pos far]
    refine ⟨State.timeFlag_time _ _ _, ?_, ?_, fun r clear h => State.rd_timeFlag_other _ _ _ clear h, fun _ => State.flag_timeFlag _ _ (by decide) rfl⟩
    · rw [State.timeFlag_frame, State.syncSampled, State.weft_setTime]
    · rw [State.fld_timeFlag_field _ _ (by decide) (by decide), State.syncSampled, State.fld_setTime, master]
  · rw [if_neg far]
    exact ⟨rfl, rfl, master, fun _ _ _ => rfl, fun h => absurd h far⟩

/-- A candidate with a lower PRIO1 has an election open. -/
theorem State.joinElection_electing {s : State} (fabtime : s.flag tuCtrlR F.tuCtrl.FABTIME = true) (prio : Nat) :
    ∃ e, s.electing (s.joinElection prio) e ∧
      (s.flag tuCtrlR F.tuCtrl.MASTER_ELIG = true → s.fld tuCtrlR F.tuCtrl.PRIO1 < prio → e.isSome = true) := by
  unfold State.joinElection
  split
  · exact ⟨_, State.startElection_electing fabtime, fun _ _ => rfl⟩
  · next h => exact ⟨_, s.electing_refl, fun elig less => absurd ⟨elig, less⟩ h⟩

/-- A SYNC cell remembered and passed on leaves the registers and the samples. -/
theorem State.syncPassed_laws (s : State) (p : Port) (c : Cell) (residence : BitVec 64) : let t := s.syncPassed p c residence
    t.regs = s.regs ∧ t.time.known = s.time.known ∧ t.time.main = s.time.main ∧
    ∀ q ∈ s.upPorts, q ≠ p.val → (some q, s.passedCell p c residence) ∈ t.weft.own := by
  intro t
  refine ⟨?_, ?_, ?_, fun q up other => State.mem_flood up (by simpa using other)⟩
  all_goals simp only [t, State.syncPassed, State.flood_eq]
  all_goals rfl

/-- What an election leaves. -/
theorem State.electing_laws {s t : State} {e : Option Nat} (h : s.electing t e) :
    t.time.electing = e ∧ t.regs = s.regs ∧ t.time.main = s.time.main ∧ t.time.sinceSync = s.time.sinceSync ∧
    ∀ x ∈ s.weft.own, x ∈ t.weft.own := by
  obtain ⟨b, q, l, rfl⟩ := h
  exact ⟨rfl, rfl, rfl, rfl, fun x hx => List.mem_append_left _ hx⟩

theorem State.fabtime_of_follower {s : State} (follower : s.follower = true) : s.flag tuCtrlR F.tuCtrl.FABTIME = true := by
  rw [State.follower, Bool.and_eq_true, Bool.and_eq_true] at follower
  exact follower.1.1

theorem syncCells : Spec.SyncCells := fun p c residence o s up follower => by
  intro m other same fresh
  have fabtime := State.fabtime_of_follower follower
  obtain ⟨regs1, known1, main1, own1⟩ := s.syncPassed_laws p c residence
  have rd1 := State.rd_of_regs regs1
  obtain ⟨follower2, master2, main2, weft2, rd2⟩ := State.takeMaster_laws (s := s.syncPassed p c residence) (c := c)
    ((State.follower_of_rd (rd1 _) (rd1 _) (State.fld_of_rd (rd1 _) _)).trans follower)
    (by rw [State.myId, State.fld_of_rd (rd1 _)]; exact other)
    (by rw [known1, State.fld_of_rd (rd1 _)]; exact same)
  obtain ⟨time3, weft3, master3, rd3, align⟩ := State.takeSync_laws follower2 master2 o
  have rd : ∀ r : Reg, r.clearOfErrors → r.addr ≠ tuStatusR.addr →
      (((s.syncPassed p c residence).takeMaster c).takeSync c o).rd r = s.rd r := fun r clear h => by rw [rd3 r clear h, rd2 r h, rd1]
  have ctrl := rd tuCtrlR (Reg.clearOfErrors_of_kind (by decide) (by decide) (by decide) (by decide)) (by decide)
  obtain ⟨e, joins, opens⟩ := State.joinElection_electing ((State.flag_of_fld (State.fld_of_rd ctrl _)).trans fabtime) (cd c 2 1)
  obtain ⟨electing4, regs4, main4, since4, own4⟩ := State.electing_laws joins
  have rd4 := State.rd_of_regs regs4
  obtain ⟨origin, corr, hops⟩ := s.passedCell_fields p c residence
  refine ⟨_, s.passedCell p c residence, sync_eq up fabtime other fresh residence o, ?_, ?_, State.tod_of_rd ?_ ?_, ?_, ?_, fun q up other => ?_,
    origin, corr, hops, fun far => ?_, fun elig less => ?_⟩
  · rw [main4, time3, State.syncSampled, State.time_setTime, main2, main1]
    rfl
  · rw [since4, time3, State.syncSampled, State.time_setTime]
  · rw [rd4, rd _ (Reg.clearOfErrors_of_kind (by decide) (by decide) (by decide) (by decide)) (by decide)]
  · rw [rd4, rd _ (Reg.clearOfErrors_of_kind (by decide) (by decide) (by decide) (by decide)) (by decide)]
  · rw [State.stitch, rd4, rd _ (Reg.clearOfErrors_of_kind (by decide) (by decide) (by decide) (by decide)) (by decide), State.stitch]
  · rw [State.fld_of_rd (rd4 _), master3]
  · exact own4 _ (by rw [weft3, weft2]; exact own1 q up other)
  · rw [State.flag_of_fld (State.fld_of_rd (rd4 _) _), align far]
  · rw [electing4]
    refine opens ?_ ?_
    · rw [State.flag_of_fld (State.fld_of_rd ctrl _), elig]
    · rw [State.fld_of_rd ctrl]; exact less

/-! ### The loss of the master (R34) -/

theorem masterLost : Spec.MasterLost := fun s follower silent => by
  have fabtime := State.fabtime_of_follower follower
  refine ⟨fun followed locked => ?_, fun unfollowed known => ?_⟩
  · let u := s.loseMain.setTime fun x => { x with followed := false }
    have ctrl : u.rd tuCtrlR = s.rd tuCtrlR :=
      s.rd_loseMain (Reg.clearOfErrors_of_kind (by decide) (by decide) (by decide) (by decide)) (by decide) (by decide)
    have starts := State.startElection_electing (s := u) ((State.flag_of_fld (State.fld_of_rd ctrl _)).trans fabtime)
    obtain ⟨electing, regs, _⟩ := State.electing_laws starts
    have rd := State.rd_of_regs regs
    obtain ⟨flag, moved, own⟩ := s.status_loseMain
    rw [locked] at moved
    rw [follower, if_pos rfl] at own
    refine ⟨u.startElection, (if_pos ⟨follower, silent⟩).trans (if_pos followed), ?_, ?_, ?_, by rw [electing]; rfl⟩
    · rw [State.tuState, State.fld_of_rd (rd _)]; exact moved
    · rw [State.flag_of_fld (State.fld_of_rd (rd _) _)]; exact flag
    · rw [State.ownState, State.fld_of_rd (rd _)]; exact own
  · obtain ⟨electing, regs, _⟩ := State.electing_laws (State.startElection_electing fabtime)
    refine ⟨s.startElection, ?_, regs, by rw [electing]; rfl⟩
    exact (if_pos ⟨follower, silent⟩).trans ((if_neg (by rw [unfollowed]; decide)).trans (if_pos (.inl known)))

/-! ### Link delays (R34, R36) -/

theorem State.qual_lt (s : State) : s.qual < 256 := by
  unfold State.qual
  split
  · decide
  · split <;> decide

section
variable (s : State) (f : TimeSt → TimeSt)
@[simp] theorem State.qual_setTime : (s.setTime f).qual = s.qual := rfl
@[simp] theorem State.myId_setTime : (s.setTime f).myId = s.myId := rfl
@[simp] theorem State.timeCell_setTime (typ qual prio modid seq stitch corr hops ns : Nat) :
    (s.setTime f).timeCell typ qual prio modid seq stitch corr hops ns = s.timeCell typ qual prio modid seq stitch corr hops ns := rfl
end

section
variable (s : State) (p : Nat) (c : Cell)
theorem State.own_sendLocal : (s.sendLocal p c).weft.own = s.weft.own ++ [(some p, c)] := rfl
theorem State.regs_sendLocal : (s.sendLocal p c).regs = s.regs := rfl
theorem State.time_sendLocal : (s.sendLocal p c).time = s.time := rfl
/-- A cell sent and a change of the Time Unit's other state, both taken back. -/
theorem State.setTime_sendLocal_undone (f : TimeSt → TimeSt) :
    { (s.setTime f).sendLocal p c with weft := s.weft, time := s.time } = s := rfl
end

/-- The next SEQ of a time cell type, before the cell that takes it. -/
def State.nextSeq (s : State) (typ : Nat) : Nat := (SMap.find s.time.seqs typ).getD 0 % 65536

/-- A cell of the delay exchange. -/
def State.delayCell (s : State) (typ corr : Nat) : Cell :=
  s.timeCell typ s.qual (s.fld tuCtrlR F.tuCtrl.PRIO1) s.myId (s.nextSeq typ) s.stitch corr 0 s.tod

/-- The Time Unit with a SEQ counted. -/
def TimeSt.countSeq (x : TimeSt) (typ n : Nat) : TimeSt := { x with seqs := SMap.put (fun _ => 0) x.seqs typ ((n + 1) % 65536) }

theorem linkDelayMeasurement_eq {p : Port} {s : State} (up : s.portUp p = true) (due : 1024 ≤ (SMap.find s.time.sinceDelay p).getD 0) :
    exec (.linkDelayMeasurement p) s = .next (((s.setTime fun x => x.countSeq 3 (s.nextSeq 3)).setTime fun x =>
      { x with delayReq := SMap.insert x.delayReq p.val (s.nextSeq 3), sinceDelay := SMap.remove x.sinceDelay p.val }).sendLocal p.val
        (s.delayCell 3 0)) := by
  refine (if_pos ⟨.inl up, due⟩).trans ?_
  simp only [State.qual_setTime, State.fld_setTime, State.myId_setTime, State.stitch_setTime, State.tod_setTime,
    State.timeCell_setTime]
  rfl

theorem delayReq_eq {p : Port} {s : State} (up : s.portUp p = true) (q : Cell) (res : BitVec 64) :
    exec (.delayReq p q res) s = .next ((s.setTime fun x => x.countSeq 4 (s.nextSeq 4)).sendLocal p.val (s.delayCell 4 res.toNat)) := by
  refine (if_pos (.inl up)).trans ?_
  simp only [State.qual_setTime, State.fld_setTime, State.myId_setTime, State.stitch_setTime, State.tod_setTime,
    State.timeCell_setTime]
  rfl

/-- The key and the SEQ that a delay cell carries. -/
theorem delayCell_fields (s : State) {typ : Nat} (ht : typ < 256) (corr : Nat) : let c := s.delayCell typ corr
    cd c 0 1 = typ ∧ cd c 1 1 = s.qual ∧ cd c 2 1 = s.fld tuCtrlR F.tuCtrl.PRIO1 ∧ cd c 4 2 = s.myId ∧ cd c 6 2 = s.nextSeq typ ∧
    cd c 16 8 = corr % 2 ^ 64 := by
  obtain ⟨htyp, hqual, hprio, hid, hseq, hcorr⟩ :=
    timeCell_fields s typ s.qual (s.fld tuCtrlR F.tuCtrl.PRIO1) s.myId (s.nextSeq typ) s.stitch corr 0 s.tod
  have prio : s.fld tuCtrlR F.tuCtrl.PRIO1 < 256 := s.fld_lt _ _
  have id : s.myId < 2 ^ 12 := s.fld_lt _ _
  exact ⟨htyp.trans (Nat.mod_eq_of_lt ht), hqual.trans (Nat.mod_eq_of_lt s.qual_lt), hprio.trans (Nat.mod_eq_of_lt prio),
    hid.trans (Nat.mod_eq_of_lt (Nat.lt_trans id (by decide))), hseq.trans (Nat.mod_mod _ _), hcorr⟩

theorem delayExchange : Spec.DelayExchange := fun p s up => by
  refine ⟨fun due => ?_, fun q res => ?_⟩
  · obtain ⟨typ, qual, prio, id, seq, _⟩ := delayCell_fields s (typ := 3) (by decide) 0
    refine ⟨_, s.delayCell 3 0, linkDelayMeasurement_eq up due, State.own_sendLocal _ _ _, typ, qual, prio, id, seq, ?_, State.regs_sendLocal _ _ _⟩
    rw [seq, State.time_sendLocal]
    exact SMap.find_insert_same _ _ _
  · obtain ⟨typ, qual, prio, id, seq, corr⟩ := delayCell_fields s (typ := 4) (by decide) res.toNat
    exact ⟨_, s.delayCell 4 res.toNat, delayReq_eq up q res, State.own_sendLocal _ _ _, typ, qual, prio, id, seq, corr.trans (Nat.mod_eq_of_lt res.isLt),
      State.setTime_sendLocal_undone _ _ _ _⟩

end Sys2Proof.Machine
open Sys2Proof.Machine

/-- Settles O19: what elections, masters named and cells passed on leave, then each command in turn. -/
theorem fabricTime : Obligations.FabricTime := ⟨electionKeys, electionEnds, syncCells, masterLost, delayExchange⟩

end

section
/-! The Weft's routes: what usable links depend on, and what a repair leaves (R246, R264, R265). -/

namespace Sys2Proof.Machine

/-! ### Where the registers of the ports and the routes lie -/

theorem pctlR_ok {p : Nat} (hp : p < 8) : (pctlR p).ok = true := Bool.and_eq_true_iff.mpr ⟨decide_eq_true hp, rfl⟩
theorem pstatR_ok {p : Nat} (hp : p < 8) : (pstatR p).ok = true := Bool.and_eq_true_iff.mpr ⟨decide_eq_true hp, rfl⟩
theorem pselR_ok {d : Nat} (hd : d < 4096) : (pselR d).ok = true := Bool.and_eq_true_iff.mpr ⟨decide_eq_true hd, rfl⟩
theorem routeR_ok {d w : Nat} (hd : d < 4096) (hw : w < 4) : (routeR d w).ok = true :=
  Bool.and_eq_true_iff.mpr ⟨decide_eq_true hd, decide_eq_true hw⟩

theorem pselR_addr_ne {d e : Nat} (h : d ≠ e) : (pselR d).addr ≠ (pselR e).addr := by
  simp only [pselR, Reg.addr, RegKind.place]
  omega

theorem RegKind.apart_wpPsel {k : RegKind} : k ≠ .wpPsel → k.apart .wpPsel = true := by cases k <;> decide
theorem RegKind.apart_wpFstat {k : RegKind} : k ≠ .wpFstat → k.apart .wpFstat = true := by cases k <;> decide

/-! ### What usable links depend on (R265) -/

/-- The ports' settings and states, the peers, the shape of the fabric and the link states of others are the same. -/
def State.sameLinks (s t : State) : Prop :=
  t.weft.inUse = s.weft.inUse ∧ t.weft.links' = s.weft.links' ∧ t.rd fcfgR = s.rd fcfgR ∧
  ∀ p < 8, t.rd (pctlR p) = s.rd (pctlR p) ∧ t.rd (pstatR p) = s.rd (pstatR p)

theorem State.portFor_lt {s : State} {dim dir p : Nat} (found : s.portFor dim dir = some p) : p < 8 :=
  List.mem_range.mp (List.mem_of_find?_eq_some found)

section
variable {s t : State} (h : s.sameLinks t)
include h

theorem State.ring_of_sameLinks (dim : Nat) : t.ring_ dim = s.ring_ dim := by
  obtain ⟨_, _, shape, _⟩ := h
  unfold State.ring_
  simp only [State.fld_of_rd shape]

theorem State.myId_of_sameLinks : t.myId = s.myId := State.fld_of_rd h.2.2.1 _

theorem State.pctlFld_of_sameLinks {p : Nat} (hp : p < 8) (f : Fld) : t.pctlFld p f = s.pctlFld p f := by
  obtain ⟨inUse, _, _, ports⟩ := h
  rw [State.pctlFld, State.pctlFld, inUse, (ports p hp).1]

theorem State.isWeft_of_sameLinks {p : Nat} (hp : p < 8) : t.isWeft p = s.isWeft p := by
  rw [State.isWeft, State.isWeft, State.portRole, State.portRole, State.pctlFld_of_sameLinks h hp]

theorem State.linkState_of_sameLinks {p : Nat} (hp : p < 8) : t.linkState p = s.linkState p :=
  State.fld_of_rd (h.2.2.2 p hp).2 _

theorem State.portUp_of_sameLinks {p : Nat} (hp : p < 8) : t.portUp p = s.portUp p := by
  rw [State.portUp, State.portUp, State.isWeft_of_sameLinks h hp, State.linkState_of_sameLinks h hp]

theorem State.portFor_of_sameLinks (dim dir : Nat) : t.portFor dim dir = s.portFor dim dir := by
  unfold State.portFor State.portDim State.portDir
  refine List.find?_congr fun p hp => ?_
  have hp := List.mem_range.mp hp
  rw [State.isWeft_of_sameLinks h hp, State.pctlFld_of_sameLinks h hp, State.pctlFld_of_sameLinks h hp]

theorem State.reports_of_sameLinks (a b dim dir : Nat) : t.reports a b dim dir = s.reports a b dim dir := by
  unfold State.reports
  rw [State.myId_of_sameLinks h, State.portFor_of_sameLinks h, State.ring_of_sameLinks h, h.2.1]
  split
  · split
    · next p found =>
      have hp := State.portFor_lt found
      rw [State.portUp_of_sameLinks h hp, State.fld_of_rd (h.2.2.2 p hp).2]
    · rfl
  · rfl

theorem State.usable_of_sameLinks (a b dim dir : Nat) : t.usable a b dim dir = s.usable a b dim dir := by
  rw [State.usable, State.usable, State.reports_of_sameLinks h, State.reports_of_sameLinks h]

theorem State.neighbour_of_sameLinks (m dim dir : Nat) : t.neighbour m dim dir = s.neighbour m dim dir := by
  unfold State.neighbour
  rw [State.ring_of_sameLinks h]

theorem State.walkRing_of_sameLinks (dim dir n m : Nat) : t.walkRing dim dir n m = s.walkRing dim dir n m := by
  induction n generalizing m with
  | zero => rfl
  | succ n ih =>
    rw [State.walkRing, State.walkRing, State.neighbour_of_sameLinks h, State.usable_of_sameLinks h, ih]

theorem State.wordUsable_of_sameLinks (w : Nat) : t.wordUsable w = s.wordUsable w := by
  have leg : ∀ k, legPort w k < 8 := fun k => by
    rw [legPort, bits_eq]
    exact Nat.mod_lt _ (Nat.two_pow_pos _) |>.trans_le (by rw [show 8 * k + 7 + 1 - (8 * k + 5) = 3 by omega])
  unfold State.wordUsable State.portDim State.portDir
  rw [State.myId_of_sameLinks h]
  simp only [State.pctlFld_of_sameLinks h (leg _), State.walkRing_of_sameLinks h]

end

/-! ### Selections (R246, R265) -/

/-- From `s` to `t` nothing has changed but the selections and the count of repairs. -/
def State.selOnly (s t : State) : Prop :=
  t = { s with regs := t.regs, weft := { s.weft with oldSel := t.weft.oldSel } } ∧
  ∀ r : Reg, r.ok = true → r.kind ≠ .wpPsel → r.kind ≠ .wpFstat → t.rd r = s.rd r

theorem State.selOnly_refl (s : State) : s.selOnly s := ⟨rfl, fun _ _ _ _ => rfl⟩

theorem State.selOnly_trans {s t u : State} (h : s.selOnly t) (h' : t.selOnly u) : s.selOnly u := by
  obtain ⟨eq, regs⟩ := h
  obtain ⟨eq', regs'⟩ := h'
  refine ⟨?_, fun r ok psel fstat => (regs' r ok psel fstat).trans (regs r ok psel fstat)⟩
  rw [eq', eq]

theorem State.selOnly_wr_pselR (s : State) {d : Nat} (hd : d < 4096) (v : Nat) : s.selOnly (s.wr (pselR d) v) :=
  ⟨rfl, fun r ok psel _ => s.rd_wr_other r _ v (Reg.addr_ne ok (pselR_ok hd) (RegKind.apart_wpPsel psel))⟩

theorem State.selOnly_wr_wpFstat (s : State) (v : Nat) : s.selOnly (s.wr { kind := .wpFstat } v) :=
  ⟨rfl, fun r ok _ fstat => s.rd_wr_other r _ v (Reg.addr_ne ok (by decide) (RegKind.apart_wpFstat fstat))⟩

theorem State.selOnly_oldSel (s : State) (f : SMap Nat → SMap Nat) : s.selOnly (s.setWeft fun x => { x with oldSel := f x.oldSel }) :=
  ⟨rfl, fun _ _ _ _ => rfl⟩

theorem State.sameLinks_of_selOnly {s t : State} (h : s.selOnly t) : s.sameLinks t := by
  obtain ⟨eq, regs⟩ := h
  refine ⟨by rw [eq], by rw [eq], regs _ (by decide) (by decide) (by decide), fun p hp => ⟨?_, ?_⟩⟩
  · exact regs _ (pctlR_ok hp) nofun nofun
  · exact regs _ (pstatR_ok hp) nofun nofun

/-- A selection changed, or a change of it ended, leaves the selections of the others (R246). -/
def State.selectOnly (s t : State) (d : Nat) : Prop := s.selOnly t ∧ ∀ e, e ≠ d → t.rd (pselR e) = s.rd (pselR e)

theorem State.selectOnly_setFld (s : State) {d : Nat} (hd : d < 4096) (f : Fld) (v : Nat) : s.selectOnly (s.setFld (pselR d) f v) d :=
  ⟨s.selOnly_wr_pselR hd _, fun _ other => s.rd_setFld_other _ _ _ _ (pselR_addr_ne other)⟩

theorem State.selectOnly_trans {s t u : State} {d : Nat} (h : s.selectOnly t d) (h' : t.selectOnly u d) : s.selectOnly u d :=
  ⟨State.selOnly_trans h.1 h'.1, fun e other => (h'.2 e other).trans (h.2 e other)⟩

theorem State.selectOnly_endPend (s : State) {d : Nat} (hd : d < 4096) : s.selectOnly (s.endPend d) d :=
  State.selectOnly_trans (s.selectOnly_setFld hd _ _) ⟨State.selOnly_oldSel _ fun x => SMap.remove x d, fun _ _ => rfl⟩

theorem State.fld_setWeft (s : State) (f : WeftSt → WeftSt) (r : Reg) (g : Fld) : (s.setWeft f).fld r g = s.fld r g := rfl

theorem State.fld_SEL_setFld (s : State) (d : Nat) {f : Fld} (v : Nat) (h : 1 < f.lo) :
    (s.setFld (pselR d) f v).fld (pselR d) F.wpPsel.SEL = s.fld (pselR d) F.wpPsel.SEL :=
  s.fld_setFld_field _ _ _ _ (show 1 < 32 by decide) (.inl h)

theorem State.fld_SEL_endPend (s : State) (d : Nat) : (s.endPend d).fld (pselR d) F.wpPsel.SEL = s.fld (pselR d) F.wpPsel.SEL := by
  rw [State.endPend, State.fld_setWeft, State.fld_SEL_setFld _ _ _ (by decide)]

theorem State.setSel_eq (s : State) (d w : Nat) : s.setSel d w =
    if s.fld (pselR d) F.wpPsel.SEL = w then s
    else if (s.setFld (pselR d) F.wpPsel.SEL w).flag (pselR d) F.wpPsel.PEND then
      if SMap.find s.weft.oldSel d = some ((s.setFld (pselR d) F.wpPsel.SEL w).rd (routeR d w)) then
        (s.setFld (pselR d) F.wpPsel.SEL w).endPend d
      else s.setFld (pselR d) F.wpPsel.SEL w
    else if s.weft.out.any fun e => match e.2 with
        | some x => x.dst == d
        | none => false then
      ((s.setFld (pselR d) F.wpPsel.SEL w).setFld (pselR d) F.wpPsel.PEND 1).setWeft fun x =>
        { x with oldSel := SMap.insert x.oldSel d ((s.setFld (pselR d) F.wpPsel.SEL w).rd (routeR d (s.fld (pselR d) F.wpPsel.SEL))) }
    else s.setFld (pselR d) F.wpPsel.SEL w := rfl

/-- With no request open a selection changes at once, whatever waits being over (R246). -/
theorem State.setSel_laws {s : State} (idle : s.weft.out = []) {d w : Nat} (hd : d < 4096) (hw : w < 4) :
    s.selectOnly (s.setSel d w) d ∧ (s.setSel d w).fld (pselR d) F.wpPsel.SEL = w := by
  have set : (s.setFld (pselR d) F.wpPsel.SEL w).fld (pselR d) F.wpPsel.SEL = w :=
    (s.fld_setFld_same _ _ _ (show 1 < 32 by decide)).trans (Nat.mod_eq_of_lt hw)
  have chosen := s.selectOnly_setFld hd F.wpPsel.SEL w
  rw [s.setSel_eq, idle]
  split
  · next same => exact ⟨⟨s.selOnly_refl, fun _ _ => rfl⟩, same⟩
  · split
    · split
      · exact ⟨State.selectOnly_trans chosen (State.selectOnly_endPend _ hd), by rw [State.fld_SEL_endPend, set]⟩
      · exact ⟨chosen, set⟩
    · exact ⟨chosen, set⟩

/-! ### Repair (R265) -/

/-- The selection of a destination is the lowest word whose every link is usable, or UNREACH. -/
def State.selects (u : State) (d : Nat) : Prop :=
  (∀ w < 4, u.wordUsable (u.rd (routeR d w)) = true → (∀ v < w, u.wordUsable (u.rd (routeR d v)) = false) →
    u.fld (pselR d) F.wpPsel.SEL = w ∧ u.flag (pselR d) F.wpPsel.UNREACH = false) ∧
  ((∀ w < 4, u.wordUsable (u.rd (routeR d w)) = false) → u.flag (pselR d) F.wpPsel.UNREACH = true)

/-- The selections depend on the links, the words and the destination's own register. -/
theorem State.selects_of_selOnly {s t : State} {d : Nat} (hd : d < 4096) (only : s.selOnly t) (sel : t.rd (pselR d) = s.rd (pselR d))
    (h : s.selects d) : t.selects d := by
  have usable : ∀ w < 4, t.wordUsable (t.rd (routeR d w)) = s.wordUsable (s.rd (routeR d w)) := fun w hw => by
    rw [only.2 _ (routeR_ok hd hw) nofun nofun, State.wordUsable_of_sameLinks (State.sameLinks_of_selOnly only)]
  rw [State.selects, State.fld_of_rd sel, State.flag_of_fld (State.fld_of_rd sel _)]
  refine ⟨fun w hw yes lower => h.1 w hw ((usable w hw).symm.trans yes) fun v hv => (usable v (hv.trans hw)).symm.trans (lower v hv),
    fun none_ => h.2 fun w hw => (usable w hw).symm.trans (none_ w hw)⟩

/-- Thimble recomputes one destination's selection. -/
def State.reselect (s : State) (d : Nat) : State :=
  if d = s.myId then s else
  match (List.range 4).find? fun w => s.wordUsable (s.rd (routeR d w)) with
  | some w => (s.setSel d w).setFld (pselR d) F.wpPsel.UNREACH 0
  | none => s.setFld (pselR d) F.wpPsel.UNREACH 1

theorem State.reselect_only {s : State} (idle : s.weft.out = []) {d : Nat} (hd : d < 4096) : s.selectOnly (s.reselect d) d := by
  unfold State.reselect
  split
  · exact ⟨s.selOnly_refl, fun _ _ => rfl⟩
  · split
    · next w found =>
      have hw := List.mem_range.mp (List.mem_of_find?_eq_some found)
      exact State.selectOnly_trans (State.setSel_laws idle hd hw).1 (State.selectOnly_setFld _ hd _ _)
    · exact s.selectOnly_setFld hd _ _

theorem State.reselect_selects {s : State} (idle : s.weft.out = []) {d : Nat} (hd : d < 4096) (other : d ≠ s.myId) :
    (s.reselect d).selects d := by
  have only := (State.reselect_only idle hd).1
  have usable : ∀ w < 4, (s.reselect d).wordUsable ((s.reselect d).rd (routeR d w)) = s.wordUsable (s.rd (routeR d w)) := fun w hw => by
    rw [only.2 _ (routeR_ok hd hw) nofun nofun, State.wordUsable_of_sameLinks (State.sameLinks_of_selOnly only)]
  cases found : (List.range 4).find? fun w => s.wordUsable (s.rd (routeR d w)) with
  | some w =>
    obtain ⟨yes, inRange, lower⟩ := List.find?_range_eq_some.mp found
    have hw := List.mem_range.mp inRange
    have eq : s.reselect d = (s.setSel d w).setFld (pselR d) F.wpPsel.UNREACH 0 := by rw [State.reselect, if_neg other, found]
    refine ⟨fun v hv yes' lower' => ?_, fun none_ => ?_⟩
    · obtain rfl : v = w := by
        rcases Nat.lt_trichotomy v w with less | same | more
        · have := lower v less
          rw [usable v hv] at yes'
          simp [yes'] at this
        · exact same
        · have := lower' w more
          rw [usable w hw, yes] at this
          cases this
      rw [eq]
      refine ⟨by rw [State.fld_SEL_setFld _ _ _ (by decide), (State.setSel_laws idle hd hw).2], ?_⟩
      rw [State.flag, State.fld_setFld_same _ _ _ _ (show 2 < 32 by decide)]
      rfl
    · have := none_ w hw
      rw [usable w hw, yes] at this
      cases this
  | none =>
    have never := List.find?_range_eq_none.mp found
    have eq : s.reselect d = s.setFld (pselR d) F.wpPsel.UNREACH 1 := by rw [State.reselect, if_neg other, found]
    refine ⟨fun v hv yes' _ => ?_, fun _ => ?_⟩
    · have := never v hv
      rw [usable v hv] at yes'
      simp [yes'] at this
    · rw [eq, State.flag, State.fld_setFld_same _ _ _ _ (show 2 < 32 by decide)]
      rfl

/-- After the first `n` destinations. -/
theorem State.foldl_reselect {s : State} (idle : s.weft.out = []) {n : Nat} (hn : n ≤ 4096) :
    s.selOnly ((List.range n).foldl State.reselect s) ∧ ∀ d < n, d ≠ s.myId → ((List.range n).foldl State.reselect s).selects d := by
  induction n with
  | zero => exact ⟨s.selOnly_refl, nofun⟩
  | succ n ih =>
    obtain ⟨only, selects⟩ := ih (Nat.le_of_succ_le hn)
    rw [List.range_succ, List.foldl_append, List.foldl_cons, List.foldl_nil]
    generalize (List.range n).foldl State.reselect s = t at *
    have still : t.weft.out = [] := by rw [only.1]; exact idle
    have step := State.reselect_only still hn
    refine ⟨State.selOnly_trans only step.1, fun d hd other => ?_⟩
    rcases Nat.lt_succ_iff_lt_or_eq.mp hd with less | rfl
    · exact State.selects_of_selOnly (by omega) step.1 (step.2 d (by omega)) (selects d less other)
    · exact State.reselect_selects still hn (by rwa [State.myId_of_sameLinks (State.sameLinks_of_selOnly only)])

/-- The modules within reach, the own one among them. -/
def State.reach (s : State) : Nat := ((List.range 4096).filter fun d => d ≠ s.myId && !s.flag (pselR d) F.wpPsel.UNREACH).length + 1

/-- A repair is counted, and the modules within reach are. -/
def State.countRepair (s : State) (reach : Nat) : State :=
  (s.setFld { kind := .wpFstat } F.wpFstat.REACH reach).addFld { kind := .wpFstat } F.wpFstat.REPAIRS 1

/-- The requests on a word that is not usable. -/
def State.staleOut (s : State) : List Nat :=
  s.weft.out.filterMap fun e => match e.2 with
    | some x => if x.cells.any fun c => cf c cROUTE ≠ 0 && !s.wordUsable (cf c cROUTE) then some e.1 else none
    | none => none

/-- The requests on a word that is not usable end (R265). -/
def State.endStale (s : State) : State := s.staleOut.foldl (fun s k => s.outError k 0x06) s

theorem State.repair_eq (s : State) : s.repair =
    (((List.range 4096).foldl State.reselect s).countRepair ((List.range 4096).foldl State.reselect s).reach).endStale := by
  unfold State.repair State.reach
  generalize List.range 4096 = l
  rfl

theorem State.endStale_idle {s : State} (idle : s.weft.out = []) : s.endStale = s := by
  rw [State.endStale, State.staleOut, idle, List.filterMap_nil, List.foldl_nil]

theorem State.selOnly_countRepair (s : State) (n : Nat) : s.selOnly (s.countRepair n) :=
  State.selOnly_trans (s.selOnly_wr_wpFstat _) (State.selOnly_wr_wpFstat _ _)

theorem State.rd_countRepair (s : State) (n : Nat) {d : Nat} (hd : d < 4096) : (s.countRepair n).rd (pselR d) = s.rd (pselR d) := by
  have apart : (pselR d).addr ≠ Reg.addr { kind := .wpFstat } :=
    Reg.addr_ne (pselR_ok hd) (by decide) (show RegKind.apart .wpPsel .wpFstat = true by decide)
  rw [State.countRepair, State.addFld, State.rd_setFld_other _ _ _ _ _ apart, State.rd_setFld_other _ _ _ _ _ apart]

/-- Once every destination is selected again. -/
theorem State.repaired {s t : State} (idle : s.weft.out = []) (only : s.selOnly t) (selects : ∀ d < 4096, d ≠ s.myId → t.selects d) (n : Nat) :
    s.selOnly (t.countRepair n).endStale ∧ Spec.routesRepaired (t.countRepair n).endStale := by
  have counted := t.selOnly_countRepair n
  have all := State.selOnly_trans only counted
  have still : (t.countRepair n).weft.out = [] := by rw [all.1]; exact idle
  rw [State.endStale_idle still]
  refine ⟨all, fun d other => ?_⟩
  rw [State.myId_of_sameLinks (State.sameLinks_of_selOnly all)] at other
  obtain ⟨chosen, none_⟩ := State.selects_of_selOnly d.isLt counted (t.rd_countRepair _ d.isLt) (selects d d.isLt other)
  exact ⟨fun w yes lower => chosen w w.isLt yes fun v hv => lower ⟨v, hv.trans w.isLt⟩ hv, fun never => none_ fun w hw => never ⟨w, hw⟩⟩

/-- With no request open a repair changes the selections, as R265 asks, and the count of repairs. -/
theorem State.repair_laws {s : State} (idle : s.weft.out = []) : s.selOnly s.repair ∧ Spec.routesRepaired s.repair := by
  obtain ⟨only, selects⟩ := State.foldl_reselect idle (Nat.le_refl 4096)
  rw [s.repair_eq]
  exact State.repaired idle only selects _

end Sys2Proof.Machine
end

section
/-! Link state (R264, R265): the module's own LINKST, and those of others. -/

namespace Sys2Proof.Machine

/-! ### The header of a LOCAL cell (Table WFT-5) -/

theorem cf_setCf_same (c : Cell) {f : Fld} (v : Nat) (h : f.hi < 128) : cf (setCf c f v) f = v % 2 ^ (f.hi + 1 - f.lo) := by
  rw [cf, setCf, BitVec.toNat_ofNat, Fld.get_mod _ _ _ h, Fld.get_set_same]

theorem cf_setCf_other (c : Cell) {f g : Fld} (v : Nat) (h : f.hi < 128) (apart : f.hi < g.lo ∨ g.hi < f.lo) :
    cf (setCf c g v) f = cf c f := by
  rw [cf, setCf, BitVec.toNat_ofNat, Fld.get_mod _ _ _ h, Fld.get_set_other _ _ _ _ apart]
  rfl

theorem cellClass_lt (typ : Nat) : (cellClass typ).getD 0 < 8 := by
  unfold cellClass
  split <;> decide

theorem cTYPE_mkCell {typ : Nat} (h : typ < 256) (dst srch tag arg : Nat) (last poison : Bool) {route : Nat} (hr : route < 2 ^ 32)
    (l : List Byte) : cf (mkCell typ dst srch tag arg last poison route l) cTYPE = typ := by
  have cls := cellClass_lt typ
  have bit : ∀ b : Bool, b2n b ≤ 1 := fun b => by cases b <;> decide
  have hl := bit last
  have hp := bit poison
  unfold cf mkCell
  rw [BitVec.toNat_ofNat, Fld.get_mod _ _ _ (by decide), Fld.get]
  simp only [cTYPE]
  rw [bits_eq]
  generalize (cellClass typ).getD 0 = k at *
  omega

theorem mkLocal_header {typ : Nat} (h : typ < 256) (me srch tag arg : Nat) (l : List Byte) :
    cf (mkLocal typ me srch tag arg l) cTYPE = typ ∧ cf (mkLocal typ me srch tag arg l) cLOCAL = 1 := by
  rw [mkLocal, cf_setCf_other _ _ (by decide) (by decide), cf_setCf_same _ _ (by decide)]
  exact ⟨cTYPE_mkCell h _ _ _ _ _ _ (by decide) _, rfl⟩

/-! ### The module's own link state -/

/-- The LINKST that the module originates (Table WFT-10). -/
def State.linkstCell (s : State) : Cell :=
  mkLocal 0x41 s.myId (s.handle 0) 0 0
    (leBytes 2 s.myId ++ leBytes 2 0 ++ leBytes 4 (s.stitch % 2 ^ 32) ++ leBytes 1 (s.upPorts.map fun p => 2 ^ p).sum ++ leBytes 1 0 ++
      ((List.range 8).map fun p => if s.portUp p then s.fld (pstatR p) F.wpPstat.PEER else 0).flatMap (leBytes 2))

theorem State.linkstCell_fields (s : State) : cf s.linkstCell cTYPE = 0x41 ∧ cf s.linkstCell cLOCAL = 1 ∧ cd s.linkstCell 0 2 = s.myId ∧
    cd s.linkstCell 4 4 = s.stitch % 2 ^ 32 := by
  have id : s.myId < 2 ^ 12 := s.fld_lt _ _
  have peers : ∀ l : List Nat, (l.flatMap (leBytes 2)).length = 2 * l.length := fun l => by
    induction l with
    | nil => rfl
    | cons n l ih => rw [List.flatMap_cons, List.length_append, leBytes_length, ih, List.length_cons]; omega
  obtain ⟨typ, local_⟩ := mkLocal_header (typ := 0x41) (by decide) s.myId (s.handle 0) 0 0 _
  refine ⟨typ, local_, ?_, ?_⟩
  all_goals
    rw [State.linkstCell, cd_mkLocal _ _ _ _ _ (by simp [leBytes_length, peers]) (by simp [leBytes_length, peers])]
    simp (disch := simp [leBytes_length]) only [field_append_left, field_append_last, field_leBytes, Nat.reduceMul, Nat.reducePow]
  · omega
  · omega

theorem State.originate_eq (s : State) : s.originate =
    { s with weft := { s.weft with sinceOrig := 0, own := s.weft.own ++ Spec.floods s s.linkstCell none } } :=
  State.flood_eq { s with weft := { s.weft with sinceOrig := 0 } } s.linkstCell none

/-- With no request open, a change of the UP ports is flooded and the routes are repaired (R264, R265). -/
theorem State.linkChange_laws {s : State} (idle : s.weft.out = []) : let t := s.linkChange
    (∃ o, t = { s with
      regs := t.regs, weft := { s.weft with sinceOrig := 0, own := s.weft.own ++ Spec.floods s s.linkstCell none, oldSel := o } }) ∧
    (∀ r : Reg, r.ok = true → r.kind ≠ .wpPsel → r.kind ≠ .wpFstat → t.rd r = s.rd r) ∧ Spec.routesRepaired t := by
  have same : s.originate.weft.out = [] := by rw [s.originate_eq]; exact idle
  obtain ⟨⟨eq, regs⟩, repaired⟩ := State.repair_laws same
  rw [State.linkChange]
  generalize s.originate.repair = t at *
  rw [s.originate_eq] at eq regs
  exact ⟨⟨t.weft.oldSel, eq⟩, regs, repaired⟩

/-! ### The link states of others -/

/-- What a LINKST reports. -/
def linkRec (c : Cell) : LinkRec :=
  { seq := cd c 4 4, up := cd c 8 1, peers := (List.range 8).map fun i => cd c (10 + 2 * i) 2 % 4096, age := 0 }

/-- A link state recorded and flooded on. -/
def State.recordLinkst (s : State) (p : Port) (c : Cell) : State :=
  (s.setWeft fun x => { x with links' := SMap.insert x.links' (cd c 0 2 % 4096) (linkRec c) }).flood c (some p.val)

theorem State.recordLinkst_eq (s : State) (p : Port) (c : Cell) : s.recordLinkst p c = { s with weft := { s.weft with
    links' := SMap.insert s.weft.links' (cd c 0 2 % 4096) (linkRec c), own := s.weft.own ++ Spec.floods s c (some p.val) } } :=
  State.flood_eq (s.setWeft fun x => { x with links' := SMap.insert x.links' (cd c 0 2 % 4096) (linkRec c) }) c (some p.val)

/-- A SEQ is later than the one recorded. -/
def seqLater (seq : Nat) : Option LinkRec → Bool
  | some r => decide (0 < (seq + 2 ^ 32 - r.seq) % 2 ^ 32) && decide ((seq + 2 ^ 32 - r.seq) % 2 ^ 32 < 2 ^ 31)
  | none => true

/-- What an origin reports is what it reported before. -/
def sameReport (c : Cell) : Option LinkRec → Bool
  | some o => o.up == (linkRec c).up && o.peers == (linkRec c).peers
  | none => false

theorem linkst_eq (p : Port) (c : Cell) (s : State) : exec (.linkst p c) s =
    if !s.portUp p || cd c 0 2 % 4096 == s.myId || !seqLater (cd c 4 4) (SMap.find s.weft.links' (cd c 0 2 % 4096)) then .next s
    else .next (if sameReport c (SMap.find s.weft.links' (cd c 0 2 % 4096)) then s.recordLinkst p c else (s.recordLinkst p c).repair) := rfl

theorem linkst_later {s : State} {p : Port} {c : Cell} (up : s.portUp p = true) (other : cd c 0 2 % 4096 ≠ s.myId)
    (later : seqLater (cd c 4 4) (SMap.find s.weft.links' (cd c 0 2 % 4096)) = true) : exec (.linkst p c) s =
    .next (if sameReport c (SMap.find s.weft.links' (cd c 0 2 % 4096)) then s.recordLinkst p c else (s.recordLinkst p c).repair) := by
  rw [linkst_eq, if_neg (by simp [up, other, later])]

theorem linkst_old {s : State} {p : Port} {c : Cell} (old : seqLater (cd c 4 4) (SMap.find s.weft.links' (cd c 0 2 % 4096)) = false) :
    exec (.linkst p c) s = .next s := by
  rw [linkst_eq, if_pos (by simp [old])]

/-- A link state recorded and flooded on, and the routes repaired. -/
theorem State.repair_recordLinkst {s : State} (idle : s.weft.out = []) (p : Port) (c : Cell) : let t := (s.recordLinkst p c).repair
    SMap.find t.weft.links' (cd c 0 2 % 4096) = some (linkRec c) ∧ t.weft.own = s.weft.own ++ Spec.floods s c (some p.val) ∧
    Spec.routesRepaired t := by
  have still : (s.recordLinkst p c).weft.out = [] := by rw [s.recordLinkst_eq]; exact idle
  obtain ⟨⟨eq, _⟩, repaired⟩ := State.repair_laws still
  generalize (s.recordLinkst p c).repair = t at *
  refine ⟨?_, ?_, repaired⟩
  · rw [eq, s.recordLinkst_eq]; exact SMap.find_insert_same _ _ _
  · rw [eq, s.recordLinkst_eq]

theorem linkStates : Spec.LinkStates := fun s idle => by
  obtain ⟨out, _⟩ := idle
  refine ⟨fun p c up other => ⟨fun new => ?_, fun r known same => ?_, fun r known next fits => ?_⟩, fun due => ?_, fun early => if_neg (by omega),
    fun m r known => ⟨fun silent => ?_, fun heard => ?_⟩⟩
  · obtain ⟨record, own, repaired⟩ := State.repair_recordLinkst out p c
    refine ⟨_, (linkst_later up other (by rw [new]; rfl)).trans ?_, record, own, repaired⟩
    rw [new, sameReport, if_neg Bool.false_ne_true]
  · exact linkst_old (by rw [known, same, seqLater, Nat.add_sub_cancel_left]; rfl)
  · have later : seqLater (cd c 4 4) (SMap.find s.weft.links' (cd c 0 2 % 4096)) = true := by
      rw [known, next, seqLater, Bool.and_eq_true, decide_eq_true_eq, decide_eq_true_eq]
      omega
    have run := linkst_later up other later
    rw [known] at run
    cases reports : sameReport c (some r)
    · obtain ⟨record, own, repaired⟩ := State.repair_recordLinkst out p c
      rw [reports, if_neg Bool.false_ne_true] at run
      exact ⟨_, run, record, own, fun _ => repaired⟩
    · rw [reports, if_pos rfl] at run
      have equal : r.up = (linkRec c).up ∧ r.peers = (linkRec c).peers := by
        simpa [sameReport] using reports
      refine ⟨_, run, ?_, ?_, fun changed => ?_⟩
      · rw [s.recordLinkst_eq]; exact SMap.find_insert_same _ _ _
      · rw [s.recordLinkst_eq]
      · exact (changed.elim (· equal.1) (· equal.2)).elim
  · obtain ⟨typ, local_, origin, seq⟩ := s.linkstCell_fields
    refine ⟨s.originate, s.linkstCell, if_pos due, ?_, ?_, typ, local_, origin, seq⟩
    · rw [s.originate_eq]
    · rw [s.originate_eq]
  · have run : exec (.linkstOriginAbsent m) s = .next (s.setWeft fun x => { x with links' := SMap.remove x.links' m }).repair := by
      change execLinkstOriginAbsent m s = _
      rw [execLinkstOriginAbsent, known]
      exact if_pos silent
    have still : (s.setWeft fun x => { x with links' := SMap.remove x.links' m }).weft.out = [] := out
    obtain ⟨⟨eq, _⟩, repaired⟩ := State.repair_laws still
    refine ⟨_, run, ?_, repaired⟩
    generalize (s.setWeft fun x => { x with links' := SMap.remove x.links' m }).repair = t at *
    rw [eq]
    exact SMap.find_remove_same _ _
  · change execLinkstOriginAbsent m s = _
    rw [execLinkstOriginAbsent, known]
    exact if_neg (by omega)

end Sys2Proof.Machine
end

section
/-! The ports' links: their records, the frames they send, and their registers (R235, R240, R241). -/

namespace Sys2Proof.Machine

/-! ### A port's link record -/

@[simp] theorem State.link_setLink_same (s : State) (p : Nat) (x : LinkSt) : (s.setLink p x).link p = x := SMap.get_put_same _ _ _ _

@[simp] theorem State.rd_setLink (s : State) (p : Nat) (x : LinkSt) (r : Reg) : (s.setLink p x).rd r = s.rd r := rfl
@[simp] theorem State.fld_setLink (s : State) (p : Nat) (x : LinkSt) (r : Reg) (f : Fld) : (s.setLink p x).fld r f = s.fld r f := rfl
@[simp] theorem State.inUse_setLink (s : State) (p : Nat) (x : LinkSt) : (s.setLink p x).weft.inUse = s.weft.inUse := rfl
@[simp] theorem State.out_setLink (s : State) (p : Nat) (x : LinkSt) : (s.setLink p x).weft.out = s.weft.out := rfl
@[simp] theorem State.weft_addFld (s : State) (r : Reg) (f : Fld) (n : Nat) : (s.addFld r f n).weft = s.weft := rfl
@[simp] theorem State.sent_setLink (s : State) (p : Nat) (x : LinkSt) : (s.setLink p x).sent = s.sent := rfl
@[simp] theorem State.sent_setFld (s : State) (r : Reg) (f : Fld) (v : Nat) : (s.setFld r f v).sent = s.sent := rfl
@[simp] theorem State.linkState_sendLocal (s : State) (p q : Nat) (c : Cell) : (s.sendLocal p c).linkState q = s.linkState q := rfl
@[simp] theorem State.link_sendLocal (s : State) (p q : Nat) (c : Cell) : (s.sendLocal p c).link q = s.link q := rfl
@[simp] theorem State.sent_sendLocal (s : State) (p : Nat) (c : Cell) : (s.sendLocal p c).sent = s.sent := rfl
@[simp] theorem State.link_setFld (s : State) (r : Reg) (f : Fld) (v p : Nat) : (s.setFld r f v).link p = s.link p := rfl
@[simp] theorem State.link_addFld (s : State) (r : Reg) (f : Fld) (v p : Nat) : (s.addFld r f v).link p = s.link p := rfl

theorem State.link_of_links {s t : State} (h : t.weft.links = s.weft.links) (p : Nat) : t.link p = s.link p := by
  rw [State.link, State.link, h]

/-! ### The ports' registers -/

theorem pstatR_addr_ne_pctlR (p q : Nat) : (pstatR p).addr ≠ (pctlR q).addr := by
  simp only [pstatR, pctlR, Reg.addr, RegKind.place]
  omega

theorem lcntR_ok {p : Nat} (hp : p < 8) : (lcntR p).ok = true := Bool.and_eq_true_iff.mpr ⟨decide_eq_true hp, rfl⟩

/-- A count in a field, saturating at its greatest value. -/
theorem State.fld_addFld_same (s : State) (r : Reg) (f : Fld) (n : Nat) (h : f.hi < r.width) :
    (s.addFld r f n).fld r f = min (2 ^ (f.hi + 1 - f.lo) - 1) (s.fld r f + n) := by
  rw [State.addFld, State.fld_setFld_same _ _ _ _ h, satAdd, Fld.top]
  have := Nat.two_pow_pos (f.hi + 1 - f.lo)
  exact Nat.mod_eq_of_lt (by omega)

/-! ### Frames sent (R240, R241) -/

/-- From `s` to `t` a port has sent, and its link record is `x`. -/
def State.framesOut (s t : State) (p : Nat) (x : LinkSt) (l : List Out) : Prop :=
  t = { s with sent := s.sent ++ l, weft := { s.weft with links := t.weft.links } } ∧ t.link p = x

theorem State.framesOut_trans {s t u : State} {p : Nat} {x y : LinkSt} {l m : List Out} (h : s.framesOut t p x l) (h' : t.framesOut u p y m) :
    s.framesOut u p y (l ++ m) := by
  obtain ⟨eq, _⟩ := h
  obtain ⟨eq', link⟩ := h'
  refine ⟨?_, link⟩
  rw [eq', eq, List.append_assoc]

/-- The frame that carries a cell with a SEQ. -/
def LinkSt.frame (x : LinkSt) (seq : Nat) (c : Cell) : WFrame :=
  { hdr := linkHdr x.nak x.giveBack.2.1 x.giveBack.1 x.rcvSeq seq, cell := c
    crc := frameCrc (linkHdr x.nak x.giveBack.2.1 x.giveBack.1 x.rcvSeq seq) c, fecOk := true }

/-- The link record after a frame: the credits are returned, and NAK is sent. -/
def LinkSt.framed (x : LinkSt) : LinkSt := { x.giveBack.2.2 with nak := false }

theorem State.framesOut_frameOut (s : State) (p seq : Nat) (c : Cell) :
    s.framesOut (s.frameOut p seq c) p (s.link p).framed [.frame p ((s.link p).frame seq c)] := by
  have emit : s.frameOut p seq c = (s.setLink p (s.link p).framed).emit (.frame p ((s.link p).frame seq c)) := rfl
  have unmuted : (s.setLink p (s.link p).framed).emit (.frame p ((s.link p).frame seq c)) =
      { s.setLink p (s.link p).framed with sent := s.sent ++ [.frame p ((s.link p).frame seq c)] } := if_neg Bool.false_ne_true
  rw [emit, unmuted]
  exact ⟨rfl, s.link_setLink_same p _⟩

theorem linkHdr_fields {nak : Bool} {ccnt cvc ack seq : Nat} (hc : ccnt < 8) (hv : cvc < 16) (ha : ack < 4096) (hs : seq < 4096) :
    let h := (linkHdr nak ccnt cvc ack seq).toNat
    bits h 11 0 = seq ∧ bits h 23 12 = ack ∧ bits h 31 28 = cvc ∧ bits h 34 32 = ccnt ∧ bit h 35 = nak := by
  have hn : b2n nak ≤ 1 := by cases nak <;> decide
  have small : b2n nak * 2 ^ 35 + ccnt * 2 ^ 32 + cvc * 2 ^ 28 + ack * 2 ^ 12 + seq < 2 ^ 56 := by omega
  rw [linkHdr, toNat_ofNat_of_lt small]
  simp only [bits_eq]
  refine ⟨by omega, by omega, by omega, by omega, ?_⟩
  rw [bit, Nat.testBit_eq_decide_div_mod_eq]
  cases nak
  · exact decide_eq_false (by rw [b2n, if_neg Bool.false_ne_true]; omega)
  · exact decide_eq_true (by rw [b2n, if_pos rfl]; omega)

/-- The channel of a credit returned, and its count. -/
theorem LinkSt.giveBack_lt {x : LinkSt} (h : ∀ e ∈ x.owed, e.1 < 16) : x.giveBack.1 < 16 ∧ x.giveBack.2.1 < 8 := by
  unfold LinkSt.giveBack
  split
  · exact ⟨Nat.zero_lt_succ _, Nat.zero_lt_succ _⟩
  · next vc n rest owed => exact ⟨h (vc, n) (owed ▸ List.mem_cons_self), by dsimp only; omega⟩

theorem LinkSt.framed_frame {x : LinkSt} (owed : ∀ e ∈ x.owed, e.1 < 16) (rcv : x.rcvSeq < 4096) {seq : Nat} (hs : seq < 4096) (p : Port) (c : Cell) :
    Spec.framed (.frame p (x.frame seq c)) p c seq x.rcvSeq x.nak := by
  obtain ⟨hv, hc⟩ := LinkSt.giveBack_lt owed
  obtain ⟨hseq, hack, _, _, hnak⟩ := linkHdr_fields (nak := x.nak) hc hv rcv hs
  exact ⟨_, rfl, rfl, hseq, hack, hnak, rfl⟩

end Sys2Proof.Machine
end

section
/-! Bring-up of the Weft links (R235, R240, R241, Table WFT-4). -/

namespace Sys2Proof.Machine

/-! ### A write of WP.PCTL (R235) -/

/-- A register that the physical map names at an address where one begins is that one. -/
theorem State.reg_of_target {s : State} {a : Nat} {q r : Reg} (h : s.target a = .reg r) (begins : Reg.ofAddr a = some q) : r = q := by
  unfold State.target at h
  rw [begins] at h
  repeat' split at h
  all_goals cases h
  all_goals simp_all

/-- A write by Thimble where no register lies is discarded. -/
theorem execRegisterWrite_of_no_reg {s : State} {a : BitVec 52} (target : ∀ r, s.target a.toNat ≠ .reg r) (v : Word) :
    execRegisterWrite .thimble a v s = .next s := by
  have unfolded : @execRegisterWrite = @execRegisterWrite := rfl
  conv at unfolded => rhs; delta execRegisterWrite
  rw [unfolded]
  obtain ⟨map, hmap⟩ : ∃ map, map = State.target := ⟨_, rfl⟩
  rw [← hmap] at target ⊢
  dsimp only
  split
  · next r found => exact absurd found (target r)
  · rfl

theorem pctl_address : ∀ p : Port, (0x7F0030000000 + 0x10000 * p.val : BitVec 52).toNat = (pctlR p).addr := by decide
theorem pctl_ofAddr : ∀ p : Port, Reg.ofAddr (pctlR p).addr = some (pctlR p) := by decide

/-- A port that is UP goes on with the settings it was brought up with. -/
theorem State.inUse_keepInUse {s : State} {p : Nat} (up : s.portUp p = true) :
    SMap.find (s.keepInUse p).weft.inUse p = some ((SMap.find s.weft.inUse p).getD (s.rd (pctlR p))) := by
  unfold State.keepInUse
  rw [up, Bool.true_and]
  cases inUse : SMap.find s.weft.inUse p with
  | none => exact SMap.find_insert_same _ _ _
  | some w => exact inUse

theorem State.pctlFld_of_inUse {s : State} {p w : Nat} (h : SMap.find s.weft.inUse p = some w) (f : Fld) : s.pctlFld p f = f.get w := by
  rw [State.pctlFld, h, Option.getD_some]

theorem State.regStore_pctlR (s : State) (p v ones : Nat) :
    s.regStore .thimble (pctlR p) v ones = (s.keepInUse p).regPut .thimble (pctlR p) v ones := by
  unfold State.regStore
  rfl

theorem State.weft_regPut (s : State) (o : Owner) (r : Reg) (v ones : Nat) : (s.regPut o r v ones).weft = s.weft := by
  rw [State.regPut_eq_wr]
  rfl

theorem pctl_kept {s : State} {p : Port} (up : s.portUp p = true) (v : Word) : ∃ u,
    exec (.registerWrite .thimble (0x7F0030000000 + 0x10000 * p.val) v) s = .next u ∧ ∀ f, u.pctlFld p f = s.pctlFld p f := by
  by_cases lies : ∃ r, s.target (0x7F0030000000 + 0x10000 * p.val : BitVec 52).toNat = .reg r
  · obtain ⟨r, target⟩ := lies
    obtain rfl : r = pctlR p := State.reg_of_target target (by rw [pctl_address]; exact pctl_ofAddr p)
    refine ⟨_, (execRegisterWrite_of_target target v).1, fun f => ?_⟩
    refine State.pctlFld_of_inUse ?_ f
    rw [State.regStore_pctlR, State.weft_regPut]
    exact State.inUse_keepInUse up
  · exact ⟨s, execRegisterWrite_of_no_reg (fun r h => lies ⟨r, h⟩) v, fun _ => rfl⟩

/-! ### A start of bring-up (R235, R241) -/

/-- With no request open, a change of the UP ports leaves the ports, their settings and their links. -/
theorem State.linkChange_keeps {s : State} (idle : s.weft.out = []) :
    s.sameLinks s.linkChange ∧ s.linkChange.weft.links = s.weft.links ∧ s.linkChange.weft.out = [] ∧ Spec.routesRepaired s.linkChange := by
  obtain ⟨⟨o, eq⟩, regs, repaired⟩ := State.linkChange_laws idle
  generalize s.linkChange = t at *
  refine ⟨⟨by rw [eq], by rw [eq], regs _ (by decide) nofun nofun, fun p hp => ⟨?_, ?_⟩⟩, by rw [eq], by rw [eq]; exact idle, repaired⟩
  · exact regs _ (pctlR_ok hp) nofun nofun
  · exact regs _ (pstatR_ok hp) nofun nofun

/-- A Weft port at step 1 of bring-up. -/
def State.training (s : State) (p : Nat) : State :=
  (((s.takePctl p).setFld (pstatR p) F.wpPstat.STATE lsTraining).setFld (pctlR p) F.wpPctl.RETRAIN 0).setLink p LinkSt.init

theorem State.pctlFld_of_none {s : State} {p : Nat} (h : SMap.find s.weft.inUse p = none) (f : Fld) : s.pctlFld p f = s.fld (pctlR p) f := by
  rw [State.pctlFld, h, Option.getD_none, State.fld]

theorem State.inUse_takePctl (s : State) (p : Nat) : SMap.find (s.takePctl p).weft.inUse p = none := SMap.find_remove_same _ _

theorem State.rd_takePctl (s : State) (p : Nat) (r : Reg) : (s.takePctl p).rd r = s.rd r := rfl

theorem State.startLink_eq {s : State} {p : Nat} (inService : s.unitOut 4 p = false) (role : s.fld (pctlR p) F.wpPctl.ROLE = 1) :
    s.startLink p = if s.portUp p then (s.training p).linkChange else s.training p := by
  have weft : (s.takePctl p).isWeft p = true := by
    rw [State.isWeft, State.portRole, State.pctlFld_of_none (s.inUse_takePctl p), State.fld_of_rd (s.rd_takePctl p _), role]
    rfl
  unfold State.startLink
  rw [if_neg (by rw [inService]; exact Bool.false_ne_true)]
  dsimp only
  rw [if_neg (by rw [weft]; decide)]
  rfl

/-- What a start of bring-up leaves: step 1, the settings of WP.PCTL, and an empty link. -/
theorem State.training_laws (s : State) (p : Nat) : let t := s.training p
    t.linkState p = lsTraining ∧ t.link p = LinkSt.init ∧ t.fld (pctlR p) F.wpPctl.RETRAIN = 0 ∧ t.weft.out = s.weft.out ∧
    ∀ f : Fld, f.hi < 32 → F.wpPctl.RETRAIN.hi < f.lo → t.pctlFld p f = s.fld (pctlR p) f := by
  unfold State.training
  have none_ : SMap.find (s.takePctl p).weft.inUse p = none := s.inUse_takePctl p
  have rd : ∀ f, (s.takePctl p).fld (pctlR p) f = s.fld (pctlR p) f := State.fld_of_rd (s.rd_takePctl p _)
  have out : (s.takePctl p).weft.out = s.weft.out := rfl
  generalize s.takePctl p = t at *
  dsimp only
  rw [State.linkState, State.fld_setLink, State.fld_setLink, State.out_setLink, State.link_setLink_same, State.weft_setFld, State.weft_setFld,
    State.fld_setFld_other _ _ _ _ _ _ (pstatR_addr_ne_pctlR p p), State.fld_setFld_same _ _ _ _ (show 31 < 32 by decide),
    State.fld_setFld_same _ _ _ _ (show 25 < 32 by decide)]
  refine ⟨rfl, rfl, rfl, out, fun f hi lo => ?_⟩
  rw [State.pctlFld_of_none (by rw [State.inUse_setLink, State.weft_setFld, State.weft_setFld]; exact none_), State.fld_setLink,
    State.fld_setFld_field _ _ _ _ _ hi (.inr lo), State.fld_setFld_other _ _ _ _ _ _ (pstatR_addr_ne_pctlR p p).symm, rd]

theorem startLink_laws {s : State} {p : Port} (idle : s.weft.out = []) (inService : s.unitOut 4 p = false)
    (role : s.fld (pctlR p) F.wpPctl.ROLE = 1) : let u := s.startLink p
    u.linkState p = lsTraining ∧ u.portDim p = s.fld (pctlR p) F.wpPctl.DIM ∧ u.portDir p = s.fld (pctlR p) F.wpPctl.DIR ∧
    u.flag (pctlR p) F.wpPctl.RETRAIN = false ∧ (u.link p).replay = [] := by
  obtain ⟨state, link, retrain, out, settings⟩ := s.training_laws p
  obtain ⟨keeps, links, _⟩ := State.linkChange_keeps (out.trans idle)
  have dim := settings F.wpPctl.DIM (by decide) (by decide)
  have dir := settings F.wpPctl.DIR (by decide) (by decide)
  rw [State.startLink_eq inService role]
  dsimp only
  generalize s.training p = t at *
  split
  · generalize t.linkChange = u at *
    rw [State.linkState_of_sameLinks keeps p.isLt, State.portDim, State.portDir, State.pctlFld_of_sameLinks keeps p.isLt,
      State.pctlFld_of_sameLinks keeps p.isLt, State.flag, State.fld_of_rd (keeps.2.2.2 p p.isLt).1, State.link_of_links links, retrain, link]
    exact ⟨state, dim, dir, rfl, rfl⟩
  · rw [State.portDim, State.portDir, State.flag, retrain, link]
    exact ⟨state, dim, dir, rfl, rfl⟩

/-! ### A failure (R240) -/

/-- A port leaves bring-up or use: the failure is counted. -/
def State.fallen (s : State) (p dest : Nat) (x : LinkSt) : State :=
  ((s.addFld (pstatR p) F.wpPstat.FAILS 1).setFld (pstatR p) F.wpPstat.STATE dest).setLink p x

theorem State.fallen_laws (s : State) (p : Nat) {dest : Nat} (hd : dest < 16) (x : LinkSt) :
    (s.fallen p dest x).linkState p = dest ∧ (s.fallen p dest x).link p = x ∧ (s.fallen p dest x).weft.out = s.weft.out ∧
    (s.fallen p dest x).fld (pstatR p) F.wpPstat.FAILS = min 255 (s.fld (pstatR p) F.wpPstat.FAILS + 1) := by
  unfold State.fallen
  rw [State.linkState, State.fld_setLink, State.fld_setLink, State.out_setLink, State.link_setLink_same, State.weft_setFld, State.weft_addFld,
    State.fld_setFld_same _ _ _ _ (show 31 < 32 by decide), State.fld_setFld_field _ _ _ _ _ (show 7 < 32 by decide) (.inl (by decide)),
    State.fld_addFld_same _ _ _ _ (show 7 < 32 by decide)]
  exact ⟨Nat.mod_eq_of_lt hd, rfl, rfl, rfl⟩

/-- The record of a link in use that fails. -/
def linkLost (p : Nat) : ErrEvt := { unitId := unitId 4 p, cls := 0, code := 0x30, action := 0 }

theorem State.linkFails_up {s : State} {p : Nat} (up : s.linkState p = lsUp) :
    s.linkFails p = ((s.fallen p lsFailed { LinkSt.init with bufs := (s.link p).bufs }).logErr (linkLost p)).linkChange := by
  unfold State.linkFails
  dsimp only
  rw [if_pos up, State.link_setFld, State.link_addFld]
  rfl

theorem State.linkFails_training {s : State} {p : Nat} (down : s.linkState p ≠ lsUp) : s.linkFails p = s.fallen p lsDown LinkSt.init := by
  unfold State.linkFails
  dsimp only
  rw [if_neg down]
  rfl

/-- A link in use fails (R240). -/
theorem linkFails_laws {s : State} {p : Port} (idle : s.weft.out = []) (up : s.linkState p = lsUp) : let u := s.linkFails p
    u.linkState p = lsFailed ∧ (u.link p).replay = [] ∧ u.fld (pstatR p) F.wpPstat.FAILS = min 255 (s.fld (pstatR p) F.wpPstat.FAILS + 1) ∧
    Spec.routesRepaired u := by
  rw [State.linkFails_up up]
  obtain ⟨state, link, out, fails⟩ := s.fallen_laws p (dest := lsFailed) (by decide) { LinkSt.init with bufs := (s.link p).bufs }
  generalize s.fallen p lsFailed { LinkSt.init with bufs := (s.link p).bufs } = t at *
  obtain ⟨frame, regs, _⟩ := (t.logErr_corrected (e := linkLost p) rfl).1
  generalize t.logErr (linkLost p) = v at *
  have pstat := regs (pstatR p) (Reg.clearOfErrors_of_kind (pstatR_ok p.isLt) nofun nofun nofun)
  have weft : v.weft = t.weft := by rw [frame]
  obtain ⟨keeps, links, _, repaired⟩ := State.linkChange_keeps (s := v) (by rw [weft, out, idle])
  dsimp only
  generalize v.linkChange = u at *
  have same : u.rd (pstatR p) = t.rd (pstatR p) := (keeps.2.2.2 p p.isLt).2.trans pstat
  refine ⟨(State.fld_of_rd same _).trans state, ?_, (State.fld_of_rd same _).trans fails, repaired⟩
  rw [State.link_of_links links, State.link_of_links (congrArg WeftSt.links weft), link]
  rfl

end Sys2Proof.Machine
end

section
/-! Lock of a training port (R241, Table WFT-4 step 3), and the statement of bring-up. -/

namespace Sys2Proof.Machine

/-! ### A run of NULL frames -/

/-- The header of the next NULL frame. -/
def LinkSt.nullHdr (x : LinkSt) : BitVec 56 := linkHdr x.nak x.giveBack.2.1 x.giveBack.1 x.rcvSeq x.sndSeq

/-- The headers of `n` NULL frames. -/
def LinkSt.nullHdrs : Nat → LinkSt → List (BitVec 56)
  | 0, _ => []
  | n + 1, x => x.nullHdr :: LinkSt.nullHdrs n x.framed

/-- The link record after `n` NULL frames. -/
def LinkSt.afterNulls : Nat → LinkSt → LinkSt
  | 0, x => x
  | n + 1, x => LinkSt.afterNulls n x.framed

/-- A NULL frame with a header. -/
def nullFrame (h : BitVec 56) : WFrame := { hdr := h, cell := nullCell, crc := frameCrc h nullCell, fecOk := true }

theorem State.framesOut_sendNulls (s : State) (p : Nat) (l : List Nat) :
    s.framesOut (l.foldl (fun s _ => s.sendNull p) s) p (LinkSt.afterNulls l.length (s.link p))
      ((LinkSt.nullHdrs l.length (s.link p)).map fun h => .frame p (nullFrame h)) := by
  induction l generalizing s with
  | nil => exact ⟨by rw [List.length_nil, LinkSt.nullHdrs, List.map_nil, List.append_nil]; rfl, rfl⟩
  | cons n l ih =>
    have first := s.framesOut_frameOut p (s.link p).sndSeq nullCell
    have rest := ih (s.sendNull p)
    have link : (s.sendNull p).link p = (s.link p).framed := first.2
    rw [link] at rest
    exact State.framesOut_trans first rest

/-- A link whose 14 channels are owed 16 credits each. -/
def LinkSt.fresh : LinkSt := { LinkSt.init with sndSeq := 0, rcvSeq := 0, owed := (List.range 14).map fun vc => (vc, 16) }

theorem fresh_owed : (LinkSt.afterNulls 42 LinkSt.fresh).owed = [] := by decide
/-- The SEQ of the frames is 0. -/
theorem fresh_seqs : (LinkSt.nullHdrs 42 LinkSt.fresh).map (fun h => bits h.toNat 11 0) = List.replicate 42 0 := by decide

theorem fresh_seq : ∀ h ∈ LinkSt.nullHdrs 42 LinkSt.fresh, bits h.toNat 11 0 = 0 := fun h mem => by
  have := List.mem_map_of_mem (f := fun h : BitVec 56 => bits h.toNat 11 0) mem
  rw [fresh_seqs] at this
  exact List.eq_of_mem_replicate this

/-- The channel and the count of the credits that a frame returns. -/
def hdrCredits (h : BitVec 56) : Nat × Nat := (bits h.toNat 31 28, bits h.toNat 34 32)

/-- Sixteen credits go in frames of 7, 7 and 2. -/
theorem fresh_hdrCredits : (LinkSt.nullHdrs 42 LinkSt.fresh).map hdrCredits =
    (List.range 14).flatMap fun vc => [(vc, 7), (vc, 7), (vc, 2)] := by decide

theorem fresh_credits (vc : Fin 14) :
    ((LinkSt.nullHdrs 42 LinkSt.fresh).map fun h => if bits h.toNat 31 28 = vc then bits h.toNat 34 32 else 0).sum = 16 := by
  have perChannel : ∀ vc : Fin 14, (((List.range 14).flatMap fun c => [(c, 7), (c, 7), (c, 2)]).map fun e : Nat × Nat =>
      if e.1 = vc.val then e.2 else 0).sum = 16 := by decide
  have := perChannel vc
  rw [← fresh_hdrCredits, List.map_map] at this
  exact this

/-! ### Lock -/

/-- A port that has lock, with its credits still to be returned. -/
def State.locked (s : State) (p : Nat) : State := (s.setFld (pstatR p) F.wpPstat.STATE lsPcs).setLink p LinkSt.fresh

/-- A locked port that has sent its NULL frames. -/
def State.nullsSent (s : State) (p : Nat) : State := (List.range 42).foldl (fun s _ => s.sendNull p) (s.locked p)

theorem State.nullsSent_framesOut (s : State) (p : Nat) : (s.locked p).framesOut (s.nullsSent p) p (LinkSt.afterNulls 42 LinkSt.fresh)
    ((LinkSt.nullHdrs 42 LinkSt.fresh).map fun h => .frame p (nullFrame h)) := by
  have run := (s.locked p).framesOut_sendNulls p (List.range 42)
  rw [List.length_range, State.locked, State.link_setLink_same] at run
  exact run

theorem pcsLock_eq {p : Port} {s : State} (weft : s.isWeft p = true) (state : s.linkState p = lsTraining) :
    exec (.pcsLock p) s = .next ((s.nullsSent p).sendLocal p ((s.nullsSent p).helloCell p)) :=
  if_neg (by rw [weft, state]; decide)

theorem cTYPE_nullCell : cf nullCell cTYPE = 0 := cTYPE_mkCell (by decide) _ _ _ _ _ _ (by decide) _

/-- The HELLO of the module names its version and its fabric (Table WFT-9). -/
theorem State.helloCell_fields (s : State) (p : Nat) : cf (s.helloCell p) cTYPE = 0x02 ∧ cd (s.helloCell p) 0 1 = 1 ∧
    cd (s.helloCell p) 8 8 = s.rd { kind := .wpFname } % 2 ^ 64 := by
  refine ⟨(mkLocal_header (by decide) _ _ _ _ _).1, ?_, ?_⟩
  all_goals
    rw [State.helloCell, cd_mkLocal _ _ _ _ _ (by simp [leBytes_length]) (by simp [leBytes_length])]
    simp (disch := simp [leBytes_length]) only [field_append_left, field_append_last, field_leBytes, Nat.reduceMul, Nat.reducePow]

theorem pcsLock_laws {p : Port} {s : State} (weft : s.isWeft p = true) (state : s.linkState p = lsTraining) :
    ∃ u, exec (.pcsLock p) s = .next u ∧ u.linkState p = lsPcs ∧ u.link p = LinkSt.afterNulls 42 LinkSt.fresh ∧
      u.sent = s.sent ++ (LinkSt.nullHdrs 42 LinkSt.fresh).map (fun h => .frame p (nullFrame h)) ∧
      ∃ e ∈ u.weft.own, e.1 = some p.val ∧ cf e.2 cTYPE = 0x02 ∧ cd e.2 0 1 = 1 ∧ cd e.2 8 8 = s.rd { kind := .wpFname } % 2 ^ 64 := by
  obtain ⟨eq, link⟩ := s.nullsSent_framesOut p
  refine ⟨_, pcsLock_eq weft state, ?_⟩
  generalize s.nullsSent p = t at *
  have regs : t.regs = (s.locked p).regs := by rw [eq]
  have rd : ∀ r, t.rd r = (s.setFld (pstatR p) F.wpPstat.STATE lsPcs).rd r := fun r => by
    rw [State.rd_of_regs regs, State.locked, State.rd_setLink]
  have sent : t.sent = s.sent ++ (LinkSt.nullHdrs 42 LinkSt.fresh).map (fun h => .frame p (nullFrame h)) := by
    rw [eq, State.locked, State.sent_setLink, State.sent_setFld]
  obtain ⟨typ, version, name⟩ := t.helloCell_fields p
  have apart : Reg.addr { kind := .wpFname } ≠ (pstatR p).addr :=
    Reg.addr_ne (by decide) (pstatR_ok p.isLt) (show RegKind.apart .wpFname .wpPstat = true by decide)
  rw [rd, State.rd_setFld_other _ _ _ _ _ apart] at name
  rw [State.linkState_sendLocal, State.link_sendLocal, State.sent_sendLocal]
  refine ⟨?_, link, sent, (some p.val, t.helloCell p), ?_, rfl, typ, version, name⟩
  · rw [State.linkState, State.fld_of_rd (rd _), State.fld_setFld_same _ _ _ _ (show 31 < 32 by decide)]
    rfl
  · rw [State.own_sendLocal]
    exact List.mem_append_right _ (List.mem_singleton.mpr rfl)

/-! ### Bring-up -/

theorem linkBringup : Spec.LinkBringup := fun p s weft => by
  refine ⟨fun up v => ?_, fun inService idle role => ⟨?_, fun down waited => ?_⟩, fun early => ?_, fun training => ?_, fun idle up => ?_,
    fun bringing => ?_⟩
  · obtain ⟨u, run, kept⟩ := pctl_kept up v
    exact ⟨u, run, kept _, kept _, kept _⟩
  · exact ⟨s.startLink p, rfl, startLink_laws idle.1 inService role⟩
  · exact ⟨s.startLink p, if_pos (by rw [weft, down, decide_eq_true waited]; rfl), (startLink_laws idle.1 inService role).1⟩
  · exact if_neg (by simp [early])
  · obtain ⟨u, run, state, link, sent, hello⟩ := pcsLock_laws weft training
    refine ⟨u, _, run, state, by rw [link, fresh_owed], sent, fun o mem => ?_, fun vc => ?_, hello⟩
    · obtain ⟨h, memH, rfl⟩ := List.mem_map.mp mem
      exact ⟨_, rfl, cTYPE_nullCell, fresh_seq h memH⟩
    · rw [List.map_map]
      exact fresh_credits vc
  · obtain ⟨state, replay, fails, repaired⟩ := linkFails_laws (p := p) idle.1 up
    exact ⟨s.linkFails p, if_neg (by rw [weft, up]; decide), state, replay, fails, repaired⟩
  · have notUp : s.linkState p ≠ lsUp := by rcases bringing with h | h | h <;> rw [h] <;> decide
    have locks : ¬(!s.isWeft p || s.linkState p == lsDown || s.linkState p == lsFailed) = true := by
      rcases bringing with h | h | h <;> rw [weft, h] <;> decide
    obtain ⟨state, _, _, fails⟩ := s.fallen_laws p (dest := lsDown) (by decide) LinkSt.init
    exact ⟨s.fallen p lsDown LinkSt.init, (if_neg locks).trans (congrArg Host.Outcome.next (State.linkFails_training notUp)), state, fails⟩

end Sys2Proof.Machine
end

section
/-! HELLO and the measured delay of a link (R34, R263, Table WFT-4). -/

namespace Sys2Proof.Machine

/-! ### Neighbours (R236, R237) -/

/-- A module ID is its coordinates. -/
theorem eq_of_coords {a b : Nat} (ha : a < 4096) (hb : b < 4096) (h : ∀ j : Fin 3, coord a j = coord b j) : a = b := by
  have x := h 0
  have y := h 1
  have z := h 2
  simp only [coord, Fin.val_zero, Fin.val_one, Fin.val_two, bits_eq] at x y z
  omega

/-- A ring has at most 16 modules (R236). -/
theorem State.ring_le (s : State) (dim : Nat) : s.ring_ dim ≤ 16 := by
  have x : s.fld fcfgR F.wpFcfg.KX < 16 := s.fld_lt _ _
  have y : s.fld fcfgR F.wpFcfg.KY < 16 := s.fld_lt _ _
  have z : s.fld fcfgR F.wpFcfg.KZ < 16 := s.fld_lt _ _
  unfold State.ring_
  split <;> omega

/-- The coordinate of a neighbour in the dimension of the step. -/
def State.ringStep (s : State) (m dim dir : Nat) : Nat := (coord m dim + if dir = 0 then 1 else s.ring_ dim - 1) % s.ring_ dim

theorem State.ringStep_lt (s : State) (m dim dir : Nat) : s.ringStep m dim dir < 16 :=
  Nat.lt_of_lt_of_le (Nat.mod_lt _ (Nat.succ_pos _)) (s.ring_le dim)

theorem State.neighbour_eq (s : State) (m dim dir : Nat) : s.neighbour m dim dir =
    if dim = 0 then setBits m 11 8 (s.ringStep m dim dir)
    else if dim = 1 then setBits m 7 4 (s.ringStep m dim dir)
    else setBits m 3 0 (s.ringStep m dim dir) := by
  have step : (if dir = 0 then (coord m dim + 1) % s.ring_ dim else (coord m dim + s.ring_ dim - 1) % s.ring_ dim) = s.ringStep m dim dir := by
    have pos : 0 < s.ring_ dim := Nat.succ_pos _
    unfold State.ringStep
    split
    · rfl
    · rw [Nat.add_sub_assoc pos]
  unfold State.neighbour
  dsimp only
  rw [step]
  split
  · rfl
  · rfl
  · next h0 h1 => rw [if_neg h0, if_neg h1]

/-- A neighbour differs in one coordinate (R237). -/
theorem State.coord_neighbour (s : State) {m dim : Nat} (hm : m < 4096) (hd : dim < 3) (dir : Nat) : s.neighbour m dim dir < 4096 ∧
    ∀ j : Fin 3, coord (s.neighbour m dim dir) j = if j.val = dim then s.ringStep m dim dir else coord m j := by
  have step := s.ringStep_lt m dim dir
  rw [s.neighbour_eq]
  have dims : dim = 0 ∨ dim = 1 ∨ dim = 2 := by omega
  rcases dims with rfl | rfl | rfl
  all_goals
    simp only [setBits, bits_eq, Nat.shiftLeft_eq, if_true, OfNat.ofNat_ne_zero, OfNat.ofNat_ne_one, one_ne_zero, if_false]
    refine ⟨by omega, fun j => ?_⟩
    fin_cases j <;> simp [coord, bits_eq] <;> omega

/-- The neighbour of R237 is the module with its coordinates. -/
theorem State.eq_neighbour_iff (s : State) {m a dim : Nat} (hm : m < 4096) (ha : a < 4096) (hd : dim < 3) (dir : Nat) :
    a = s.neighbour m dim dir ↔ ∀ j : Fin 3, coord a j =
      if j.val = dim then (coord m j + if dir = 0 then 1 else s.ring_ dim - 1) % s.ring_ dim else coord m j := by
  obtain ⟨small, coords⟩ := s.coord_neighbour hm hd dir
  have steps : ∀ j : Fin 3, coord (s.neighbour m dim dir) j =
      if j.val = dim then (coord m j + if dir = 0 then 1 else s.ring_ dim - 1) % s.ring_ dim else coord m j := fun j => by
    rw [coords j]
    split
    · next same => rw [State.ringStep, same]
    · rfl
  exact ⟨fun eq j => by rw [eq, steps j], fun h => eq_of_coords ha small fun j => (h j).trans (steps j).symm⟩

/-! ### HELLO (R263) -/

/-- The shape and the name of the peer's fabric are the module's. -/
def State.helloShape (s : State) (c : Cell) : Bool :=
  cd c 4 1 == s.fld fcfgR F.wpFcfg.KX + 16 * s.fld fcfgR F.wpFcfg.KY && cd c 5 1 % 16 == s.fld fcfgR F.wpFcfg.KZ &&
    cd c 8 8 == s.rd { kind := .wpFname }

/-- The peer is the neighbour that the port's dimension and direction name. -/
def State.helloCabling (s : State) (p : Port) (c : Cell) : Bool :=
  cd c 0 1 == 1 && bits (cd c 1 1) 4 3 == s.portDim p && bits (cd c 1 1) 5 5 == 1 - s.portDir p &&
    cd c 2 2 % 4096 == s.neighbour s.myId (s.portDim p) (s.portDir p)

theorem State.helloShape_iff (s : State) (c : Cell) : s.helloShape c = true ↔ Spec.sameFabric s c := by
  simp only [State.helloShape, Spec.sameFabric, Bool.and_eq_true, beq_iff_eq, and_assoc]

theorem State.helloCabling_iff (s : State) {p : Port} (dim : s.portDim p < 3) (c : Cell) : s.helloCabling p c = true ↔ Spec.rightlyCabled s p c := by
  have id : s.myId < 4096 := s.fld_lt _ _
  simp only [State.helloCabling, Spec.rightlyCabled, Bool.and_eq_true, beq_iff_eq, and_assoc,
    s.eq_neighbour_iff id (Nat.mod_lt _ (by decide)) dim]

/-- A port in bring-up that leaves it. -/
def State.helloTaken (s : State) (p : Port) (c : Cell) : State :=
  let t := ((s.setFld (pstatR p) F.wpPstat.PEER (cd c 2 2 % 4096)).setFld (pstatR p) F.wpPstat.PEERPORT (bits (cd c 1 1) 2 0)).setFld
    (pstatR p) F.wpPstat.STATE lsHello
  (t.setLink p { t.link p with since := 0 }).setTime fun x => { x with sinceDelay := SMap.remove x.sinceDelay p.val }

theorem State.fld_pstatR_setFld (s : State) (p : Nat) {f g : Fld} (v : Nat) (h : f.hi < 32) (apart : f.hi < g.lo ∨ g.hi < f.lo) :
    (s.setFld (pstatR p) g v).fld (pstatR p) f = s.fld (pstatR p) f := s.fld_setFld_field _ _ _ _ h apart

theorem State.helloTaken_laws (s : State) (p : Port) (c : Cell) : let t := s.helloTaken p c
    t.linkState p = lsHello ∧ t.fld (pstatR p) F.wpPstat.PEER = cd c 2 2 % 4096 ∧ t.fld (pstatR p) F.wpPstat.PEERPORT = bits (cd c 1 1) 2 0 := by
  have port : bits (cd c 1 1) 2 0 < 8 := by rw [bits_eq]; exact Nat.mod_lt _ (by decide)
  unfold State.helloTaken
  dsimp only
  rw [State.linkState, State.fld_setTime, State.fld_setTime, State.fld_setTime, State.fld_setLink, State.fld_setLink, State.fld_setLink,
    State.fld_setFld_same _ _ _ _ (show 31 < 32 by decide),
    State.fld_pstatR_setFld _ _ (f := F.wpPstat.PEER) _ (by decide) (by decide),
    State.fld_pstatR_setFld _ _ (f := F.wpPstat.PEERPORT) (g := F.wpPstat.STATE) _ (by decide) (by decide),
    State.fld_pstatR_setFld _ _ (f := F.wpPstat.PEER) _ (by decide) (by decide), State.fld_setFld_same _ _ _ _ (show 27 < 32 by decide),
    State.fld_setFld_same _ _ _ _ (show 15 < 32 by decide)]
  exact ⟨rfl, Nat.mod_mod _ _, Nat.mod_eq_of_lt port⟩

theorem hello_notUp {p : Port} {s : State} (state : s.linkState p = lsPcs ∨ s.linkState p = lsHello) : ¬(s.linkState p == lsUp) = true := by
  rcases state with h | h <;> rw [h] <;> decide

section
variable {p : Port} {c : Cell} {s : State} (weft : s.isWeft p = true) (state : s.linkState p = lsPcs ∨ s.linkState p = lsHello)
include weft state

theorem hello_heard : ¬(!s.isWeft p || s.linkState p == lsDown || s.linkState p == lsTraining || s.linkState p == lsFailed) = true := by
  rcases state with h | h <;> rw [weft, h] <;> decide

theorem hello_isolated (h : s.helloShape c = false) : exec (.hello p c) s = .next (s.setFld (pstatR p) F.wpPstat.STATE lsIsolated) := by
  have wrong : (!s.helloShape c) = true := by rw [h]; rfl
  exact (if_neg (hello_heard weft state)).trans ((if_pos wrong).trans (congrArg Host.Outcome.next (if_neg (hello_notUp state))))

theorem hello_miscabled (h : s.helloShape c = true) (h' : s.helloCabling p c = false) :
    exec (.hello p c) s = .next (s.setFld (pstatR p) F.wpPstat.STATE lsMiscabled) := by
  have right : ¬(!s.helloShape c) = true := by rw [h]; decide
  have wrong : (!s.helloCabling p c) = true := by rw [h']; rfl
  exact (if_neg (hello_heard weft state)).trans ((if_neg right).trans ((if_pos wrong).trans
    (congrArg Host.Outcome.next (if_neg (hello_notUp state)))))

end

theorem hello_taken {p : Port} {c : Cell} {s : State} (weft : s.isWeft p = true) (pcs : s.linkState p = lsPcs) (h : s.helloShape c = true)
    (h' : s.helloCabling p c = true) : exec (.hello p c) s = .next (s.helloTaken p c) := by
  have right : ¬(!s.helloShape c) = true := by rw [h]; decide
  have right' : ¬(!s.helloCabling p c) = true := by rw [h']; decide
  have fresh : ¬(s.linkState p = lsUp ∨ s.linkState p = lsHello) := by rw [pcs]; decide
  exact (if_neg (hello_heard weft (.inl pcs))).trans ((if_neg right).trans ((if_neg right').trans (if_neg fresh)))

theorem State.linkState_setFld_STATE (s : State) (p : Nat) {v : Nat} (h : v < 16) : (s.setFld (pstatR p) F.wpPstat.STATE v).linkState p = v := by
  rw [State.linkState, State.fld_setFld_same _ _ _ _ (show 31 < 32 by decide)]
  exact Nat.mod_eq_of_lt h

theorem helloChecks : Spec.HelloChecks := fun p c s weft dim => by
  refine ⟨fun pcs shape cabling => ?_, fun state => ⟨fun other => ?_, fun shape wrong => ?_⟩⟩
  · exact ⟨_, hello_taken weft pcs ((s.helloShape_iff c).mpr shape) ((s.helloCabling_iff dim c).mpr cabling), s.helloTaken_laws p c⟩
  · have h : s.helloShape c = false := Bool.eq_false_iff.mpr fun h => other ((s.helloShape_iff c).mp h)
    exact ⟨_, hello_isolated weft state h, s.linkState_setFld_STATE p (by decide)⟩
  · have h : s.helloCabling p c = false := Bool.eq_false_iff.mpr fun h => wrong ((s.helloCabling_iff dim c).mp h)
    exact ⟨_, hello_miscabled weft state ((s.helloShape_iff c).mpr shape) h, s.linkState_setFld_STATE p (by decide)⟩

/-! ### The measured delay (R34, Table WFT-4 steps 5 and 6) -/

def ldlyR (p : Nat) : Reg := { kind := .wpLdly, i := p }

theorem ldlyR_ok {p : Nat} (hp : p < 8) : (ldlyR p).ok = true := Bool.and_eq_true_iff.mpr ⟨decide_eq_true hp, rfl⟩

theorem ldlyR_addr_ne_pstatR (p q : Nat) : (ldlyR p).addr ≠ (pstatR q).addr := by
  simp only [ldlyR, pstatR, Reg.addr, RegKind.place]
  omega

theorem pctlR_addr_ne_ldlyR (p q : Nat) : (pctlR p).addr ≠ (ldlyR q).addr := by
  simp only [ldlyR, pctlR, Reg.addr, RegKind.place]
  omega

/-- The state with a delay measured: no exchange is open on the port. -/
def State.delayed (s : State) (p : Port) (d : Nat) : State :=
  (s.setTime fun x => { x with delayReq := SMap.remove x.delayReq p.val }).setFld (ldlyR p) F.wpLdly.DELAY (min d 0xFFFF)

theorem delayResp_eq {p : Port} {s : State} (asked : (SMap.find s.time.delayReq p.val).isSome = true) (c : Cell) (rt : BitVec 64) :
    let t := s.delayed p ((rt.toNat - cd c 16 8) / 2 / 4096)
    exec (.delayResp p c rt) s = .next (if t.linkState p = lsHello then (t.setFld (pstatR p) F.wpPstat.STATE lsUp).linkChange else t) := by
  obtain ⟨n, open_⟩ := Option.isSome_iff_exists.mp asked
  dsimp only
  change execDelayResp p c rt s = _
  unfold execDelayResp
  rw [open_, apply_ite Host.Outcome.next]
  rfl

theorem State.delayed_laws (s : State) (p : Port) (d : Nat) : let t := s.delayed p d
    t.fld (ldlyR p) F.wpLdly.DELAY = min 0xFFFF d ∧ (∀ q, t.rd (pstatR q) = s.rd (pstatR q)) ∧ (∀ q, t.rd (pctlR q) = s.rd (pctlR q)) ∧
    t.weft = s.weft := by
  unfold State.delayed
  dsimp only
  refine ⟨?_, fun q => ?_, fun q => ?_, ?_⟩
  · rw [State.fld_setFld_same _ _ _ _ (show 15 < 32 by decide), Nat.min_comm]
    exact Nat.mod_eq_of_lt (Nat.lt_of_le_of_lt (Nat.min_le_left _ _) (by decide))
  · rw [State.rd_setFld_other _ _ _ _ _ (ldlyR_addr_ne_pstatR p q).symm, State.rd_setTime]
  · rw [State.rd_setFld_other _ _ _ _ _ (pctlR_addr_ne_ldlyR q p), State.rd_setTime]
  · rw [State.weft_setFld, State.weft_setTime]

/-- A port that comes UP floods the link state from itself too. -/
theorem mem_floods_self {s : State} {p : Port} (up : s.portUp p = true) (c : Cell) : (some p.val, c) ∈ Spec.floods s c none :=
  List.mem_map_of_mem (List.mem_filter.mpr ⟨State.mem_upPorts.mpr up, rfl⟩)

/-- A Weft port that comes UP. -/
theorem State.risen_laws {s : State} {p : Port} (weft : s.isWeft p = true) : let t := s.setFld (pstatR p) F.wpPstat.STATE lsUp
    t.portUp p = true ∧ t.linkState p = lsUp ∧ t.weft = s.weft ∧ t.rd (ldlyR p) = s.rd (ldlyR p) := by
  have state := s.linkState_setFld_STATE p (v := lsUp) (by decide)
  refine ⟨?_, state, s.weft_setFld _ _ _, s.rd_setFld_other _ _ _ _ (ldlyR_addr_ne_pstatR p p)⟩
  have role : (s.setFld (pstatR p) F.wpPstat.STATE lsUp).isWeft p = true := by
    rw [State.isWeft, State.portRole, State.pctlFld, s.weft_setFld, s.rd_setFld_other _ _ _ _ (pstatR_addr_ne_pctlR p p).symm]
    exact weft
  rw [State.portUp, role, state]
  rfl

theorem delayMeasured : Spec.DelayMeasured := fun p c rt s weft idle asked _ => by
  have run := delayResp_eq asked c rt
  obtain ⟨delay, pstat, pctl, same⟩ := s.delayed_laws p ((rt.toNat - cd c 16 8) / 2 / 4096)
  dsimp only at run
  generalize s.delayed p ((rt.toNat - cd c 16 8) / 2 / 4096) = t at *
  have state : t.linkState p = s.linkState p := State.fld_of_rd (pstat p) _
  have role : t.isWeft p = true := by
    rw [State.isWeft, State.portRole, State.pctlFld, same, pctl]
    exact weft
  have unasked : ∀ v : State, SMap.find v.time.delayReq p.val = none → exec (.delayResp p c rt) v = .next v := fun v closed => by
    change execDelayResp p c rt v = _
    rw [execDelayResp, closed]
  by_cases hello : s.linkState p = lsHello
  · rw [if_pos (state.trans hello)] at run
    obtain ⟨up, upState, upWeft, upDelay⟩ := State.risen_laws role
    generalize t.setFld (pstatR p) F.wpPstat.STATE lsUp = w at *
    obtain ⟨typ, _⟩ := w.linkstCell_fields
    obtain ⟨⟨o, eq⟩, regs, _⟩ := State.linkChange_laws (s := w) (by rw [upWeft, same]; exact idle.1)
    generalize w.linkChange = u at *
    refine ⟨u, run, ?_, fun _ => ⟨?_, (some p.val, w.linkstCell), ?_, rfl, typ⟩, fun other => absurd hello other, unasked⟩
    · exact (State.fld_of_rd ((regs _ (ldlyR_ok p.isLt) nofun nofun).trans upDelay) _).trans delay
    · exact (State.fld_of_rd (regs _ (pstatR_ok p.isLt) nofun nofun) _).trans upState
    · rw [eq]
      exact List.mem_append_right _ (mem_floods_self up _)
  · rw [if_neg (by rw [state]; exact hello)] at run
    exact ⟨t, run, delay, fun h => absurd h hello, fun _ => state, unasked⟩

end Sys2Proof.Machine
end

section
/-! Frames that arrive on a link in use (R240, R241, R243). -/

namespace Sys2Proof.Machine

/-! ### A port that wakes (R267, R449) -/

/-- From `s` to `t` only the power domains have changed. -/
def State.woken (s t : State) : Prop :=
  t = { s with regs := t.regs, pwr := t.pwr } ∧ ∀ r : Reg, r.ok = true → r.kind ≠ .pwrDstat → t.rd r = s.rd r

theorem RegKind.apart_pwrDstat {k : RegKind} : k ≠ .pwrDstat → k.apart .pwrDstat = true := by cases k <;> decide

theorem State.woken_trans {s t u : State} (h : s.woken t) (h' : t.woken u) : s.woken u := by
  obtain ⟨eq, regs⟩ := h
  obtain ⟨eq', regs'⟩ := h'
  refine ⟨?_, fun r ok other => (regs' r ok other).trans (regs r ok other)⟩
  rw [eq', eq]

theorem State.woken_setFld (s : State) {d : Nat} (hd : d < 427) (f : Fld) (v : Nat) : s.woken (s.setFld (dstatR d) f v) :=
  ⟨rfl, fun _ ok other => s.rd_setFld_other _ _ _ _ (Reg.addr_ne ok (Bool.and_eq_true_iff.mpr ⟨decide_eq_true hd, rfl⟩) (RegKind.apart_pwrDstat other))⟩

/-- The state with the domains that have had demand in the stitch. -/
def State.demanded (s : State) (l : List Nat) : State := { s with pwr := { s.pwr with demand := l } }

theorem State.woken_demanded (s : State) (l : List Nat) : s.woken (s.demanded l) := ⟨rfl, fun _ _ _ => rfl⟩

/-- A port's domain has no bridge over it. -/
theorem State.need_port (s : State) (p : Port) : ∃ l, let t := s.demanded l
    let d := dstatR (412 + p.val)
    s.need (412 + p.val) = if t.fld d F.pwrDstat.CUR = 1 then
      ((t.setFld d F.pwrDstat.CUR 0).setFld d F.pwrDstat.GATED (b2n (decide (412 + p.val < 192)))).addFld d F.pwrDstat.TRANS 1 else t := by
  have bridge : (if 192 ≤ 412 + p.val ∧ 412 + p.val < 384 then 384 + (412 + p.val - 192) / 48
      else if 388 ≤ 412 + p.val ∧ 412 + p.val < 412 then 384 + (412 + p.val - 388) / 6 else 412 + p.val) = 412 + p.val := by
    rw [if_neg (by omega), if_neg (by omega)]
  refine ⟨if 412 + p.val ∈ s.pwr.demand then s.pwr.demand else s.pwr.demand ++ [412 + p.val], ?_⟩
  unfold State.need
  dsimp only
  rw [bridge, if_neg (c := 412 + p.val ≠ 412 + p.val ∧ _) fun h => h.1 rfl]
  rfl

/-- A port needed wakes its own domain only. -/
theorem State.woken_need (s : State) (p : Port) : s.woken (s.need (412 + p.val)) := by
  have hd : 412 + p.val < 427 := by omega
  obtain ⟨l, eq⟩ := s.need_port p
  have demand := s.woken_demanded l
  dsimp only at eq
  rw [eq]
  generalize s.demanded l = t at *
  split
  · exact State.woken_trans demand (State.woken_trans (t.woken_setFld hd _ _)
      (State.woken_trans (State.woken_setFld _ hd _ _) (State.woken_setFld _ hd _ _)))
  · exact demand

theorem State.woken_fields {s t : State} (h : s.woken t) : t.weft = s.weft ∧ t.sent = s.sent := by
  rw [h.1]
  exact ⟨rfl, rfl⟩

/-- A port woken has the link it had, and the state and the counts of it. -/
theorem State.woken_port {s t : State} (h : s.woken t) (p : Port) :
    t.linkState p = s.linkState p ∧ t.link p = s.link p ∧ t.fld (lcntR p) = s.fld (lcntR p) ∧ t.weft.out = s.weft.out ∧ t.sent = s.sent := by
  obtain ⟨weft, sent⟩ := State.woken_fields h
  refine ⟨State.fld_of_rd (h.2 _ (pstatR_ok p.isLt) nofun) _, ?_, ?_, congrArg _ weft, sent⟩
  · rw [State.link, weft, State.link]
  · exact funext (State.fld_of_rd (h.2 _ (lcntR_ok p.isLt) nofun))

/-! ### What a frame does (R240) -/

/-- A bad frame: counted, and NAK is asked for. -/
def State.frameBad (s : State) (p : Nat) : State :=
  let t := s.addFld (lcntR p) F.wpLcnt.CRCERR 1
  (t.setLink p { t.link p with nak := true, discard := true }).sendNull p

/-- The next frame in order: its cell is taken, and it is acknowledged. -/
def State.frameNext (s : State) (p seq : Nat) (c : Cell) : State :=
  ((s.setLink p { s.link p with rcvSeq := seq, discard := false }).cellIn p c).sendNull p

theorem frame_good {f : WFrame} (good : f.fecOk = true ∧ f.crc = frameCrc f.hdr f.cell) :
    ¬(!f.fecOk || decide (f.crc ≠ frameCrc f.hdr f.cell)) = true := by
  obtain ⟨fec, crc⟩ := good
  rw [fec, crc, decide_eq_false (not_not_intro rfl)]
  decide

section
variable {p : Port} {f : WFrame} {s : State} (up : s.portUp p = true)
include up

theorem State.linkState_of_portUp : s.linkState p = lsUp := beq_iff_eq.mp (Bool.and_eq_true_iff.mp up).2

theorem frame_heard : ¬(!s.isWeft p || s.linkState p == lsDown || s.linkState p == lsTraining || s.linkState p == lsFailed) = true := by
  rw [(Bool.and_eq_true_iff.mp up).1, State.linkState_of_portUp up]
  decide

theorem weftFrame_bad (bad : ¬(f.fecOk = true ∧ f.crc = frameCrc f.hdr f.cell)) :
    exec (.weftFrame p f) s = .next ((s.need (412 + p)).frameBad p) := by
  have wrong : (!f.fecOk || decide (f.crc ≠ frameCrc f.hdr f.cell)) = true := by
    cases ok : f.fecOk with
    | false => rfl
    | true => exact decide_eq_true fun same => bad ⟨ok, same⟩
  exact (if_neg (frame_heard up)).trans (if_pos wrong)

variable (good : f.fecOk = true ∧ f.crc = frameCrc f.hdr f.cell)
include good

theorem weftFrame_null (null : cf f.cell cTYPE = 0) :
    exec (.weftFrame p f) s = .next ((s.need (412 + p)).linkHeader p f.hdr.toNat) :=
  (if_neg (frame_heard up)).trans ((if_neg (frame_good good)).trans (ite_eq_left_iff.mpr fun _ => if_pos null))

theorem weftFrame_next (cell : cf f.cell cTYPE ≠ 0)
    (used : ((s.need (412 + p)).linkHeader p f.hdr.toNat).linkState p = lsUp)
    (seq : bits f.hdr.toNat 11 0 = ((((s.need (412 + p)).linkHeader p f.hdr.toNat).link p).rcvSeq + 1) % 4096) :
    exec (.weftFrame p f) s = .next (((s.need (412 + p)).linkHeader p f.hdr.toNat).frameNext p (bits f.hdr.toNat 11 0) f.cell) := by
  have alive : ¬(((s.need (412 + p)).linkHeader p f.hdr.toNat).linkState p = lsFailed ∨
      ((s.need (412 + p)).linkHeader p f.hdr.toNat).linkState p = lsDown) := by rw [used]; decide
  exact (if_neg (frame_heard up)).trans ((if_neg (frame_good good)).trans ((if_neg alive).trans ((if_neg cell).trans (if_pos seq))))

end

/-! ### The link header (R240, R241) -/

/-- The link with the acknowledgement and the credits of a header. -/
def State.headed (s : State) (p h : Nat) : State :=
  let x := s.link p
  s.setLink p { x with
    replay := unacked (bits h 23 12) x.replay
    credits := SMap.put (fun _ => 0) x.credits (bits h 31 28) (SMap.get (fun _ => 0) x.credits (bits h 31 28) + bits h 34 32) }

theorem State.linkHeader_eq (s : State) (p h : Nat) : s.linkHeader p h =
    if !bit h 35 ∨ unacked (bits h 23 12) (s.link p).replay = [] then s.headed p h
    else if (unacked (bits h 23 12) (s.link p).replay).any fun e => decide (4 ≤ e.2.2) then (s.headed p h).linkFails p
    else
      let left := unacked (bits h 23 12) (s.link p).replay
      let t := (s.headed p h).addFld (lcntR p) F.wpLcnt.REPLAY left.length
      left.foldl (fun s e => s.frameOut p e.1 e.2.1)
        (t.setLink p { t.link p with replay := left.map fun e => (e.1, e.2.1, e.2.2 + 1) }) := rfl

theorem State.linkState_setLink (s : State) (p q : Nat) (x : LinkSt) : (s.setLink p x).linkState q = s.linkState q := rfl

theorem unacked_head (ack : Nat) (c : Cell) (n : Nat) (rest : List (Nat × Cell × Nat)) : unacked ack ((ack, c, n) :: rest) = rest := by
  simp [unacked]

theorem unacked_other {ack seq : Nat} (h : seq ≠ ack) (c : Cell) (n : Nat) : unacked ack [(seq, c, n)] = [(seq, c, n)] := by
  simp [unacked, h]

/-! ### A frame that leaves (R240) -/

theorem State.frameOut_laws {s : State} {p : Port} (owed : ∀ e ∈ (s.link p).owed, e.1 < 16) (rcv : (s.link p).rcvSeq < 4096) {seq : Nat}
    (hs : seq < 4096) (c : Cell) : let t := s.frameOut p seq c
    (∃ o, t.sent = s.sent ++ [o] ∧ Spec.framed o p c seq (s.link p).rcvSeq (s.link p).nak) ∧ t.link p = (s.link p).framed ∧
    ∀ r, t.rd r = s.rd r := by
  obtain ⟨eq, link⟩ := s.framesOut_frameOut p seq c
  dsimp only
  generalize s.frameOut p seq c = t at *
  refine ⟨⟨_, ?_, LinkSt.framed_frame owed rcv hs p c⟩, link, fun r => ?_⟩
  · rw [eq]
  · rw [eq]
    rfl

theorem LinkSt.framed_replay (x : LinkSt) : x.framed.replay = x.replay := by
  unfold LinkSt.framed LinkSt.giveBack
  split <;> rfl

theorem LinkSt.framed_bufs (x : LinkSt) : x.framed.bufs = x.bufs := by
  unfold LinkSt.framed LinkSt.giveBack
  split <;> rfl

end Sys2Proof.Machine
end

section
/-! What a frame that arrives leaves (R240, R241, R243). -/

namespace Sys2Proof.Machine

/-! ### A bad frame, and a resend -/

theorem State.link_headed (s : State) (p h : Nat) : ∃ cr,
    (s.headed p h).link p = { s.link p with replay := unacked (bits h 23 12) (s.link p).replay, credits := cr } :=
  ⟨_, s.link_setLink_same p _⟩

/-- A frame leaves with a count and a new link record. -/
theorem State.counted_frame (s : State) (p : Port) {f : Fld} (hf : f.hi < 64) {x : LinkSt} (owed : ∀ e ∈ x.owed, e.1 < 16) (rcv : x.rcvSeq < 4096)
    {seq : Nat} (hs : seq < 4096) (c : Cell) : let t := ((s.addFld (lcntR p) f 1).setLink p x).frameOut p seq c
    (∃ o, t.sent = s.sent ++ [o] ∧ Spec.framed o p c seq x.rcvSeq x.nak) ∧ (t.link p).replay = x.replay ∧
    t.fld (lcntR p) f = min (2 ^ (f.hi + 1 - f.lo) - 1) (s.fld (lcntR p) f + 1) := by
  have count := s.fld_addFld_same (lcntR p) f 1 hf
  have sent : (s.addFld (lcntR p) f 1).sent = s.sent := s.sent_setFld _ _ _
  dsimp only
  generalize s.addFld (lcntR p) f 1 = t at *
  have new := t.link_setLink_same p x
  have sent' := t.sent_setLink p x
  have rd := t.rd_setLink p x
  generalize t.setLink p x = w at *
  obtain ⟨⟨o, out, framed⟩, after, regs⟩ := State.frameOut_laws (s := w) (p := p) (by rw [new]; exact owed) (by rw [new]; exact rcv) hs c
  rw [new] at framed
  refine ⟨⟨o, by rw [out, sent', sent], framed⟩, ?_, ?_⟩
  · rw [after, LinkSt.framed_replay, new]
  · rw [State.fld_of_rd (regs _), State.fld_of_rd (rd _), count]

theorem State.frameBad_laws {s : State} {p : Port} (tidy : Spec.tidy s p) : let t := s.frameBad p
    (∃ o, t.sent = s.sent ++ [o] ∧ Spec.framed o p nullCell (s.link p).sndSeq (s.link p).rcvSeq true) ∧
    t.fld (lcntR p) F.wpLcnt.CRCERR = min 65535 (s.fld (lcntR p) F.wpLcnt.CRCERR + 1) := by
  obtain ⟨_, snd, rcv, owed⟩ := tidy
  have frame := s.counted_frame p (f := F.wpLcnt.CRCERR) (by decide) (x := { s.link p with nak := true, discard := true })
    (by rw [owed]; exact nofun) rcv snd nullCell
  unfold State.frameBad State.sendNull
  dsimp only at frame ⊢
  rw [State.link_setLink_same, State.link_addFld]
  exact ⟨frame.1, frame.2.2⟩

/-- The one unacknowledged frame is sent again. -/
theorem State.linkHeader_resend {s : State} {p : Port} (tidy : Spec.tidy s p) {h seq n : Nat} {c : Cell} (asked : bit h 35 = true)
    (held : (s.link p).replay = [(seq, c, n)]) (other : seq ≠ bits h 23 12) (hs : seq < 4096) (few : n < 4) : let t := s.linkHeader p h
    (∃ o, t.sent = s.sent ++ [o] ∧ Spec.framed o p c seq (s.link p).rcvSeq (s.link p).nak) ∧
    (t.link p).replay = [(seq, c, n + 1)] ∧ t.fld (lcntR p) F.wpLcnt.REPLAY = min 65535 (s.fld (lcntR p) F.wpLcnt.REPLAY + 1) := by
  obtain ⟨_, _, rcv, owed⟩ := tidy
  have left : unacked (bits h 23 12) (s.link p).replay = [(seq, c, n)] := by rw [held, unacked_other other]
  obtain ⟨cr, head⟩ := s.link_headed p h
  have sent : (s.headed p h).sent = s.sent := s.sent_setLink _ _
  have was : (s.headed p h).fld (lcntR p) F.wpLcnt.REPLAY = s.fld (lcntR p) F.wpLcnt.REPLAY := s.fld_setLink _ _ _ _
  rw [State.linkHeader_eq, left, asked, if_neg (by simp), if_neg (by simpa using few)]
  generalize s.headed p h = w at *
  have frame := w.counted_frame p (f := F.wpLcnt.REPLAY) (by decide) (x := { w.link p with replay := [(seq, c, n + 1)] })
    (by rw [head, owed]; exact nofun) (by rw [head]; exact rcv) hs c
  dsimp only [List.foldl_cons, List.foldl_nil, List.map_cons, List.map_nil, List.length_cons, List.length_nil] at frame ⊢
  rw [State.link_addFld, ← was, ← sent]
  rw [head] at frame ⊢
  exact frame

/-- The fifth resend fails the link. -/
theorem State.linkHeader_fails {s : State} {p h seq n : Nat} {c : Cell} (asked : bit h 35 = true) (held : (s.link p).replay = [(seq, c, n)])
    (other : seq ≠ bits h 23 12) (many : 4 ≤ n) : s.linkHeader p h = (s.headed p h).linkFails p := by
  have left : unacked (bits h 23 12) (s.link p).replay = [(seq, c, n)] := by rw [held, unacked_other other]
  rw [State.linkHeader_eq, left, asked, if_neg (by simp), if_pos (by simpa using many)]

theorem State.linkHeader_unasked {s : State} {p h : Nat} (asked : bit h 35 = false) : s.linkHeader p h = s.headed p h := by
  rw [State.linkHeader_eq, asked, if_pos (.inl rfl)]

theorem State.linkHeader_empty {s : State} {p h : Nat} (held : (s.link p).replay = []) : s.linkHeader p h = s.headed p h := by
  rw [State.linkHeader_eq, held, if_pos (.inr rfl)]

/-! ### A cell taken (R243) -/

/-- A cell of the class that its type asks for. -/
def rightClass (c : Cell) : Prop := cellClass (cf c cTYPE) = some (cf c cCLASS)

/-- A cell discarded: counted, its credit returned. -/
def State.discarded (s : State) (p vc : Nat) : State := (s.addFld (lcntR p) F.wpLcnt.DISCARD 1).owe' p vc

theorem State.cellIn_discard {s : State} {p : Nat} {c : Cell} (wrong : ¬rightClass c) : s.cellIn p c = s.discarded p (cellVc c) := if_pos wrong

theorem State.cellIn_local {s : State} {p : Nat} {c : Cell} (right : rightClass c) (loc : cf c cLOCAL = 1) (up : s.linkState p = lsUp) :
    s.cellIn p c = (s.owe' p (cellVc c)).emit (.cell (some p) c) :=
  (if_neg (not_not_intro right)).trans ((if_pos loc).trans (if_pos (.inl up)))

theorem State.cellIn_routed {s : State} {p : Nat} {c : Cell} (right : rightClass c) (loc : cf c cLOCAL = 0) (up : s.linkState p = lsUp)
    (room : (SMap.get (fun _ => []) (s.link p).bufs (cellVc c)).length < 16) :
    s.cellIn p c = s.setLink p { s.link p with
      bufs := SMap.put (fun _ => []) (s.link p).bufs (cellVc c) (SMap.get (fun _ => []) (s.link p).bufs (cellVc c) ++ [c]) } :=
  (if_neg (not_not_intro right)).trans ((if_neg (by rw [loc]; decide)).trans ((if_neg (not_not_intro up)).trans (if_neg (Nat.not_le_of_lt room))))

theorem cellVc_lt (c : Cell) : cellVc c < 16 := by
  have cls : cf c cCLASS < 8 := Nat.mod_lt _ (by decide)
  have dl : cf c cDL < 2 := Nat.mod_lt _ (by decide)
  unfold cellVc
  omega

theorem LinkSt.owed_one {vc : Nat} (h : vc < 16) : ∀ e ∈ SMap.put (fun _ => 0) [] vc (SMap.get (fun _ => 0) [] vc + 1), e.1 < 16 := by
  intro e mem
  obtain rfl : e = (vc, 1) := List.mem_singleton.mp mem
  exact h

/-! ### The next frame (R240, R243) -/

theorem State.rd_frameOut (s : State) (p seq : Nat) (c : Cell) (r : Reg) : (s.frameOut p seq c).rd r = s.rd r := by
  rw [(s.framesOut_frameOut p seq c).1]
  rfl

theorem bits_seq_lt (h : Nat) : bits h 11 0 < 4096 := by
  rw [bits_eq]
  omega

/-- The state in which the next frame's cell is taken. -/
def State.inOrder (s : State) (p h : Nat) : State :=
  (s.headed p h).setLink p { (s.headed p h).link p with rcvSeq := bits h 11 0, discard := false }

theorem State.frameNext_headed (s : State) (p h : Nat) (c : Cell) :
    (s.headed p h).frameNext p (bits h 11 0) c = ((s.inOrder p h).cellIn p c).sendNull p := by
  rw [State.frameNext, State.inOrder]

/-- A link record that answers the frame of a SEQ. -/
def LinkSt.answers (x y : LinkSt) (seq : Nat) : Prop := x.rcvSeq = seq ∧ x.sndSeq = y.sndSeq ∧ x.nak = y.nak

theorem State.inOrder_link (s : State) (p h : Nat) : let x := (s.inOrder p h).link p
    x.answers (s.link p) (bits h 11 0) ∧ x.owed = (s.link p).owed ∧ x.bufs = (s.link p).bufs := by
  obtain ⟨cr, head⟩ := s.link_headed p h
  dsimp only
  rw [State.inOrder, State.link_setLink_same, head]
  exact ⟨⟨rfl, rfl, rfl⟩, rfl, rfl⟩

theorem State.inOrder_keeps (s : State) (p h : Nat) : let t := s.inOrder p h
    t.sent = s.sent ∧ t.linkState p = s.linkState p ∧ t.fld (lcntR p) = s.fld (lcntR p) :=
  ⟨(State.sent_setLink _ _ _).trans (s.sent_setLink _ _), (State.linkState_setLink _ _ _ _).trans (s.linkState_setLink _ _ _),
    funext fun _ => (State.fld_setLink _ _ _ _ _).trans (s.fld_setLink _ _ _ _)⟩

theorem State.emit_cell (s : State) (q : Option Nat) (c : Cell) : s.emit (.cell q c) = { s with sent := s.sent ++ [.cell q c] } :=
  if_neg Bool.false_ne_true

section
variable {s : State} {p : Port} {h : Nat} {c : Cell} (tidy : Spec.tidy s p) (calm : (s.link p).nak = false)
include tidy calm

/-- The acknowledgement that answers a taken frame. -/
theorem State.sendNull_taken {t : State} (answers : (t.link p).answers (s.link p) (bits h 11 0)) (owed : ∀ e ∈ (t.link p).owed, e.1 < 16) :
    (∃ o, (t.sendNull p).sent = t.sent ++ [o] ∧ Spec.framed o p nullCell (s.link p).sndSeq (bits h 11 0) false) ∧
    ((t.sendNull p).link p).bufs = (t.link p).bufs := by
  obtain ⟨rcv, snd, nak⟩ := answers
  obtain ⟨⟨o, out, framed⟩, after, _⟩ := State.frameOut_laws (s := t) (p := p) owed (by rw [rcv]; exact bits_seq_lt h)
    (seq := (t.link p).sndSeq) (by rw [snd]; exact tidy.2.1) nullCell
  rw [rcv, snd, nak, calm] at framed
  rw [State.sendNull, snd]
  rw [snd] at out after
  refine ⟨⟨o, out, framed⟩, ?_⟩
  rw [after, LinkSt.framed_bufs]

theorem frameNext_routed (right : rightClass c) (loc : cf c cLOCAL = 0)
    (room : (SMap.get (fun _ => []) (s.link p).bufs (cellVc c)).length < 16) : let u := (s.headed p h).frameNext p (bits h 11 0) c
    (∃ o, u.sent = s.sent ++ [o] ∧ Spec.framed o p nullCell (s.link p).sndSeq (bits h 11 0) false) ∧
    SMap.get (fun _ => []) (u.link p).bufs (cellVc c) = SMap.get (fun _ => []) (s.link p).bufs (cellVc c) ++ [c] := by
  obtain ⟨answers, owed, bufs⟩ := s.inOrder_link p h
  obtain ⟨sent, state, _⟩ := s.inOrder_keeps p h
  dsimp only
  rw [State.frameNext_headed]
  generalize s.inOrder p h = t at *
  rw [State.cellIn_routed right loc (state.trans (State.linkState_of_portUp tidy.1)) (by rw [bufs]; exact room), bufs]
  have new := t.link_setLink_same p { t.link p with
    bufs := SMap.put (fun _ => []) (s.link p).bufs (cellVc c) (SMap.get (fun _ => []) (s.link p).bufs (cellVc c) ++ [c]) }
  obtain ⟨answer, after⟩ := State.sendNull_taken tidy calm (by rw [new]; exact answers) (by rw [new, owed, tidy.2.2.2]; exact nofun)
  rw [State.sent_setLink, sent] at answer
  refine ⟨answer, ?_⟩
  rw [after, new, SMap.get_put_same]

theorem frameNext_local (right : rightClass c) (loc : cf c cLOCAL = 1) : let u := (s.headed p h).frameNext p (bits h 11 0) c
    ∃ o, u.sent = s.sent ++ [.cell (some p) c, o] ∧ Spec.framed o p nullCell (s.link p).sndSeq (bits h 11 0) false := by
  obtain ⟨answers, owed, _⟩ := s.inOrder_link p h
  obtain ⟨sent, state, _⟩ := s.inOrder_keeps p h
  dsimp only
  rw [State.frameNext_headed]
  generalize s.inOrder p h = t at *
  rw [State.cellIn_local right loc (state.trans (State.linkState_of_portUp tidy.1)), State.emit_cell]
  have new : (t.owe' p (cellVc c)).link p = _ := t.link_setLink_same p _
  have out : (t.owe' p (cellVc c)).sent = t.sent := t.sent_setLink p _
  generalize t.owe' p (cellVc c) = w at *
  have unchanged : ({ w with sent := w.sent ++ [.cell (some p.val) c] } : State).link p = w.link p := rfl
  rw [new] at unchanged
  obtain ⟨⟨o, answer, framed⟩, _⟩ := State.sendNull_taken tidy calm (h := h) (by rw [unchanged]; exact answers)
    (by rw [unchanged, owed, tidy.2.2.2]; exact LinkSt.owed_one (cellVc_lt c))
  refine ⟨o, ?_, framed⟩
  rw [answer, out, sent, List.append_assoc]
  rfl

end

theorem frameNext_wrong {s : State} {p : Port} {h : Nat} {c : Cell} (wrong : ¬rightClass c) :
    ((s.headed p h).frameNext p (bits h 11 0) c).fld (lcntR p) F.wpLcnt.DISCARD = min 65535 (s.fld (lcntR p) F.wpLcnt.DISCARD + 1) := by
  obtain ⟨_, _, counts⟩ := s.inOrder_keeps p h
  rw [State.frameNext_headed]
  generalize s.inOrder p h = t at *
  rw [State.cellIn_discard wrong, State.sendNull, State.fld_of_rd (State.rd_frameOut _ _ _ _ _), State.discarded, State.owe', State.fld_setLink,
    State.fld_addFld_same _ _ _ _ (show 31 < 64 by decide), counts]
  rfl

/-! ### WEFT_FRAME -/

theorem State.tidy_of_woken {s t : State} {p : Port} (h : s.woken t) (tidy : Spec.tidy s p) : Spec.tidy t p := by
  obtain ⟨up, snd, rcv, owed⟩ := tidy
  obtain ⟨state, link, _⟩ := State.woken_port h p
  have role : t.isWeft p = s.isWeft p := by
    rw [State.isWeft, State.portRole, State.pctlFld, (State.woken_fields h).1, h.2 _ (pctlR_ok p.isLt) nofun]
    rfl
  unfold Spec.tidy
  rw [State.portUp, role, state, link]
  exact ⟨up, snd, rcv, owed⟩

/-- The next frame is in order after the header too. -/
theorem State.rcvSeq_headed (s : State) (p h : Nat) : ((s.headed p h).link p).rcvSeq = (s.link p).rcvSeq := by
  obtain ⟨cr, head⟩ := s.link_headed p h
  rw [head]

theorem framesArrive : Spec.FramesArrive := fun p f s tidy => by
  have up := tidy.1
  obtain ⟨_, link, counts, out, sent⟩ := State.woken_port (s.woken_need p) p
  have tidy' := State.tidy_of_woken (s.woken_need p) tidy
  have bad := weftFrame_bad (f := f) up
  have null := weftFrame_null (f := f) up
  have next := weftFrame_next (f := f) up
  generalize s.need (412 + p) = v at *
  have used : (v.headed p f.hdr.toNat).linkState p = lsUp := (v.linkState_setLink _ _ _).trans (State.linkState_of_portUp tidy'.1)
  rw [← link, ← counts, ← sent]
  refine ⟨fun wrong => ?_, fun taken held calm => ?_, fun good isNull asked seq c n held other small => ⟨fun few => ?_, fun many idle => ?_⟩,
    fun good isNull c n rest held unasked => ?_⟩
  · obtain ⟨⟨o, laws⟩, count⟩ := State.frameBad_laws tidy'
    exact ⟨_, o, bad wrong, laws.1, laws.2, count⟩
  · obtain ⟨good, seq, cell⟩ := taken
    have run := next good cell
    rw [State.linkHeader_empty held, v.rcvSeq_headed] at run
    refine ⟨fun right loc room => ?_, fun right loc => ?_, fun wrong => ⟨_, run used seq, frameNext_wrong wrong⟩⟩
    · obtain ⟨⟨o, laws⟩, bufs⟩ := frameNext_routed tidy' calm (h := f.hdr.toNat) right loc room
      exact ⟨_, o, run used seq, laws.1, laws.2, bufs⟩
    · obtain ⟨o, laws⟩ := frameNext_local tidy' calm (h := f.hdr.toNat) right loc
      exact ⟨_, o, run used seq, laws⟩
  · obtain ⟨⟨o, laws⟩, rest⟩ := State.linkHeader_resend tidy' asked held other small few
    exact ⟨_, o, null good isNull, laws.1, laws.2, rest⟩
  · obtain ⟨failed, replay, _⟩ := linkFails_laws (s := v.headed p f.hdr.toNat) ((v.out_setLink _ _).trans (out.trans idle.1)) used
    rw [State.linkHeader_fails asked held other many] at null
    exact ⟨_, null good isNull, failed, replay⟩
  · obtain ⟨cr, head⟩ := v.link_headed p f.hdr.toNat
    rw [State.linkHeader_unasked unasked] at null
    refine ⟨_, null good isNull, ?_⟩
    rw [head, held, unacked_head]

end Sys2Proof.Machine

open Sys2Proof.Machine

/-- Settles O28, part by part: bring-up, HELLO, the measured delay, frames and link state. -/
theorem weftLinks : Obligations.WeftLinks := ⟨linkBringup, helloChecks, delayMeasured, framesArrive, linkStates⟩
end
